-- ==== Sys2Proof/Word.lean ====
section
/-! DEFINITION. The word types of the unit: 64-bit words, bytes and byte strings.
Everything a test could show wrong (byte orders, fields) stands in `Machine/Bytes.lean`. -/

namespace Sys2Proof

/-- A 64-bit word: a core register, a supervisor register, a host address (01 R14, 04 R76). -/
abbrev Word := BitVec 64

/-- One byte of host memory, of a data area, of a request or of a key. -/
abbrev Byte := BitVec 8

/-- A string of bytes, first byte first. -/
abbrev Bytes := List Byte

end Sys2Proof
end

