-- ==== Sys2Proof/Syntax.lean ====
section
/-! DEFINITION. The commands that the block takes from outside: one constructor per row of the table of operations and
events (opcode_table.json), with the operands that the spec gives the command. -/

namespace Sys2Proof

/-- A mailbox request as it stands in host memory (R222): its tag and its body. The operation is the command. -/
structure MbReq where
  /-- the tag that the response repeats -/ tag : BitVec 64
  /-- the request's body -/ body : Bytes
deriving DecidableEq, Repr

/-- The commands of the block, one per row of the table of operations and events. -/
inductive Instr where
  /-- SQ_DOORBELL (R27). Host write of DW_SQ_DB: the new tail is checked and accepted, dropped or stops the ring with ERROR. -/
  | sqDoorbell (port : Fin 4) (t : Fin 64) (q : Fin 16) (tail : BitVec 16)
  /-- CQ_DOORBELL (R27). Host write of DW_CQ_DB advances the completion ring HEAD, or is ignored if invalid. -/
  | cqDoorbell (port : Fin 4) (t : Fin 64) (q : Fin 16) (head : BitVec 16)
  /-- SQ_RING_RESET (R28). Write of DW_SQ_CTL.RESET stops fetching, drops doorbells and completes undispatched commands ABORTED. -/
  | sqRingReset (t : Fin 64) (q : Fin 16)
  /-- RING_RESET_DONE (R28). Once dispatched commands of the ring have completed, HEAD, TAIL and ERROR clear, ENABLE clears and RESET reads 0. -/
  | ringResetDone (t : Fin 64) (q : Fin 16)
  /-- SQ_ENABLE (R420). Write of DW_SQ_CTL.ENABLE starts fetching unless the completion ring binding or MPU window test refuses it. -/
  | sqEnable (t : Fin 64) (q : Fin 16) (enable : Bool)
  /-- CQ_RING_RESET (R25). Write of DW_CQ_CFG.RESET sets TAIL and HEAD to 0 and PHASE to 1 if no naming submission ring is enabled or busy. -/
  | cqRingReset (t : Fin 64) (q : Fin 16)
  /-- IV_CTRL_WRITE (R44). Write of DW_IV_CTRL applies a PENDING clear first, then the new MASK, ENABLE, COUNT and TIMER, possibly sending a message. -/
  | ivCtrlWrite (t : Fin 64) (v : Fin 16) (value : BitVec 64)
  /-- COALESCE_TIMER_EXPIRY (R44). Device time reaches T0 + TIMER for a vector with pending completions, making its message due. -/
  | coalesceTimerExpiry (t : Fin 64) (v : Fin 16)
  /-- INTERRUPT_MESSAGE_SEND (R320). The port writes DATA to ADDR for a vector once its conditions hold and counted entries on other ports are acknowledged, clearing P and PENDING. -/
  | interruptMessageSend (t : Fin 64) (v : Fin 16)
  /-- DESCRIPTOR_FETCH (R49). The Proofer issues a read of up to eight covered slots of a ring in round-robin order. -/
  | descriptorFetch
  /-- DESCRIPTOR_ARRIVAL (R50). Fetched descriptors are checked, classified by tenant and flow, and entered as matching-store entries with operand resolution started. -/
  | descriptorArrival (t : Fin 64) (q : Fin 16)
  /-- CANCEL (R41). A cancel control descriptor reaches matching commands of the target ring and completes at once with the count reached. -/
  | cancel (t : Fin 64) (ring : Fin 16) (tag : BitVec 64)
  /-- COMPLETION_RELEASE (R68). An ended command whose order, mirror and ring-room conditions all hold is released and its completion handed to the port. -/
  | completionRelease (entry : Nat)
  /-- COMPLETION_ENTRY_WRITE (R322). The port writes the 32-byte completion entry after all the command's HPUT packets. -/
  | completionEntryWrite (port : Fin 4)
  /-- REGISTER_WRITE (R4). A write to a register without a row of its own sets its fields as their access codes state. -/
  | registerWrite (who : Fin 8) (addr : BitVec 64) (data : Bytes)
  /-- KEY_RECORD_ARRIVAL (R237). A fetched key-record line arrives, is checked by the unwrapper and fills a cache way, pinning it for attached entries. -/
  | keyRecordArrival (t : Fin 64) (handle : BitVec 24)
  /-- KEY_CACHE_WAY_FILL (R237). A fill waiting on a fully pinned set takes a way once one is unpinned. -/
  | keyCacheWayFill (t : Fin 64) (handle : BitVec 24)
  /-- OPERAND_TIMEOUT_EXPIRY (R53). The operand time-out expires with a covered readiness bit clear and the command completes OPERAND_TIMEOUT or ENTROPY_UNAVAILABLE. -/
  | operandTimeoutExpiry (entry : Nat)
  /-- NOT_BEFORE_REACHED (R60). Device time reaches an entry's not-before time and its TIME bit is set. -/
  | notBeforeReached (entry : Nat)
  /-- DEADLINE_REACHED (R61). Device time reaches the deadline of an undispatched entry and it completes DEADLINE_MISSED. -/
  | deadlineReached (entry : Nat)
  /-- TOKEN_REFILL (R63). At each Proofer quantum each tenant bucket gains PRF_T_RATE tokens up to BURST. -/
  | tokenRefill
  /-- TOKEN_GRANT (R63). A tenant's head entry takes TOKEN by a guaranteed or deficit-round-robin surplus grant. -/
  | tokenGrant (t : Fin 64)
  /-- DISPATCH (R66). At the dispatch stage an entry's outcome is decided in order and a ready entry is placed on a chosen core. -/
  | dispatch (entry : Nat)
  /-- SPILL (R70). Occupancy above HIGH makes the Proofer write undispatched entries to the spill area until LOW. -/
  | spill
  /-- REFILL (R71). Occupancy below LOW makes the Proofer read spilled entries back and resolve KEYS and TCTX again. -/
  | refill
  /-- PRF_HCLR (R4). Write of PRF_CTL.HCLR clears every PRF_T_WAITH counter. -/
  | prfHclr
  /-- CLUSTER_DRAIN_REQUEST (R463). Write of PRF_DRAIN.REQ removes or returns a cluster for dispatch; DONE rises when it holds no command. -/
  | clusterDrainRequest (cluster : Fin 24) (req : Bool)
  /-- COMMAND_START (R104). The runtime takes a staged command, makes its program resident, binds keys, sets regions and enters U. -/
  | commandStart (core : Fin 192)
  /-- COMMAND_END (R105). After all transfers and unit operations end, the runtime zeroises registers, marks lines for clearing and reports to the Proofer. -/
  | commandEnd (core : Fin 192)
  /-- IDLE_REQUEST_TAKEN (R107). An idle request interrupts the program at the next boundary or stall and the command ends with the named status. -/
  | idleRequestTaken (core : Fin 192)
  /-- BUDGET_EXHAUSTED (R108). The cycle budget count reaches the package budget and the next instruction raises BUDGET. -/
  | budgetExhausted (core : Fin 192)
  /-- CORE_RESET_REQUEST (R107). Write of CLU_CORE_CTL.RESET starts a reset of one core. -/
  | coreResetRequest (core : Fin 192)
  /-- CORE_RESET_DONE (R107). A core reset ends after clearing registers, local memory and code area. -/
  | coreResetDone (core : Fin 192)
  /-- CORE_IDLE_REQUEST (R107). Write of CLU_CORE_CTL.IDLE_REQ sends the core an idle request with reason supervisor. -/
  | coreIdleRequest (core : Fin 192)
  /-- HOST_TRANSFER_DONE (R97). An HGET lands or an HPUT is accepted or refused by the port, releasing waits on it. -/
  | hostTransferDone (core : Fin 192) (xfer : Nat)
  /-- HWAIT_TIMEOUT (R97). An HWAIT waiting longer than the operand time-out takes DMA_FAULT with a link-abort cause. -/
  | hwaitTimeout (core : Fin 192)
  /-- ILLEGAL_OPCODE (R84). An unassigned major or function, a bad unused field or the zero word takes ILLEGAL. -/
  | illegalOpcode (core : Fin 192) (word : BitVec 32)
  /-- ADD (R85). gd gets ga plus gb modulo 2^64. -/
  | add (core : Fin 192) (gd ga gb : Fin 32)
  /-- SUB (R85). gd gets ga minus gb modulo 2^64. -/
  | sub (core : Fin 192) (gd ga gb : Fin 32)
  /-- AND (R85). gd gets ga AND gb. -/
  | and (core : Fin 192) (gd ga gb : Fin 32)
  /-- OR (R85). gd gets ga OR gb. -/
  | or (core : Fin 192) (gd ga gb : Fin 32)
  /-- XOR (R85). gd gets ga XOR gb. -/
  | xor (core : Fin 192) (gd ga gb : Fin 32)
  /-- SHL (R85). gd gets ga shifted left by gb[5:0]. -/
  | shl (core : Fin 192) (gd ga gb : Fin 32)
  /-- SHR (R85). gd gets ga shifted right with zero fill. -/
  | shr (core : Fin 192) (gd ga gb : Fin 32)
  /-- SAR (R85). gd gets ga shifted right with sign fill. -/
  | sar (core : Fin 192) (gd ga gb : Fin 32)
  /-- MUL (R85). gd gets the low 64 bits of ga times gb. -/
  | mul (core : Fin 192) (gd ga gb : Fin 32)
  /-- MULH (R85). gd gets the high 64 bits of the unsigned product. -/
  | mulh (core : Fin 192) (gd ga gb : Fin 32)
  /-- DIV (R86). gd gets the unsigned quotient, or all ones for a zero divisor. -/
  | div (core : Fin 192) (gd ga gb : Fin 32)
  /-- REM (R86). gd gets the unsigned remainder, or all ones for a zero divisor. -/
  | rem (core : Fin 192) (gd ga gb : Fin 32)
  /-- CMP (R85). gd gets −1, 0 or 1 from a signed comparison. -/
  | cmp (core : Fin 192) (gd ga gb : Fin 32)
  /-- DIGX (R87). gd gets the selected BCD digit of ga. -/
  | digx (core : Fin 192) (gd ga gb : Fin 32)
  /-- DIGI (R87). Replaces one digit of gd with gb[3:0]. -/
  | digi (core : Fin 192) (gd ga gb : Fin 32)
  /-- LUHN (R88). gd gets the Luhn check digit of n digits, or all ones for a bad nibble. -/
  | luhn (core : Fin 192) (gd ga gb n : Fin 32)
  /-- ADDI (R89). gd gets ga plus the sign-extended immediate. -/
  | addi (core : Fin 192) (gd ga : Fin 32) (imm : BitVec 16)
  /-- ANDI (R89). gd gets ga AND the zero-extended immediate. -/
  | andi (core : Fin 192) (gd ga : Fin 32) (imm : BitVec 16)
  /-- ORI (R89). gd gets ga OR the zero-extended immediate. -/
  | ori (core : Fin 192) (gd ga : Fin 32) (imm : BitVec 16)
  /-- XORI (R89). gd gets ga XOR the zero-extended immediate. -/
  | xori (core : Fin 192) (gd ga : Fin 32) (imm : BitVec 16)
  /-- LUI (R89). gd gets the sign-extended immediate shifted left 16. -/
  | lui (core : Fin 192) (gd : Fin 32) (imm : BitVec 16)
  /-- LD_B (R90). Loads one byte zero-extended. -/
  | ldB (core : Fin 192) (gd ga : Fin 32) (imm : BitVec 16)
  /-- LD_H (R90). Loads an aligned halfword zero-extended. -/
  | ldH (core : Fin 192) (gd ga : Fin 32) (imm : BitVec 16)
  /-- LD_W (R90). Loads an aligned word zero-extended. -/
  | ldW (core : Fin 192) (gd ga : Fin 32) (imm : BitVec 16)
  /-- LD_D (R90). Loads an aligned doubleword. -/
  | ldD (core : Fin 192) (gd ga : Fin 32) (imm : BitVec 16)
  /-- ST_B (R90). Stores one byte. -/
  | stB (core : Fin 192) (gd ga : Fin 32) (imm : BitVec 16)
  /-- ST_H (R90). Stores an aligned halfword. -/
  | stH (core : Fin 192) (gd ga : Fin 32) (imm : BitVec 16)
  /-- ST_W (R90). Stores an aligned word. -/
  | stW (core : Fin 192) (gd ga : Fin 32) (imm : BitVec 16)
  /-- ST_D (R90). Stores an aligned doubleword. -/
  | stD (core : Fin 192) (gd ga : Fin 32) (imm : BitVec 16)
  /-- BEQ (R91). Branches if ga equals gb. -/
  | beq (core : Fin 192) (ga gb : Fin 32) (off : BitVec 16)
  /-- BNE (R91). Branches if ga differs from gb. -/
  | bne (core : Fin 192) (ga gb : Fin 32) (off : BitVec 16)
  /-- BLT (R91). Branches on signed less. -/
  | blt (core : Fin 192) (ga gb : Fin 32) (off : BitVec 14)
  /-- BGE (R91). Branches on signed greater or equal. -/
  | bge (core : Fin 192) (ga gb : Fin 32) (off : BitVec 14)
  /-- BLTU (R91). Branches on unsigned less. -/
  | bltu (core : Fin 192) (ga gb : Fin 32) (off : BitVec 14)
  /-- BGEU (R91). Branches on unsigned greater or equal. -/
  | bgeu (core : Fin 192) (ga gb : Fin 32) (off : BitVec 14)
  /-- JAL (R91). Writes the return address to g31 and jumps. -/
  | jal (core : Fin 192) (off : BitVec 26)
  /-- JR (R91). Jumps to ga, taking ALIGN for an unaligned target. -/
  | jr (core : Fin 192) (ga : Fin 32)
  /-- FENCE (R81). Orders earlier and later accesses of the scopes in its mask. -/
  | fence (core : Fin 192) (mask : BitVec 4)
  /-- YIELD (R92). Pauses issue for up to 16 cycles or until a completion. -/
  | yield (core : Fin 192)
  /-- WAIT (R92). Stalls until a transfer or unit operation completes or the cancel flag is set. -/
  | wait (core : Fin 192)
  /-- TRAP_END (R93). TRAP 0 ends the command with the status in CSTATUS. -/
  | trapEnd (core : Fin 192)
  /-- TRAP_FAIL (R93). TRAP 1 ends the command with PROGRAM_FAULT and PSTATUS. -/
  | trapFail (core : Fin 192)
  /-- TRAP_CANCEL_ACK (R93). TRAP 2 ends the command CANCELLED if the cancel flag is set, else takes ILLEGAL. -/
  | trapCancelAck (core : Fin 192)
  /-- TRAP_BRK (R93). TRAP 31 raises BREAK. -/
  | trapBrk (core : Fin 192)
  /-- ERET (R92). Returns from K or S; takes ILLEGAL at U. -/
  | eret (core : Fin 192)
  /-- CANCELQ (R92). gd gets 1 if the command's cancel flag is set. -/
  | cancelq (core : Fin 192) (gd : Fin 32)
  /-- MFS (R94). Reads a status word into gd if the level has the right. -/
  | mfs (core : Fin 192) (gd : Fin 32) (word : BitVec 16)
  /-- MTS (R95). Writes ga to a status word, with the CSTATUS and OUTLEN rules. -/
  | mts (core : Fin 192) (ga : Fin 32) (word : BitVec 16)
  /-- HGET (R96). Starts a read of command input into the data area. -/
  | hget (core : Fin 192) (gd ga gb : Fin 32)
  /-- HPUT (R96). Starts a write from the data area to the command's output area. -/
  | hput (core : Fin 192) (gd ga gb : Fin 32)
  /-- HWAIT (R97). Waits until every HGET has landed and every HPUT is accepted, reporting DMA faults. -/
  | hwait (core : Fin 192)
  /-- TGET (R98). Reads a field of the command's terminal-context copy. -/
  | tget (core : Fin 192) (gd : Fin 32) (field : BitVec 16)
  /-- TPUT (R250). Writes a terminal-context field; field 0 posts a compare-and-write to the bucket. -/
  | tput (core : Fin 192) (ga : Fin 32) (field : BitVec 16)
  /-- RAND (R99). Writes 64 bits from the core's DRBG instance, stalling until it is seeded and unblocked. -/
  | rand (core : Fin 192) (gd : Fin 32)
  /-- TERMINAL_COUNTER_WRITE (R250). The bucket stage applies a posted counter compare-and-write, or sets REPLAY for the command. -/
  | terminalCounterWrite (core : Fin 192)
  /-- RSA_SIGN (R168). MAU request to sign a digest with an RSA image. -/
  | rsaSign (core : Fin 192) (gr : Fin 32)
  /-- RSA_VERIFY (R168). MAU request to verify an RSA signature. -/
  | rsaVerify (core : Fin 192) (gr : Fin 32)
  /-- RSA_OAEP_DEC (R180). MAU request to decrypt an OAEP ciphertext into a k register. -/
  | rsaOaepDec (core : Fin 192) (kd : Fin 16) (gr : Fin 32)
  /-- ECDSA_SIGN (R168). MAU request to sign a digest with ECDSA. -/
  | ecdsaSign (core : Fin 192) (gr : Fin 32)
  /-- ECDSA_VERIFY (R168). MAU request to verify an ECDSA signature. -/
  | ecdsaVerify (core : Fin 192) (gr : Fin 32)
  /-- ECDH (R180). MAU request to derive a key from an ECDH shared secret into a k register. -/
  | ecdh (core : Fin 192) (kd : Fin 16) (gr : Fin 32)
  /-- ED25519_SIGN (R168). MAU request to sign a message with Ed25519. -/
  | ed25519Sign (core : Fin 192) (gr : Fin 32)
  /-- ED25519_VERIFY (R168). MAU request to verify an Ed25519 signature. -/
  | ed25519Verify (core : Fin 192) (gr : Fin 32)
  /-- MLKEM_ENCAPS (R180). MAU request to encapsulate and derive a key into a k register. -/
  | mlkemEncaps (core : Fin 192) (kd : Fin 16) (gr : Fin 32)
  /-- MLKEM_DECAPS (R180). MAU request to decapsulate and derive a key into a k register. -/
  | mlkemDecaps (core : Fin 192) (kd : Fin 16) (gr : Fin 32)
  /-- MLDSA_SIGN (R168). MAU request to sign a message with ML-DSA. -/
  | mldsaSign (core : Fin 192) (gr : Fin 32)
  /-- MLDSA_VERIFY (R168). MAU request to verify an ML-DSA signature. -/
  | mldsaVerify (core : Fin 192) (gr : Fin 32)
  /-- KEYGEN (R179). MAU request to generate a key pair, writing the image and public key. -/
  | keygen (core : Fin 192) (gr : Fin 32)
  /-- PUBKEY (R168). MAU request to compute the public key of an image. -/
  | pubkey (core : Fin 192) (gr : Fin 32)
  /-- HREQ (R173). Hash request that computes a digest of the named algorithm. -/
  | hreq (core : Fin 192) (alg : BitVec 8) (gr : Fin 32)
  /-- HREQ_MORE (R173). Hash request with MORE set that absorbs input and keeps the state. -/
  | hreqMore (core : Fin 192) (alg : BitVec 8) (gr : Fin 32)
  /-- MAU_SUBMIT (R181). Supervisor write of CLU_MAU_SUBMIT queues a request block, or drops it when the queue is full. -/
  | mauSubmit (cluster : Fin 24) (line : Fin 8192) (func : BitVec 9)
  /-- XMSS_VERIFY (R182). Supervisor MAU request to verify an XMSS signature. -/
  | xmssVerify (cluster : Fin 24) (line : Fin 8192)
  /-- XMSSMT_SIGN (R183). Supervisor request to sign with the attestation key, reserving leaf blocks as needed. -/
  | xmssmtSign (cluster : Fin 24) (line : Fin 8192)
  /-- XMSS_REBUILD_DONE (R182). The attestation signer finishes rebuilding its traversal state after reset and serves waiting requests. -/
  | xmssRebuildDone
  /-- MAU_OPERATION_START (R177). The MAU takes the next requester's operation in round robin. -/
  | mauOperationStart (cluster : Fin 24)
  /-- MAU_OPERATION_DONE (R174). A MAU operation ends, writing its result, OUT_LEN and STATUS or discarding on a failed check. -/
  | mauOperationDone (cluster : Fin 24) (checkOk : Bool)
  /-- HASH_OPERATION_DONE (R170). A hash request ends in its core's slot, writing its digest and STATUS. -/
  | hashOperationDone (core : Fin 192) (checkOk : Bool)
  /-- KLOAD (R128). Binds the key resolved for a handle slot into a k register. -/
  | kload (core : Fin 192) (kd : Fin 16) (gr : Fin 32) (mismatch : Bool)
  /-- KZERO (R128). Empties one k register. -/
  | kzero (core : Fin 192) (kd : Fin 16) (mismatch : Bool)
  /-- KZERO_ALL (R128). Empties all k registers. -/
  | kzeroAll (core : Fin 192) (mismatch : Bool)
  /-- KATTR_A (R119). Reads attribute word A of a key. -/
  | kattrA (core : Fin 192) (ka : Fin 16) (gr : Fin 32) (mismatch : Bool)
  /-- KATTR_B (R119). Reads attribute word B of a key. -/
  | kattrB (core : Fin 192) (ka : Fin 16) (gr : Fin 32) (mismatch : Bool)
  /-- KATTR_NB (R119). Reads the not-before time of a key. -/
  | kattrNb (core : Fin 192) (ka : Fin 16) (gr : Fin 32) (mismatch : Bool)
  /-- KATTR_NA (R119). Reads the not-after time of a key. -/
  | kattrNa (core : Fin 192) (ka : Fin 16) (gr : Fin 32) (mismatch : Bool)
  /-- KCHK (R129). Returns the key check value of a key. -/
  | kchk (core : Fin 192) (ka : Fin 16) (gr : Fin 32) (mismatch : Bool)
  /-- KUNWRAP (R130). Takes a key from an X9.143 block under a KBPK, writing an outcome. -/
  | kunwrap (core : Fin 192) (kd ka : Fin 16) (gr : Fin 32) (mismatch : Bool)
  /-- KWRAP (R130). Writes an X9.143 block of an exportable key under a KBPK. -/
  | kwrap (core : Fin 192) (ka kb : Fin 16) (gr : Fin 32) (mismatch : Bool)
  /-- DUKPT_TDES_IK (R131). Derives a TDES DUKPT initial key. -/
  | dukptTdesIk (core : Fin 192) (kd ka : Fin 16) (gr : Fin 32) (mismatch : Bool)
  /-- DUKPT_TDES_WORK (R131). Derives a TDES DUKPT working key of the chosen variant. -/
  | dukptTdesWork (core : Fin 192) (kd ka : Fin 16) (gr : Fin 32) (mismatch : Bool)
  /-- DUKPT_AES_IK (R131). Derives an AES DUKPT initial key. -/
  | dukptAesIk (core : Fin 192) (kd ka : Fin 16) (gr : Fin 32) (mismatch : Bool)
  /-- DUKPT_AES_WORK (R131). Derives an AES DUKPT working key of the given usage and algorithm. -/
  | dukptAesWork (core : Fin 192) (kd ka : Fin 16) (gr : Fin 32) (mismatch : Bool)
  /-- EMV_ICC (R131). Derives an EMV card master key from PAN and sequence number. -/
  | emvIcc (core : Fin 192) (kd ka : Fin 16) (gr : Fin 32) (mismatch : Bool)
  /-- EMV_SESSION (R131). Derives the EMV common session key from the ATC. -/
  | emvSession (core : Fin 192) (kd ka : Fin 16) (gr : Fin 32) (mismatch : Bool)
  /-- KGEN (R128). Generates a fresh random key with the given attributes. -/
  | kgen (core : Fin 192) (kd : Fin 16) (gr : Fin 32) (mismatch : Bool)
  /-- CINIT (R148). Initialises a context with a key and mode word. -/
  | cinit (core : Fin 192) (c : Fin 4) (k : Fin 16) (ga : Fin 32) (mismatch : Bool)
  /-- CIV_IV (R150). Feeds an IV, nonce, counter, tweak or CCM parameter value to a context. -/
  | civIv (core : Fin 192) (c : Fin 4) (ga gb : Fin 32)
  /-- CIV_AD (R150). Feeds associated data to a GCM or CCM context. -/
  | civAd (core : Fin 192) (c : Fin 4) (ga gb : Fin 32)
  /-- CIV_TWEAK (R150). Feeds an FF1 tweak to a context. -/
  | civTweak (core : Fin 192) (c : Fin 4) (ga gb : Fin 32)
  /-- CRUN (R152). Runs bytes through a context without ending the message. -/
  | crun (core : Fin 192) (c : Fin 4) (gd ga gb : Fin 32)
  /-- CRUN_FINAL (R152). Runs the final bytes, applies padding and ends the message. -/
  | crunFinal (core : Fin 192) (c : Fin 4) (gd ga gb : Fin 32)
  /-- CRUN_EARLY (R161). Runs authenticated decryption with plaintext released unquarantined. -/
  | crunEarly (core : Fin 192) (c : Fin 4) (final : Bool) (gd ga gb : Fin 32)
  /-- CTAG_GEN (R138). Writes the tag or MAC of a finished message. -/
  | ctagGen (core : Fin 192) (c : Fin 4) (ga gb : Fin 32)
  /-- CTAG_CHECK (R162). Checks an authenticated-decryption tag and walks the quarantine window, opening or zeroing it. -/
  | ctagCheck (core : Fin 192) (c : Fin 4) (gd ga gb : Fin 32) (mismatch : Bool)
  /-- CTAG_COUNT (R138). Returns the bytes written by the context since CINIT. -/
  | ctagCount (core : Fin 192) (c : Fin 4) (gd : Fin 32) (mismatch : Bool)
  /-- CSAVE_CLEAR (R139). Writes a clear context image for permitted contexts. -/
  | csaveClear (core : Fin 192) (c : Fin 4) (ga : Fin 32)
  /-- CSAVE_WRAPPED (R139). Writes a wrapped context image. -/
  | csaveWrapped (core : Fin 192) (c : Fin 4) (ga : Fin 32)
  /-- CLOAD_CLEAR (R165). Restores a context from a clear image and a matching key. -/
  | cloadClear (core : Fin 192) (c : Fin 4) (k : Fin 16) (ga : Fin 32)
  /-- CLOAD_WRAPPED (R139). Restores a context from a wrapped image written on this core. -/
  | cloadWrapped (core : Fin 192) (c : Fin 4) (ga : Fin 32)
  /-- CMACV (R138). Compares a finished MAC with the one in memory. -/
  | cmacv (core : Fin 192) (c : Fin 4) (gd ga gb : Fin 32) (mismatch : Bool)
  /-- ENGINE_OPERATION_DONE (R126). An engine operation running after issue ends and writes its results, or faults. -/
  | engineOperationDone (core : Fin 192) (mismatch : Bool)
  /-- PBDEC_F0 (R142). Deciphers a format 0 PIN block into an s register. -/
  | pbdecF0 (core : Fin 192) (sd ka : Fin 16) (gr : Fin 32) (mismatch : Bool)
  /-- PBDEC_F1 (R142). Deciphers a format 1 PIN block into an s register. -/
  | pbdecF1 (core : Fin 192) (sd ka : Fin 16) (gr : Fin 32) (mismatch : Bool)
  /-- PBDEC_F2 (R142). Deciphers a format 2 PIN block into an s register. -/
  | pbdecF2 (core : Fin 192) (sd ka : Fin 16) (gr : Fin 32) (mismatch : Bool)
  /-- PBDEC_F3 (R142). Deciphers a format 3 PIN block into an s register. -/
  | pbdecF3 (core : Fin 192) (sd ka : Fin 16) (gr : Fin 32) (mismatch : Bool)
  /-- PBDEC_F4 (R142). Deciphers a format 4 PIN block into an s register. -/
  | pbdecF4 (core : Fin 192) (sd ka : Fin 16) (gr : Fin 32) (mismatch : Bool)
  /-- PBDEC_SEC (R143). Deciphers a card-secret block into an s register. -/
  | pbdecSec (core : Fin 192) (sd ka : Fin 16) (gr : Fin 32) (mismatch : Bool)
  /-- PBENC_F0 (R142). Writes a PIN as a format 0 block. -/
  | pbencF0 (core : Fin 192) (ka sb : Fin 16) (gr : Fin 32) (mismatch : Bool)
  /-- PBENC_F1 (R142). Writes a PIN as a format 1 block. -/
  | pbencF1 (core : Fin 192) (ka sb : Fin 16) (gr : Fin 32) (mismatch : Bool)
  /-- PBENC_F2 (R142). Writes a PIN as a format 2 block. -/
  | pbencF2 (core : Fin 192) (ka sb : Fin 16) (gr : Fin 32) (mismatch : Bool)
  /-- PBENC_F3 (R142). Writes a PIN as a format 3 block. -/
  | pbencF3 (core : Fin 192) (ka sb : Fin 16) (gr : Fin 32) (mismatch : Bool)
  /-- PBENC_F4 (R142). Writes a PIN as a format 4 block. -/
  | pbencF4 (core : Fin 192) (ka sb : Fin 16) (gr : Fin 32) (mismatch : Bool)
  /-- PVER_OFS (R143). Verifies a PIN by the offset method. -/
  | pverOfs (core : Fin 192) (ka sb : Fin 16) (gr : Fin 32) (mismatch : Bool)
  /-- PVER_VAL (R143). Verifies a PIN by the verification-value method. -/
  | pverVal (core : Fin 192) (ka sb : Fin 16) (gr : Fin 32) (mismatch : Bool)
  /-- PVER_GOFS (R143). Writes the offset that makes a PIN verify. -/
  | pverGofs (core : Fin 192) (ka sb : Fin 16) (gr : Fin 32) (mismatch : Bool)
  /-- PGEN_RND (R142). Generates a random PIN into an s register. -/
  | pgenRnd (core : Fin 192) (sd : Fin 16) (gr : Fin 32) (mismatch : Bool)
  /-- PGEN_NAT (R143). Generates the natural PIN of the offset method. -/
  | pgenNat (core : Fin 192) (sd ka : Fin 16) (gr : Fin 32) (mismatch : Bool)
  /-- PCMP (R142). Compares two s registers. -/
  | pcmp (core : Fin 192) (sd sb : Fin 16) (gr : Fin 32) (mismatch : Bool)
  /-- CVGEN_GEN (R142). Writes a card verification value. -/
  | cvgenGen (core : Fin 192) (ka : Fin 16) (gr : Fin 32) (mismatch : Bool)
  /-- CVGEN_VER (R142). Verifies a card verification value in memory. -/
  | cvgenVer (core : Fin 192) (ka : Fin 16) (gr : Fin 32) (mismatch : Bool)
  /-- CVGEN_VERS (R142). Verifies a card verification value held in an s register. -/
  | cvgenVers (core : Fin 192) (ka sb : Fin 16) (gr : Fin 32) (mismatch : Bool)
  /-- PLEN (R142). Returns the kind and length of an s register. -/
  | plen (core : Fin 192) (sb : Fin 16) (gr : Fin 32) (mismatch : Bool)
  /-- SZERO (R142). Empties one s register. -/
  | szero (core : Fin 192) (sd : Fin 16) (mismatch : Bool)
  /-- SZERO_ALL (R142). Empties all s registers. -/
  | szeroAll (core : Fin 192) (mismatch : Bool)
  /-- ENGINE_KAT_START (R166). Write of CLU_ENG_KAT.START on an idle drained core starts a known-answer run. -/
  | engineKatStart (core : Fin 192) (modes : BitVec 13) (inject : Bool)
  /-- ENGINE_KAT_DONE (R166). A known-answer run ends and sets DONE, PASS and FAILED. -/
  | engineKatDone (core : Fin 192) (failed : BitVec 13) (injSeen : Bool)
  /-- UNKNOWN_OP (R224). A mailbox request with an unlisted OP completes with UNKNOWN_OP. -/
  | unknownOp (slot : Fin 65)
  /-- GET_CHALLENGE (R202). Issues a 32-byte challenge, retiring the oldest beyond 16. -/
  | getChallenge (slot : Fin 65)
  /-- CHALLENGE_EXPIRY (R202). A challenge passes CHAL_LIFE and is no longer outstanding. -/
  | challengeExpiry
  /-- COMMISSION (R189). Checks a signed commissioning request and installs the level 1 keys and two ADMIN officers. -/
  | commission (slot : Fin 65)
  /-- REGISTER_OFFICER (R208). Ceremony that registers a device security officer. -/
  | registerOfficer (src : Fin 66)
  /-- REVOKE_OFFICER (R208). Ceremony that revokes a device security officer. -/
  | revokeOfficer (src : Fin 66)
  /-- CREATE_TENANT (R219). Ceremony that creates a tenant with its service levels and ring bindings. -/
  | createTenant (src : Fin 66)
  /-- UPDATE_TENANT (R219). CREATE_TENANT with UPDATE set replaces service levels, placement and idle ring bindings. -/
  | updateTenant (src : Fin 66)
  /-- DELETE_TENANT (R220). Ceremony that resets a tenant and zeroises its keys, registries and programs. -/
  | deleteTenant (src : Fin 66)
  /-- TENANT_DELETE_DONE (R220). S1 finishes deleting the tenant's records and spilled entries in the background. -/
  | tenantDeleteDone (t : Fin 64)
  /-- CLEAR_RECORDER (R439). Ceremony that frees log segments up to a signed SEAL and optionally retests bad segments. -/
  | clearRecorder (src : Fin 66) (pass : BitVec 32)
  /-- SET_WALL_TIME (R292). Ceremony that sets WALL0, the period and a forward advance of device time. -/
  | setWallTime (src : Fin 66)
  /-- PAIRING_PAIR (R341). PAIRING ceremony with MODE 1 that names the partner for pair-key establishment. -/
  | pairingPair (src : Fin 66)
  /-- PAIRING_DISSOLVE (R340). PAIRING ceremony with MODE 2 that zeroises the pair key and makes the unit UNPAIRED. -/
  | pairingDissolve (src : Fin 66)
  /-- PAIRING_NOT_AFTER_EXPIRY (R340). A MODE 1 pairing reaches NOT_AFTER without a pair key and ends ABANDONED. -/
  | pairingNotAfterExpiry
  /-- SCRAP (R403). Ceremony that moves the unit to SCRAPPED. -/
  | scrap (src : Fin 66)
  /-- DEVICE_POLICY (R208). Ceremony that sets CHAL_LIFE, MAX_WIN, MAX_AUTH and CSP_EN. -/
  | devicePolicy (src : Fin 66)
  /-- REGISTER_CUSTODIAN (R208). Ceremony that registers a tenant custodian. -/
  | registerCustodian (src : Fin 66)
  /-- REVOKE_CUSTODIAN (R208). Ceremony that revokes a tenant custodian. -/
  | revokeCustodian (src : Fin 66)
  /-- LOAD_MASTER_KEY (R209). Ceremony that opens a master-key load awaiting components in a staging buffer. -/
  | loadMasterKey (src : Fin 66)
  /-- CEREMONY_NOT_AFTER_EXPIRY (R209). An open LOAD_MASTER_KEY ceremony reaches NOT_AFTER and is abandoned. -/
  | ceremonyNotAfterExpiry
  /-- RETIRE_GENERATION (R193). Ceremony that zeroises a master-key slot if no rule refuses it. -/
  | retireGeneration (src : Fin 66)
  /-- SET_CURRENT_GENERATION (R208). Ceremony that sets or clears the current generation of a kind. -/
  | setCurrentGeneration (src : Fin 66)
  /-- REGISTER_PROGRAM_KEY (R207). Ceremony that replaces the tenant's program-signing key of a SIGALG. -/
  | registerProgramKey (src : Fin 66)
  /-- AUTHORISE_STATE (R212). Ceremony that enters KEYMGMT and/or EXPORT for a duration. -/
  | authoriseState (src : Fin 66)
  /-- AUTH_STATE_EXPIRY (R212). An authorised state's duration ends. -/
  | authStateExpiry (t : Fin 64)
  /-- TRACE_CONSENT (R409). Ceremony in which a tenant consents to a TRACE debug token. -/
  | traceConsent (src : Fin 66)
  /-- TENANT_POLICY (R226). Ceremony that sets a tenant's mirroring, audit, terminal and reset policies. -/
  | tenantPolicy (src : Fin 66)
  /-- COMPONENT (R211). A key component message is checked into the staging buffer; the last one combines and loads the key. -/
  | component (src : Fin 66)
  /-- ABORT (R209). A signed ABORT from a signer abandons an open ceremony. -/
  | abort (slot : Fin 65)
  /-- CANCEL_STATE (R212). A request signed by an AUTH custodian ends authorised states. -/
  | cancelState (slot : Fin 65)
  /-- PROGRAM_LOAD (R112). Checks and loads a Vyzel package for the tenant. -/
  | programLoad (slot : Fin 65)
  /-- PROGRAM_UNLOAD (R114). Stops new fetches of a program and frees it when unused. -/
  | programUnload (slot : Fin 65)
  /-- TENANT_RESET (R229). Mailbox OP 0x12 starts a tenant reset: doorbells dropped, fetch and dispatch stopped, cores idled. -/
  | tenantReset (slot : Fin 65)
  /-- TENANT_RESET_IDLE_TIMEOUT (R229). A core not idle IDLE_TMO after its request is reset alone and its command completes TENANT_RESET. -/
  | tenantResetIdleTimeout (core : Fin 192)
  /-- TENANT_RESET_FINISH (R229). After every command is released, tables and pages are reset and the reset-done message and response are written. -/
  | tenantResetFinish (t : Fin 64)
  /-- TENANT_INFO (R223). Returns the tenant's applied service-level and policy blocks and status. -/
  | tenantInfo (slot : Fin 65)
  /-- TENANT_RESET_DEV (R388). Device-slot OP 0x14 starts a tenant reset through SYS_TEN_RST. -/
  | tenantResetDev (slot : Fin 65)
  /-- TENANT_RESET_REQUEST (R388). Write of SYS_TEN_RST.REQ starts a tenant reset of the named tenant. -/
  | tenantResetRequest (t : Fin 64)
  /-- KM_GENERATE (R201). Creates a record with a random key under the current generation of the kind. -/
  | kmGenerate (slot : Fin 65)
  /-- KM_IMPORT_BLOCK (R199). Creates a record from an X9.143 block under a KBPK record. -/
  | kmImportBlock (slot : Fin 65)
  /-- KM_EXPORT_BLOCK (R199). Returns an X9.143 block of a record under a KBPK record. -/
  | kmExportBlock (slot : Fin 65)
  /-- KM_DELETE (R198). Zeroises a record. -/
  | kmDelete (slot : Fin 65)
  /-- KM_SET_WINDOW (R198). Replaces a record's not-before and not-after times. -/
  | kmSetWindow (slot : Fin 65)
  /-- KM_REWRAP (R198). Moves one record to another generation. -/
  | kmRewrap (slot : Fin 65)
  /-- KM_MIGRATE (R198). Starts moving every record of a generation to another in the background. -/
  | kmMigrate (slot : Fin 65)
  /-- KM_MIGRATE_DONE (R198). A background migration moves its last record. -/
  | kmMigrateDone (t : Fin 64)
  /-- KM_READ_ATTR (R198). Returns bytes 0–63 of a record. -/
  | kmReadAttr (slot : Fin 65)
  /-- KM_BACKUP (R198). Returns a whole record. -/
  | kmBackup (slot : Fin 65)
  /-- KM_RESTORE (R198). Installs a backed-up record after its checks. -/
  | kmRestore (slot : Fin 65)
  /-- KM_IMPORT_IMAGE (R200). Makes a MAU image from an X9.143 block holding a PKCS#8 key. -/
  | kmImportImage (slot : Fin 65)
  /-- KM_EXPORT_IMAGE (R198). Returns an X9.143 block of an exportable image. -/
  | kmExportImage (slot : Fin 65)
  /-- KM_REWRAP_IMAGE (R198). Returns the image under the current D generation. -/
  | kmRewrapImage (slot : Fin 65)
  /-- KM_DEVICE_PUBKEYS (R201). Returns the transport public keys in an attested statement. -/
  | kmDevicePubkeys (slot : Fin 65)
  /-- ROUTE_SET (R244). Inserts a Sieve prefix or replaces its profile index. -/
  | routeSet (slot : Fin 65)
  /-- ROUTE_DELETE (R244). Removes a Sieve prefix. -/
  | routeDelete (slot : Fin 65)
  /-- ROUTE_LOOKUP (R244). Returns the route that a PAN operand resolves to. -/
  | routeLookup (slot : Fin 65)
  /-- STORE_FORMAT (R270). Formats the sealed store and opens checkpoint 1. -/
  | storeFormat (slot : Fin 65)
  /-- STORE_OPEN (R271). Opens a durable checkpoint or flushed LIVE image and reports lost numbers. -/
  | storeOpen (slot : Fin 65) (nodes : Bytes)
  /-- STORE_CHECKPOINT (R272). Mailbox request for a checkpoint cut. -/
  | storeCheckpoint (slot : Fin 65)
  /-- STORE_DURABLE_ACK (R275). Acknowledges the PENDING checkpoint as durable and moves it to a durable slot. -/
  | storeDurableAck (slot : Fin 65)
  /-- STORE_STATUS (R269). Returns the store state and checkpoint numbers. -/
  | storeStatus (slot : Fin 65)
  /-- PAIR_STATUS (R355). Returns the pair state, horizon, open epoch and takeover count. -/
  | pairStatus (slot : Fin 65)
  /-- LC_TRANSITION (R405). Checks a signed life-cycle move, wipes where required and starts programming OTP groups. -/
  | lcTransition (slot : Fin 65)
  /-- LC_GROUP_PROGRAMMED (R405). One life-cycle OTP group finishes programming; the next starts or the move completes. -/
  | lcGroupProgrammed
  /-- LC_INSTALL_KEY (R401). Programs an empty OTP authority-key slot in INTEGRATOR. -/
  | lcInstallKey (slot : Fin 65)
  /-- LC_STATUS (R402). Returns LCD_STATE and LCD_LC_STAT. -/
  | lcStatus (slot : Fin 65)
  /-- DMA_WINDOW (R419). Sets a link DMA or sealed-store MPU region from the host. -/
  | dmaWindow (slot : Fin 65)
  /-- LOG_READ (R438). Returns readable log records in a number range. -/
  | logRead (slot : Fin 65)
  /-- LOG_EXPORT (R438). Writes a SEAL and returns readable records with a signature. -/
  | logExport (slot : Fin 65)
  /-- SCALE_READ (R454). Returns the last or previous Scale statement. -/
  | scaleRead (slot : Fin 65)
  /-- SCALE_CUT (R448). Requests an immediate Scale statement. -/
  | scaleCut (slot : Fin 65)
  /-- SCALE_UPDATE (R451). Verifies and installs Scale firmware, closing a statement and advancing the seal generation. -/
  | scaleUpdate (slot : Fin 65)
  /-- SCALE_KEY (R449). Returns the Scale public key with an attestation statement. -/
  | scaleKey (slot : Fin 65)
  /-- HEALTH_STATUS (R465). Returns cluster in-service, retired and under-test masks and rotations. -/
  | healthStatus (slot : Fin 65)
  /-- CSP_HELLO (R213). A HELLO frame with PRESENT high opens a custodian port session. -/
  | cspHello
  /-- CSP_CHALLENGE_REQUEST (R214). A challenge-request frame is answered with a challenge frame. -/
  | cspChallengeRequest
  /-- CSP_ABORT (R214). An ABORT frame abandons the session's ceremony. -/
  | cspAbort
  /-- CSP_ACK (R214). An ACK frame confirms a sent frame. -/
  | cspAck
  /-- CSP_NAK (R214). A NAK frame rejects a sent frame. -/
  | cspNak
  /-- CSP_BAD_FRAME (R214). A frame with a bad CRC or oversized length is dropped and the receiver hunts for 0x7E. -/
  | cspBadFrame
  /-- CSP_RESEND_TIMEOUT (R214). 500 ms without an answer resends a frame, up to three times. -/
  | cspResendTimeout
  /-- CSP_SESSION_TIMEOUT (R213). 120 s without a frame ends the session. -/
  | cspSessionTimeout
  /-- CSP_PRESENT_FALL (R213). PRESENT falling ends the session in hardware. -/
  | cspPresentFall (present : Bool)
  /-- CSP_ATTN (R213). CSP_ATTN_N driven low ends the session. -/
  | cspAttn (low : Bool)
  /-- CSP_FLUSH (R213). Write of CSP_CTL.FLUSH empties both FIFOs. -/
  | cspFlush
  /-- CSP_RX_READ (R213). A read of CSP_RX with VALID removes the byte from the receive FIFO. -/
  | cspRxRead
  /-- CSP_TX_WRITE (R213). A write of CSP_TX queues a byte for sending, or drops it when full. -/
  | cspTxWrite (byte : BitVec 8)
  /-- KEY_CACHE_INVALIDATE (R238). Write of TBL_KC_INV drops or marks STALE the cache entries in scope. -/
  | keyCacheInvalidate (scope gen : Fin 4) (t : Fin 64) (handle : BitVec 24)
  /-- SIEVE_INSERT (R245). TBL_SV_CMD insert of a Sieve prefix. -/
  | sieveInsert
  /-- SIEVE_DELETE (R245). TBL_SV_CMD delete of a Sieve prefix. -/
  | sieveDelete
  /-- SIEVE_FILTER_WRITE (R245). TBL_SV_CMD write of a length-filter mask. -/
  | sieveFilterWrite
  /-- SIEVE_LOOKUP (R241). TBL_SV_CMD lookup of a card number. -/
  | sieveLookup
  /-- TERMINAL_SPILL_PROBE_DONE (R247). A spill-table probe returns and refills the entry or learns a new one. -/
  | terminalSpillProbeDone (t : Fin 64) (id : BitVec 64)
  /-- TERMINAL_SOFT_INSERT (R247). S1 inserts a terminal entry under software learning or chain overflow, setting TCTX. -/
  | terminalSoftInsert (t : Fin 64) (id : BitVec 64)
  /-- TERMINAL_AGER_STEP (R252). The ager spills and frees unreferenced entries older than MAXAGE. -/
  | terminalAgerStep
  /-- BACKGROUND_COMPARE_BLOCK (R255). Every PERIOD cycles one 4 KiB block is compared with its shadow digest. -/
  | backgroundCompareBlock (upset : Bool)
  /-- BLOCK_RELOAD_DONE (R255). A block reload from the shadow ends and held lookups run. -/
  | blockReloadDone
  /-- SRAM_CORRECTABLE_ERROR (R458). A correctable error is corrected in place and counted. -/
  | sramCorrectableError (cls : Fin 11) (addr : BitVec 64)
  /-- SRAM_UNCORRECTABLE_ERROR (R459). An uncorrectable error is handled according to its array class. -/
  | sramUncorrectableError (cls : Fin 11) (addr : BitVec 64) (unit index : Nat)
  /-- SCRUB_PASS (R458). The scrubber reads and repairs every word once per period. -/
  | scrubPass
  /-- STORE_LINE_READ_DONE (R265). A sealed-store line or node read returns and is verified up the counter tree. -/
  | storeLineReadDone (read : Nat)
  /-- CHECKPOINT_INTERVAL_EXPIRY (R272). INTERVAL of device time since the last cut passes, requesting a cut. -/
  | checkpointIntervalExpiry
  /-- SST_CUT (R272). Write of SST_CTL.CUT requests a cut. -/
  | sstCut
  /-- CHECKPOINT_CUT_START (R272). A cut runs: next checkpoint opens, dirty state is written and the record goes to PENDING and host memory. -/
  | checkpointCutStart
  /-- SST_REKEY (R279). Write of SST_CTL.REKEY starts moving the store to the next generation. -/
  | sstRekey
  /-- REKEY_POSITION (R280). The rekey pointer rewrites the next node position under the new generation. -/
  | rekeyPosition
  /-- TREF_PULSE (R288). A rising edge on TREF_IN is accepted, aligned or rejected by the trust-state rules. -/
  | trefPulse (dt : BitVec 64)
  /-- TREF_PULSE_MISSING (R288). No pulse by the expected edge plus the window; the tick advances and the state moves on. -/
  | trefPulseMissing (dt : BitVec 64)
  /-- HOLDOVER_EXPIRY (R290). H elapses in HOLDOVER and the time base becomes UNTRUSTED. -/
  | holdoverExpiry (dt : BitVec 64)
  /-- TIME_SAVE (R291). Each second the tick count and guard timer are written to MRAM. -/
  | timeSave
  /-- TICK_EDGE (R294). A tick edge of device time drives TREF_OUT and sends the tick to the partner. -/
  | tickEdge
  /-- ENTROPY_WINDOW (R297). A 4,096-bit source window is health-tested and, if it passes, conditioned into a seed. -/
  | entropyWindow (source : Fin 2) (window : Bytes)
  /-- DRBG_INSTANTIATE (R299). An instance is instantiated from two seeds in order. -/
  | drbgInstantiate (i : Fin 196)
  /-- DRBG_RESEED (R300). An instance is reseeded from the pool. -/
  | drbgReseed (i : Fin 196)
  /-- DRBG_LIMIT_REACHED (R300). An instance reaches its request or time limit unreseeded and blocks. -/
  | drbgLimitReached (i : Fin 196)
  /-- ENT_TESTPAT_WRITE (R303). Write of ENT_CTL.TESTPAT in MAKER switches the sources to the test pattern. -/
  | entTestpatWrite (on : Bool)
  /-- LINK_ENABLE (R307). Setting LNKn_CTL.EN takes the port from DISABLED to DETECT. -/
  | linkEnable (port : Fin 4)
  /-- LINK_DISABLE (R307). Clearing LNKn_CTL.EN sends PORT_DOWN and enters DISABLED. -/
  | linkDisable (port : Fin 4)
  /-- LINK_RETRAIN (R307). Write of LNKn_CTL.RETRAIN enters RECOVERY. -/
  | linkRetrain (port : Fin 4)
  /-- RECEIVER_DETECTED (R307). A receiver is detected and the port enters CONFIG. -/
  | receiverDetected (port : Fin 4) (reversed : Bool)
  /-- CONFIG_DONE (R307). Width, lane order and capabilities are agreed; the port enters ACTIVE or EQ. -/
  | configDone (port : Fin 4) (width pwidth : Fin 3) (pgen : Fin 4)
  /-- EQ_PASS (R307). Equalisation passes and the port enters ACTIVE. -/
  | eqPass (port : Fin 4)
  /-- EQ_FAIL (R307). Equalisation fails and the port tries the next lower generation. -/
  | eqFail (port : Fin 4)
  /-- LANE_LOCK_LOSS (R314). Loss of bit or block lock on a lane in use enters RECOVERY. -/
  | laneLockLoss (port : Fin 4)
  /-- LOCK_REGAINED (R307). Every lane regains lock and the port returns to ACTIVE. -/
  | lockRegained (port : Fin 4)
  /-- RECOVERY_TIMEOUT (R307). Lock not regained in 2 ms sends the port to DETECT with sequence counters kept. -/
  | recoveryTimeout (port : Fin 4)
  /-- TRAINING_TIMEOUT (R307). No progress in CONFIG or EQ within 24 ms sends the port to DETECT. -/
  | trainingTimeout (port : Fin 4)
  /-- CORRUPT_PACKET (R311). A packet with failed CRC or unexpected SEQ is discarded and answered with NAK or ACK. -/
  | corruptPacket (port : Fin 4) (crcOk flitBad : Bool) (seq : BitVec 16)
  /-- CPL_RECEIVED (R317). A read completion arrives and delivers data to its master, freeing the tag on LAST. -/
  | cplReceived (port : Fin 4) (tag : BitVec 8) (cst : Fin 3) (last : Bool) (data : Bytes)
  /-- MSG_RECEIVED (R321). A message packet from the host is dropped. -/
  | msgReceived (port : Fin 4) (addr : BitVec 64) (len : BitVec 10)
  /-- ACK_RECEIVED (R311). An ACK frees covered packets from the retry buffer. -/
  | ackReceived (port : Fin 4) (seq : BitVec 16)
  /-- NAK_RECEIVED (R311). A NAK replays every unacknowledged packet in order. -/
  | nakReceived (port : Fin 4) (seq : BitVec 16)
  /-- CREDIT_RECEIVED (R310). A CREDIT packet updates the partner's cumulative credits. -/
  | creditReceived (port : Fin 4) (posted nonPosted completion : BitVec 16)
  /-- HOT_RESET_RECEIVED (R310). A HOT_RESET from the partner fires the link hot-reset source under HOT_RST_EN. -/
  | hotResetReceived (port : Fin 4)
  /-- PORT_DOWN_RECEIVED (R310). The partner announces it leaves ACTIVE. -/
  | portDownReceived (port : Fin 4)
  /-- SEQ_RESET_RECEIVED (R312). A SEQ_RESET from the partner re-enables sequenced traffic after an L2 reset. -/
  | seqResetReceived (port : Fin 4)
  /-- MGT_RESEND (R310). ACK and CREDIT packets are resent at least every 1 µs while ACTIVE. -/
  | mgtResend (port : Fin 4)
  /-- ACK_TIMEOUT (R311). 100 µs without ACK or NAK replays unacknowledged packets. -/
  | ackTimeout (port : Fin 4)
  /-- CPL_TIMEOUT (R319). A read waiting past CPL_TMO is abandoned and handled per master. -/
  | cplTimeout (port : Fin 4) (tag : BitVec 8)
  /-- FAILOVER_TIMEOUT (R324). A port out of ACTIVE for FO_TMO fails and its rings move to their alternates or are held. -/
  | failoverTimeout (port : Fin 4)
  /-- PEER_CLAIM_RISE (R333). PEER_CLAIM_IN rising turns service off or breaks arbitration. -/
  | peerClaimRise
  /-- PEER_CLAIM_FALL (R354). PEER_CLAIM_IN falling in a standby discards incomplete epochs and applies complete ones before claiming. -/
  | peerClaimFall
  /-- ARBITRATION_DELAY_EXPIRY (R333). After the arbitration delay an eligible unit sets LAST_ACTIVE and asserts CLAIM_OUT. -/
  | arbitrationDelayExpiry
  /-- CLAIM_CONTENTION (R333). PEER_CLAIM_IN high for 1 µs while claiming releases the claim. -/
  | claimContention
  /-- FATAL_CONDITION (R337). An enabled fatal condition releases the claim, loses service and enters GAVE_UP. -/
  | fatalCondition
  /-- HELLO (R345). A HELLO message starts a Starter session and the session key. -/
  | hello (payload : Bytes)
  /-- IDENT (R341). An IDENT message is checked against the pairing ceremony. -/
  | ident (payload : Bytes)
  /-- KEYX (R341). A KEYX message completes the pair key. -/
  | keyx (payload : Bytes)
  /-- EPOCH_PART (R347). A message carrying change records of an epoch is received. -/
  | epochPart (seq : BitVec 16) (counter : BitVec 64) (data : Bytes)
  /-- EPOCH_END (R350). An epoch end is checked and the epoch applied and acknowledged, or the standby desyncs. -/
  | epochEnd (seq : BitVec 16) (counter : BitVec 64) (data : Bytes)
  /-- EPOCH_ACK (R351). An epoch acknowledgement releases held completions of covered epochs. -/
  | epochAck (seq : BitVec 16) (counter : BitVec 64) (data : Bytes)
  /-- SEED_PART (R353). A seeding message of change records is applied. -/
  | seedPart (seq : BitVec 16) (counter : BitVec 64) (data : Bytes)
  /-- SEED_END (R353). The end of seeding reaches the standby, which answers once all items are applied. -/
  | seedEnd (seq : BitVec 16) (counter : BitVec 64) (data : Bytes)
  /-- SEED_ACK (R353). The seeding acknowledgement makes the active PROTECTED. -/
  | seedAck (seq : BitVec 16) (counter : BitVec 64) (data : Bytes)
  /-- HEARTBEAT (R345). A HEARTBEAT message refreshes the partner's state. -/
  | heartbeat (seq : BitVec 16) (counter : BitVec 64) (data : Bytes)
  /-- HEARTBEAT_SEND (R345). Every 10 µs each unit sends a HEARTBEAT. -/
  | heartbeatSend
  /-- TICK (R295). A partner TICK message is compared with the unit's own count. -/
  | tick (seq : BitVec 16) (counter : BitVec 64) (data : Bytes)
  /-- EPOCH_CLOSE (R349). An epoch closes at MAXAGE or MAXBYTES, is sent or self-acknowledged, and the next opens. -/
  | epochClose
  /-- PARTNER_LOSS_TIMEOUT (R352). An active unit with no authenticated message for twice LINK_TMO self-acknowledges and becomes ALONE. -/
  | partnerLossTimeout
  /-- STANDBY_LINK_TIMEOUT (R345). A standby losing its partner for LINK_TMO while PEER_CLAIM_IN stays high enters DESYNC. -/
  | standbyLinkTimeout
  /-- SEED_START (R353). Write of STR_CTL.SEED starts seeding a partner in SEEDING_IN. -/
  | seedStart
  /-- BOOT_WAIT_EXPIRY (R339). A last-active unit waiting BOOT_WAIT for the Starter becomes eligible and claims. -/
  | bootWaitExpiry
  /-- CRUST_STEP (R365). A mesh channel steps its sequences and checks its sense inputs, latching a fault after FILT failures. -/
  | crustStep (ch : Fin 4) (seenA seenB : Bool) (dlyA dlyB : BitVec 8) (pairShort supplyShort : Bool) (passes : Fin 4)
  /-- DIE_TEMPERATURE_FAULT (R369). Die temperature out of range for 100 µs takes its programmed response. -/
  | dieTemperatureFault (temp : BitVec 16) (passes : Fin 4)
  /-- VGUARD_FAULT (R369). VGUARD out of range for 1 µs trips. -/
  | vguardFault (passes : Fin 4)
  /-- VCORE_GLITCH (R369). A VCORE excursion takes its programmed response. -/
  | vcoreGlitch (passes : Fin 4)
  /-- CLOCK_MONITOR_FAULT (R369). REFCLK outside ±20 % for 1 µs takes its programmed response. -/
  | clockMonitorFault (passes : Fin 4)
  /-- LIGHT_DETECTED (R369). A light detector above threshold trips. -/
  | lightDetected (passes : Fin 4)
  /-- SHIELD_ERROR (R369). An active-shield pattern error trips. -/
  | shieldError (passes : Fin 4)
  /-- TAMP_IN_ASSERTED (R370). A TAMP_IN input held active for its filter time takes its programmed response. -/
  | tampInAsserted (input : Fin 4) (high : Bool) (passes : Fin 4)
  /-- VGUARD_POR (R374). A guard power-on reset clears guard SRAM and sticky state, sets POR_LOST and runs L0. -/
  | vguardPor
  /-- LOGIC_POWER_CHANGE (R362). The logic side becoming powered or unpowered switches isolation and battery mode. -/
  | logicPowerChange (powered : Bool)
  /-- PRESET_ASSERT (R380). PRESET_N low for 1 µs asserts the PRESET_N reset source. -/
  | presetAssert
  /-- PRESET_RELEASE (R380). PRESET_N high for 1 µs is the accepted edge that latches straps and starts release. -/
  | presetRelease (bootSrc clkMode : Fin 4) (pairPri : Bool)
  /-- PGOOD_FALL (R473). PGOOD low for 1 µs fires VCORE POR at once. -/
  | pgoodFall
  /-- PFAIL_FALL (R434). PFAIL_N falling flushes the recorder and persists Scale. -/
  | pfailFall (fails : Bool)
  /-- PFAIL_RISE (R473). PFAIL_N returning high with PGOOD high restores normal flushing. -/
  | pfailRise
  /-- WATCHDOG_EXPIRY (R378). A supervisor watchdog count expires and resets the unit at its mapped level. -/
  | watchdogExpiry (pair : Fin 2)
  /-- WATCHDOG_KICK (R378). Write of SYS_WDOG.KICK restarts the watchdog count. -/
  | watchdogKick (pair : Fin 2)
  /-- WATCHDOG_ENABLE (R378). Write of SYS_WDOG.EN enables the watchdog until reset. -/
  | watchdogEnable (pair : Fin 2)
  /-- THERMAL_WARN_THRESHOLD (R477). Junction temperature crossing 105 °C or back below 100 °C sets or clears WARN and PM_ALERT_N. -/
  | thermalWarnThreshold (temp : BitVec 16) (sensor : Fin 26)
  /-- THERMAL_TRIP (R477). 120 °C held for 10 µs fires the thermal trip reset source. -/
  | thermalTrip
  /-- CLOCK_GOOD_LOSS (R385). A released block's clock-good falls; it re-enters reset and the clock-loss source fires. -/
  | clockGoodLoss (domain : Fin 5)
  /-- SOFTWARE_SERVICE_RESET (R377). Write of SYS_CTL.SVC_RST with KEY starts an L2 reset with store flush. -/
  | softwareServiceReset (key : BitVec 8)
  /-- SOFTWARE_CHIP_RESET (R378). Write of SYS_CTL.CHIP_RST with KEY starts an L1 reset. -/
  | softwareChipReset (key : BitVec 8)
  /-- DEBUG_RESET_REQUEST (R378). A debug reset request starts a reset at its mapped level. -/
  | debugResetRequest
  /-- RESET_PREP_DONE (R377). L2 preparation ends and the reset takes effect. -/
  | resetPrepDone
  /-- RESET_PREP_TIMEOUT (R377). Preparation lasting 5 ms is cut, the reset proceeds and PREP_CUT is set. -/
  | resetPrepTimeout
  /-- NV_PULSE_END (R386). The end of an MRAM or OTP write pulse lets a deferred reset proceed. -/
  | nvPulseEnd
  /-- STAGE_RELEASE (R383). A reset stage is released once its gap, clock-good and ready condition hold. -/
  | stageRelease
  /-- STAGE_OVERRIDE (R385). Write of SYS_STAGE.OVERRIDE in MAKER releases the next stage without its gap. -/
  | stageOverride
  /-- BLOCK_RESET_REQUEST (R387). Write of SYS_BLK_RST.REQ sends a block an idle request before resetting it. -/
  | blockResetRequest (block : BitVec 5) (tmo : BitVec 32)
  /-- BLOCK_IDLE (R387). The block goes idle and is reset and released. -/
  | blockIdle
  /-- BLOCK_IDLE_TIMEOUT (R387). TMO passes without idle and the block is reset anyway. -/
  | blockIdleTimeout
  /-- BOOT_GO (R393). Write of DW_BOOT_GO starts a boot attempt from the host image. -/
  | bootGo (port : Fin 4)
  /-- BOOT_IMAGE_READ_DONE (R391). The image arrives and is checked, measured, copied and launched, or rejected. -/
  | bootImageReadDone (flash : Bytes)
  /-- FLASH_READ_TIMEOUT (R391). A flash copy not read within 100 ms fails with FLASH. -/
  | flashReadTimeout
  /-- BOOT_BACKOFF_EXPIRY (R381). After 16 unserved L1 resets, the 1 s wait before a further boot attempt ends. -/
  | bootBackoffExpiry
  /-- OTP_READ (R398). Write of LCD_OTP_CMD.READ loads an OTP word into LCD_OTP_DATA. -/
  | otpRead (index : Fin 512)
  /-- OTP_PROGRAM (R399). Write of LCD_OTP_CMD.PROG starts programming bits of an OTP word if the area is not locked. -/
  | otpProgram (index : Fin 512)
  /-- OTP_PROGRAM_DONE (R386). OTP programming ends and RESULT is set. -/
  | otpProgramDone (good : Bool)
  /-- IDCODE (R408). TAP instruction returning the part number and version. -/
  | idcode
  /-- UNIT_ID (R408). TAP instruction returning the unit identifier. -/
  | unitId
  /-- TOKEN (R409). TAP instruction loading a debug token, which opens a session if all checks hold. -/
  | token (data : Bytes)
  /-- DMACC (R410). TAP instruction making one debug-master access within the session's reach. -/
  | dmacc (write : Bool) (addr : BitVec 64) (size : Fin 4) (data : BitVec 64)
  /-- BYPASS (R408). TAP bypass instruction. -/
  | bypass
  /-- TAP_RESET (R408). TRST_N resets the TAP alone without ending a session. -/
  | tapReset
  /-- DEBUG_SESSION_END (R409). Write of LCD_DBG.END ends the open session. -/
  | debugSessionEnd
  /-- DEBUG_SESSION_EXPIRY (R409). Device time reaching NOT_AFTER ends the session. -/
  | debugSessionExpiry
  /-- MPU_REGION_COMMIT (R413). A write to a region ATTR commits BASE, LIMIT and ATTR at once. -/
  | mpuRegionCommit (m : Fin 204) (r : Fin 32) (attr : BitVec 64)
  /-- MPU_UPD_WRITE (R418). Write of MPU_CTL.UPD disables or re-enables the MPU's regions. -/
  | mpuUpdWrite (m : Fin 204) (upd : Bool)
  /-- MPU_LOCK (R418). Write of LOCK freezes a supervisor MPU's regions until reset. -/
  | mpuLock (m : Fin 204)
  /-- MPU_LATCH_CLEAR (R423). Writing 1 to VALID frees the violation latch. -/
  | mpuLatchClear (m : Fin 204)
  /-- EVENT_ENTRY (R427). A block's event record enters the buffer with number, time and chain, or is counted as suppressed or lost. -/
  | eventEntry
  /-- FLUSH_INTERVAL_EXPIRY (R434). EVR_FLUSH_INT since the last flush starts a whole-buffer flush. -/
  | flushIntervalExpiry
  /-- EVR_FLUSH (R434). Write of EVR_CTL.FLUSH starts a whole-buffer flush. -/
  | evrFlush
  /-- FLUSH_DONE (R435). A flush finishes writing its records to MRAM, handling media faults. -/
  | flushDone (faults : List Nat)
  /-- ARCHIVE_SEGMENT (R433). S1 archives the oldest FULL segment to the sealed store and frees it. -/
  | archiveSegment
  /-- SEAL_SIGNATURE_ARRIVED (R437). The attestation signature for a SEAL record arrives and fills its slot. -/
  | sealSignatureArrived
  /-- BUCKET_REFILL (R436). At each tick every code's event bucket is refilled. -/
  | bucketRefill
  /-- EVR_LIMIT_WRITE (R436). Write of EVR_LIMIT sets a code's rate and burst, clipping its bucket level. -/
  | evrLimitWrite (code : Fin 4096) (rate burst : BitVec 16)
  /-- SCALE_PERSIST (R446). Every 10 s Scale writes its counter array to the next bank and verifies it. -/
  | scalePersist (fails : Bool)
  /-- SCALE_INTERVAL_EXPIRY (R448). At the end of INTERVAL Scale closes the interval and signs a statement. -/
  | scaleIntervalExpiry
  /-- SCALE_START (R452). At each start Scale restores its counters, checks its stored firmware and generates a key if needed. -/
  | scaleStart
  /-- CLUSTER_TEST_START (R463). A cluster test starts by draining the cluster from dispatch. -/
  | clusterTestStart
  /-- CLUSTER_TEST_DRAIN_TIMEOUT (R463). The drain not done within DRAIN_TMO abandons the test. -/
  | clusterTestDrainTimeout (cluster : Fin 24)
  /-- CLUSTER_TEST_END (R463). BIST, KATs and core resets finish; the cluster returns to dispatch or is retired. -/
  | clusterTestEnd (cluster : Fin 24) (failed : Fin 6) (core : Fin 8) (modes : BitVec 13)
  /-- ROTATION_INTERVAL_EXPIRY (R464). With rotation enabled, INTERVAL elapses and the next cluster is tested. -/
  | rotationIntervalExpiry
  /-- ROT_START (R464). Write of RAS_CTL.ROT_START runs one rotation pass. -/
  | rotStart
  /-- CLUSTER_RETURN (R462). Write of RAS_RETIRE.RETURN releases and tests a retired cluster. -/
  | clusterReturn (cluster : BitVec 5)
  /-- LOCKSTEP_MISMATCH_DETECTED (R460). A lockstep mismatch halts a supervisor pair and fires its watchdog, or resets the Scale cores. -/
  | lockstepMismatchDetected (pair : Fin 3)
  /-- LINK_RECAL_START (R466). Write of RAS_LINK_RECAL.START moves rings off a port and recalibrates it. -/
  | linkRecalStart (port : BitVec 3)
  /-- LANE_CTL_WRITE (R468). A write of RAS_LANE_CTL pattern or loopback is accepted only under its gating conditions and clears the counters. -/
  | laneCtlWrite (lane : Fin 18) (value : BitVec 64) (debug : Bool)
  /-- LANE_INJECT (R467). Write of RAS_LANE_CTL.INJECT inverts one transmitted bit. -/
  | laneInject (lane : Fin 18)
  /-- POWER_CAP_LOWER (R475). A write lowering SYS_PWR_CAP.CAP drains and power-gates clusters. -/
  | powerCapLower (cap : BitVec 5)
  /-- POWER_CAP_RAISE (R475). A write raising SYS_PWR_CAP.CAP releases, tests and returns clusters. -/
  | powerCapRaise (cap : BitVec 5)
  /-- POWER_CAP_CHANGE_DONE (R475). A cap change finishes and BUSY clears. -/
  | powerCapChangeDone
  /-- SMBUS_READ_TEMPERATURE (R491). SMBus Read Word command 0x00 returns the junction temperature. -/
  | smbusReadTemperature
  /-- SMBUS_READ_CLUSTERS (R491). SMBus Read Word command 0x01 returns the clusters in service. -/
  | smbusReadClusters
  /-- SMBUS_READ_CAP (R491). SMBus Read Word command 0x02 returns CAP. -/
  | smbusReadCap
  /-- SMBUS_ALERT_RESPONSE (R491). The device answers the SMBus Alert Response Address while alerting. -/
  | smbusAlertResponse
  /-- MRD_RECEIVED (R321). A host memory-read packet to the device window arrives and is answered with a completion, or with UR and HOST_ACCESS_INVALID when its size, alignment or range is wrong. -/
  | mrdReceived (port : Fin 4) (addr : BitVec 64) (len : BitVec 10) (tag : BitVec 8)
  /-- CSP_BYTE_RECEIVED (R214). A byte arrives on CSP_RX and enters the receive FIFO, or sets OVERRUN when the FIFO is full or FRAMING on a stop-bit error. -/
  | cspByteReceived (byte : BitVec 8) (stopOk : Bool)
  /-- LANE_CHECKER_LOCK (R467). A lane pattern checker locks after 64 consecutive error-free received bits and starts counting errors and compared bits. -/
  | laneCheckerLock (lane : Fin 18)
  /-- LANE_CHECKER_LOCK_LOSS (R467). A locked lane checker sees 32 errors within 64 bits, counts a lock loss and starts to relock. -/
  | laneCheckerLockLoss (lane : Fin 18) (errors bits : BitVec 64)
  /-- SEED_WALK_DONE (R353). The active unit's walk of every mirrored item ends, and it sends SEED_END to the standby. -/
  | seedWalkDone
deriving DecidableEq, Repr

end Sys2Proof
end

