-- ==== Sys2Proof/WellFormed.lean ====
section
/-! DEFINITION. The checks on a command's operands that the spec's own encodings make: a command that breaks one is not
the command that its name says. The machine gives every command a meaning without these checks; the statements name a
check where a rule speaks only of well-formed commands. -/

namespace Sys2Proof

/-- Why a command's operands are not those of its row. -/
inductive Malformed where
  /-- BEQ is encoded with its first field at or below its second (R91). -/
  | beqOrder
  /-- BNE is encoded with its first field above its second (R91). -/
  | bneOrder
  /-- A raw-bit window of the entropy block is 4,096 bits (R296). -/
  | windowLength
  /-- A memory read asks for 1 to 512 bytes (R309). -/
  | readLength
  /-- A completion carries 0 to 256 bytes (R309). -/
  | completionLength
  /-- A message carries 4 bytes (R309). -/
  | messageLength
  /-- A register write carries 1 to 256 bytes, the payload of one packet (R309). -/
  | writeLength
  /-- A Starter message carries a payload of 0 to 8,192 bytes, and a sealed one 16 bytes of tag after it (R342). -/
  | messageTooLong
deriving DecidableEq, Repr

/-- The check of a Starter message's length: payload and tag (R342). -/
def sealedMalformed (data : Bytes) : Option Malformed :=
  if 16 ≤ data.length ∧ data.length ≤ 8208 then none else some .messageTooLong

/-- The check of the length of a Starter message sent in clear (R342). -/
def clearMalformed (data : Bytes) : Option Malformed :=
  if data.length ≤ 8192 then none else some .messageTooLong

/-- The check that a command breaks, if it breaks one. -/
def Instr.malformed : Instr → Option Malformed
  | .beq _ ga gb _ => if ga.val ≤ gb.val then none else some .beqOrder
  | .bne _ ga gb _ => if gb.val < ga.val then none else some .bneOrder
  | .entropyWindow _ window => if window.length = 512 then none else some .windowLength
  | .mrdReceived _ _ len _ => if 1 ≤ len.toNat ∧ len.toNat ≤ 512 then none else some .readLength
  | .cplReceived _ _ _ _ data => if data.length ≤ 256 then none else some .completionLength
  | .msgReceived _ _ len => if len.toNat = 4 then none else some .messageLength
  | .registerWrite _ _ data => if 1 ≤ data.length ∧ data.length ≤ 256 then none else some .writeLength
  | .epochPart _ _ data => sealedMalformed data
  | .epochEnd _ _ data => sealedMalformed data
  | .epochAck _ _ data => sealedMalformed data
  | .seedPart _ _ data => sealedMalformed data
  | .seedEnd _ _ data => sealedMalformed data
  | .seedAck _ _ data => sealedMalformed data
  | .heartbeat _ _ data => sealedMalformed data
  | .tick _ _ data => sealedMalformed data
  | .hello payload => clearMalformed payload
  | .ident payload => clearMalformed payload
  | .keyx payload => clearMalformed payload
  | _ => none

/-- A command whose operands are those of its row. -/
abbrev Instr.wellFormed (i : Instr) : Prop := i.malformed = none

end Sys2Proof
end

