-- ==== Sys2Proof/Decode.lean ====
section
/-! DEFINITION. Decoding a word of the table of operations and events. The table gives no row any bits (opcode_table.json), so no
word spells a command: commands reach the block as events, register writes, packets and requests. -/

namespace Sys2Proof

/-- The command that a word spells by the table's bits: none, since no row of the table has bits. -/
def decodeTableWord (_nbits _w : Nat) : Option Instr := none

end Sys2Proof
end

