-- ==== Sys2Proof/Machine/Bytes.lean ====
section
/-! DEFINITION. Byte strings and bit fields: little-endian and big-endian numbers, slices, decimal digits,
and the field extraction that every register and every table of the spec uses ("bits [hi:lo]").
Multi-byte values of the unit are little-endian (R5, R30); the standards' byte strings are big-endian. -/

namespace Sys2Proof

/-- The number that a byte string holds, least significant byte first. -/
def leToNat : Bytes → Nat
  | [] => 0
  | b :: bs => b.toNat + 256 * leToNat bs

/-- `n` bytes of a number, least significant first; higher bytes are dropped. -/
def natToLe : Nat → Nat → Bytes
  | 0, _ => []
  | n + 1, v => BitVec.ofNat 8 v :: natToLe n (v / 256)

/-- The number that a byte string holds, most significant byte first. -/
def beToNat (bs : Bytes) : Nat := bs.foldl (fun a b => a * 256 + b.toNat) 0

/-- `n` bytes of a number, most significant first. -/
def natToBe (n v : Nat) : Bytes := (natToLe n v).reverse

/-- Bits [lo+width-1:lo] of a number. -/
def bitsAt (v lo width : Nat) : Nat := (v / 2 ^ lo) % 2 ^ width

/-- Bit `i` of a number. -/
def bitAt (v i : Nat) : Bool := (v / 2 ^ i) % 2 == 1

/-- A number with bits [lo+width-1:lo] replaced by the low bits of `x`. -/
def setBits (v lo width x : Nat) : Nat :=
  v - bitsAt v lo width * 2 ^ lo + (x % 2 ^ width) * 2 ^ lo

/-- 1 for true and 0 for false, as a one-bit field reads. -/
def b2n (b : Bool) : Nat := if b then 1 else 0

/-- Bytes [off, off+n) of a string; shorter where the string ends. -/
def slice (bs : Bytes) (off n : Nat) : Bytes := (bs.drop off).take n

/-- The little-endian number in bytes [off, off+n) of a string. -/
def leAt (bs : Bytes) (off n : Nat) : Nat := leToNat (slice bs off n)

/-- Byte `i` of a string as a number; 0 past its end. -/
def byteAt (bs : Bytes) (i : Nat) : Nat := (bs.getD i 0#8).toNat

/-- `n` zero bytes. -/
def zeros (n : Nat) : Bytes := List.replicate n 0#8

/-- A string cut or filled with zeros to `n` bytes. -/
def fitTo (n : Nat) (bs : Bytes) : Bytes := (bs ++ zeros (n - bs.length)).take n

/-- Whether a string holds only zero bytes. -/
def allZero (bs : Bytes) : Bool := bs.all (· == 0#8)

/-- Bytewise exclusive or; the shorter string decides the length. -/
def xorB (a b : Bytes) : Bytes := List.zipWith (· ^^^ ·) a b

/-- Bytewise AND. -/
def andB (a b : Bytes) : Bytes := List.zipWith (· &&& ·) a b

/-- A string with bytes [off, off+new.length) replaced. -/
def patch (bs : Bytes) (off : Nat) (new : Bytes) : Bytes :=
  bs.take off ++ new ++ bs.drop (off + new.length)

/-- The ASCII bytes of a string. -/
def ascii (s : String) : Bytes := s.toList.map (fun c => BitVec.ofNat 8 c.toNat)

/-- The 4-bit halves of a byte string, high half first. -/
def nibbles (bs : Bytes) : List Nat :=
  bs.flatMap (fun b => [b.toNat / 16, b.toNat % 16])

/-- Bytes from 4-bit halves, high half first; an odd last half is filled with 0. -/
def packNibbles : List Nat → Bytes
  | [] => []
  | [h] => [BitVec.ofNat 8 (h % 16 * 16)]
  | h :: l :: r => BitVec.ofNat 8 (h % 16 * 16 + l % 16) :: packNibbles r

/-- The `n` low decimal or hexadecimal digits of a number in base `b`, most significant first. -/
def digitsOf (b : Nat) : Nat → Nat → List Nat
  | 0, _ => []
  | n + 1, v => digitsOf b n (v / b) ++ [v % b]

/-- The uppercase hexadecimal ASCII form of a byte string. -/
def hexAscii (bs : Bytes) : Bytes :=
  (nibbles bs).map (fun d => BitVec.ofNat 8 (if d < 10 then 0x30 + d else 0x37 + d))

/-- The value of one hexadecimal ASCII digit. -/
def hexVal (b : Byte) : Option Nat :=
  let n := b.toNat
  if 0x30 ≤ n ∧ n ≤ 0x39 then some (n - 0x30)
  else if 0x41 ≤ n ∧ n ≤ 0x46 then some (n - 0x37)
  else if 0x61 ≤ n ∧ n ≤ 0x66 then some (n - 0x57)
  else none

/-- The bytes that an even run of hexadecimal ASCII digits spells; none on any other character. -/
def unhex : Bytes → Option Bytes
  | [] => some []
  | [_] => none
  | h :: l :: r => do
      let a ← hexVal h
      let b ← hexVal l
      let t ← unhex r
      pure (BitVec.ofNat 8 (a * 16 + b) :: t)

/-- The decimal number that ASCII digits spell; none on any other character. -/
def decVal (bs : Bytes) : Option Nat :=
  bs.foldl (fun a b => a.bind (fun v =>
    let n := b.toNat
    if 0x30 ≤ n ∧ n ≤ 0x39 then some (v * 10 + (n - 0x30)) else none)) (some 0)

/-- One byte into a CRC-16 of polynomial 0x1021, most significant bit first (R429). -/
def crc16Byte (crc : Nat) (b : Byte) : Nat :=
  (List.range 8).foldl (fun c _ =>
    let t := c * 2 % 65536
    if c / 32768 % 2 == 1 then t ^^^ 0x1021 else t) (crc ^^^ (b.toNat * 256))

/-- CRC-16 with polynomial 0x1021 and initial value 0xFFFF (R429, R214). -/
def crc16 (bs : Bytes) : Nat := bs.foldl crc16Byte 0xFFFF

/-- A list cut into runs of `n` (the last may be shorter), at most `fuel` of them. -/
def chunksFuel (n : Nat) : Nat → Bytes → List Bytes
  | 0, _ => []
  | fuel + 1, bs =>
    match bs with
    | [] => []
    | _ :: _ => bs.take n :: chunksFuel n fuel (bs.drop n)

/-- A byte string cut into runs of `n` bytes, the last run possibly shorter. -/
def chunks (n : Nat) (bs : Bytes) : List Bytes := chunksFuel n bs.length bs

end Sys2Proof
end

