-- ==== Sys2Proof/Machine/Aes.lean ====
section
/-! DEFINITION. The AES and DES block ciphers (FIPS 197, SP 800-67, named by R7). The standards' texts are outside the
spec: PRESUMED, log entry 6. -/

namespace Sys2Proof

/-- Multiplication by x in the AES field. -/
def xtime (a : Nat) : Nat := if a ≥ 128 then ((a * 2) % 256) ^^^ 0x1B else a * 2

/-- `n` bits of a field product: the second factor's bits, lowest first. -/
def gfMulN : Nat → Nat → Nat → Nat
  | 0, _, _ => 0
  | n + 1, a, b => if b = 0 then 0 else (if b % 2 = 1 then a else 0) ^^^ gfMulN n (xtime a) (b / 2)

/-- Multiplication in the AES field. -/
def gfMul (a b : Nat) : Nat := gfMulN 8 a b

/-- The S-box (FIPS 197), by the high and the low half of the byte. -/
def aesSbox : List (List Byte) :=
  [[0x63#8, 0x7C#8, 0x77#8, 0x7B#8, 0xF2#8, 0x6B#8, 0x6F#8, 0xC5#8, 0x30#8, 0x01#8, 0x67#8, 0x2B#8, 0xFE#8, 0xD7#8, 0xAB#8, 0x76#8],
   [0xCA#8, 0x82#8, 0xC9#8, 0x7D#8, 0xFA#8, 0x59#8, 0x47#8, 0xF0#8, 0xAD#8, 0xD4#8, 0xA2#8, 0xAF#8, 0x9C#8, 0xA4#8, 0x72#8, 0xC0#8],
   [0xB7#8, 0xFD#8, 0x93#8, 0x26#8, 0x36#8, 0x3F#8, 0xF7#8, 0xCC#8, 0x34#8, 0xA5#8, 0xE5#8, 0xF1#8, 0x71#8, 0xD8#8, 0x31#8, 0x15#8],
   [0x04#8, 0xC7#8, 0x23#8, 0xC3#8, 0x18#8, 0x96#8, 0x05#8, 0x9A#8, 0x07#8, 0x12#8, 0x80#8, 0xE2#8, 0xEB#8, 0x27#8, 0xB2#8, 0x75#8],
   [0x09#8, 0x83#8, 0x2C#8, 0x1A#8, 0x1B#8, 0x6E#8, 0x5A#8, 0xA0#8, 0x52#8, 0x3B#8, 0xD6#8, 0xB3#8, 0x29#8, 0xE3#8, 0x2F#8, 0x84#8],
   [0x53#8, 0xD1#8, 0x00#8, 0xED#8, 0x20#8, 0xFC#8, 0xB1#8, 0x5B#8, 0x6A#8, 0xCB#8, 0xBE#8, 0x39#8, 0x4A#8, 0x4C#8, 0x58#8, 0xCF#8],
   [0xD0#8, 0xEF#8, 0xAA#8, 0xFB#8, 0x43#8, 0x4D#8, 0x33#8, 0x85#8, 0x45#8, 0xF9#8, 0x02#8, 0x7F#8, 0x50#8, 0x3C#8, 0x9F#8, 0xA8#8],
   [0x51#8, 0xA3#8, 0x40#8, 0x8F#8, 0x92#8, 0x9D#8, 0x38#8, 0xF5#8, 0xBC#8, 0xB6#8, 0xDA#8, 0x21#8, 0x10#8, 0xFF#8, 0xF3#8, 0xD2#8],
   [0xCD#8, 0x0C#8, 0x13#8, 0xEC#8, 0x5F#8, 0x97#8, 0x44#8, 0x17#8, 0xC4#8, 0xA7#8, 0x7E#8, 0x3D#8, 0x64#8, 0x5D#8, 0x19#8, 0x73#8],
   [0x60#8, 0x81#8, 0x4F#8, 0xDC#8, 0x22#8, 0x2A#8, 0x90#8, 0x88#8, 0x46#8, 0xEE#8, 0xB8#8, 0x14#8, 0xDE#8, 0x5E#8, 0x0B#8, 0xDB#8],
   [0xE0#8, 0x32#8, 0x3A#8, 0x0A#8, 0x49#8, 0x06#8, 0x24#8, 0x5C#8, 0xC2#8, 0xD3#8, 0xAC#8, 0x62#8, 0x91#8, 0x95#8, 0xE4#8, 0x79#8],
   [0xE7#8, 0xC8#8, 0x37#8, 0x6D#8, 0x8D#8, 0xD5#8, 0x4E#8, 0xA9#8, 0x6C#8, 0x56#8, 0xF4#8, 0xEA#8, 0x65#8, 0x7A#8, 0xAE#8, 0x08#8],
   [0xBA#8, 0x78#8, 0x25#8, 0x2E#8, 0x1C#8, 0xA6#8, 0xB4#8, 0xC6#8, 0xE8#8, 0xDD#8, 0x74#8, 0x1F#8, 0x4B#8, 0xBD#8, 0x8B#8, 0x8A#8],
   [0x70#8, 0x3E#8, 0xB5#8, 0x66#8, 0x48#8, 0x03#8, 0xF6#8, 0x0E#8, 0x61#8, 0x35#8, 0x57#8, 0xB9#8, 0x86#8, 0xC1#8, 0x1D#8, 0x9E#8],
   [0xE1#8, 0xF8#8, 0x98#8, 0x11#8, 0x69#8, 0xD9#8, 0x8E#8, 0x94#8, 0x9B#8, 0x1E#8, 0x87#8, 0xE9#8, 0xCE#8, 0x55#8, 0x28#8, 0xDF#8],
   [0x8C#8, 0xA1#8, 0x89#8, 0x0D#8, 0xBF#8, 0xE6#8, 0x42#8, 0x68#8, 0x41#8, 0x99#8, 0x2D#8, 0x0F#8, 0xB0#8, 0x54#8, 0xBB#8, 0x16#8]]

/-- The inverse S-box (FIPS 197), in the same way. -/
def aesInvSbox : List (List Byte) :=
  [[0x52#8, 0x09#8, 0x6A#8, 0xD5#8, 0x30#8, 0x36#8, 0xA5#8, 0x38#8, 0xBF#8, 0x40#8, 0xA3#8, 0x9E#8, 0x81#8, 0xF3#8, 0xD7#8, 0xFB#8],
   [0x7C#8, 0xE3#8, 0x39#8, 0x82#8, 0x9B#8, 0x2F#8, 0xFF#8, 0x87#8, 0x34#8, 0x8E#8, 0x43#8, 0x44#8, 0xC4#8, 0xDE#8, 0xE9#8, 0xCB#8],
   [0x54#8, 0x7B#8, 0x94#8, 0x32#8, 0xA6#8, 0xC2#8, 0x23#8, 0x3D#8, 0xEE#8, 0x4C#8, 0x95#8, 0x0B#8, 0x42#8, 0xFA#8, 0xC3#8, 0x4E#8],
   [0x08#8, 0x2E#8, 0xA1#8, 0x66#8, 0x28#8, 0xD9#8, 0x24#8, 0xB2#8, 0x76#8, 0x5B#8, 0xA2#8, 0x49#8, 0x6D#8, 0x8B#8, 0xD1#8, 0x25#8],
   [0x72#8, 0xF8#8, 0xF6#8, 0x64#8, 0x86#8, 0x68#8, 0x98#8, 0x16#8, 0xD4#8, 0xA4#8, 0x5C#8, 0xCC#8, 0x5D#8, 0x65#8, 0xB6#8, 0x92#8],
   [0x6C#8, 0x70#8, 0x48#8, 0x50#8, 0xFD#8, 0xED#8, 0xB9#8, 0xDA#8, 0x5E#8, 0x15#8, 0x46#8, 0x57#8, 0xA7#8, 0x8D#8, 0x9D#8, 0x84#8],
   [0x90#8, 0xD8#8, 0xAB#8, 0x00#8, 0x8C#8, 0xBC#8, 0xD3#8, 0x0A#8, 0xF7#8, 0xE4#8, 0x58#8, 0x05#8, 0xB8#8, 0xB3#8, 0x45#8, 0x06#8],
   [0xD0#8, 0x2C#8, 0x1E#8, 0x8F#8, 0xCA#8, 0x3F#8, 0x0F#8, 0x02#8, 0xC1#8, 0xAF#8, 0xBD#8, 0x03#8, 0x01#8, 0x13#8, 0x8A#8, 0x6B#8],
   [0x3A#8, 0x91#8, 0x11#8, 0x41#8, 0x4F#8, 0x67#8, 0xDC#8, 0xEA#8, 0x97#8, 0xF2#8, 0xCF#8, 0xCE#8, 0xF0#8, 0xB4#8, 0xE6#8, 0x73#8],
   [0x96#8, 0xAC#8, 0x74#8, 0x22#8, 0xE7#8, 0xAD#8, 0x35#8, 0x85#8, 0xE2#8, 0xF9#8, 0x37#8, 0xE8#8, 0x1C#8, 0x75#8, 0xDF#8, 0x6E#8],
   [0x47#8, 0xF1#8, 0x1A#8, 0x71#8, 0x1D#8, 0x29#8, 0xC5#8, 0x89#8, 0x6F#8, 0xB7#8, 0x62#8, 0x0E#8, 0xAA#8, 0x18#8, 0xBE#8, 0x1B#8],
   [0xFC#8, 0x56#8, 0x3E#8, 0x4B#8, 0xC6#8, 0xD2#8, 0x79#8, 0x20#8, 0x9A#8, 0xDB#8, 0xC0#8, 0xFE#8, 0x78#8, 0xCD#8, 0x5A#8, 0xF4#8],
   [0x1F#8, 0xDD#8, 0xA8#8, 0x33#8, 0x88#8, 0x07#8, 0xC7#8, 0x31#8, 0xB1#8, 0x12#8, 0x10#8, 0x59#8, 0x27#8, 0x80#8, 0xEC#8, 0x5F#8],
   [0x60#8, 0x51#8, 0x7F#8, 0xA9#8, 0x19#8, 0xB5#8, 0x4A#8, 0x0D#8, 0x2D#8, 0xE5#8, 0x7A#8, 0x9F#8, 0x93#8, 0xC9#8, 0x9C#8, 0xEF#8],
   [0xA0#8, 0xE0#8, 0x3B#8, 0x4D#8, 0xAE#8, 0x2A#8, 0xF5#8, 0xB0#8, 0xC8#8, 0xEB#8, 0xBB#8, 0x3C#8, 0x83#8, 0x53#8, 0x99#8, 0x61#8],
   [0x17#8, 0x2B#8, 0x04#8, 0x7E#8, 0xBA#8, 0x77#8, 0xD6#8, 0x26#8, 0xE1#8, 0x69#8, 0x14#8, 0x63#8, 0x55#8, 0x21#8, 0x0C#8, 0x7D#8]]

/-- One byte through the S-box. -/
def subByte (b : Byte) : Byte := (aesSbox.getD (b.toNat / 16) []).getD (b.toNat % 16) 0
/-- One byte through the inverse S-box. -/
def invSubByte (b : Byte) : Byte := (aesInvSbox.getD (b.toNat / 16) []).getD (b.toNat % 16) 0

/-- The key schedule: `n` further words, newest first; `i` counts words, `nk` is the key's length in words. -/
def aesExpand (nk : Nat) : Nat → Nat → Nat → List Bytes → List Bytes
  | 0, _, _, l => l
  | n + 1, i, rcon, l =>
    let t := l.getD 0 []
    let t' := if i % nk = 0 then
        xorB ((t.drop 1 ++ t.take 1).map subByte) [BitVec.ofNat 8 rcon, 0, 0, 0]
      else if nk > 6 ∧ i % nk = 4 then t.map subByte else t
    aesExpand nk n (i + 1) (if i % nk = 0 then xtime rcon else rcon) (xorB (l.getD (nk - 1) []) t' :: l)

/-- The round keys of a 16-, 24- or 32-byte key, 16 bytes each. -/
def aesRoundKeys (key : Bytes) : List Bytes :=
  let nk := key.length / 4
  let ws := (aesExpand nk (4 * (nk + 7) - nk) nk 1 (chunks 4 key).reverse).reverse
  chunks 16 ws.flatten

/-- The column mixing of one column with the given first-row factors. -/
def mixCol (m : List Nat) (c : Bytes) : Bytes :=
  (List.range 4).map (fun i =>
    BitVec.ofNat 8 ((List.range 4).foldl (fun a j => a ^^^ gfMul (byteAt c j) (m.getD ((j + 4 - i) % 4) 0)) 0))

/-- Bytes of the state in a new order. -/
def reorder (ix : List Nat) (s : Bytes) : Bytes := ix.map (fun i => s.getD i 0)

/-- One round of encryption; `last` leaves the column mixing out. -/
def aesRound (last : Bool) (s k : Bytes) : Bytes :=
  let t := reorder [0, 5, 10, 15, 4, 9, 14, 3, 8, 13, 2, 7, 12, 1, 6, 11] (s.map subByte)
  xorB (if last then t else ((chunks 4 t).map (mixCol [2, 3, 1, 1])).flatten) k

/-- One round of decryption; `last` leaves the column mixing out. -/
def aesInvRound (last : Bool) (s k : Bytes) : Bytes :=
  let t := (reorder [0, 13, 10, 7, 4, 1, 14, 11, 8, 5, 2, 15, 12, 9, 6, 3] s).map invSubByte
  let u := xorB t k
  if last then u else ((chunks 4 u).map (mixCol [14, 11, 13, 9])).flatten

/-- Rounds over a list of round keys, the last one without column mixing. -/
def aesRounds (f : Bool → Bytes → Bytes → Bytes) : List Bytes → Bytes → Bytes
  | [], s => s
  | [k], s => f true s k
  | k :: ks, s => aesRounds f ks (f false s k)

/-- AES encryption of one block under a 16-, 24- or 32-byte key. -/
def aesEnc (key blk : Bytes) : Bytes :=
  match aesRoundKeys key with
  | [] => blk
  | k0 :: ks => aesRounds aesRound ks (xorB blk k0)

/-- AES decryption of one block. -/
def aesDec (key blk : Bytes) : Bytes :=
  match (aesRoundKeys key).reverse with
  | [] => blk
  | k0 :: ks => aesRounds aesInvRound ks (xorB blk k0)

/-! ### DES and triple DES -/

/-- The bits of a byte string, most significant first. -/
def bitsOf (bs : Bytes) : List Bool := bs.flatMap (fun b => (List.range 8).map (fun i => bitAt b.toNat (7 - i)))

/-- The number that bits spell, most significant first. -/
def bitsVal (l : List Bool) : Nat := l.foldl (fun a b => 2 * a + b2n b) 0

/-- The bits of `l` at 1-based positions. -/
def permute (p : List Nat) (l : List Bool) : List Bool := p.map (fun i => l.getD (i - 1) false)

/-- Initial permutation. -/
def desIP : List Nat :=
  [58,50,42,34,26,18,10,2, 60,52,44,36,28,20,12,4, 62,54,46,38,30,22,14,6, 64,56,48,40,32,24,16,8] ++
  [57,49,41,33,25,17,9,1, 59,51,43,35,27,19,11,3, 61,53,45,37,29,21,13,5, 63,55,47,39,31,23,15,7]
/-- Final permutation. -/
def desFP : List Nat := (List.range 64).map (fun i => desIP.findIdx (· == i + 1) + 1)
/-- Expansion. -/
def desE : List Nat :=
  (List.range 48).map (fun i => (i / 6 * 4 + i % 6 + 31) % 32 + 1)
/-- The permutation after the S-boxes. -/
def desP : List Nat :=
  [16,7,20,21,29,12,28,17,1,15,23,26,5,18,31,10,2,8,24,14,32,27,3,9,19,13,30,6,22,11,4,25]
/-- Key permutation 1. -/
def desPC1 : List Nat :=
  [57,49,41,33,25,17,9,1,58,50,42,34,26,18,10,2,59,51,43,35,27,19,11,3,60,52,44,36] ++
  [63,55,47,39,31,23,15,7,62,54,46,38,30,22,14,6,61,53,45,37,29,21,13,5,28,20,12,4]
/-- Key permutation 2. -/
def desPC2 : List Nat :=
  [14,17,11,24,1,5,3,28,15,6,21,10,23,19,12,4,26,8,16,7,27,20,13,2] ++
  [41,52,31,37,47,55,30,40,51,45,33,48,44,49,39,56,34,53,46,42,50,36,29,32]
/-- S-boxes 1 to 8, 64 values each, row by row. -/
def desS : List (List Nat) :=
  [[14,4,13,1,2,15,11,8,3,10,6,12,5,9,0,7,0,15,7,4,14,2,13,1,10,6,12,11,9,5,3,8] ++
   [4,1,14,8,13,6,2,11,15,12,9,7,3,10,5,0,15,12,8,2,4,9,1,7,5,11,3,14,10,0,6,13],
   [15,1,8,14,6,11,3,4,9,7,2,13,12,0,5,10,3,13,4,7,15,2,8,14,12,0,1,10,6,9,11,5] ++
   [0,14,7,11,10,4,13,1,5,8,12,6,9,3,2,15,13,8,10,1,3,15,4,2,11,6,7,12,0,5,14,9],
   [10,0,9,14,6,3,15,5,1,13,12,7,11,4,2,8,13,7,0,9,3,4,6,10,2,8,5,14,12,11,15,1] ++
   [13,6,4,9,8,15,3,0,11,1,2,12,5,10,14,7,1,10,13,0,6,9,8,7,4,15,14,3,11,5,2,12],
   [7,13,14,3,0,6,9,10,1,2,8,5,11,12,4,15,13,8,11,5,6,15,0,3,4,7,2,12,1,10,14,9] ++
   [10,6,9,0,12,11,7,13,15,1,3,14,5,2,8,4,3,15,0,6,10,1,13,8,9,4,5,11,12,7,2,14]] ++
  [[2,12,4,1,7,10,11,6,8,5,3,15,13,0,14,9,14,11,2,12,4,7,13,1,5,0,15,10,3,9,8,6] ++
   [4,2,1,11,10,13,7,8,15,9,12,5,6,3,0,14,11,8,12,7,1,14,2,13,6,15,0,9,10,4,5,3],
   [12,1,10,15,9,2,6,8,0,13,3,4,14,7,5,11,10,15,4,2,7,12,9,5,6,1,13,14,0,11,3,8] ++
   [9,14,15,5,2,8,12,3,7,0,4,10,1,13,11,6,4,3,2,12,9,5,15,10,11,14,1,7,6,0,8,13],
   [4,11,2,14,15,0,8,13,3,12,9,7,5,10,6,1,13,0,11,7,4,9,1,10,14,3,5,12,2,15,8,6] ++
   [1,4,11,13,12,3,7,14,10,15,6,8,0,5,9,2,6,11,13,8,1,4,10,7,9,5,0,15,14,2,3,12],
   [13,2,8,4,6,15,11,1,10,9,3,14,5,0,12,7,1,15,13,8,10,3,7,4,12,5,6,11,0,14,9,2] ++
   [7,11,4,1,9,12,14,2,0,6,10,13,15,3,5,8,2,1,14,7,4,10,8,13,15,12,9,0,3,5,6,11]]
/-- Left rotations of the key halves. -/
def desRotations : List Nat := [1,1,2,2,2,2,2,2,1,2,2,2,2,2,2,1]

/-- A list turned left. -/
def turnLeft (n : Nat) (l : List Bool) : List Bool := l.drop n ++ l.take n

/-- The round keys from the two key halves. -/
def desKeysFrom : List Nat → List Bool → List Bool → List (List Bool)
  | [], _, _ => []
  | r :: rs, c, d =>
    let c' := turnLeft r c
    let d' := turnLeft r d
    permute desPC2 (c' ++ d') :: desKeysFrom rs c' d'

/-- The sixteen round keys of an 8-byte key. -/
def desKeys (key : Bytes) : List (List Bool) :=
  let k := permute desPC1 (bitsOf key)
  desKeysFrom desRotations (k.take 28) (k.drop 28)

/-- Six bits through S-box `i`, as four bits. -/
def desSbox (i : Nat) (b : List Bool) : List Bool :=
  let row := 2 * b2n (b.getD 0 false) + b2n (b.getD 5 false)
  let v := (desS.getD i []).getD (row * 16 + bitsVal ((b.drop 1).take 4)) 0
  [bitAt v 3, bitAt v 2, bitAt v 1, bitAt v 0]

/-- The round function. -/
def desF (r k : List Bool) : List Bool :=
  let x := List.zipWith xor (permute desE r) k
  permute desP ((List.range 8).flatMap (fun i => desSbox i ((x.drop (6 * i)).take 6)))

/-- The rounds on the two halves. -/
def desRounds : List (List Bool) → List Bool → List Bool → List Bool
  | [], l, r => r ++ l
  | k :: ks, l, r => desRounds ks r (List.zipWith xor l (desF r k))

/-- DES with a list of round keys in order of use. -/
def desWith (ks : List (List Bool)) (blk : Bytes) : Bytes :=
  let b := permute desIP (bitsOf blk)
  let out := permute desFP (desRounds ks (b.take 32) (b.drop 32))
  (List.range 8).map (fun i => BitVec.ofNat 8 (bitsVal ((out.drop (8 * i)).take 8)))

/-- DES encryption of one 8-byte block. -/
def desEnc (key blk : Bytes) : Bytes := desWith (desKeys key) blk
/-- DES decryption of one 8-byte block. -/
def desDec (key blk : Bytes) : Bytes := desWith (desKeys key).reverse blk

/-- The three DES keys of an 8-, 16- or 24-byte key. -/
def tdesParts (key : Bytes) : Bytes × Bytes × Bytes :=
  let k1 := key.take 8
  let k2 := if key.length > 8 then slice key 8 8 else k1
  let k3 := if key.length > 16 then slice key 16 8 else k1
  (k1, k2, k3)

/-- Triple DES encryption of one block. -/
def tdesEnc (key blk : Bytes) : Bytes :=
  let (a, b, c) := tdesParts key
  desEnc c (desDec b (desEnc a blk))

/-- Triple DES decryption of one block. -/
def tdesDec (key blk : Bytes) : Bytes :=
  let (a, b, c) := tdesParts key
  desDec a (desEnc b (desDec c blk))

end Sys2Proof
end

