-- ==== Sys2Proof/Machine/Keccak.lean ====
section
/-! DEFINITION. SHA-3 and SHAKE (FIPS 202, named by R7). The standard's text is outside the spec: PRESUMED, log entry 6. -/

namespace Sys2Proof

/-- The round constants of Keccak-f[1600]. -/
def keccakRC : List (BitVec 64) :=
  [0x0000000000000001, 0x0000000000008082, 0x800000000000808A, 0x8000000080008000,
   0x000000000000808B, 0x0000000080000001, 0x8000000080008081, 0x8000000000008009,
   0x000000000000008A, 0x0000000000000088, 0x0000000080008009, 0x000000008000000A] ++
  [0x000000008000808B, 0x800000000000008B, 0x8000000000008089, 0x8000000000008003,
   0x8000000000008002, 0x8000000000000080, 0x000000000000800A, 0x800000008000000A,
   0x8000000080008081, 0x8000000000008080, 0x0000000080000001, 0x8000000080008008]

/-- The rotation of lane x + 5 y. -/
def keccakRot : List Nat :=
  [0, 1, 62, 28, 27, 36, 44, 6, 55, 20, 3, 10, 43, 25, 39, 41, 45, 15, 21, 8, 18, 2, 61, 56, 14]

/-- One round on the 25 lanes, lane x + 5 y at that index. -/
def keccakRound (a : List (BitVec 64)) (rc : BitVec 64) : List (BitVec 64) :=
  let at' (l : List (BitVec 64)) (x y : Nat) : BitVec 64 := l.getD (x % 5 + 5 * (y % 5)) 0
  let c := (List.range 5).map (fun x => at' a x 0 ^^^ at' a x 1 ^^^ at' a x 2 ^^^ at' a x 3 ^^^ at' a x 4)
  let d := (List.range 5).map (fun x => c.getD ((x + 4) % 5) 0 ^^^ (c.getD ((x + 1) % 5) 0).rotateLeft 1)
  let t := (List.range 25).map (fun i => a.getD i 0 ^^^ d.getD (i % 5) 0)
  let r := (List.range 25).map (fun i => (t.getD i 0).rotateLeft (keccakRot.getD i 0))
  -- b[y, 2x+3y] = r[x, y]: the lane at (X, Y) comes from x = X + 3Y, y = X
  let b := (List.range 25).map (fun i => at' r (i % 5 + 3 * (i / 5)) (i % 5))
  let e := (List.range 25).map (fun i => at' b (i % 5) (i / 5) ^^^ (~~~ (at' b (i % 5 + 1) (i / 5)) &&& at' b (i % 5 + 2) (i / 5)))
  match e with
  | [] => []
  | h :: l => (h ^^^ rc) :: l

/-- Keccak-f[1600]. -/
def keccakF (a : List (BitVec 64)) : List (BitVec 64) := keccakRC.foldl keccakRound a

/-- One block of `rate` bytes absorbed. -/
def keccakAbsorb (a : List (BitVec 64)) (blk : Bytes) : List (BitVec 64) :=
  let ws := (chunks 8 blk).map (fun w => BitVec.ofNat 64 (leToNat w))
  keccakF ((List.range 25).map (fun i => a.getD i 0 ^^^ ws.getD i 0))

/-- `n` blocks squeezed from a state. -/
def keccakSqueeze (rate : Nat) : Nat → List (BitVec 64) → Bytes
  | 0, _ => []
  | n + 1, a => (a.flatMap (fun w => natToLe 8 w.toNat)).take rate ++ keccakSqueeze rate n (keccakF a)

/-- The sponge with a rate in bytes, a domain suffix byte and an output length. -/
def keccakSponge (rate suffix outLen : Nat) (m : Bytes) : Bytes :=
  let padLen := rate - m.length % rate
  let pad := if padLen = 1 then [BitVec.ofNat 8 (suffix + 0x80)]
             else BitVec.ofNat 8 suffix :: zeros (padLen - 2) ++ [0x80#8]
  let a := (chunks rate (m ++ pad)).foldl keccakAbsorb (List.replicate 25 0#64)
  (keccakSqueeze rate (outLen / rate + 1) a).take outLen

/-- SHA3-256. -/
def sha3_256 (m : Bytes) : Bytes := keccakSponge 136 0x06 32 m
/-- SHA3-384. -/
def sha3_384 (m : Bytes) : Bytes := keccakSponge 104 0x06 48 m
/-- SHA3-512. -/
def sha3_512 (m : Bytes) : Bytes := keccakSponge 72 0x06 64 m
/-- SHAKE128 with `n` output bytes. -/
def shake128 (n : Nat) (m : Bytes) : Bytes := keccakSponge 168 0x1F n m
/-- SHAKE256 with `n` output bytes. -/
def shake256 (n : Nat) (m : Bytes) : Bytes := keccakSponge 136 0x1F n m

end Sys2Proof
end

