-- ==== Sys2Proof/Config.lean ====
section
/-! DEFINITION. The free values of the model: what the spec, or a standard that it names without giving its text, leaves
open. Each is an opaque constant, so no proof can see a value of it (log entry 2). -/

namespace Sys2Proof.Config

/-- A fresh value that the spec leaves open, drawn with the step's free counter (log entry 2). -/
opaque freeValue : Nat → BitVec 64

/-- The number that a record gives a cause whose values are not given: event code and the model's index of the cause. -/
opaque causeNumber : Nat → Nat → Nat

/-- A fresh byte string of a given length that the spec leaves open. -/
opaque freeBytes : Nat → Nat → List (BitVec 8)

/-- The bytes that follow a window in the input of a seed: the encoding of source number and seed counter is not
given (R298). -/
opaque seedSuffix : Nat → Nat → List (BitVec 8)

/-- The personalisation string of a DRBG instance: the encoding of unit identifier and instance number is not given
(R299). -/
opaque drbgPersonal : Nat → Nat → List (BitVec 8)

/-- The source-master field of an event of a block that R412 and R425 give no identifier: 0 Proofer, 1 tables,
2 time base, 3 entropy block, 4 link layer, 5 host interface, 6 hash and MAU, 7 the health counts and core resets, 8 the error reports
of the SRAM arrays. -/
opaque blockSource : Nat → Nat

/-- The number that names a signing key in an event's argument (R186). -/
opaque keyNumber : Nat → Nat

/-- An XMSS or XMSS^MT signature: parameter set (0 XMSSMT-SHAKE_40/2_256, 1 XMSS-SHAKE_20_256), seeds, leaf and message (R182; the
standard's text is outside the spec). -/
opaque xmssSign : Nat → List (BitVec 8) → Nat → List (BitVec 8) → List (BitVec 8)

/-- Whether an XMSS or XMSS^MT signature is that of a public key over a message (R182). -/
opaque xmssVerify : List (BitVec 8) → List (BitVec 8) → List (BitVec 8) → Bool

/-- The region that Scale's firmware commits in its own MPU at a start, by seal generation (0 for ROM firmware) and region number: staged
BASE and LIMIT, and ATTR; the firmware is Ahnile's (R412, R443). -/
opaque scaleRegion : Nat → Nat → Nat × Nat × BitVec 64

/-- The lag autocorrelation of a window as ENT_SRC_CORR reads it: the estimator is not given (R297). -/
opaque windowRho : Nat → List (BitVec 8) → Nat

/-- The cumulative receive credits that a port advertises, by port and packets received: the sizes of its receive
buffers are not given (R310). -/
opaque creditAdvert : Nat → Nat → Nat

/-- The number that LINK_READ_FAILED gives a master group: 0 Proofer, 1 cores, 2 store, 3 S0 here; the numbers in the
record are not given (R330). -/
opaque groupNumber : Nat → Nat

/-- The 64-byte line of the code area at which an image's code starts, by core and image: the allocation is not given
(R77, R115). -/
opaque codeLine : Nat → Nat → Nat

/-- The 64-byte line of shared memory at which an image's constants start, by cluster and image (R77, CONSTBASE). -/
opaque constLine : Nat → Nat → Nat

/-- The 64-byte line of the runtime area that takes a descriptor image (R104). -/
opaque descPlace : Nat

/-- The address in the runtime area at which a core enters K: the runtime is Ahnile firmware (R75). -/
opaque runtimeEntry : Nat

/-- The runtime word that holds the exception cause, and the one that holds the faulting address, counted from 0x20:
their numbers are not given (R94). -/
opaque causeWord : Nat

/-- The value of the exception-cause word that names an engine fault: 0 CTR_WRAP, 1 CCM_LENGTH (R158). -/
opaque engineCause : Nat → Nat

/-- The runtime word of the faulting address (R94). -/
opaque faultWord : Nat

/-- The digits of a random PIN from the bytes drawn: the method is not given (R142). -/
opaque pinDigits : List (BitVec 8) → Nat → List Nat

/-- The length field of the first CCM block where the declared payload length does not fit in it: payload length and
bytes of the field (R155 states no encoding). -/
opaque ccmLength : Nat → Nat → List (BitVec 8)

/-- The encapsulation key of an ML-KEM key, by parameter set (6: 768, 7: 1024, as R178 numbers them) and 64-byte seed
(FIPS 203 is outside the spec). -/
opaque mlkemPublic : Nat → List (BitVec 8) → List (BitVec 8)

/-- Whether an encapsulation key passes the check of FIPS 203 (R171). -/
opaque mlkemKeyOk : Nat → List (BitVec 8) → Bool

/-- Shared secret and ciphertext of an encapsulation: parameter set, key, 32 random bytes. -/
opaque mlkemEncaps : Nat → List (BitVec 8) → List (BitVec 8) → List (BitVec 8) × List (BitVec 8)

/-- Shared secret of a decapsulation, the implicit-rejection key included: parameter set, seed, ciphertext. -/
opaque mlkemDecaps : Nat → List (BitVec 8) → List (BitVec 8) → List (BitVec 8)

/-- The public key of an ML-DSA key, by parameter set (8: 65, 9: 87) and 32-byte seed (FIPS 204 is outside the spec). -/
opaque mldsaPublic : Nat → List (BitVec 8) → List (BitVec 8)

/-- A hedged ML-DSA signature: parameter set, seed, 32 random bytes, message. -/
opaque mldsaSign : Nat → List (BitVec 8) → List (BitVec 8) → List (BitVec 8) → List (BitVec 8)

/-- Whether an ML-DSA signature verifies: parameter set, public key, message, signature. -/
opaque mldsaVerify : Nat → List (BitVec 8) → List (BitVec 8) → List (BitVec 8) → Bool

/-- The two primes of an RSA key of a modulus length in bits, from random bytes (FIPS 186-5 is outside the spec). -/
opaque rsaPrimes : Nat → List (BitVec 8) → Nat × Nat

/-- A curve scalar from random bytes: algorithm (2 to 4) and bytes (FIPS 186-5). -/
opaque curveScalar : Nat → List (BitVec 8) → Nat

/-- The public key of an XMSS or XMSS^MT key: parameter set and seeds; 68 bytes (R182). -/
opaque xmssPublic : Nat → List (BitVec 8) → List (BitVec 8)

/-- Whether an XMSS signature verifies under the key that a digest names: digest, message, signature. A Scale package
carries no public key (R451). -/
opaque xmssVerifyDigest : List (BitVec 8) → List (BitVec 8) → List (BitVec 8) → Bool

/-- Ahnile's program-signing key, 68 bytes: where the unit holds it is not given (R111). -/
opaque ahnileProgramKey : List (BitVec 8)

/-- The statement that SCALE_KEY returns before its signature: unit identifier, seal generation, firmware digest, key; its
layout is not given (R449). -/
opaque scaleKeyStatement : Nat → Nat → List (BitVec 8) → List (BitVec 8) → List (BitVec 8)

/-- Digest of Scale's ROM firmware (R452). -/
opaque scaleRomDigest : List (BitVec 8)

/-- What S1 writes when it creates a tenant: TBL_KH_BASE, and LIMIT and RBASE of TBL_KH_CFG; the allocation is not given
(R235). -/
opaque handleBase : Nat → Nat

/-- LIMIT of a created tenant (R234, R235). -/
opaque handleTop : Nat → Nat

/-- RBASE of a created tenant (R235). -/
opaque routeBase : Nat → Nat

/-- The set of a key-cache entry: hash key, tenant, handle (R236). -/
opaque cacheSet : Nat → Nat → Nat → Nat

/-- The bucket of a terminal: salt, tenant, identifier (R246). -/
opaque termBucket : Nat → Nat → Nat → Nat

/-- The 64 bytes that a spilled entry fills at a place of the spill area (R70): entry and place. -/
opaque spillImage : Nat → Nat → List (BitVec 8)

/-- The first data line that the Proofer uses for flow contexts (R51). -/
opaque flowBase : Nat

/-- The first data line that S0 gives to program images (R115). -/
opaque imageBase : Nat

/-- The home line of a terminal in the spill table, before the reduction by its lines (R251). -/
opaque spillHome : Nat → Nat → Nat → Nat

/-- Whether both candidate buckets of a hash prefix are full: the hash prefixes held, then the tenant and digits of the new
one (R244). -/
opaque sieveFull : List (Nat × List Nat) → Nat → List Nat → Bool

/-- The next overflow line of a spill chain: home line and place in the chain (R251). -/
opaque spillNext : Nat → Nat → Nat

/-- The 4 KiB block that a Sieve entry or a tenant's key-handle registers lie in: 0 prefix, 1 registers; tenant; digits
(R255). -/
opaque tableBlock : Nat → Nat → List Nat → Nat

/-- Blocks of the walk of the background compare (R255). -/
opaque tableBlocks : Nat

/-- The area that an OTP word belongs to, as the places are not given: 1 reset map, stage gaps and power cap; 2 and 3 the low
and the high half of the rollback thermometer; 4 key digests, root key hash and unit identifier; else no use (R398, R399). -/
opaque otpArea : Nat → Nat

/-- A fuse value by number as the words of its area hold it: 0 reset map, 1 to 9 the gaps of stages 0 to 8, 10 power cap. -/
opaque otpFuse : Nat → List (Nat × Nat) → Nat

/-- A digest by number as the words of its area hold it: 0 to 2 key slots, 3 root key hash. -/
opaque otpDigest : Nat → List (Nat × Nat) → List (BitVec 8)

/-- The first OTP word of a key slot (R401). -/
opaque otpKeyWord : Nat → Nat

/-- The manufacturer's number in IDCODE (IEEE 1149.1). -/
opaque jtagMaker : Nat

end Sys2Proof.Config
end

