-- ==== Sys2Proof/Machine/Codes.lean ====
section
/-! DEFINITION. The closed code lists of the spec: completion statuses (R493), mailbox results (R496), event codes with
their severities and tenant marks (R497). -/

namespace Sys2Proof

/-- The completion status codes that the device writes (R493). -/
inductive Status where
  /-- Ended by TRAP 0 with CSTATUS OK, or a control descriptor done -/
  | ok
  /-- Reached by a cancel before or at dispatch, or acknowledged by TRAP 2 -/
  | cancelled
  /-- Deadline reached before dispatch -/
  | deadlineMissed
  /-- Keys, terminal context or segments not present in time -/
  | operandTimeout
  /-- Removed after an earlier member failed under SOE -/
  | flowAborted
  /-- Failed a fetch check or segment rule -/
  | descriptorInvalid
  /-- Handle names no record -/
  | keyNotFound
  /-- Usage, mode, tenant or algorithm refused -/
  | keyUsage
  /-- Bound key outside its window -/
  | keyExpired
  /-- Record or key block failed its MAC or format -/
  | keyBlockIntegrity
  /-- Routed handle unresolved -/
  | noRoute
  /-- Profile names another program -/
  | routeProgram
  /-- A needed line or node is poisoned -/
  | storeIntegrity
  /-- The store is not OPEN -/
  | storeLost
  /-- A time condition or window met untrusted time -/
  | timeUntrusted
  /-- No seed within the operand time-out -/
  | entropyUnavailable
  /-- Tag check failed -/
  | authFail
  /-- Terminal counter not newer -/
  | replay
  /-- Program exception, TRAP 1 or engine fault -/
  | programFault
  /-- Access or DMA refused -/
  | accessViolation
  /-- Cycle budget exhausted -/
  | programBudget
  /-- Ended by a tenant reset -/
  | tenantReset
  /-- Ring reset, link abort or cluster block reset -/
  | aborted
  /-- Refused under AUDIT policy 2 -/
  | auditUnavailable
  /-- The unit has no service -/
  | notActive
  /-- A twin, residue, lockstep, ECC or unit check failed -/
  | internalCheck
deriving DecidableEq, Repr

/-- The 16-bit code of a completion status (R493). -/
def Status.code : Status → Nat
  | .ok => 0x0000
  | .cancelled => 0x0001
  | .deadlineMissed => 0x0002
  | .operandTimeout => 0x0003
  | .flowAborted => 0x0004
  | .descriptorInvalid => 0x0005
  | .keyNotFound => 0x0010
  | .keyUsage => 0x0011
  | .keyExpired => 0x0012
  | .keyBlockIntegrity => 0x0013
  | .noRoute => 0x0014
  | .routeProgram => 0x0015
  | .storeIntegrity => 0x0020
  | .storeLost => 0x0021
  | .timeUntrusted => 0x0030
  | .entropyUnavailable => 0x0031
  | .authFail => 0x0040
  | .replay => 0x0041
  | .programFault => 0x0050
  | .accessViolation => 0x0051
  | .programBudget => 0x0052
  | .tenantReset => 0x0060
  | .aborted => 0x0061
  | .auditUnavailable => 0x0070
  | .notActive => 0x0090
  | .internalCheck => 0x00F0

/-- The mailbox results (R496). -/
inductive MbResult where
  | ok
  | badFormat
  | badChallenge
  | timeUntrusted
  | outsideWindow
  | badSigner
  | badSignature
  | notAuthorised
  | busy
  | notEmpty
  | inUse
  | currentGen
  | lastOfficers
  | componentKcv
  | resultKcv
  | weakKey
  | handleInUse
  | notFound
  | kindMismatch
  | blockIntegrity
  | blockFormat
  | notExportable
  | abandoned
  | wrongState
  | notActive
  | unknownOp
  | scope
  | resetting
  | programRefused
  | auditUnavailable
  | noTenant
  | dmaError
  | tableFull
  | storeState
  | notDurable
  | extentInvalid
  | imageInvalid
  | cutPending
  | pairIdentity
  | pwrHoldLow
  | lcBackward
  | scaleRefused
deriving DecidableEq, Repr

/-- The 16-bit code of a mailbox result (R496). -/
def MbResult.code : MbResult → Nat
  | .ok => 0x0000
  | .badFormat => 0x0001
  | .badChallenge => 0x0002
  | .timeUntrusted => 0x0003
  | .outsideWindow => 0x0004
  | .badSigner => 0x0005
  | .badSignature => 0x0006
  | .notAuthorised => 0x0007
  | .busy => 0x0008
  | .notEmpty => 0x0009
  | .inUse => 0x000A
  | .currentGen => 0x000B
  | .lastOfficers => 0x000C
  | .componentKcv => 0x000D
  | .resultKcv => 0x000E
  | .weakKey => 0x000F
  | .handleInUse => 0x0010
  | .notFound => 0x0011
  | .kindMismatch => 0x0012
  | .blockIntegrity => 0x0013
  | .blockFormat => 0x0014
  | .notExportable => 0x0015
  | .abandoned => 0x0016
  | .wrongState => 0x0017
  | .notActive => 0x0018
  | .unknownOp => 0x0020
  | .scope => 0x0021
  | .resetting => 0x0022
  | .programRefused => 0x0023
  | .auditUnavailable => 0x0024
  | .noTenant => 0x0025
  | .dmaError => 0x0026
  | .tableFull => 0x0027
  | .storeState => 0x0028
  | .notDurable => 0x0029
  | .extentInvalid => 0x002A
  | .imageInvalid => 0x002B
  | .cutPending => 0x002C
  | .pairIdentity => 0x002D
  | .pwrHoldLow => 0x002E
  | .lcBackward => 0x002F
  | .scaleRefused => 0x0030

/-- The event codes that the recorder writes (R497). -/
inductive Ev where
  | programLoaded
  | programLoadRefused
  | programUnloaded
  | programException
  | coreReset
  | engineKatPassed
  | engineKatFailed
  | mauCheckFailed
  | hashCheckFailed
  | xmssBlockReserved
  | xmssIndexLow
  | xmssExhausted
  | xmssSlotInvalid
  | mauImageRefused
  | thermalWarning
  | powerCapChanged
  | resetRecorded
  | clockLoss
  | bootImageRejected
  | svnAdvanced
  | blockReset
  | bootBackoff
  | guardWarning
  | tamperTrip
  | zeroiseVerifyFail
  | guardPorLost
  | lcTransitionStarted
  | lcTransitionDone
  | lcTransitionRefused
  | lcWipeRepeated
  | debugSession
  | debugDenied
  | otpProgrammed
  | pairKeyEstablished
  | pairGaveUp
  | pairTakeover
  | pairContention
  | partnerLost
  | pairDesync
  | epochDiscarded
  | seedStarted
  | seedDone
  | linkUp
  | linkRecovery
  | linkDown
  | ringFailover
  | linkDegraded
  | linkReadFailed
  | hostAccessInvalid
  | spillStarted
  | spillEnded
  | spillAreaFull
  | quotaPause
  | flowStopped
  | operandTimeout
  | doorbellDropped
  | doorbellInvalid
  | cqHeadInvalid
  | keyCacheEcc
  | tableBlockMismatch
  | terminalBucketPoisoned
  | terminalMoved
  | spillChainOverflow
  | terminalLearnSoft
  | storeFormatted
  | storeOpened
  | checkpointCut
  | checkpointDurable
  | storeLinePoisoned
  | storeFatal
  | rekeyStarted
  | rekeyDone
  | timeTrusted
  | timeHoldover
  | timeUntrusted
  | timePulseRejected
  | timePairMismatch
  | wallTimeSet
  | timeRestarted
  | entFirstSeed
  | entWindowFailed
  | entStarved
  | entRecovered
  | entKatFailed
  | entTestPattern
  | commissioned
  | credentialChanged
  | ceremonyAccepted
  | ceremonyRefused
  | ceremonyAbandoned
  | masterKeyLoaded
  | generationRetired
  | authStateEntered
  | authStateEnded
  | keyExported
  | keyRecordIntegrity
  | generationMigrated
  | cspSession
  | tenantCreated
  | tenantUpdated
  | tenantDeleted
  | tenantPolicySet
  | tenantResetStarted
  | tenantResetDone
  | mpuViolation
  | dmaWindowSet
  | ringAreaRefused
  | seal
  | suppressed
  | lost
  | clear
  | recorderMediaFault
  | auditLost
  | auditRestored
  | powerFailFlush
  | archiveBlocked
  | sramCorrected
  | sramUncorrectable
  | coreCheckFailed
  | lockstepMismatch
  | clusterTestPassed
  | clusterTestFailed
  | clusterRetired
  | clusterReturned
  | clusterTestSkipped
  | linkRecalibrated
  | lanePattern
  | scaleStatement
  | scaleUpdated
  | scaleUpdateRefused
  | scaleIndexLow
  | scaleExhausted
  | scaleImageInvalid
  | scaleFault
  | scaleKeyNew
  | scalePersistFault
deriving DecidableEq, Repr

/-- The 12-bit code of an event (R497). -/
def Ev.code : Ev → Nat
  | .programLoaded => 0x010
  | .programLoadRefused => 0x011
  | .programUnloaded => 0x012
  | .programException => 0x013
  | .coreReset => 0x014
  | .engineKatPassed => 0x020
  | .engineKatFailed => 0x021
  | .mauCheckFailed => 0x030
  | .hashCheckFailed => 0x031
  | .xmssBlockReserved => 0x032
  | .xmssIndexLow => 0x033
  | .xmssExhausted => 0x034
  | .xmssSlotInvalid => 0x035
  | .mauImageRefused => 0x036
  | .thermalWarning => 0x040
  | .powerCapChanged => 0x041
  | .resetRecorded => 0x101
  | .clockLoss => 0x102
  | .bootImageRejected => 0x103
  | .svnAdvanced => 0x104
  | .blockReset => 0x105
  | .bootBackoff => 0x106
  | .guardWarning => 0x201
  | .tamperTrip => 0x202
  | .zeroiseVerifyFail => 0x203
  | .guardPorLost => 0x204
  | .lcTransitionStarted => 0x301
  | .lcTransitionDone => 0x302
  | .lcTransitionRefused => 0x303
  | .lcWipeRepeated => 0x304
  | .debugSession => 0x305
  | .debugDenied => 0x306
  | .otpProgrammed => 0x307
  | .pairKeyEstablished => 0x401
  | .pairGaveUp => 0x402
  | .pairTakeover => 0x403
  | .pairContention => 0x404
  | .partnerLost => 0x405
  | .pairDesync => 0x406
  | .epochDiscarded => 0x407
  | .seedStarted => 0x408
  | .seedDone => 0x409
  | .linkUp => 0x501
  | .linkRecovery => 0x502
  | .linkDown => 0x503
  | .ringFailover => 0x504
  | .linkDegraded => 0x505
  | .linkReadFailed => 0x506
  | .hostAccessInvalid => 0x507
  | .spillStarted => 0x601
  | .spillEnded => 0x602
  | .spillAreaFull => 0x603
  | .quotaPause => 0x604
  | .flowStopped => 0x605
  | .operandTimeout => 0x606
  | .doorbellDropped => 0x6E0
  | .doorbellInvalid => 0x6E1
  | .cqHeadInvalid => 0x6E2
  | .keyCacheEcc => 0x701
  | .tableBlockMismatch => 0x702
  | .terminalBucketPoisoned => 0x703
  | .terminalMoved => 0x704
  | .spillChainOverflow => 0x705
  | .terminalLearnSoft => 0x706
  | .storeFormatted => 0x801
  | .storeOpened => 0x802
  | .checkpointCut => 0x803
  | .checkpointDurable => 0x804
  | .storeLinePoisoned => 0x805
  | .storeFatal => 0x806
  | .rekeyStarted => 0x807
  | .rekeyDone => 0x808
  | .timeTrusted => 0x901
  | .timeHoldover => 0x902
  | .timeUntrusted => 0x903
  | .timePulseRejected => 0x904
  | .timePairMismatch => 0x905
  | .wallTimeSet => 0x906
  | .timeRestarted => 0x907
  | .entFirstSeed => 0xA01
  | .entWindowFailed => 0xA02
  | .entStarved => 0xA03
  | .entRecovered => 0xA04
  | .entKatFailed => 0xA05
  | .entTestPattern => 0xA06
  | .commissioned => 0xB01
  | .credentialChanged => 0xB02
  | .ceremonyAccepted => 0xB03
  | .ceremonyRefused => 0xB04
  | .ceremonyAbandoned => 0xB05
  | .masterKeyLoaded => 0xB06
  | .generationRetired => 0xB07
  | .authStateEntered => 0xB08
  | .authStateEnded => 0xB09
  | .keyExported => 0xB0A
  | .keyRecordIntegrity => 0xB0B
  | .generationMigrated => 0xB0C
  | .cspSession => 0xB0D
  | .tenantCreated => 0xC01
  | .tenantUpdated => 0xC02
  | .tenantDeleted => 0xC03
  | .tenantPolicySet => 0xC04
  | .tenantResetStarted => 0xC05
  | .tenantResetDone => 0xC06
  | .mpuViolation => 0xD01
  | .dmaWindowSet => 0xD02
  | .ringAreaRefused => 0xD03
  | .seal => 0xE01
  | .suppressed => 0xE02
  | .lost => 0xE03
  | .clear => 0xE04
  | .recorderMediaFault => 0xE05
  | .auditLost => 0xE06
  | .auditRestored => 0xE07
  | .powerFailFlush => 0xE08
  | .archiveBlocked => 0xE09
  | .sramCorrected => 0xE10
  | .sramUncorrectable => 0xE11
  | .coreCheckFailed => 0xE12
  | .lockstepMismatch => 0xE13
  | .clusterTestPassed => 0xE14
  | .clusterTestFailed => 0xE15
  | .clusterRetired => 0xE16
  | .clusterReturned => 0xE17
  | .clusterTestSkipped => 0xE18
  | .linkRecalibrated => 0xE19
  | .lanePattern => 0xE1A
  | .scaleStatement => 0xF01
  | .scaleUpdated => 0xF02
  | .scaleUpdateRefused => 0xF03
  | .scaleIndexLow => 0xF04
  | .scaleExhausted => 0xF05
  | .scaleImageInvalid => 0xF06
  | .scaleFault => 0xF07
  | .scaleKeyNew => 0xF08
  | .scalePersistFault => 0xF09

/-- The severities of R426. -/
inductive Severity where
  | notice | warning | error | critical
deriving DecidableEq, Repr

/-- The 4-bit value of a severity (R426). -/
def Severity.val : Severity → Nat
  | .notice => 1 | .warning => 2 | .error => 3 | .critical => 4

/-- The severity of an event (R497). -/
def Ev.severity : Ev → Severity
  | .programLoadRefused => .warning
  | .coreReset => .warning
  | .xmssIndexLow => .warning
  | .xmssSlotInvalid => .warning
  | .thermalWarning => .warning
  | .bootImageRejected => .warning
  | .bootBackoff => .warning
  | .guardWarning => .warning
  | .lcTransitionRefused => .warning
  | .lcWipeRepeated => .warning
  | .pairContention => .warning
  | .partnerLost => .warning
  | .epochDiscarded => .warning
  | .linkRecovery => .warning
  | .ringFailover => .warning
  | .linkDegraded => .warning
  | .linkReadFailed => .warning
  | .spillAreaFull => .warning
  | .operandTimeout => .warning
  | .doorbellInvalid => .warning
  | .cqHeadInvalid => .warning
  | .keyCacheEcc => .warning
  | .spillChainOverflow => .warning
  | .timeHoldover => .warning
  | .timePairMismatch => .warning
  | .entWindowFailed => .warning
  | .entTestPattern => .warning
  | .ceremonyRefused => .warning
  | .ceremonyAbandoned => .warning
  | .mpuViolation => .warning
  | .ringAreaRefused => .warning
  | .lost => .warning
  | .archiveBlocked => .warning
  | .clusterTestSkipped => .warning
  | .scaleUpdateRefused => .warning
  | .scaleIndexLow => .warning
  | .engineKatFailed => .error
  | .mauCheckFailed => .error
  | .hashCheckFailed => .error
  | .xmssExhausted => .error
  | .clockLoss => .error
  | .tamperTrip => .error
  | .zeroiseVerifyFail => .error
  | .guardPorLost => .error
  | .pairGaveUp => .error
  | .pairDesync => .error
  | .linkDown => .error
  | .tableBlockMismatch => .error
  | .terminalBucketPoisoned => .error
  | .storeLinePoisoned => .error
  | .storeFatal => .error
  | .timeUntrusted => .error
  | .entStarved => .error
  | .entKatFailed => .error
  | .keyRecordIntegrity => .error
  | .recorderMediaFault => .error
  | .sramUncorrectable => .error
  | .coreCheckFailed => .error
  | .clusterTestFailed => .error
  | .clusterRetired => .error
  | .scaleExhausted => .error
  | .scaleImageInvalid => .error
  | .scaleFault => .error
  | .scalePersistFault => .error
  | .auditLost => .critical
  | .lockstepMismatch => .critical
  | _ => .notice

/-- The mark t of R497: a tenant may read its own records of the code. -/
def Ev.tenantMark : Ev → Bool
  | .programException => true
  | .mauImageRefused => true
  | .ringFailover => true
  | .quotaPause => true
  | .flowStopped => true
  | .operandTimeout => true
  | .doorbellDropped => true
  | .doorbellInvalid => true
  | .cqHeadInvalid => true
  | .terminalMoved => true
  | .terminalLearnSoft => true
  | .credentialChanged => true
  | .ceremonyAccepted => true
  | .ceremonyRefused => true
  | .ceremonyAbandoned => true
  | .masterKeyLoaded => true
  | .generationRetired => true
  | .authStateEntered => true
  | .authStateEnded => true
  | .keyExported => true
  | .keyRecordIntegrity => true
  | .generationMigrated => true
  | .tenantResetStarted => true
  | .tenantResetDone => true
  | .mpuViolation => true
  | _ => false

/-- The codes marked t (R497). -/
def tenantMarkedCodes : List Nat :=
  [0x013, 0x036, 0x504, 0x604, 0x605, 0x606, 0x6E0, 0x6E1, 0x6E2, 0x704] ++
  [0x706, 0xB02, 0xB03, 0xB04, 0xB05, 0xB06, 0xB07, 0xB08, 0xB09, 0xB0A] ++
  [0xB0B, 0xB0C, 0xC05, 0xC06, 0xD01]

end Sys2Proof
end

