-- ==== Sys2Proof/Machine/Map.lean ====
section
/-! DEFINITION. Sparse tables of plain data: a list of key and value pairs in ONE canonical form, keys strictly rising
and no entry equal to what an unlisted key reads as. Every memory, register file and table of `State` is one of these,
so equal contents are equal data. -/

namespace Sys2Proof

/-- A table from numbers to values; an unlisted key reads as a default that each use names. -/
abbrev Table (α : Type) := List (Nat × α)

/-- The value at a key, `d` where the key is not listed. -/
def tabGet {α : Type} (d : α) : Table α → Nat → α
  | [], _ => d
  | (k, v) :: m, i => if k = i then v else tabGet d m i

/-- The table without a key. -/
def tabErase {α : Type} : Table α → Nat → Table α
  | [], _ => []
  | (k, v) :: m, i => if k = i then tabErase m i else (k, v) :: tabErase m i

/-- The table with an entry put before the first greater key. -/
def tabInsert {α : Type} : Table α → Nat → α → Table α
  | [], i, v => [(i, v)]
  | (k, w) :: m, i, v => if i < k then (i, v) :: (k, w) :: m else (k, w) :: tabInsert m i v

/-- The table with one key set; writing the default removes the entry. -/
def tabSet {α : Type} [DecidableEq α] (d : α) (m : Table α) (i : Nat) (v : α) : Table α :=
  if v = d then tabErase m i else tabInsert (tabErase m i) i v

/-- Whether every key of a table is above `lo` and the rest of the canonical form holds. -/
def tabWfFrom {α : Type} [DecidableEq α] (d : α) : Nat → Table α → Bool
  | _, [] => true
  | lo, (k, v) :: m => decide (lo ≤ k) && decide (v ≠ d) && tabWfFrom d (k + 1) m

/-- The canonical form: keys strictly rising, no entry equal to the default. -/
def tabWf {α : Type} [DecidableEq α] (d : α) (m : Table α) : Bool := tabWfFrom d 0 m

/-- The table with the value at one key replaced by a function of it. -/
def tabMod {α : Type} [DecidableEq α] (d : α) (m : Table α) (i : Nat) (f : α → α) : Table α :=
  tabSet d m i (f (tabGet d m i))

/-- The table with the entries whose key satisfies `p` removed (they read as the default again). -/
def tabDrop {α : Type} (p : Nat → Bool) (m : Table α) : Table α := m.filter (fun e => !p e.1)

/-- Every listed value replaced by a function of its key and itself; a value that becomes the default is listed no more. -/
def tabMap {α : Type} [DecidableEq α] (d : α) (f : Nat → α → α) (m : Table α) : Table α :=
  (m.map (fun (e : Nat × α) => (e.1, f e.1 e.2))).filter (fun e => decide (e.2 ≠ d))

/-- A memory: a table of bytes in which an unlisted address reads as 0 (see the assumption log). -/
abbrev Memory := List (Nat × BitVec 8)

/-- What an unlisted address of a memory reads as (DESIGN CHOICE, log entry 3). -/
def memDefault : Byte := 0#8

/-- One byte of a memory. -/
def memByte (m : Memory) (a : Nat) : Byte := tabGet memDefault m a

/-- `n` bytes of a memory from `a` up. -/
def memRead (m : Memory) (a : Nat) : Nat → Bytes
  | 0 => []
  | n + 1 => memByte m a :: memRead m (a + 1) n

/-- Bytes stored from `a` up. -/
def memWrite (m : Memory) (a : Nat) : Bytes → Memory
  | [] => m
  | b :: bs => memWrite (tabSet memDefault m a b) (a + 1) bs

/-- `n` bytes from `a` up written with 0. -/
def memZero (m : Memory) (a n : Nat) : Memory := tabDrop (fun k => decide (a ≤ k) && decide (k < a + n)) m

/-- The canonical form of a memory. -/
abbrev memWf (m : Memory) : Bool := tabWf memDefault m

end Sys2Proof
end

