-- ==== Sys2Proof/Machine/HostTypes.lean ====
section
/-! DEFINITION. State of the host command interface (chapter 2): rings, interrupt vectors; and of the link ports
(chapter 13): packets, reads, ports. -/

namespace Sys2Proof.Machine

/-- A descriptor read of a ring in progress (R49). -/
structure FetchRead where
  /-- slots still expected -/ slots : Nat
  /-- the bytes that have arrived, once the read has ended well -/ data : Option Bytes
  /-- the read has been issued a second time (R319) -/ again : Bool
deriving DecidableEq, Repr

/-- A submission ring (R22, R24, DW_SQ_ registers). -/
structure Sq where
  /-- fetch counter -/ head : Nat
  /-- the tail counter last accepted, T of R27 -/ tail : Nat
  /-- ERROR -/ error : Bool
  /-- HELD -/ held : Bool
  /-- ON_ALT -/ onAlt : Bool
  /-- ENABLE -/ enable : Bool
  /-- a ring reset runs (R28) -/ resetting : Bool
  /-- BASE, host address bits [63:12] -/ base : Nat
  /-- CQ -/ cq : Nat
  /-- FMT: a D2 ring -/ d2 : Bool
  /-- LOG2SIZE -/ log2 : Nat
  /-- PORT -/ port : Nat
  /-- ALT_PORT -/ altPort : Nat
  /-- ALT_VALID -/ altValid : Bool
  /-- the descriptor read outstanding (R49) -/ fetch : Option FetchRead
  /-- a base descriptor that waits for its extension -/ carry : Option Bytes
  /-- the open message: the entry of its first segment (R43) -/ openMsg : Option Nat
deriving DecidableEq, Repr

/-- A submission ring at its reset values (DW_SQ_ tables). -/
def Sq.reset : Sq where
  head := 0
  tail := 0
  error := false
  held := false
  onAlt := false
  enable := false
  resetting := false
  base := 0
  cq := 0
  d2 := false
  log2 := 4
  port := 0
  altPort := 0
  altValid := false
  fetch := none
  carry := none
  openMsg := none

/-- A completion ring (R23, R24, DW_CQ_ registers). -/
structure Cq where
  /-- HEAD -/ head : Nat
  /-- TAIL -/ tail : Nat
  /-- PHASE of the next entry -/ phase : Bool
  /-- BASE -/ base : Nat
  /-- ENABLE -/ enable : Bool
  /-- VECTOR -/ vector : Nat
  /-- LOG2SIZE -/ log2 : Nat
  /-- bound port (R23, R219) -/ port : Nat
  /-- alternate port -/ altPort : Nat
  /-- an alternate is bound -/ altValid : Bool
  /-- running on its alternate (R324) -/ onAlt : Bool
deriving DecidableEq, Repr

/-- A completion ring at its reset values. -/
def Cq.reset : Cq := ⟨0, 0, true, 0, false, 0, 4, 0, 0, false, false⟩

/-- An entry that a vector counts (R44, R320). -/
structure Counted where
  /-- port that carried it -/ port : Nat
  /-- its packet -/ pkt : Nat
  /-- submission ring of its command; none for a mailbox response -/ ring : Option Nat
deriving DecidableEq, Repr

/-- An interrupt vector (R44, DW_IV_ registers). -/
structure Iv where
  /-- ADDR, host address bits [63:2] -/ addr : Nat
  /-- TIMER -/ timer : Nat
  /-- COUNT -/ count : Nat
  /-- PENDING -/ pending : Bool
  /-- MASK -/ mask : Bool
  /-- ENABLE -/ enable : Bool
  /-- DATA -/ data : Nat
  /-- pending count P -/ p : Nat
  /-- first-pending time T0 -/ t0 : Nat
  /-- the counted entries, oldest first (R320) -/ counted : List Counted
  /-- the port whose MPU refused the message, not to be tried on it before a region of that MPU commits (R421) -/
  refused : Option Nat
deriving DecidableEq, Repr

/-- An interrupt vector at its reset values. -/
def Iv.reset : Iv := ⟨0, 0, 1, false, false, false, 0, 0, 0, [], none⟩

/-- Kinds of packet (R309). -/
inductive PktKind where
  | mrd | mwr | cpl | msg | mgt
deriving DecidableEq, Repr

/-- Which traffic a packet or a read belongs to: a ring's commands, the sealed store, the mailbox and boot traffic of
S0, or the answer to the host. -/
inductive Owner where
  /-- ring `q` of a tenant, and the command entry (0: none) -/
  | ring (tenant q entry : Nat)
  /-- sealed-store engine -/
  | store
  /-- supervisor pair S0 -/
  | s0
  /-- answers to the host and management packets -/
  | none
deriving DecidableEq, Repr

/-- The master that a read serves, and where its bytes go (R317). -/
inductive ReadFor where
  /-- descriptors of a ring -/
  | descriptors (tenant q : Nat)
  /-- a core's transfer, by its number, and the offset of this part in it -/
  | transfer (core xfer off : Nat)
  /-- a sealed-store line: an opaque number of the request -/
  | storeLine (n : Nat)
  /-- a mailbox request, by slot, and the offset of this part in it -/
  | mailbox (slot off : Nat)
  /-- the boot image: the offset of this part in it -/
  | boot (off : Nat)
deriving DecidableEq, Repr

/-- A packet of a port (R309); the CRC follows from it. -/
structure Pkt where
  /-- the model's own number of the packet -/ id : Nat
  /-- SEQ; 0 until it is sent -/ seq : Nat
  /-- KIND -/ kind : PktKind
  /-- RO -/ ro : Bool
  /-- TAG -/ tag : Nat
  /-- LEN -/ len : Nat
  /-- CST -/ cst : Nat
  /-- LAST -/ last : Bool
  /-- SUB -/ sub : Nat
  /-- ADDR -/ addr : Nat
  /-- payload -/ data : Bytes
  /-- whose traffic it is -/ owner : Owner
  /-- for a read: what it serves -/ rd : Option ReadFor
deriving DecidableEq, Repr

/-- A read outstanding at a port (R317). -/
structure Read where
  /-- TAG -/ tag : Nat
  /-- whom it serves -/ use : ReadFor
  /-- host address -/ addr : Nat
  /-- bytes asked for -/ len : Nat
  /-- bytes arrived so far, in address order (R315) -/ got : Bytes
  /-- the packet that asked -/ pkt : Nat
  /-- whose traffic it is -/ owner : Owner
  /-- device time of its issue -/ start : Nat
deriving DecidableEq, Repr

/-- Port states (R307). -/
inductive PortState where
  | disabled | detect | config | eq | active | recovery
deriving DecidableEq, Repr

/-- The value of LNKn_STAT.STATE. -/
def PortState.val : PortState → Nat
  | .disabled => 0 | .detect => 1 | .config => 2 | .eq => 3 | .active => 4 | .recovery => 5

/-- A completion entry that the Proofer has handed to a port and that waits for its HPUT packets (R322). -/
structure CplEntry where
  /-- tenant -/ tenant : Nat
  /-- submission ring of the command -/ ring : Nat
  /-- completion ring -/ cq : Nat
  /-- slot counter in the completion ring -/ slot : Nat
  /-- the command's entry -/ entry : Nat
  /-- the 32 bytes -/ bytes : Bytes
  /-- counts towards the vector -/ notify : Bool
  /-- refused by the port's MPU, and not to be tried before a region of it commits (R421) -/ refused : Bool
deriving DecidableEq, Repr

/-- A link port (chapter 13). -/
structure Port where
  /-- training state -/ st : PortState
  /-- generation in use, 0 when not ACTIVE -/ gen : Nat
  /-- width in use, coded as MAXWIDTH -/ width : Nat
  /-- target generation of EQ -/ target : Nat
  /-- generation and width held when it was last ACTIVE -/ prev : Option (Nat × Nat)
  /-- next SEQ to send (R311) -/ txSeq : Nat
  /-- next SEQ expected (R311) -/ rxSeq : Nat
  /-- sent and not acknowledged packets, oldest first (R311) -/ retry : List Pkt
  /-- packets that answer host reads (R318) -/ answers : List Pkt
  /-- waiting packets of the Proofer -/ qPrf : List Pkt
  /-- waiting packets of the cores -/ qCore : List Pkt
  /-- waiting packets of the sealed-store engine -/ qStore : List Pkt
  /-- waiting packets of S0 -/ qS0 : List Pkt
  /-- round-robin pointer over the four groups (R318) -/ rr : Nat
  /-- completion entries that wait for their HPUT packets (R322) -/ entries : List CplEntry
  /-- reads outstanding (R317) -/ reads : List Read
  /-- partner's cumulative credits: posted, non-posted, completion, in 64-byte units modulo 2^16 (R310) -/
  credits : Nat × Nat × Nat
  /-- credits used, counted in the same way -/ used : Nat × Nat × Nat
  /-- credits given to the partner: posted and non-posted, cumulative -/ given : Nat × Nat
  /-- replays in a row without an ACK advancing (R314) -/ replays : Nat
  /-- device time at which it left ACTIVE -/ leftAt : Nat
  /-- trigger with which it left ACTIVE (R330) -/ trigger : Nat
  /-- between its own two SEQ_RESETs of an L2 reset (R312) -/ quiet : Bool
  /-- waits for the partner's SEQ_RESET (R312) -/ awaitPeer : Bool
  /-- replayed packets of moved rings that must be acknowledged first: the implied fence (R324) -/ fence : List Nat
  /-- packets of moved traffic that wait behind the fence -/ fenced : List Pkt
  /-- device times of uncorrectable flits in the last millisecond (R314) -/ flits : List Nat
  /-- every packet that the port has sent, oldest first: the model's record of its output (log entry 5) -/ sent : List Pkt
deriving DecidableEq, Repr

/-- A port right after reset: training not begun, sequence numbers from 1 (R307, R311). -/
def Port.reset : Port where
  st := .disabled
  gen := 0
  width := 0
  target := 0
  prev := none
  txSeq := 1
  rxSeq := 1
  retry := []
  answers := []
  qPrf := []
  qCore := []
  qStore := []
  qS0 := []
  rr := 0
  entries := []
  reads := []
  credits := (0, 0, 0)
  used := (0, 0, 0)
  given := (0, 0)
  replays := 0
  leftAt := 0
  trigger := 0
  quiet := false
  awaitPeer := false
  fence := []
  fenced := []
  flits := []
  sent := []

/-- A reset-done message that its port's MPU refused: it is tried again at each region commit of that MPU (R229, R421). -/
structure DoneMsg where
  /-- tenant -/ tenant : Nat
  /-- port -/ port : Nat
  /-- latched ADDR -/ addr : Nat
  /-- latched DATA -/ data : Nat
deriving DecidableEq, Repr

/-- The rings and vectors of all tenants, and the ports. -/
structure HostSide where
  /-- submission ring q of tenant t at 16 t + q -/ sq : Table Sq
  /-- completion rings -/ cq : Table Cq
  /-- interrupt vectors -/ iv : Table Iv
  /-- the four ports -/ port : Table Port
  /-- number of the next packet -/ nextPkt : Nat
  /-- refused reset-done messages, oldest first -/ msgs : List DoneMsg
deriving DecidableEq, Repr

/-- Rings, vectors and ports right after reset. -/
def HostSide.reset : HostSide := ⟨[], [], [], [], 1, []⟩

end Sys2Proof.Machine
end

