-- ==== Sys2Proof/Machine/KeyTypes.lean ====
section
/-! DEFINITION. State of the key hierarchy, of the ceremonies, of the custodian serial port (chapter 8), and of tenants and
the management mailbox (chapter 9). -/

namespace Sys2Proof.Machine

/-- A master key in its slot (R191). -/
structure MasterKey where
  /-- kind: 0 V, 1 B, 2 D -/ kind : Nat
  /-- the key, 24 or 32 bytes -/ key : Bytes
deriving DecidableEq, Repr

/-- A registry entry (R203); the guard bridge's MAC over it follows from the root key. -/
structure Credential where
  /-- identifier -/ id : Nat
  /-- roles, a mask -/ roles : Nat
  /-- algorithm: 1 ECDSA P-384, 2 ML-DSA-65 -/ alg : Nat
  /-- SHAKE256 digest of the public key -/ digest : Bytes
  /-- registration time -/ time : Nat
deriving DecidableEq, Repr

/-- An outstanding challenge (R202). -/
structure Challenge where
  /-- its 32 bytes -/ value : Bytes
  /-- device time at which it ends: CHAL_LIFE after its issue -/ until_ : Nat
deriving DecidableEq, Repr

/-- A component accepted in an open ceremony (R211). -/
structure Component where
  /-- index, 1 to m -/ index : Nat
  /-- submitter -/ submitter : Nat
  /-- the component -/ value : Bytes
deriving DecidableEq, Repr

/-- An open LOAD_MASTER_KEY ceremony with its staging buffer (R209, R210). -/
structure OpenLoad where
  /-- tenant -/ tenant : Nat
  /-- slot -/ slot : Nat
  /-- kind -/ kind : Nat
  /-- component count m -/ count : Nat
  /-- MAKE_CURRENT -/ current : Bool
  /-- expected check value; zeros for none -/ expect : Bytes
  /-- SHAKE256 digest of the ceremony body -/ digest : Bytes
  /-- signers -/ signers : Nat × Nat
  /-- NOT_AFTER -/ notAfter : Nat
  /-- accepted components -/ parts : List Component
  /-- arrived in the custodian session that is open -/ csp : Bool
deriving DecidableEq, Repr

/-- A device policy (R207). -/
structure DevPolicy where
  /-- CHAL_LIFE, s -/ chalLife : Nat
  /-- MAX_WIN, s -/ maxWin : Nat
  /-- MAX_AUTH, s -/ maxAuth : Nat
  /-- CSP_EN -/ cspEn : Bool
deriving DecidableEq, Repr

/-- The tenant policies of R225. -/
structure Policy where
  /-- MIRROR: 1 synchronous -/ mirror : Nat
  /-- AUDIT -/ audit : Nat
  /-- LEARN -/ learn : Nat
  /-- EVICT -/ evict : Nat
  /-- RESET_VECTOR -/ vector : Nat
  /-- MOVE_EVENT -/ move : Nat
  /-- IDLE_TMO, µs -/ idle : Nat
deriving DecidableEq, Repr

/-- The policies at creation (R225). -/
def Policy.default : Policy := ⟨1, 1, 0, 0, 0, 0, 100⟩

/-- A KM_MIGRATE in the background (R198). -/
structure Migration where
  /-- source slot -/ src : Nat
  /-- target slot -/ dst : Nat
  /-- records moved -/ moved : Nat
  /-- progress pointer: next handle to look at -/ at_ : Nat
deriving DecidableEq, Repr

/-- What the unit holds for one tenant (R217 to R226, R191, R192, R207, R212). -/
structure Tenant where
  /-- created and not deleted -/ exist : Bool
  /-- its deletion has not yet ended (R218) -/ deleting : Bool
  /-- the R218 block as applied -/ block : Bytes
  /-- policies -/ policy : Policy
  /-- master-key slots -/ masters : Table (Option MasterKey)
  /-- current generation by kind -/ current : Table (Option Nat)
  /-- device time at which KEYMGMT ends -/ keymgmt : Option Nat
  /-- device time at which EXPORT ends -/ export_ : Option Nat
  /-- program-signing keys by SIGALG -/ progKeys : Table Bytes
  /-- custodian registry -/ custodians : List Credential
  /-- background migration -/ migrate : Option Migration
  /-- records by generation (R193) -/ records : Table Nat
  /-- retired generations whose records S1 has still to delete (R193) -/ purge : List Nat
deriving DecidableEq, Repr

/-- An absent tenant. -/
def Tenant.absent : Tenant where
  exist := false
  deleting := false
  block := []
  policy := Policy.default
  masters := []
  current := []
  keymgmt := none
  export_ := none
  progKeys := []
  custodians := []
  migrate := none
  records := []
  purge := []

/-- A tenant reset in progress (R228, R229). -/
structure TenReset where
  /-- tenant -/ tenant : Nat
  /-- started by the register SYS_TEN_RST: its BUSY -/ reg : Bool
  /-- by a deletion: to be followed by R220's steps -/ deletion : Bool
  /-- latched ADDR -/ addr : Nat
  /-- latched DATA -/ data : Nat
  /-- latched ENABLE -/ enable : Bool
  /-- IDLE_TMO as it was at the start, in µs (R226) -/ idle : Nat
  /-- cores asked to go idle: core, command and device time of the request -/ asked : List (Nat × Nat × Nat)
  /-- commands completed TENANT_RESET -/ done : Nat
  /-- cores reset alone -/ alone : Nat
  /-- slots whose requests wait for the response, with the OP -/ slots : List Nat
deriving DecidableEq, Repr

/-- A mailbox slot (R221). -/
structure MbSlot where
  /-- DW_MB_REQ -/ req : Nat
  /-- DW_MB_RSP -/ rsp : Nat
  /-- RSP_MAX -/ rspMax : Nat
  /-- REQ_LEN -/ reqLen : Nat
  /-- RESULT -/ result : Nat
  /-- VECTOR -/ vector : Nat
  /-- IRQ -/ irq : Bool
  /-- DONE -/ done : Bool
  /-- BUSY -/ busy : Bool
  /-- port of the GO write -/ port : Nat
  /-- reads of the request still outstanding -/ reads : Nat
  /-- a read of the request failed -/ failed : Bool
  /-- the request, as its reads have filled it -/ bytes : Bytes
  /-- the request waits for a later end: pairing, tenant reset, life cycle -/ held : Bool
  /-- the response waits at its port: result, and the number of its last packet (R224) -/ ending : Option (MbResult × Nat)
  /-- DMA_WINDOW: packets numbered below this were issued under the old configuration (R419) -/ mark : Option Nat
deriving DecidableEq, Repr

/-- A slot at its reset values. -/
def MbSlot.reset : MbSlot := ⟨0, 0, 0, 0, 0, 0, false, false, false, 0, 0, false, [], false, none, none⟩

/-- A response held for the partner's acknowledgement (R197, R244, R68). -/
structure HeldRsp where
  /-- slot -/ slot : Nat
  /-- epoch that holds its last change -/ epoch : Nat
  /-- result code -/ result : Nat
  /-- body -/ body : Bytes
deriving DecidableEq, Repr

/-- A frame of the custodian serial port as S0 has assembled it (R214). -/
structure CspFrame where
  /-- CRC and length are good -/ good : Bool
  /-- type -/ type : Nat
  /-- sequence -/ seq : Nat
  /-- payload -/ data : Bytes
deriving DecidableEq, Repr

/-- A frame sent to the terminal and not yet answered (R214). -/
structure CspSent where
  /-- the frame's bytes -/ bytes : Bytes
  /-- sequence -/ seq : Nat
  /-- resends so far -/ tries : Nat
  /-- device time of the last sending -/ at_ : Nat
deriving DecidableEq, Repr

/-- The custodian serial port (R213, R214). -/
structure Csp where
  /-- receive FIFO, oldest first -/ rx : Bytes
  /-- transmit FIFO, oldest first -/ tx : Bytes
  /-- bytes of S0's frames for which the transmit FIFO has had no room yet, oldest first -/ pend : Bytes
  /-- time-base cycles since the last byte left the transmit FIFO -/ txAcc : Nat
  /-- bytes sent on the line, oldest first: the model's record of its output -/ out : Bytes
  /-- bytes of the frame that S0 assembles -/ asm : Bytes
  /-- assembled frames that S0 has not served -/ frames : List CspFrame
  /-- terminal of the open session -/ terminal : Option Nat
  /-- device time of the last frame of the session -/ lastFrame : Nat
  /-- next sequence of a frame to the terminal -/ seq : Nat
  /-- frames of S0 handed to the line, oldest first: the model's record of its output -/ given : List Bytes
  /-- sent and unanswered frames -/ sent : List CspSent
deriving DecidableEq, Repr

/-- The port after reset. -/
def Csp.reset : Csp := ⟨[], [], [], 0, [], [], [], none, 0, 0, [], []⟩

/-- The transmit FIFO of 64 bytes filled from S0's bytes. -/
def Csp.fill (c : Csp) : Csp := { c with tx := c.tx ++ c.pend.take (64 - c.tx.length), pend := c.pend.drop (64 - c.tx.length) }
/-- A frame of S0 handed to the port: its bytes go to the transmit FIFO as there is room (R213, R214). -/
def Csp.give (c : Csp) (f : Bytes) : Csp := ({ c with given := c.given ++ [f], pend := c.pend ++ f } : Csp).fill

/-- Keys, ceremonies, tenants and mailbox. -/
structure Keys where
  /-- device root key (R187) -/ root : Option Bytes
  /-- transport private keys: seed of the ML-KEM-1024 key, image body of the RSA-3072 key -/ transport : Bytes × Bytes
  /-- keys that supervisor MAU requests delivered over the key bus, newest first: function and key (R181) -/ bus : List (Nat × Bytes)
  /-- pair key (R341) -/ pair : Option Bytes
  /-- commissioning marker in MRAM (R189) -/ marker : Bool
  /-- device officers -/ officers : List Credential
  /-- outstanding challenges, newest first -/ chals : List Challenge
  /-- open LOAD_MASTER_KEY ceremonies -/ opens : List OpenLoad
  /-- device policy -/ policy : DevPolicy
  /-- tenants, 0 to 63 -/ tenants : Table Tenant
  /-- mailbox slots, 0 to 64 -/ mb : Table MbSlot
  /-- the slot answered last: S0 goes on in round robin from the next (R224) -/ mbTurn : Nat
  /-- tenant resets in progress -/ resets : List TenReset
  /-- authorised states that a reset ended, recorded when S0 next runs (R212): tenant and mask -/ ended : List (Nat × Nat)
  /-- responses held for the partner -/ held : List HeldRsp
  /-- custodian serial port -/ csp : Csp
deriving DecidableEq, Repr

/-- An uncommissioned unit without tenants. -/
def Keys.reset : Keys where
  root := none
  transport := ([], [])
  bus := []
  pair := none
  marker := false
  officers := []
  chals := []
  opens := []
  policy := ⟨300, 3600, 28800, false⟩
  tenants := []
  mb := []
  mbTurn := 64
  resets := []
  ended := []
  held := []
  csp := Csp.reset

end Sys2Proof.Machine
end

