-- ==== Sys2Proof/Machine/PairTypes.lean ====
section
/-! DEFINITION. State of the active-standby pair and of the Starter (chapter 14). -/

namespace Sys2Proof.Machine

/-- Pair states (R338). -/
inductive PairSt where
  | unpaired | alone | seedingOut | protected_ | seedingIn | standby | desync | gaveUp
deriving DecidableEq, Repr

/-- The value of a pair state (R338). -/
def PairSt.val : PairSt → Nat
  | .unpaired => 0 | .alone => 1 | .seedingOut => 2 | .protected_ => 3 | .seedingIn => 4 | .standby => 5
  | .desync => 6 | .gaveUp => 7

/-- Active pair states. -/
def PairSt.active : PairSt → Bool
  | .alone => true | .seedingOut => true | .protected_ => true | _ => false

/-- A change record (R348): header fields and body. -/
structure Change where
  /-- KIND -/ kind : Nat
  /-- PART -/ part : Nat
  /-- tenant, 0xFF for none -/ tenant : Nat
  /-- item key -/ key : Nat
  /-- body -/ body : Bytes
deriving DecidableEq, Repr

/-- An epoch that this unit closed and that is not acknowledged (R349). -/
structure Epoch where
  /-- number -/ num : Nat
  /-- journal bytes -/ bytes : Nat
deriving DecidableEq, Repr

/-- An epoch received by a standby (R350). -/
structure InEpoch where
  /-- number -/ num : Nat
  /-- bytes of records so far -/ recs : Bytes
  /-- record count and digest of EPOCH_END, once it has arrived -/ fin : Option (Nat × Bytes)
deriving DecidableEq, Repr

/-- The accepted MODE 1 pairing ceremony that waits for the pair key (R340). -/
structure Pairing where
  /-- partner's unit identifier -/ uid : Nat
  /-- digest of the partner's attestation key -/ digest : Bytes
  /-- NOT_AFTER -/ notAfter : Nat
  /-- slot that waits for the response, or 65 for the custodian port -/ src : Nat
deriving DecidableEq, Repr

/-- A message to the partner (R342). -/
structure StrMsg where
  /-- TYPE -/ type : Nat
  /-- COUNTER -/ counter : Nat
  /-- payload in clear -/ data : Bytes
deriving DecidableEq, Repr

/-- The pair and the Starter. -/
structure Pair where
  /-- pair state -/ st : PairSt
  /-- CLAIM_OUT asserted -/ claim : Bool
  /-- service is on (R332) -/ service : Bool
  /-- the unit has had service since its last reset -/ had : Bool
  /-- the arbitration delay runs since this device time -/ arb : Option Nat
  /-- LAST_ACTIVE in MRAM -/ lastActive : Bool
  /-- started by R339 and waiting BOOT_WAIT -/ waiting : Bool
  /-- eligibility that R339 withholds until seeding or dissolution -/ barred : Bool
  /-- ceremony that waits for the pair key -/ pairing : Option Pairing
  /-- partner known from the ceremony that made the pair key -/ partner : Nat
  /-- own IDENT of the exchange: random value, seed of the ML-KEM key, digest of the message -/ ident : Option (Bytes × Bytes × Bytes)
  /-- partner's IDENT: payload -/ peerIdent : Option Bytes
  /-- Starter session: own and partner's session value -/ session : Option (Bytes × Option Bytes)
  /-- session key -/ key : Option Bytes
  /-- a HELLO of the partner whose answer waits for S0's random bytes (R301) -/ hello : Option Bytes
  /-- COUNTER of the next message sent and of the next one expected -/ counters : Nat × Nat
  /-- messages sent to the partner, oldest first: the model's record of its output -/ sent : List StrMsg
  /-- device time of the last authenticated message -/ heard : Nat
  /-- partner's state, last epoch, eligible, as its last HELLO or HEARTBEAT gave them -/ peer : Option (Nat × Nat × Bool)
  /-- device time of the last HEARTBEAT sent -/ beat : Nat
  /-- last epoch of R339 in MRAM, as a reset left it -/ last : Nat
  /-- open epoch; 0 before the first -/ epoch : Nat
  /-- cycle of its oldest change; none while it holds none -/ oldest : Option Nat
  /-- its change records, oldest first -/ recs : List Change
  /-- sent and unacknowledged epochs, oldest first -/ journal : List Epoch
  /-- last epoch acknowledged when active, applied when standby -/ acked : Nat
  /-- epochs received and not applied -/ incoming : List InEpoch
  /-- horizon H -/ horizon : Nat
  /-- records received in seeding that a part cut off -/ seedPart : Bytes
  /-- items sent or applied in seeding -/ items : Nat
  /-- epochs discarded by the fall of PEER_CLAIM_IN, for PAIR_TAKEOVER -/ discarded : Nat
  /-- number of takeovers -/ takeovers : Nat
  /-- item count of SEED_END, once it has arrived -/ seedEnd : Option Nat
  /-- an epoch has been applied since seeding began -/ synced : Bool
  /-- device time of the last restart (R339) -/ since : Nat
  /-- flows taken over: next sequence numbers, by flow key -/ flows : Table Nat
deriving DecidableEq, Repr

/-- An unpaired unit. -/
def Pair.reset : Pair where
  st := .unpaired
  claim := false
  service := false
  had := false
  arb := none
  lastActive := false
  waiting := false
  barred := false
  pairing := none
  partner := 0
  ident := none
  peerIdent := none
  session := none
  key := none
  hello := none
  counters := (0, 0)
  sent := []
  heard := 0
  peer := none
  beat := 0
  last := 0
  epoch := 0
  oldest := none
  recs := []
  journal := []
  acked := 0
  incoming := []
  horizon := 0
  seedPart := []
  items := 0
  discarded := 0
  takeovers := 0
  seedEnd := none
  synced := false
  since := 0
  flows := []

end Sys2Proof.Machine
end

