-- ==== Sys2Proof/Machine/TimeTypes.lean ====
section
/-! DEFINITION. State of the time base and of the entropy block (chapter 12). -/

namespace Sys2Proof.Machine

/-- The trust states of R290. -/
inductive Trust where
  | trusted | holdover | untrusted
deriving DecidableEq, Repr

/-- The value that TIM_STAT.STATE and TSTATE read (R290). -/
def Trust.val : Trust → Nat
  | .trusted => 0 | .holdover => 1 | .untrusted => 2

/-- The time base. -/
structure TimeBase where
  /-- device time, raw: tick count shifted left by 24, and the fraction (R286) -/ now : Nat
  /-- time-base cycles counted by the model since its reset state -/ cyc : Nat
  /-- remainder of the fraction's advance, in units of 2^-24 cycle per 2^24 (R287) -/ acc : Nat
  /-- trust state (R290) -/ state : Trust
  /-- cycle of the last tick edge from a pulse or a missing pulse (R288) -/ lastEdge : Nat
  /-- cycle of the last pulse of any kind -/ lastPulse : Nat
  /-- cycle of the last accepted pulse, for intervals (R287) -/ lastAcc : Option Nat
  /-- accepted tick intervals since the last restart, newest first, at most 16 (R287) -/ ivals : List Nat
  /-- run count (R290) -/ run : Nat
  /-- length of the run under the rule of UNTRUSTED (R290) -/ runU : Nat
  /-- cycle of entry into HOLDOVER -/ holdCyc : Nat
  /-- device time on leaving TRUSTED, for TIM_HOLD_TIME -/ holdNow : Nat
  /-- ADVANCE and period waiting for the next tick edge (R292) -/ pend : Option (Nat × Nat)
  /-- MRAM saves, newest first, at most 16: tick count and guard timer (R291) -/ saves : List (Nat × Nat)
  /-- second of device time of the last save -/ saveSec : Nat
  /-- device time at the last accepted pulse (TIM_LAST) -/ lastTime : Nat
  /-- last tick edge handled by TICK_EDGE -/ edgeDone : Nat
  /-- time-base cycles for which TREF_OUT stays high (R294) -/ trefLeft : Nat
  /-- remainder of the guard timer's advance (log entry 1) -/ guardAcc : Nat
  /-- device time restarted without the guard timer, until SET_WALL_TIME (TIM_STAT.GAP) -/ gap : Bool
  /-- consecutive edges on which the counts differed (R295) -/ diffRun : Nat
  /-- consecutive edges on which they were equal (R295) -/ eqRun : Nat
  /-- the partner's last TICK message: its count and whether it was TRUSTED (R295) -/ peer : Option (Nat × Bool)
  /-- WALL0 in MRAM (R292) -/ mramWall0 : Nat
  /-- WALL_VALID in MRAM -/ mramWallValid : Bool
  /-- the period in MRAM -/ mramPeriod : Nat
deriving DecidableEq, Repr

/-- The time base after its first restart: UNTRUSTED (TIM_STAT reset), the declared period 1,000,000 ns. -/
def TimeBase.reset : TimeBase where
  now := 0
  cyc := 0
  acc := 0
  state := .untrusted
  lastEdge := 0
  lastPulse := 0
  lastAcc := none
  ivals := []
  run := 0
  runU := 0
  holdCyc := 0
  holdNow := 0
  pend := none
  saves := []
  saveSec := 0
  lastTime := 0
  edgeDone := 0
  trefLeft := 0
  guardAcc := 0
  gap := false
  diffRun := 0
  eqRun := 0
  peer := none
  mramWall0 := 0
  mramWallValid := false
  mramPeriod := 1000000

/-- State of a DRBG instance (ENT_INST.STATE). -/
inductive InstState where
  | notInst | ready | blocked | absent
deriving DecidableEq, Repr

/-- The value that ENT_INST.STATE reads. -/
def InstState.val : InstState → Nat
  | .notInst => 0 | .ready => 1 | .blocked => 2 | .absent => 3

/-- A CTR_DRBG instance (R299, R300). -/
structure Drbg where
  /-- instantiated, blocked or absent -/ st : InstState
  /-- working key -/ key : Bytes
  /-- working value V -/ v : Bytes
  /-- requests since the last reseed -/ reqs : Nat
  /-- reseeds, wrapping at 16 bits -/ reseeds : Nat
  /-- device time of the last reseed -/ lastTime : Nat
  /-- blocked at its request limit since it last served a request: stalled requests resume in issue order (R300) -/ byReq : Bool
deriving DecidableEq, Repr

/-- An instance before instantiation. -/
def Drbg.empty : Drbg := ⟨.notInst, [], [], 0, 0, 0, false⟩

/-- The entropy block (R296 to R303). -/
structure Entropy where
  /-- seeds in the pool, oldest first, at most 64 -/ pool : List Bytes
  /-- seed counter, kept below L1 (R298) -/ counter : Nat
  /-- whether the first window of source 0 has been discarded (R296) -/ first0 : Bool
  /-- whether the first window of source 1 has been discarded -/ first1 : Bool
  /-- the 196 instances -/ inst : Table Drbg
  /-- STARVED (R302) -/ starved : Bool
  /-- instances reseeded since STARVED was set -/ recovered : Nat
  /-- device time of the release from reset -/ release : Nat
deriving DecidableEq, Repr

/-- The entropy block right after reset. -/
def Entropy.reset : Entropy := ⟨[], 0, false, false, [], false, 0, 0⟩

/-- Level of an access (R414): U, K or S. -/
inductive Level where
  | u | k | s
deriving DecidableEq, Repr

/-- The rank of a level: U below K below S. -/
def Level.rank : Level → Nat
  | .u => 0 | .k => 1 | .s => 2

/-- Kind of an access (VINFO.KIND). -/
inductive AccKind where
  | read | write | fetch
deriving DecidableEq, Repr

/-- The value that VINFO.KIND holds. -/
def AccKind.val : AccKind → Nat
  | .read => 1 | .write => 2 | .fetch => 3

/-- A committed region of a memory protection unit (R413). -/
structure Region where
  /-- first byte -/ base : Nat
  /-- first byte of the last granule -/ limit : Nat
  /-- EN -/ en : Bool
  /-- R -/ r : Bool
  /-- W -/ w : Bool
  /-- X -/ x : Bool
  /-- ANY -/ any : Bool
  /-- PRIV -/ priv : Nat
  /-- TENANT -/ tenant : Nat
  /-- CACHE -/ cache : Nat
  /-- ORDER -/ order : Nat
deriving DecidableEq, Repr

/-- A region after reset: disabled. -/
def Region.empty : Region := ⟨0, 0, false, false, false, false, false, 0, 0, 0, 0⟩

/-- The causes of a refusal (R422). -/
inductive MpuCause where
  | noRegion | permission | privilege | tenant | unmapped | disabled
deriving DecidableEq, Repr

/-- The value of a refusal cause (R422). -/
def MpuCause.val : MpuCause → Nat
  | .noRegion => 1 | .permission => 2 | .privilege => 3 | .tenant => 4 | .unmapped => 5 | .disabled => 6

end Sys2Proof.Machine
end

