-- ==== Sys2Proof/Machine/CoreTypes.lean ====
section
/-! DEFINITION. State of the Thaug cores, of their cipher engines and of the cluster units, and the loaded programs
(chapters 4 to 7). -/

namespace Sys2Proof.Machine

/-- Why a host transfer failed (R97, R319). -/
inductive XferFail where
  /-- refused by the port's MPU, UR or CA -/
  | refused
  /-- link abort -/
  | aborted
deriving DecidableEq, Repr

/-- A host transfer of a core (R96, R97). -/
structure Xfer where
  /-- its number in the core -/ num : Nat
  /-- HGET, else HPUT -/ get : Bool
  /-- local address -/ loc : Nat
  /-- bytes -/ len : Nat
  /-- offset in the command's input or output area -/ off : Nat
  /-- reads its parts from host memory (not inline) -/ fromHost : Bool
  /-- FENCE H executed before it in the command: RO is set in its packets where there is none (R81) -/ fences : Nat
  /-- parts of an HGET still to arrive -/ parts : Nat
  /-- bytes of an HGET that have arrived, by offset in the transfer -/ got : List (Nat × Bytes)
  /-- landed or accepted -/ done : Bool
  /-- failure, if any -/ fail : Option XferFail
  /-- a source byte of an HPUT was written before the port took it: the bytes sent are open (R82) -/ raced : Bool
deriving DecidableEq, Repr

/-- What a core's issue waits on (R92, R97). -/
inductive Stall where
  | none
  /-- HWAIT since a device time -/
  | hwait (since : Nat)
  /-- WAIT -/
  | wait
deriving DecidableEq, Repr

/-- How the program of a command ended (R93, R102, R107). -/
inductive EndCause where
  /-- an exception of R102, by number -/
  | exception (n : Nat)
  /-- TRAP 0 -/
  | trapEnd
  /-- TRAP 1 -/
  | trapFail
  /-- TRAP 2 with the cancel flag set -/
  | trapCancel
  /-- an idle request, with the status it names -/
  | idle (st : Status)
  /-- a check before the first U instruction: status and program status (R104, R136) -/
  | start (st : Status) (ps : Nat)
deriving DecidableEq, Repr

/-- The exceptions of R102. -/
inductive Exc where
  | illegal | access | align | keyUsage | keyEmpty | sensitiveMisuse | twinMismatch | dmaFault | budget | brk
deriving DecidableEq, Repr

/-- The number of an exception (R102). -/
def Exc.num : Exc → Nat
  | .illegal => 1 | .access => 2 | .align => 3 | .keyUsage => 4 | .keyEmpty => 5 | .sensitiveMisuse => 6
  | .twinMismatch => 7 | .dmaFault => 8 | .budget => 9 | .brk => 10

/-- The contents of a key register that is not empty (R117, R119). -/
structure KeyVal where
  /-- the key -/ val : Bytes
  /-- ALG: 1 TDES two-key to 6 HMAC -/ alg : Nat
  /-- USAGE, first character in the low byte -/ usage : Nat
  /-- MODE -/ mode : Nat
  /-- EXPORT -/ exportCh : Nat
  /-- KVER -/ kver : Nat
  /-- TENANT -/ tenant : Nat
  /-- GEN -/ gen : Nat
  /-- not-before time, where set -/ nb : Option Nat
  /-- not-after time, where set -/ na : Option Nat
  /-- ORIGIN -/ origin : Nat
  /-- SLOT -/ slot : Nat
  /-- FUNC -/ func : Nat
deriving DecidableEq, Repr

/-- The contents of a sensitive-data register that is not empty (R117, R120). -/
structure SVal where
  /-- kind: 1 PIN, 2 card secret -/ kind : Nat
  /-- decimal digits, first digit first -/ digits : List Nat
  /-- the running tenant -/ tenant : Nat
deriving DecidableEq, Repr

/-- States of an engine context (R149). -/
inductive CtxPhase where
  | empty | idle | opened | run | done
deriving DecidableEq, Repr

/-- An engine context (R117, R149, R164). The running GHASH or CBC-MAC value is held as the bytes that it covers. -/
structure Ctx where
  /-- state, tracked at issue -/ phase : CtxPhase
  /-- mode word (R137) -/ mode : Nat
  /-- key -/ key : Bytes
  /-- key ALG -/ alg : Nat
  /-- key usage, for the clear image (R139) -/ usage : Nat
  /-- tenant -/ tenant : Nat
  /-- IV or previous ciphertext block, feedback register, current counter block; tweak in XTS and FF1 -/ chain : Bytes
  /-- held bytes of the current block -/ held : Bytes
  /-- bytes given to the message at issue -/ issued : Nat
  /-- bytes processed in the message -/ processed : Nat
  /-- bytes written since CINIT -/ written : Nat
  /-- associated data absorbed (GCM, CCM) -/ ad : Bytes
  /-- GCM: ciphertext; CCM: payload; MACs: message, as far as absorbed -/ text : Bytes
  /-- GCM: the IV; CCM: the nonce -/ nonce : Bytes
  /-- CCM declared payload length -/ declP : Nat
  /-- CCM declared associated-data length -/ declA : Nat
  /-- quarantined extents of the message: address and length (R161) -/ extents : List (Nat × Nat)
  /-- a CRUN of the message has been processed -/ started : Bool
deriving DecidableEq, Repr

/-- An empty context: zeroised. -/
def Ctx.empty : Ctx where
  phase := .empty
  mode := 0
  key := []
  alg := 0
  usage := 0
  tenant := 0
  chain := []
  held := []
  issued := 0
  processed := 0
  written := 0
  ad := []
  text := []
  nonce := []
  declP := 0
  declA := 0
  extents := []
  started := false

/-- A queued engine operation (R121, R126), by context. -/
inductive EngOp where
  /-- CIV: variant, source address, length -/
  | civ (c v src len : Nat)
  /-- CRUN: destination, source, length, FINAL, EARLY, and for HMAC its number among the users of the hash slot (R170) -/
  | crun (c dst src len : Nat) (final early : Bool) (slot : Option Nat)
  /-- CTAG variant 0: destination, length -/
  | tag (c dst len : Nat)
  /-- CSAVE: destination, wrapped, and the state and the message's bytes as the context had them at issue -/
  | save (c dst : Nat) (wrapped : Bool) (phase : CtxPhase) (issued : Nat)
  /-- CLOAD: the context that it puts in place, with what later instructions have issued on it -/
  | load (c : Nat) (x : Ctx)
deriving DecidableEq, Repr

/-- The context of an operation. -/
def EngOp.ctx : EngOp → Nat
  | .civ c _ _ _ => c
  | .crun c _ _ _ _ _ _ => c
  | .tag c _ _ => c
  | .save c _ _ _ _ => c
  | .load c _ => c

/-- The contents of a wrapped context image that the core has written since its last reset, which the spec does not lay out
(R139, R164): the enciphered bytes in clear, and the context that they stand for. -/
structure Wrapped where
  /-- the bytes -/ bytes : Bytes
  /-- the context -/ ctx : Ctx
deriving DecidableEq, Repr

/-- A request of a core or of a supervisor to the MAU or the hash unit (R173, R174, R181). -/
structure UnitReq where
  /-- function, or algorithm -/ func : Nat
  /-- MORE (HREQ) -/ more : Bool
  /-- destination k register -/ kd : Nat
  /-- address of the block -/ addr : Nat
  /-- the block as copied at issue -/ block : Bytes
  /-- number among the users of the core's hash slot (R170) -/ slot : Nat
deriving DecidableEq, Repr

/-- A core's copy of a terminal context (R98, R250). -/
structure TermCopy where
  /-- terminal identifier -/ id : Nat
  /-- last transaction counter -/ counter : Nat
  /-- tenant flags -/ flags : Nat
  /-- age stamp -/ age : Nat
  /-- last ingress port -/ port : Nat
deriving DecidableEq, Repr

/-- A Thaug core (R74, R94, R117). -/
structure Core where
  /-- at U; else K (R75) -/ user : Bool
  /-- general registers; g0 is never listed (R76) -/ g : Table (BitVec 64)
  /-- program counter, a core address -/ pc : Nat
  /-- program counter saved on entry to K -/ epc : Nat
  /-- the entry of the running command -/ run : Option Nat
  /-- its image -/ image : Nat
  /-- local memory: runtime area, code area, data area (R77) -/ mem : Memory
  /-- key registers -/ k : Table (Option KeyVal)
  /-- sensitive-data registers -/ sreg : Table (Option SVal)
  /-- engine contexts -/ ctx : Table Ctx
  /-- queued engine operations, oldest first -/ eng : List EngOp
  /-- host transfers since the last HWAIT returned -/ xfers : List Xfer
  /-- number of the next transfer -/ nextXfer : Nat
  /-- FENCE H executed in the command (R81) -/ fences : Nat
  /-- stall -/ stall : Stall
  /-- cancel flag -/ cancel : Bool
  /-- idle request waiting, with its status (R107) -/ idleReq : Option Status
  /-- the program has ended, with the cause -/ ending : Option EndCause
  /-- a twin mismatch occurred (R103 row 1) -/ twin : Bool
  /-- a residue or register-file failure occurred (R103 row 1) -/ residue : Bool
  /-- the model's own: the program counter at which the integer unit fails its residue check in the running command, a free value
  (R102; log entry 69) -/ badAt : Option Nat
  /-- a host transfer was aborted by the link (R103 row 3) -/ linkAborted : Bool
  /-- a host transfer was refused (R103 row 4) -/ refused : Bool
  /-- exceptions detected after issue, in order of detection, each with its cause word (R102, R158) -/ pendExc : List (Exc × Nat)
  /-- the budget has run out (R108) -/ budgetOut : Bool
  /-- PSTATUS -/ pstatus : Nat
  /-- OUTLEN -/ outLen : Nat
  /-- CSTATUS, as a completion status -/ cstatus : Status
  /-- CSTATUS is held at AUTH_FAIL or REPLAY (R140, R250) -/ locked : Bool
  /-- EARLY_RELEASE -/ early : Bool
  /-- runtime words 0x20 to 0x2F -/ words : Table (BitVec 64)
  /-- context key (R139) -/ ctxKey : Bytes
  /-- wrapped images written since the last reset -/ images : List Wrapped
  /-- hash requests outstanding, oldest first -/ hreqs : List UnitReq
  /-- number of the next user of the hash slot (R170) -/ slotNo : Nat
  /-- held state of MORE: algorithm and bytes absorbed -/ hashHeld : Option (Nat × Bytes)
  /-- terminal-context copy -/ term : Option TermCopy
  /-- compare-and-writes of field 0 posted to the bucket and not answered, oldest first (R250) -/ post : List Nat
  /-- resident images, least recently started first (R115) -/ res : List Nat
  /-- the core resets, with the reason (R107, R116) -/ resetting : Option Nat
  /-- halted at a BREAK by a TRACE debug session (R102) -/ halted : Bool
deriving DecidableEq, Repr

/-- A core after a core reset: idle at K, everything zero (R107). -/
def Core.reset : Core where
  user := false
  g := []
  pc := 0
  epc := 0
  run := none
  image := 0
  mem := []
  k := []
  sreg := []
  ctx := []
  eng := []
  xfers := []
  nextXfer := 0
  fences := 0
  stall := .none
  cancel := false
  idleReq := none
  ending := none
  twin := false
  residue := false
  badAt := none
  linkAborted := false
  refused := false
  pendExc := []
  budgetOut := false
  pstatus := 0
  outLen := 0
  cstatus := .ok
  locked := false
  early := false
  words := []
  ctxKey := []
  images := []
  hreqs := []
  slotNo := 0
  hashHeld := none
  term := none
  post := []
  res := []
  resetting := none
  halted := false

/-- A cluster's shared parts: memory and MAU (R177, R181). -/
structure Cluster where
  /-- shared memory, by offset (R77) -/ shared : Memory
  /-- images cached in shared memory (R115) -/ cached : List Nat
  /-- MAU requests by requester: cores 0 to 7, supervisor port 8 -/ mau : Table (List UnitReq)
  /-- requester served last -/ turn : Nat
  /-- the operation that runs: requester and request -/ busy : Option (Nat × UnitReq)
deriving DecidableEq, Repr

/-- A cluster right after reset. -/
def Cluster.reset : Cluster := ⟨[], [], [], 8, none⟩

/-- A usage-table entry of a package (R110). -/
structure UsageRow where
  /-- two-character key usage, first character in the low byte -/ usage : Nat
  /-- mode of use -/ mode : Nat
  /-- handle slots covered, a mask -/ slots : Nat
deriving DecidableEq, Repr

/-- A loaded program image (R109, R114). -/
structure Image where
  /-- the model's name of the image, from 1 -/ id : Nat
  /-- tenant that loaded it -/ tenant : Nat
  /-- PROG -/ prog : Nat
  /-- PVER -/ pver : Nat
  /-- CLASS -/ cls : Nat
  /-- RAND needed -/ rand : Bool
  /-- TCTX needed -/ tctx : Bool
  /-- D2 allowed -/ d2 : Bool
  /-- BUDGET -/ budget : Nat
  /-- code -/ code : Bytes
  /-- constants -/ consts : Bytes
  /-- usage table -/ usage : List UsageRow
  /-- slots that must be valid -/ must : Nat
  /-- slots that may be valid -/ may : Nat
  /-- the package as loaded -/ package : Bytes
  /-- the first of the data lines that hold the package in the sealed store (R115) -/ line : Nat
deriving DecidableEq, Repr

/-- The programs of all tenants. -/
structure Programs where
  /-- images that are loaded or that a command uses -/ images : List Image
  /-- loaded image of tenant · 65536 + PROG -/ loaded : Table (Option Nat)
  /-- version floors in MRAM, by tenant · 65536 + PROG (R113) -/ floors : Table Nat
  /-- next image name -/ next : Nat
deriving DecidableEq, Repr

/-- No program loaded. -/
def Programs.reset : Programs := ⟨[], [], [], 1⟩

end Sys2Proof.Machine
end

