-- ==== Sys2Proof/Machine/PrfTypes.lean ====
section
/-! DEFINITION. State of the Proofer (chapter 3): command entries, flows, buckets. -/

namespace Sys2Proof.Machine

/-- Flow modes (R32). -/
inductive FlowMode where
  | relaxed | ordered | atomic
deriving DecidableEq, Repr

/-- Where a command stands between entry and release. -/
inductive CmdPhase where
  /-- in the matching store, not dispatched -/
  | waiting
  /-- staged on a core (R65) -/
  | staged (core : Nat)
  /-- running on a core -/
  | running (core : Nat)
  /-- ended, waiting for release (R68) -/
  | ended
deriving DecidableEq, Repr

/-- A command entry of the matching store (R50, R52). -/
structure Entry where
  /-- order of entry; also the entry's name -/ id : Nat
  /-- tenant (R50) -/ tenant : Nat
  /-- submission ring -/ ring : Nat
  /-- slot of the base descriptor, or of the last segment entered (R37, R43) -/ slot : Nat
  /-- PROG -/ prog : Nat
  /-- run from a D2 ring -/ d2 : Bool
  /-- FLOW -/ flow : Nat
  /-- MODE -/ mode : FlowMode
  /-- PRIO -/ prio : Nat
  /-- SOE -/ soe : Bool
  /-- FENCE -/ fence : Bool
  /-- NOTIFY -/ notify : Bool
  /-- TCTX -/ tctx : Bool
  /-- user tag -/ tag : Nat
  /-- input parts in order: host address and length (R30, R43) -/ inputs : List (Nat × Nat)
  /-- inline input (R33) -/ inline : Option Bytes
  /-- output address -/ outAddr : Nat
  /-- output maximum length -/ outMax : Nat
  /-- the four key handles, where VALID -/ handles : List (Option Nat)
  /-- argument -/ arg : Nat
  /-- not-before time, 0 none -/ notBefore : Nat
  /-- deadline, 0 none -/ deadline : Nat
  /-- context key -/ ctxKey : Nat
  /-- the raw control and flow words and tag, which later segments must repeat (R42) -/ first : Bytes
  /-- the descriptor as entered, with its extension, for the runtime area (R104) -/ descr : Bytes
  /-- segments entered -/ segs : Nat
  /-- a multi-descriptor message still open (R43) -/ msgOpen : Bool
  /-- matching-store entries that it uses (R50) -/ cells : Nat
  /-- sequence number in its flow, 0 in a relaxed flow (R55) -/ seqNo : Nat
  /-- readiness bit KEYS -/ keys : Bool
  /-- readiness bit TCTX -/ tctxOk : Bool
  /-- readiness bit TIME -/ time : Bool
  /-- readiness bit TOKEN -/ token : Bool
  /-- order in which TOKEN was set (R65) -/ tokenAt : Nat
  /-- readiness bit SEGS -/ segsOk : Bool
  /-- the program's package declares a need for randomness (R52) -/ needRand : Bool
  /-- the keys resolved for its four slots, as a binding gives them (R243, R104) -/ resolved : List (Option KeyVal)
  /-- the program image that it was entered with (R114) -/ image : Nat
  /-- profile and record of a routed handle (R243) -/ route : Option Nat
  /-- device time at which the resolution of KEYS and TCTX began, or began again (R53, R71) -/ opStart : Nat
  /-- device time of creation: the time-out of SEGS and RAND runs from it (R53) -/ created : Nat
  /-- the operand time-out has expired (R66) -/ timedOut : Bool
  /-- a cancel has reached it (R41) -/ cancelled : Bool
  /-- CANCEL_LATE (R67) -/ cancelLate : Bool
  /-- phase -/ phase : CmdPhase
  /-- spilled (R70) -/ spilled : Bool
  /-- places of 64 bytes that it holds in the spill area while spilled, four in a line (R70) -/ places : List Nat
  /-- status, once ended -/ status : Status
  /-- program status -/ pstatus : Nat
  /-- output length -/ outLen : Nat
  /-- EARLY_RELEASE -/ early : Bool
  /-- entered while its tenant's MIRROR was 1: a set MSTATE holds its release (R226, R68) -/ sync : Bool
  /-- MSTATE (R346) -/ mstate : Bool
  /-- the epoch that holds its changes -/ epoch : Nat
  /-- control descriptor -/ ctrl : Bool
  /-- not reported to Scale (R69) -/ noScale : Bool
  /-- command class of its program, for Scale (R69) -/ cls : Nat
  /-- the copy of its terminal context taken at dispatch (R250) -/ term : Option TermCopy
deriving DecidableEq, Repr

/-- A flow context (R51). -/
structure Flow where
  /-- next sequence number to assign -/ next : Nat
  /-- oldest unreleased sequence number; the next one while none is unreleased -/ oldest : Nat
  /-- sequence numbers of unreleased failing members that stop the flow (R59) -/ stoppedBy : List Nat
  /-- last core used -/ lastCore : Option Nat
  /-- the data line of the sealed store that holds the context; none while it is on chip -/ stored : Option Nat
deriving DecidableEq, Repr

/-- The context of a flow with no context yet: sequence numbers start at 1 (R55). -/
def Flow.fresh : Flow := ⟨1, 1, [], none, none⟩

/-- The Proofer. -/
structure Proofer where
  /-- entries, oldest first -/ entries : List Entry
  /-- next entry name -/ nextId : Nat
  /-- flow contexts, by tenant · 2^20 + flow -/ flows : Table Flow
  /-- token buckets in 16.16, by tenant (R63) -/ bucket : Table Nat
  /-- deficits, by tenant (R63) -/ deficit : Table Nat
  /-- tenant last visited for surplus grants -/ lastVisit : Nat
  /-- next TOKEN order -/ nextToken : Nat
  /-- round-robin pointer over rings for fetch (R49) -/ rr : Nat
  /-- tenants whose quota pause is recorded (R72) -/ paused : List Nat
  /-- clusters drained by request or test (R463) -/ drained : List Nat
  /-- spilled entries being read back: store read and entry (R71) -/ refills : List (Nat × Nat)
  /-- service levels of updated tenants that take effect at the next quantum (R219) -/ levels : List (Nat × Bytes)
  /-- flow contexts being read back: store read and flow key (R51) -/ flowReads : List (Nat × Nat)
deriving DecidableEq, Repr

/-- The Proofer right after reset. -/
def Proofer.reset : Proofer := ⟨[], 1, [], [], [], 63, 0, 0, [], [], [], [], []⟩

end Sys2Proof.Machine
end

