-- ==== Sys2Proof/Machine/RasTypes.lean ====
section
/-! DEFINITION. State of checking, self-test, lanes and the power cap (chapters 21 and 22). -/

namespace Sys2Proof.Machine

/-- Why a cluster is tested (CLUSTER_TEST_PASSED): rotation, health, return, boot. -/
inductive TestCause where
  | rotation | health | returned | boot
deriving DecidableEq, Repr

/-- The number of a cause in an event (R469). -/
def TestCause.val : TestCause → Nat
  | .rotation => 1 | .health => 2 | .returned => 3 | .boot => 4

/-- The cluster test that runs (R463). -/
structure ClusterTest where
  /-- cluster -/ cluster : Nat
  /-- cause -/ cause : TestCause
  /-- device time of its start -/ start : Nat
deriving DecidableEq, Repr

/-- Checking and self-test. -/
structure Ras where
  /-- retire mask in MRAM (R462) -/ retired : Nat
  /-- clusters in service -/ inService : Nat
  /-- tests that wait, oldest first: cluster and cause (R461, R464) -/ queue : List (Nat × TestCause)
  /-- the tests that run: one, or those of the boot side by side (R463, R464) -/ tests : List ClusterTest
  /-- device time of the last test passed after a health count reached its threshold, by cluster (R461) -/
  passed : Table (Option Nat)
  /-- clusters not yet queued in the rotation pass that runs, if one runs -/ pass : Option (List Nat)
  /-- the pass was started by ROT_START, which reads 1 until it is done -/ once : Bool
  /-- device time of the last rotation test -/ lastRot : Nat
  /-- clusters held out by the power cap (R475) -/ held : List Nat
  /-- recalibration that runs: port, device time of its start, rings moved (R466) -/ recal : Option (Nat × Nat × Nat)
  /-- cap change in progress: the CAP before it (R475) -/ cap : Option Nat
deriving DecidableEq, Repr

/-- Checking right after reset: no cluster retired (log entry 3), none in service yet. -/
def Ras.reset : Ras := {
  retired := 0
  inService := 0
  queue := []
  tests := []
  passed := []
  pass := none
  once := false
  lastRot := 0
  held := []
  recal := none
  cap := none }

end Sys2Proof.Machine
end

