-- ==== Sys2Proof/Machine/RecTypes.lean ====
section
/-! DEFINITION. State of the event recorder (chapter 19): records, the volatile buffer, the MRAM ring, anchors, archive,
seals and the counted losses. -/

namespace Sys2Proof.Machine

/-- An event as a block reports it, before the recorder enters it. -/
structure Event where
  /-- the event (R497) -/ ev : Ev
  /-- tenant of the record, or none (0xFF) -/ tenant : Option Nat
  /-- source master (R412, R425) -/ source : Nat
  /-- argument 0 -/ a0 : Nat
  /-- argument 1 -/ a1 : Nat
  /-- argument 2 -/ a2 : Nat
  /-- time-base cycle of its arrival, for the order of R427 -/ cyc : Nat
deriving DecidableEq, Repr

/-- A record as R425 lays it out; the valid marker is 0xA5 in every record kept here. -/
structure LogRec where
  /-- record number (R427); its low 16 bits are the sequence field -/ num : Nat
  /-- device time at entry -/ time : Nat
  /-- code -/ code : Nat
  /-- severity -/ sev : Nat
  /-- tenant, 0xFF for none -/ tenant : Nat
  /-- source master -/ source : Nat
  /-- argument 0 -/ a0 : Nat
  /-- argument 1 -/ a1 : Nat
  /-- argument 2 -/ a2 : Nat
  /-- chain value (R427) -/ chain : Nat
deriving DecidableEq, Repr

/-- State of a ring segment (R431). -/
inductive SegState where
  | free | filling | full
deriving DecidableEq, Repr

/-- A segment of the MRAM ring with its header (R431). -/
structure Segment where
  /-- FREE, FILLING or FULL -/ st : SegState
  /-- the BAD mark -/ bad : Bool
  /-- records, oldest first -/ recs : List LogRec
deriving DecidableEq, Repr

/-- A segment as the ring holds it before its first use. -/
def Segment.empty : Segment := ⟨.free, false, []⟩

/-- A seal slot (R431, R437). -/
structure SealSlot where
  /-- number of the SEAL record -/ num : Nat
  /-- chain value of the SEAL record -/ chain : Nat
  /-- device time of the SEAL record -/ time : Nat
  /-- the signature, once it has arrived -/ sig : Option Bytes
deriving DecidableEq, Repr

/-- An archived segment in the sealed store (R433). -/
structure ArchSegment where
  /-- first line, counted from EVR_ARCH.BASE in the ring of lines -/ line : Nat
  /-- its records -/ recs : List LogRec
  /-- signatures archived with it: number of the SEAL record and the signature -/ sigs : List (Nat × Bytes)
deriving DecidableEq, Repr

/-- A flush in progress (R434). -/
structure Flush where
  /-- highest record number that it writes -/ upTo : Nat
  /-- started by PFAIL_N -/ powerFail : Bool
  /-- device time at its start -/ start : Nat
deriving DecidableEq, Repr

/-- The intent record of a clear (R439). -/
structure ClearIntent where
  /-- highest number to clear -/ last : Nat
  /-- first officer -/ officerA : Nat
  /-- second officer -/ officerB : Nat
deriving DecidableEq, Repr

/-- The event recorder (chapter 19). -/
structure Recorder where
  /-- events reported and not yet entered -/ inbox : List Event
  /-- volatile buffer, in number order (R430) -/ buf : List LogRec
  /-- next record number (R427) -/ next : Nat
  /-- chain value of the last record; none before the first, whose chain starts from R429's genesis value -/ chain : Option Nat
  /-- bucket levels by code, in 1/256 token; unlisted: 64 tokens (R436, EVR_LIMIT reset) -/ buckets : Table Nat
  /-- suppressed records by code: count and device time of the first (R436) -/ supp : Table (Nat × Nat)
  /-- records lost to a full buffer by code: count and device time of the first (R436) -/ lost : Table (Nat × Nat)
  /-- the 32 segments of the MRAM ring (R431) -/ ring : Table Segment
  /-- anchors, newest first, at most 16: record number and chain (R429) -/ anchors : List (Nat × Nat)
  /-- archived segments in the sealed store, oldest first (R433) -/ archive : List ArchSegment
  /-- next archive line, counted from BASE -/ archNext : Nat
  /-- the eight seal slots, newest first (R431) -/ seals : List SealSlot
  /-- seal slots used so far -/ sealCount : Nat
  /-- records entered since the last SEAL (R437) -/ sinceSeal : Nat
  /-- the flush in progress -/ flush : Option Flush
  /-- device time at the end of the last flush, or at release (R434) -/ lastFlush : Nat
  /-- archiving stopped and recorded (R433) -/ archBlocked : Bool
  /-- buffer-only operation (R440) -/ volatileOnly : Bool
  /-- the intent record in MRAM (R439) -/ intent : Option ClearIntent
deriving DecidableEq, Repr

/-- The recorder at the first start of a unit (R429, R430, R436). -/
def Recorder.reset : Recorder where
  inbox := []
  buf := []
  next := 0
  chain := none
  buckets := []
  supp := []
  lost := []
  ring := []
  anchors := []
  archive := []
  archNext := 0
  seals := []
  sealCount := 0
  sinceSeal := 0
  flush := none
  lastFlush := 0
  archBlocked := false
  volatileOnly := false
  intent := none

end Sys2Proof.Machine
end

