-- ==== Sys2Proof/Machine/Regs.lean ====
section
/-! DEFINITION. The supervisor register file: every field of every register table of the spec outside the device window
(01 R14, R16), with its address, bits, access code and reset value, and the operations that read and write fields.
A field whose reset the spec gives as fuses, straps, OTP, MRAM or a partition is read through the state that holds it;
its own reset here is 0 (log entry 3). -/

namespace Sys2Proof

/-- A field of a register: the register's address, the lowest bit, the width, and the reset value (R6). -/
structure Field where
  /-- address of the register -/ addr : Nat
  /-- lowest bit -/ lo : Nat
  /-- number of bits -/ width : Nat
  /-- value after any reset that reaches the block (R6) -/ reset : Nat
deriving DecidableEq, Repr

/-- The access codes of R4. -/
inductive Access where
  | rw | ro | wo | w1c | w1s
deriving DecidableEq, Repr

/-- A field as a row of a register table. -/
structure FieldRow where
  /-- name of the field -/ name : String
  /-- lowest bit -/ lo : Nat
  /-- number of bits -/ width : Nat
  /-- access code -/ access : Access
  /-- reset value -/ reset : Nat
deriving DecidableEq, Repr

/-- A register, or an array of registers: base address, the stride and count of each index, and its fields. -/
structure RegRow where
  /-- name of the register -/ name : String
  /-- address of element 0 -/ base : Nat
  /-- stride and count of each index -/ dims : List (Nat × Nat)
  /-- bytes of one register -/ bytes : Nat
  /-- the fields -/ fields : List FieldRow
deriving DecidableEq, Repr

/-- The values of register fields; a field not listed holds its reset value. -/
abbrev RegFile := List (Nat × Nat)

/-- The key of a field in the register file. -/
def Field.key (f : Field) : Nat := f.addr * 64 + f.lo

/-- The value of a field. -/
def regGet (r : RegFile) (f : Field) : Nat := tabGet f.reset r f.key

/-- A field set, cut to its width. -/
def regSet (r : RegFile) (f : Field) (v : Nat) : RegFile := tabSet f.reset r f.key (v % 2 ^ f.width)

/-- A field changed by a function of its value, wrapping at its width. -/
def regMod (r : RegFile) (f : Field) (g : Nat → Nat) : RegFile := regSet r f (g (regGet r f))

/-- A field that counts up and stays at its greatest value. -/
def regSatInc (r : RegFile) (f : Field) : RegFile :=
  regSet r f (if regGet r f + 1 < 2 ^ f.width then regGet r f + 1 else 2 ^ f.width - 1)

/-- A wrapping count advanced by one. -/
def regInc (r : RegFile) (f : Field) : RegFile := regMod r f (· + 1)

/-- Every field whose register lies in [lo, hi) back at its reset value (R6). -/
def regResetRange (r : RegFile) (lo hi : Nat) : RegFile :=
  tabDrop (fun k => decide (lo ≤ k / 64) && decide (k / 64 < hi)) r

namespace Reg

/-- PRF_CTL.HCLR (W1S, chapter 03). -/
def PRF_CTL_HCLR : Field := ⟨0x50010000, 2, 1, 0⟩
/-- PRF_CTL.DISPATCH_EN (RW, chapter 03). -/
def PRF_CTL_DISPATCH_EN : Field := ⟨0x50010000, 1, 1, 0⟩
/-- PRF_CTL.FETCH_EN (RW, chapter 03). -/
def PRF_CTL_FETCH_EN : Field := ⟨0x50010000, 0, 1, 0⟩
/-- PRF_STAT.RAND_WAIT (RO, chapter 03). -/
def PRF_STAT_RAND_WAIT : Field := ⟨0x50010008, 4, 1, 0⟩
/-- PRF_STAT.SPILL_FULL (RO, chapter 03). -/
def PRF_STAT_SPILL_FULL : Field := ⟨0x50010008, 3, 1, 0⟩
/-- PRF_STAT.STORE_FULL (RO, chapter 03). -/
def PRF_STAT_STORE_FULL : Field := ⟨0x50010008, 2, 1, 0⟩
/-- PRF_STAT.REFILLING (RO, chapter 03). -/
def PRF_STAT_REFILLING : Field := ⟨0x50010008, 1, 1, 0⟩
/-- PRF_STAT.SPILLING (RO, chapter 03). -/
def PRF_STAT_SPILLING : Field := ⟨0x50010008, 0, 1, 0⟩
/-- PRF_OPTMO.INTERVAL (RW, chapter 03). -/
def PRF_OPTMO_INTERVAL : Field := ⟨0x50010020, 0, 64, 0⟩
/-- PRF_ORDWIN.WIN (RW, chapter 03). -/
def PRF_ORDWIN_WIN : Field := ⟨0x50010028, 0, 11, 1024⟩
/-- PRF_SPILL_CFG.LOW (RW, chapter 03). -/
def PRF_SPILL_CFG_LOW : Field := ⟨0x50010030, 32, 17, 49152⟩
/-- PRF_SPILL_CFG.HIGH (RW, chapter 03). -/
def PRF_SPILL_CFG_HIGH : Field := ⟨0x50010030, 0, 17, 57344⟩
/-- PRF_SPILL_AREA.BASE (RW, chapter 03). -/
def PRF_SPILL_AREA_BASE : Field := ⟨0x50010038, 24, 33, 0⟩
/-- PRF_SPILL_AREA.LINES (RW, chapter 03). -/
def PRF_SPILL_AREA_LINES : Field := ⟨0x50010038, 0, 24, 0⟩
/-- PRF_QDEPTH.SPILLED (RO, chapter 03). -/
def PRF_QDEPTH_SPILLED : Field := ⟨0x50010040, 24, 24, 0⟩
/-- PRF_QDEPTH.ONCHIP (RO, chapter 03). -/
def PRF_QDEPTH_ONCHIP : Field := ⟨0x50010040, 0, 17, 0⟩
/-- PRF_DISP.CLUSTERS (RO, chapter 03). -/
def PRF_DISP_CLUSTERS : Field := ⟨0x50010048, 0, 24, 0⟩
/-- PRF_FLOWS.SPILLED (RO, chapter 03). -/
def PRF_FLOWS_SPILLED : Field := ⟨0x50010050, 24, 24, 0⟩
/-- PRF_FLOWS.ONCHIP (RO, chapter 03). -/
def PRF_FLOWS_ONCHIP : Field := ⟨0x50010050, 0, 17, 0⟩
/-- PRF_DRAIN.DONE (RO, chapter 03). -/
def PRF_DRAIN_DONE : Field := ⟨0x50010058, 9, 1, 0⟩
/-- PRF_DRAIN.REQ (RW, chapter 03). -/
def PRF_DRAIN_REQ : Field := ⟨0x50010058, 8, 1, 0⟩
/-- PRF_DRAIN.CLUSTER (RW, chapter 03). -/
def PRF_DRAIN_CLUSTER : Field := ⟨0x50010058, 0, 5, 0⟩
/-- PRF_CNT.COUNT (RO, chapter 03). -/
def PRF_CNT_COUNT (i : Nat) : Field := ⟨(0x50010080 + i * 0x8), 0, 64, 0⟩
/-- PRF_T_RATE.RATE (RW, chapter 03). -/
def PRF_T_RATE_RATE (t : Nat) : Field := ⟨(0x50011000 + t * 0x40), 0, 32, 0⟩
/-- PRF_T_SHARE.WEIGHT (RW, chapter 03). -/
def PRF_T_SHARE_WEIGHT (t : Nat) : Field := ⟨(0x50011008 + t * 0x40), 16, 8, 0⟩
/-- PRF_T_SHARE.BURST (RW, chapter 03). -/
def PRF_T_SHARE_BURST (t : Nat) : Field := ⟨(0x50011008 + t * 0x40), 0, 16, 0⟩
/-- PRF_T_PLACE.CORE_CAP (RW, chapter 03). -/
def PRF_T_PLACE_CORE_CAP (t : Nat) : Field := ⟨(0x50011010 + t * 0x40), 32, 8, 0⟩
/-- PRF_T_PLACE.CLMASK (RW, chapter 03). -/
def PRF_T_PLACE_CLMASK (t : Nat) : Field := ⟨(0x50011010 + t * 0x40), 0, 24, 0⟩
/-- PRF_T_QUOTA.ENTRIES (RW, chapter 03). -/
def PRF_T_QUOTA_ENTRIES (t : Nat) : Field := ⟨(0x50011018 + t * 0x40), 0, 24, 0⟩
/-- PRF_T_DEPTH.RUNNING (RO, chapter 03). -/
def PRF_T_DEPTH_RUNNING (t : Nat) : Field := ⟨(0x50011020 + t * 0x40), 56, 8, 0⟩
/-- PRF_T_DEPTH.SPILLED (RO, chapter 03). -/
def PRF_T_DEPTH_SPILLED (t : Nat) : Field := ⟨(0x50011020 + t * 0x40), 24, 24, 0⟩
/-- PRF_T_DEPTH.ENTRIES (RO, chapter 03). -/
def PRF_T_DEPTH_ENTRIES (t : Nat) : Field := ⟨(0x50011020 + t * 0x40), 0, 24, 0⟩
/-- PRF_T_TOKENS.LEVEL (RO, chapter 03). -/
def PRF_T_TOKENS_LEVEL (t : Nat) : Field := ⟨(0x50011028 + t * 0x40), 0, 32, 0⟩
/-- PRF_T_WAITH.COUNT (RO, chapter 03). -/
def PRF_T_WAITH_COUNT (t : Nat) (b : Nat) : Field := ⟨(0x50012000 + t * 0x40 + b * 0x4), 0, 32, 0⟩
/-- PRF_CORE_STAT.FLOW (RO, chapter 03). -/
def PRF_CORE_STAT_FLOW (n : Nat) : Field := ⟨(0x50013000 + n * 0x20), 32, 20, 0⟩
/-- PRF_CORE_STAT.PROG (RO, chapter 03). -/
def PRF_CORE_STAT_PROG (n : Nat) : Field := ⟨(0x50013000 + n * 0x20), 16, 16, 0⟩
/-- PRF_CORE_STAT.TENANT (RO, chapter 03). -/
def PRF_CORE_STAT_TENANT (n : Nat) : Field := ⟨(0x50013000 + n * 0x20), 9, 6, 0⟩
/-- PRF_CORE_STAT.RESIDENT (RO, chapter 03). -/
def PRF_CORE_STAT_RESIDENT (n : Nat) : Field := ⟨(0x50013000 + n * 0x20), 5, 4, 0⟩
/-- PRF_CORE_STAT.STATE (RO, chapter 03). -/
def PRF_CORE_STAT_STATE (n : Nat) : Field := ⟨(0x50013000 + n * 0x20), 0, 3, 0⟩
/-- PRF_CORE_RUN.COUNT (RO, chapter 03). -/
def PRF_CORE_RUN_COUNT (n : Nat) : Field := ⟨(0x50013008 + n * 0x20), 0, 64, 0⟩
/-- PRF_CORE_BUSY.CYCLES (RO, chapter 03). -/
def PRF_CORE_BUSY_CYCLES (n : Nat) : Field := ⟨(0x50013010 + n * 0x20), 0, 64, 0⟩
/-- CLU_CORE_CTL.IDLE (RO, chapter 04). -/
def CLU_CORE_CTL_IDLE (c : Nat) (n : Nat) : Field := ⟨(0x20300000 + c * 0x400000 + n * 0x20), 2, 1, 1⟩
/-- CLU_CORE_CTL.IDLE_REQ (W1S, chapter 04). -/
def CLU_CORE_CTL_IDLE_REQ (c : Nat) (n : Nat) : Field := ⟨(0x20300000 + c * 0x400000 + n * 0x20), 1, 1, 0⟩
/-- CLU_CORE_CTL.RESET (W1S, chapter 04). -/
def CLU_CORE_CTL_RESET (c : Nat) (n : Nat) : Field := ⟨(0x20300000 + c * 0x400000 + n * 0x20), 0, 1, 0⟩
/-- CLU_CORE_FAULT.PROG (RO, chapter 04). -/
def CLU_CORE_FAULT_PROG (c : Nat) (n : Nat) : Field := ⟨(0x20300008 + c * 0x400000 + n * 0x20), 48, 16, 0⟩
/-- CLU_CORE_FAULT.TENANT (RO, chapter 04). -/
def CLU_CORE_FAULT_TENANT (c : Nat) (n : Nat) : Field := ⟨(0x20300008 + c * 0x400000 + n * 0x20), 42, 6, 0⟩
/-- CLU_CORE_FAULT.EXC (RO, chapter 04). -/
def CLU_CORE_FAULT_EXC (c : Nat) (n : Nat) : Field := ⟨(0x20300008 + c * 0x400000 + n * 0x20), 32, 4, 0⟩
/-- CLU_CORE_FAULT.OFFSET (RO, chapter 04). -/
def CLU_CORE_FAULT_OFFSET (c : Nat) (n : Nat) : Field := ⟨(0x20300008 + c * 0x400000 + n * 0x20), 0, 15, 0⟩
/-- CLU_CORE_EXCNT.COUNT (RO, chapter 04). -/
def CLU_CORE_EXCNT_COUNT (c : Nat) (n : Nat) : Field := ⟨(0x20300010 + c * 0x400000 + n * 0x20), 0, 32, 0⟩
/-- CLU_IMG_STAT.MISSES (RO, chapter 04). -/
def CLU_IMG_STAT_MISSES (c : Nat) : Field := ⟨(0x20301000 + c * 0x400000), 32, 32, 0⟩
/-- CLU_IMG_STAT.HITS (RO, chapter 04). -/
def CLU_IMG_STAT_HITS (c : Nat) : Field := ⟨(0x20301000 + c * 0x400000), 0, 32, 0⟩
/-- CLU_ENG_KAT.FAILED (RO, chapter 06). -/
def CLU_ENG_KAT_FAILED (c : Nat) (n : Nat) : Field := ⟨(0x20302000 + c * 0x400000 + n * 0x20), 35, 13, 0⟩
/-- CLU_ENG_KAT.INJ_SEEN (RO, chapter 06). -/
def CLU_ENG_KAT_INJ_SEEN (c : Nat) (n : Nat) : Field := ⟨(0x20302000 + c * 0x400000 + n * 0x20), 34, 1, 0⟩
/-- CLU_ENG_KAT.PASS (RO, chapter 06). -/
def CLU_ENG_KAT_PASS (c : Nat) (n : Nat) : Field := ⟨(0x20302000 + c * 0x400000 + n * 0x20), 33, 1, 0⟩
/-- CLU_ENG_KAT.DONE (RO, chapter 06). -/
def CLU_ENG_KAT_DONE (c : Nat) (n : Nat) : Field := ⟨(0x20302000 + c * 0x400000 + n * 0x20), 32, 1, 0⟩
/-- CLU_ENG_KAT.MODES (RW, chapter 06). -/
def CLU_ENG_KAT_MODES (c : Nat) (n : Nat) : Field := ⟨(0x20302000 + c * 0x400000 + n * 0x20), 16, 13, 8191⟩
/-- CLU_ENG_KAT.INJECT (RW, chapter 06). -/
def CLU_ENG_KAT_INJECT (c : Nat) (n : Nat) : Field := ⟨(0x20302000 + c * 0x400000 + n * 0x20), 1, 1, 0⟩
/-- CLU_ENG_KAT.START (W1S, chapter 06). -/
def CLU_ENG_KAT_START (c : Nat) (n : Nat) : Field := ⟨(0x20302000 + c * 0x400000 + n * 0x20), 0, 1, 0⟩
/-- CLU_ENG_CNT.CTR_WRAP (RO, chapter 06). -/
def CLU_ENG_CNT_CTR_WRAP (c : Nat) (n : Nat) : Field := ⟨(0x20302008 + c * 0x400000 + n * 0x20), 32, 32, 0⟩
/-- CLU_ENG_CNT.AUTH_FAIL (RO, chapter 06). -/
def CLU_ENG_CNT_AUTH_FAIL (c : Nat) (n : Nat) : Field := ⟨(0x20302008 + c * 0x400000 + n * 0x20), 0, 32, 0⟩
/-- CLU_ENG_BLK.BLOCKS (RO, chapter 06). -/
def CLU_ENG_BLK_BLOCKS (c : Nat) (n : Nat) : Field := ⟨(0x20302010 + c * 0x400000 + n * 0x20), 0, 64, 0⟩
/-- CLU_MAU_SUBMIT.LINE (WO, chapter 07). -/
def CLU_MAU_SUBMIT_LINE (c : Nat) : Field := ⟨(0x20303000 + c * 0x400000), 6, 13, 0⟩
/-- CLU_MAU_STAT.DROPPED (RO, chapter 07). -/
def CLU_MAU_STAT_DROPPED (c : Nat) : Field := ⟨(0x20303008 + c * 0x400000), 48, 16, 0⟩
/-- CLU_MAU_STAT.DONE (RO, chapter 07). -/
def CLU_MAU_STAT_DONE (c : Nat) : Field := ⟨(0x20303008 + c * 0x400000), 32, 16, 0⟩
/-- CLU_MAU_STAT.BUSY (RO, chapter 07). -/
def CLU_MAU_STAT_BUSY (c : Nat) : Field := ⟨(0x20303008 + c * 0x400000), 6, 1, 0⟩
/-- CLU_MAU_STAT.QFULL (RO, chapter 07). -/
def CLU_MAU_STAT_QFULL (c : Nat) : Field := ⟨(0x20303008 + c * 0x400000), 5, 1, 0⟩
/-- CLU_MAU_STAT.QDEPTH (RO, chapter 07). -/
def CLU_MAU_STAT_QDEPTH (c : Nat) : Field := ⟨(0x20303008 + c * 0x400000), 0, 5, 0⟩
/-- CLU_MAU_CNT.IMG_REFUSED (RO, chapter 07). -/
def CLU_MAU_CNT_IMG_REFUSED (c : Nat) : Field := ⟨(0x20303010 + c * 0x400000), 48, 16, 0⟩
/-- CLU_MAU_CNT.CHECK_FAIL (RO, chapter 07). -/
def CLU_MAU_CNT_CHECK_FAIL (c : Nat) : Field := ⟨(0x20303010 + c * 0x400000), 32, 16, 0⟩
/-- CLU_MAU_CNT.OPS (RO, chapter 07). -/
def CLU_MAU_CNT_OPS (c : Nat) : Field := ⟨(0x20303010 + c * 0x400000), 0, 32, 0⟩
/-- CLU_MAU_BUSY.CYCLES (RO, chapter 07). -/
def CLU_MAU_BUSY_CYCLES (c : Nat) : Field := ⟨(0x20303018 + c * 0x400000), 0, 64, 0⟩
/-- CLU_HASH_CNT.CHECK_FAIL (RO, chapter 07). -/
def CLU_HASH_CNT_CHECK_FAIL (c : Nat) : Field := ⟨(0x20303020 + c * 0x400000), 48, 16, 0⟩
/-- CLU_HASH_CNT.UNITS (RO, chapter 07). -/
def CLU_HASH_CNT_UNITS (c : Nat) : Field := ⟨(0x20303020 + c * 0x400000), 0, 48, 0⟩
/-- CSP_CTL.FLUSH (W1S, chapter 08). -/
def CSP_CTL_FLUSH : Field := ⟨0x50110000, 4, 1, 0⟩
/-- CSP_CTL.BAUD (RW, chapter 08). -/
def CSP_CTL_BAUD : Field := ⟨0x50110000, 1, 2, 0⟩
/-- CSP_CTL.EN (RW, chapter 08). -/
def CSP_CTL_EN : Field := ⟨0x50110000, 0, 1, 0⟩
/-- CSP_STAT.TX_LEVEL (RO, chapter 08). -/
def CSP_STAT_TX_LEVEL : Field := ⟨0x50110008, 16, 8, 0⟩
/-- CSP_STAT.RX_LEVEL (RO, chapter 08). -/
def CSP_STAT_RX_LEVEL : Field := ⟨0x50110008, 8, 8, 0⟩
/-- CSP_STAT.FRAMING (W1C, chapter 08). -/
def CSP_STAT_FRAMING : Field := ⟨0x50110008, 6, 1, 0⟩
/-- CSP_STAT.OVERRUN (W1C, chapter 08). -/
def CSP_STAT_OVERRUN : Field := ⟨0x50110008, 5, 1, 0⟩
/-- CSP_STAT.SESSION (RW, chapter 08). -/
def CSP_STAT_SESSION : Field := ⟨0x50110008, 4, 1, 0⟩
/-- CSP_STAT.ATTN (RO, chapter 08). -/
def CSP_STAT_ATTN : Field := ⟨0x50110008, 1, 1, 0⟩
/-- CSP_STAT.PRESENT (RO, chapter 08). -/
def CSP_STAT_PRESENT : Field := ⟨0x50110008, 0, 1, 0⟩
/-- CSP_RX.VALID (RO, chapter 08). -/
def CSP_RX_VALID : Field := ⟨0x50110010, 8, 1, 0⟩
/-- CSP_RX.DATA (RO, chapter 08). -/
def CSP_RX_DATA : Field := ⟨0x50110010, 0, 8, 0⟩
/-- CSP_TX.DATA (WO, chapter 08). -/
def CSP_TX_DATA : Field := ⟨0x50110018, 0, 8, 0⟩
/-- CSP_CNT.SESSIONS (RO, chapter 08). -/
def CSP_CNT_SESSIONS : Field := ⟨0x50110020, 48, 16, 0⟩
/-- CSP_CNT.CRC_ERR (RO, chapter 08). -/
def CSP_CNT_CRC_ERR : Field := ⟨0x50110020, 32, 16, 0⟩
/-- CSP_CNT.FRAMES (RO, chapter 08). -/
def CSP_CNT_FRAMES : Field := ⟨0x50110020, 0, 32, 0⟩
/-- TBL_CTL.WT (RW, chapter 10). -/
def TBL_CTL_WT : Field := ⟨0x50080000, 2, 1, 0⟩
/-- TBL_CTL.AGER_EN (RW, chapter 10). -/
def TBL_CTL_AGER_EN : Field := ⟨0x50080000, 1, 1, 0⟩
/-- TBL_CTL.BC_EN (RW, chapter 10). -/
def TBL_CTL_BC_EN : Field := ⟨0x50080000, 0, 1, 0⟩
/-- TBL_STAT.POISONED (RO, chapter 10). -/
def TBL_STAT_POISONED : Field := ⟨0x50080008, 32, 32, 0⟩
/-- TBL_STAT.FATAL (RO, chapter 10). -/
def TBL_STAT_FATAL : Field := ⟨0x50080008, 2, 1, 0⟩
/-- TBL_STAT.RELOADING (RO, chapter 10). -/
def TBL_STAT_RELOADING : Field := ⟨0x50080008, 1, 1, 0⟩
/-- TBL_STAT.FLUSHING (RO, chapter 10). -/
def TBL_STAT_FLUSHING : Field := ⟨0x50080008, 0, 1, 0⟩
/-- TBL_KC_INV.BUSY (RO, chapter 10). -/
def TBL_KC_INV_BUSY : Field := ⟨0x50080010, 63, 1, 0⟩
/-- TBL_KC_INV.SCOPE (WO, chapter 10). -/
def TBL_KC_INV_SCOPE : Field := ⟨0x50080010, 32, 2, 0⟩
/-- TBL_KC_INV.GEN (WO, chapter 10). -/
def TBL_KC_INV_GEN : Field := ⟨0x50080010, 30, 2, 0⟩
/-- TBL_KC_INV.TENANT (WO, chapter 10). -/
def TBL_KC_INV_TENANT : Field := ⟨0x50080010, 24, 6, 0⟩
/-- TBL_KC_INV.HANDLE (WO, chapter 10). -/
def TBL_KC_INV_HANDLE : Field := ⟨0x50080010, 0, 24, 0⟩
/-- TBL_SV_CMD.BUSY (RO, chapter 10). -/
def TBL_SV_CMD_BUSY : Field := ⟨0x50080020, 63, 1, 0⟩
/-- TBL_SV_CMD.RESULT (RO, chapter 10). -/
def TBL_SV_CMD_RESULT : Field := ⟨0x50080020, 32, 16, 0⟩
/-- TBL_SV_CMD.OP (WO, chapter 10). -/
def TBL_SV_CMD_OP : Field := ⟨0x50080020, 0, 3, 0⟩
/-- TBL_SV_KEY.DIGHI (RW, chapter 10). -/
def TBL_SV_KEY_DIGHI : Field := ⟨0x50080028, 20, 12, 0⟩
/-- TBL_SV_KEY.TCAM (RW, chapter 10). -/
def TBL_SV_KEY_TCAM : Field := ⟨0x50080028, 19, 1, 0⟩
/-- TBL_SV_KEY.LEN (RW, chapter 10). -/
def TBL_SV_KEY_LEN : Field := ⟨0x50080028, 9, 5, 0⟩
/-- TBL_SV_KEY.TENANT (RW, chapter 10). -/
def TBL_SV_KEY_TENANT : Field := ⟨0x50080028, 0, 6, 0⟩
/-- TBL_SV_DIG.DIGITS (RW, chapter 10). -/
def TBL_SV_DIG_DIGITS : Field := ⟨0x50080030, 0, 64, 0⟩
/-- TBL_SV_VAL.VALUE (RW, chapter 10). -/
def TBL_SV_VAL_VALUE : Field := ⟨0x50080038, 0, 32, 0⟩
/-- TBL_SV_OCC.HASH (RO, chapter 10). -/
def TBL_SV_OCC_HASH : Field := ⟨0x50080040, 24, 21, 0⟩
/-- TBL_SV_OCC.TCAM (RO, chapter 10). -/
def TBL_SV_OCC_TCAM : Field := ⟨0x50080040, 0, 14, 0⟩
/-- TBL_TT_AGE.MAXAGE (RW, chapter 10). -/
def TBL_TT_AGE_MAXAGE : Field := ⟨0x50080050, 0, 64, 0⟩
/-- TBL_TT_SPILL.CHAIN (RW, chapter 10). -/
def TBL_TT_SPILL_CHAIN : Field := ⟨0x50080058, 60, 4, 4⟩
/-- TBL_TT_SPILL.BASE (RW, chapter 10). -/
def TBL_TT_SPILL_BASE : Field := ⟨0x50080058, 24, 33, 0⟩
/-- TBL_TT_SPILL.LINES (RW, chapter 10). -/
def TBL_TT_SPILL_LINES : Field := ⟨0x50080058, 0, 24, 0⟩
/-- TBL_TT_SALT.SALT (RW, chapter 10). -/
def TBL_TT_SALT_SALT : Field := ⟨0x50080060, 0, 64, 0⟩
/-- TBL_TT_OCC.PENDING (RO, chapter 10). -/
def TBL_TT_OCC_PENDING : Field := ⟨0x50080068, 48, 8, 0⟩
/-- TBL_TT_OCC.SPILLED (RO, chapter 10). -/
def TBL_TT_OCC_SPILLED : Field := ⟨0x50080068, 19, 29, 0⟩
/-- TBL_TT_OCC.ONCHIP (RO, chapter 10). -/
def TBL_TT_OCC_ONCHIP : Field := ⟨0x50080068, 0, 19, 0⟩
/-- TBL_BC_CFG.BASE (RW, chapter 10). -/
def TBL_BC_CFG_BASE : Field := ⟨0x50080070, 24, 33, 0⟩
/-- TBL_BC_CFG.PERIOD (RW, chapter 10). -/
def TBL_BC_CFG_PERIOD : Field := ⟨0x50080070, 0, 24, 65536⟩
/-- TBL_BC_STAT.MISMATCH (RO, chapter 10). -/
def TBL_BC_STAT_MISMATCH : Field := ⟨0x50080078, 48, 16, 0⟩
/-- TBL_BC_STAT.WALKS (RO, chapter 10). -/
def TBL_BC_STAT_WALKS : Field := ⟨0x50080078, 16, 32, 0⟩
/-- TBL_BC_STAT.BLOCK (RO, chapter 10). -/
def TBL_BC_STAT_BLOCK : Field := ⟨0x50080078, 0, 12, 0⟩
/-- TBL_CNT.COUNT (RO, chapter 10). -/
def TBL_CNT_COUNT (i : Nat) : Field := ⟨(0x50080100 + i * 0x8), 0, 64, 0⟩
/-- TBL_KH_BASE.BASE (RW, chapter 10). -/
def TBL_KH_BASE_BASE (t : Nat) : Field := ⟨(0x50081000 + t * 0x10), 0, 33, 0⟩
/-- TBL_KH_CFG.GENOCC (RW, chapter 10). -/
def TBL_KH_CFG_GENOCC (t : Nat) : Field := ⟨(0x50081008 + t * 0x10), 48, 4, 0⟩
/-- TBL_KH_CFG.RBASE (RW, chapter 10). -/
def TBL_KH_CFG_RBASE (t : Nat) : Field := ⟨(0x50081008 + t * 0x10), 24, 24, 0⟩
/-- TBL_KH_CFG.LIMIT (RW, chapter 10). -/
def TBL_KH_CFG_LIMIT (t : Nat) : Field := ⟨(0x50081008 + t * 0x10), 0, 24, 0⟩
/-- TBL_T_POL.MOVE_EVENT (RW, chapter 10). -/
def TBL_T_POL_MOVE_EVENT (t : Nat) : Field := ⟨(0x50081800 + t * 0x8), 2, 1, 0⟩
/-- TBL_T_POL.EVICT (RW, chapter 10). -/
def TBL_T_POL_EVICT (t : Nat) : Field := ⟨(0x50081800 + t * 0x8), 1, 1, 0⟩
/-- TBL_T_POL.LEARN (RW, chapter 10). -/
def TBL_T_POL_LEARN (t : Nat) : Field := ⟨(0x50081800 + t * 0x8), 0, 1, 0⟩
/-- SST_CTL.REKEY (W1S, chapter 11). -/
def SST_CTL_REKEY : Field := ⟨0x50070000, 1, 1, 0⟩
/-- SST_CTL.CUT (W1S, chapter 11). -/
def SST_CTL_CUT : Field := ⟨0x50070000, 0, 1, 0⟩
/-- SST_STAT.POISONED (RO, chapter 11). -/
def SST_STAT_POISONED : Field := ⟨0x50070008, 8, 8, 0⟩
/-- SST_STAT.FATAL (RO, chapter 11). -/
def SST_STAT_FATAL : Field := ⟨0x50070008, 7, 1, 0⟩
/-- SST_STAT.REKEYING (RO, chapter 11). -/
def SST_STAT_REKEYING : Field := ⟨0x50070008, 6, 1, 0⟩
/-- SST_STAT.PENDING (RO, chapter 11). -/
def SST_STAT_PENDING : Field := ⟨0x50070008, 5, 1, 0⟩
/-- SST_STAT.CUTTING (RO, chapter 11). -/
def SST_STAT_CUTTING : Field := ⟨0x50070008, 4, 1, 0⟩
/-- SST_STAT.FLUSHED (RO, chapter 11). -/
def SST_STAT_FLUSHED : Field := ⟨0x50070008, 3, 1, 0⟩
/-- SST_STAT.STATE (RO, chapter 11). -/
def SST_STAT_STATE : Field := ⟨0x50070008, 0, 2, 0⟩
/-- SST_CAP.LINES (RO, chapter 11). -/
def SST_CAP_LINES : Field := ⟨0x50070010, 0, 34, 0⟩
/-- SST_PORT.ON_ALT (RO, chapter 11). -/
def SST_PORT_ON_ALT : Field := ⟨0x50070018, 5, 1, 0⟩
/-- SST_PORT.ALT_VALID (RW, chapter 11). -/
def SST_PORT_ALT_VALID : Field := ⟨0x50070018, 4, 1, 0⟩
/-- SST_PORT.ALT (RW, chapter 11). -/
def SST_PORT_ALT : Field := ⟨0x50070018, 2, 2, 0⟩
/-- SST_PORT.PORT (RW, chapter 11). -/
def SST_PORT_PORT : Field := ⟨0x50070018, 0, 2, 0⟩
/-- SST_CKPT_CFG.INTERVAL (RW, chapter 11). -/
def SST_CKPT_CFG_INTERVAL : Field := ⟨0x50070020, 0, 64, 0⟩
/-- SST_CKPT_ADDR.ADDR (RO, chapter 11). -/
def SST_CKPT_ADDR_ADDR : Field := ⟨0x50070028, 6, 58, 0⟩
/-- SST_CKPT_NUM.PENDING (RO, chapter 11). -/
def SST_CKPT_NUM_PENDING : Field := ⟨0x50070030, 32, 32, 0⟩
/-- SST_CKPT_NUM.OPEN (RO, chapter 11). -/
def SST_CKPT_NUM_OPEN : Field := ⟨0x50070030, 0, 32, 0⟩
/-- SST_CKPT_DUR.DUR_B (RO, chapter 11). -/
def SST_CKPT_DUR_DUR_B : Field := ⟨0x50070038, 32, 32, 0⟩
/-- SST_CKPT_DUR.DUR_A (RO, chapter 11). -/
def SST_CKPT_DUR_DUR_A : Field := ⟨0x50070038, 0, 32, 0⟩
/-- SST_DURABLE_ACK.NUMBER (WO, chapter 11). -/
def SST_DURABLE_ACK_NUMBER : Field := ⟨0x50070040, 0, 32, 0⟩
/-- SST_EXT_HOST.ADDR (RW, chapter 11). -/
def SST_EXT_HOST_ADDR (e : Nat) : Field := ⟨(0x50070100 + e * 0x10), 12, 52, 0⟩
/-- SST_EXT_MAP.PAGES (RW, chapter 11). -/
def SST_EXT_MAP_PAGES (e : Nat) : Field := ⟨(0x50070108 + e * 0x10), 32, 32, 0⟩
/-- SST_EXT_MAP.START (RW, chapter 11). -/
def SST_EXT_MAP_START (e : Nat) : Field := ⟨(0x50070108 + e * 0x10), 0, 32, 0⟩
/-- SST_REKEY.GEN_NEW (RO, chapter 11). -/
def SST_REKEY_GEN_NEW : Field := ⟨0x50070048, 48, 16, 0⟩
/-- SST_REKEY.GEN_OLD (RO, chapter 11). -/
def SST_REKEY_GEN_OLD : Field := ⟨0x50070048, 32, 16, 0⟩
/-- SST_REKEY.POINTER (RO, chapter 11). -/
def SST_REKEY_POINTER : Field := ⟨0x50070048, 0, 29, 0⟩
/-- SST_REKEY_CFG.SHARE (RW, chapter 11). -/
def SST_REKEY_CFG_SHARE : Field := ⟨0x50070050, 0, 7, 25⟩
/-- SST_INTEG_CFG.THRESH (RW, chapter 11). -/
def SST_INTEG_CFG_THRESH : Field := ⟨0x50070058, 0, 8, 4⟩
/-- SST_INTEG_WIN.WINDOW (RW, chapter 11). -/
def SST_INTEG_WIN_WINDOW : Field := ⟨0x50070060, 0, 64, 0⟩
/-- SST_CNT.COUNT (RO, chapter 11). -/
def SST_CNT_COUNT (i : Nat) : Field := ⟨(0x50070080 + i * 0x8), 0, 64, 0⟩
/-- TIM_CTL.UNTRUST_FATAL (RW, chapter 12). -/
def TIM_CTL_UNTRUST_FATAL : Field := ⟨0x500A0000, 3, 1, 0⟩
/-- TIM_CTL.PAIR_CMP_EN (RW, chapter 12). -/
def TIM_CTL_PAIR_CMP_EN : Field := ⟨0x500A0000, 2, 1, 0⟩
/-- TIM_CTL.OUT_HOLD (RW, chapter 12). -/
def TIM_CTL_OUT_HOLD : Field := ⟨0x500A0000, 1, 1, 0⟩
/-- TIM_CTL.OUT_EN (RW, chapter 12). -/
def TIM_CTL_OUT_EN : Field := ⟨0x500A0000, 0, 1, 0⟩
/-- TIM_STAT.RUN (RO, chapter 12). -/
def TIM_STAT_RUN : Field := ⟨0x500A0008, 8, 4, 0⟩
/-- TIM_STAT.GAP (RO, chapter 12). -/
def TIM_STAT_GAP : Field := ⟨0x500A0008, 7, 1, 0⟩
/-- TIM_STAT.WALL_VALID (RO, chapter 12). -/
def TIM_STAT_WALL_VALID : Field := ⟨0x500A0008, 6, 1, 0⟩
/-- TIM_STAT.PAIR_MISMATCH (RO, chapter 12). -/
def TIM_STAT_PAIR_MISMATCH : Field := ⟨0x500A0008, 5, 1, 0⟩
/-- TIM_STAT.DISCIPLINED (RO, chapter 12). -/
def TIM_STAT_DISCIPLINED : Field := ⟨0x500A0008, 4, 1, 0⟩
/-- TIM_STAT.STATE (RO, chapter 12). -/
def TIM_STAT_STATE : Field := ⟨0x500A0008, 0, 2, 2⟩
/-- TIM_NOW.TIME (RO, chapter 12). -/
def TIM_NOW_TIME : Field := ⟨0x500A0010, 0, 64, 0⟩
/-- TIM_PERIOD.PERIOD_NS (RW, chapter 12). -/
def TIM_PERIOD_PERIOD_NS : Field := ⟨0x500A0018, 0, 30, 1000000⟩
/-- TIM_WINDOW.PPM (RW, chapter 12). -/
def TIM_WINDOW_PPM : Field := ⟨0x500A0020, 0, 14, 1000⟩
/-- TIM_HOLDOVER.SECONDS (RW, chapter 12). -/
def TIM_HOLDOVER_SECONDS : Field := ⟨0x500A0028, 0, 12, 60⟩
/-- TIM_RELOCK.COUNT (RW, chapter 12). -/
def TIM_RELOCK_COUNT : Field := ⟨0x500A0030, 0, 4, 4⟩
/-- TIM_WALL0.WALL0 (RO, chapter 12). -/
def TIM_WALL0_WALL0 : Field := ⟨0x500A0038, 0, 64, 0⟩
/-- TIM_RATE.CYCLES (RO, chapter 12). -/
def TIM_RATE_CYCLES : Field := ⟨0x500A0040, 24, 40, 0⟩
/-- TIM_RATE.FRAC (RO, chapter 12). -/
def TIM_RATE_FRAC : Field := ⟨0x500A0040, 0, 24, 0⟩
/-- TIM_LAST.TIME (RO, chapter 12). -/
def TIM_LAST_TIME : Field := ⟨0x500A0048, 0, 64, 0⟩
/-- TIM_HOLD_TIME.INTERVAL (RO, chapter 12). -/
def TIM_HOLD_TIME_INTERVAL : Field := ⟨0x500A0050, 0, 64, 0⟩
/-- TIM_PAIR.PEER (RO, chapter 12). -/
def TIM_PAIR_PEER : Field := ⟨0x500A0058, 32, 32, 0⟩
/-- TIM_PAIR.DIFF (RO, chapter 12). -/
def TIM_PAIR_DIFF : Field := ⟨0x500A0058, 8, 8, 0⟩
/-- TIM_PAIR.N (RW, chapter 12). -/
def TIM_PAIR_N : Field := ⟨0x500A0058, 0, 4, 3⟩
/-- TIM_CNT.COUNT (RO, chapter 12). -/
def TIM_CNT_COUNT (i : Nat) : Field := ⟨(0x500A0080 + i * 0x8), 0, 64, 0⟩
/-- ENT_CTL.TESTPAT (RW, chapter 12). -/
def ENT_CTL_TESTPAT : Field := ⟨0x50090000, 0, 1, 0⟩
/-- ENT_STAT.POOL (RO, chapter 12). -/
def ENT_STAT_POOL : Field := ⟨0x50090008, 32, 8, 0⟩
/-- ENT_STAT.BLOCKED (RO, chapter 12). -/
def ENT_STAT_BLOCKED : Field := ⟨0x50090008, 24, 8, 0⟩
/-- ENT_STAT.READY (RO, chapter 12). -/
def ENT_STAT_READY : Field := ⟨0x50090008, 16, 8, 0⟩
/-- ENT_STAT.KAT_FAIL (RO, chapter 12). -/
def ENT_STAT_KAT_FAIL : Field := ⟨0x50090008, 3, 1, 0⟩
/-- ENT_STAT.STARVED (RO, chapter 12). -/
def ENT_STAT_STARVED : Field := ⟨0x50090008, 2, 1, 0⟩
/-- ENT_STAT.AVAIL (RO, chapter 12). -/
def ENT_STAT_AVAIL : Field := ⟨0x50090008, 1, 1, 0⟩
/-- ENT_STAT.FIRST_SEED (RO, chapter 12). -/
def ENT_STAT_FIRST_SEED : Field := ⟨0x50090008, 0, 1, 0⟩
/-- ENT_CUT.APT (RW, chapter 12). -/
def ENT_CUT_APT : Field := ⟨0x50090010, 16, 16, 794⟩
/-- ENT_CUT.RCT (RW, chapter 12). -/
def ENT_CUT_RCT : Field := ⟨0x50090010, 0, 16, 41⟩
/-- ENT_RESEED_REQ.LIMIT (RW, chapter 12). -/
def ENT_RESEED_REQ_LIMIT : Field := ⟨0x50090018, 0, 21, 65536⟩
/-- ENT_RESEED_TIME.INTERVAL (RW, chapter 12). -/
def ENT_RESEED_TIME_INTERVAL : Field := ⟨0x50090020, 0, 64, 0⟩
/-- ENT_TESTPAT.PATTERN (RW, chapter 12). -/
def ENT_TESTPAT_PATTERN : Field := ⟨0x50090028, 0, 64, 0⟩
/-- ENT_SRC_CNT.RCT_FAIL (RO, chapter 12). -/
def ENT_SRC_CNT_RCT_FAIL (s : Nat) : Field := ⟨(0x50090040 + s * 0x40), 48, 16, 0⟩
/-- ENT_SRC_CNT.APT_FAIL (RO, chapter 12). -/
def ENT_SRC_CNT_APT_FAIL (s : Nat) : Field := ⟨(0x50090040 + s * 0x40), 32, 16, 0⟩
/-- ENT_SRC_CNT.WINDOWS (RO, chapter 12). -/
def ENT_SRC_CNT_WINDOWS (s : Nat) : Field := ⟨(0x50090040 + s * 0x40), 0, 32, 0⟩
/-- ENT_SRC_BIAS.P1 (RO, chapter 12). -/
def ENT_SRC_BIAS_P1 (s : Nat) : Field := ⟨(0x50090048 + s * 0x40), 0, 16, 0⟩
/-- ENT_SRC_CORR.RHO (RO, chapter 12). -/
def ENT_SRC_CORR_RHO (s : Nat) (j : Nat) : Field := ⟨(0x50090050 + s * 0x40 + j * 0x4), 0, 16, 0⟩
/-- ENT_CNT.COUNT (RO, chapter 12). -/
def ENT_CNT_COUNT (i : Nat) : Field := ⟨(0x50090100 + i * 0x8), 0, 64, 0⟩
/-- ENT_INST.RESEEDS (RO, chapter 12). -/
def ENT_INST_RESEEDS (i : Nat) : Field := ⟨(0x50091000 + i * 0x8), 48, 16, 0⟩
/-- ENT_INST.REQS (RO, chapter 12). -/
def ENT_INST_REQS (i : Nat) : Field := ⟨(0x50091000 + i * 0x8), 6, 21, 0⟩
/-- ENT_INST.STATE (RO, chapter 12). -/
def ENT_INST_STATE (i : Nat) : Field := ⟨(0x50091000 + i * 0x8), 0, 2, 0⟩
/-- LNK_CTL.HOT_RST_EN (RW, chapter 13). -/
def LNK_CTL_HOT_RST_EN (n : Nat) : Field := ⟨(0x50020000 + n * 0x10000), 7, 1, 1⟩
/-- LNK_CTL.MAXWIDTH (RW, chapter 13). -/
def LNK_CTL_MAXWIDTH (n : Nat) : Field := ⟨(0x50020000 + n * 0x10000), 4, 2, 2⟩
/-- LNK_CTL.MAXGEN (RW, chapter 13). -/
def LNK_CTL_MAXGEN (n : Nat) : Field := ⟨(0x50020000 + n * 0x10000), 2, 2, 3⟩
/-- LNK_CTL.RETRAIN (W1S, chapter 13). -/
def LNK_CTL_RETRAIN (n : Nat) : Field := ⟨(0x50020000 + n * 0x10000), 1, 1, 0⟩
/-- LNK_CTL.EN (RW, chapter 13). -/
def LNK_CTL_EN (n : Nat) : Field := ⟨(0x50020000 + n * 0x10000), 0, 1, 1⟩
/-- LNK_STAT.PGEN (RO, chapter 13). -/
def LNK_STAT_PGEN (n : Nat) : Field := ⟨(0x50020008 + n * 0x10000), 22, 2, 0⟩
/-- LNK_STAT.PWIDTH (RO, chapter 13). -/
def LNK_STAT_PWIDTH (n : Nat) : Field := ⟨(0x50020008 + n * 0x10000), 20, 2, 0⟩
/-- LNK_STAT.FAILED (RO, chapter 13). -/
def LNK_STAT_FAILED (n : Nat) : Field := ⟨(0x50020008 + n * 0x10000), 17, 1, 0⟩
/-- LNK_STAT.REVERSED (RO, chapter 13). -/
def LNK_STAT_REVERSED (n : Nat) : Field := ⟨(0x50020008 + n * 0x10000), 16, 1, 0⟩
/-- LNK_STAT.LANES (RO, chapter 13). -/
def LNK_STAT_LANES (n : Nat) : Field := ⟨(0x50020008 + n * 0x10000), 12, 4, 0⟩
/-- LNK_STAT.WIDTH (RO, chapter 13). -/
def LNK_STAT_WIDTH (n : Nat) : Field := ⟨(0x50020008 + n * 0x10000), 10, 2, 0⟩
/-- LNK_STAT.GEN (RO, chapter 13). -/
def LNK_STAT_GEN (n : Nat) : Field := ⟨(0x50020008 + n * 0x10000), 8, 2, 0⟩
/-- LNK_STAT.STATE (RO, chapter 13). -/
def LNK_STAT_STATE (n : Nat) : Field := ⟨(0x50020008 + n * 0x10000), 0, 3, 0⟩
/-- LNK_TMO.CPL_TMO (RW, chapter 13). -/
def LNK_TMO_CPL_TMO (n : Nat) : Field := ⟨(0x50020010 + n * 0x10000), 32, 32, 20000⟩
/-- LNK_TMO.FO_TMO (RW, chapter 13). -/
def LNK_TMO_FO_TMO (n : Nat) : Field := ⟨(0x50020010 + n * 0x10000), 0, 32, 10000⟩
/-- LNK_OCC.RETRY (RO, chapter 13). -/
def LNK_OCC_RETRY (n : Nat) : Field := ⟨(0x50020018 + n * 0x10000), 24, 17, 0⟩
/-- LNK_OCC.READS (RO, chapter 13). -/
def LNK_OCC_READS (n : Nat) : Field := ⟨(0x50020018 + n * 0x10000), 0, 9, 0⟩
/-- LNK_ERR.FAILOVER (W1C, chapter 13). -/
def LNK_ERR_FAILOVER (n : Nat) : Field := ⟨(0x50020020 + n * 0x10000), 7, 1, 0⟩
/-- LNK_ERR.LANE_LOST (W1C, chapter 13). -/
def LNK_ERR_LANE_LOST (n : Nat) : Field := ⟨(0x50020020 + n * 0x10000), 6, 1, 0⟩
/-- LNK_ERR.BAD_HOST (W1C, chapter 13). -/
def LNK_ERR_BAD_HOST (n : Nat) : Field := ⟨(0x50020020 + n * 0x10000), 5, 1, 0⟩
/-- LNK_ERR.CPL_TMO (W1C, chapter 13). -/
def LNK_ERR_CPL_TMO (n : Nat) : Field := ⟨(0x50020020 + n * 0x10000), 4, 1, 0⟩
/-- LNK_ERR.ACK_TMO (W1C, chapter 13). -/
def LNK_ERR_ACK_TMO (n : Nat) : Field := ⟨(0x50020020 + n * 0x10000), 3, 1, 0⟩
/-- LNK_ERR.REPLAY_LIMIT (W1C, chapter 13). -/
def LNK_ERR_REPLAY_LIMIT (n : Nat) : Field := ⟨(0x50020020 + n * 0x10000), 2, 1, 0⟩
/-- LNK_ERR.FEC_UNCORR (W1C, chapter 13). -/
def LNK_ERR_FEC_UNCORR (n : Nat) : Field := ⟨(0x50020020 + n * 0x10000), 1, 1, 0⟩
/-- LNK_ERR.CRC (W1C, chapter 13). -/
def LNK_ERR_CRC (n : Nat) : Field := ⟨(0x50020020 + n * 0x10000), 0, 1, 0⟩
/-- LNK_CNT.COUNT (RO, chapter 13). -/
def LNK_CNT_COUNT (n : Nat) (i : Nat) : Field := ⟨(0x50020080 + n * 0x10000 + i * 0x8), 0, 64, 0⟩
/-- STR_CTL.STARTER_EN (RW, chapter 14). -/
def STR_CTL_STARTER_EN : Field := ⟨0x50060000, 2, 1, 1⟩
/-- STR_CTL.SEED (W1S, chapter 14). -/
def STR_CTL_SEED : Field := ⟨0x50060000, 1, 1, 0⟩
/-- STR_CTL.CLAIM_EN (RW, chapter 14). -/
def STR_CTL_CLAIM_EN : Field := ⟨0x50060000, 0, 1, 0⟩
/-- STR_STAT.LAST_ACTIVE (RO, chapter 14). -/
def STR_STAT_LAST_ACTIVE : Field := ⟨0x50060008, 11, 1, 0⟩
/-- STR_STAT.PRI (RO, chapter 14). -/
def STR_STAT_PRI : Field := ⟨0x50060008, 10, 1, 0⟩
/-- STR_STAT.STARTER_UP (RO, chapter 14). -/
def STR_STAT_STARTER_UP : Field := ⟨0x50060008, 9, 1, 0⟩
/-- STR_STAT.ELIGIBLE (RO, chapter 14). -/
def STR_STAT_ELIGIBLE : Field := ⟨0x50060008, 8, 1, 0⟩
/-- STR_STAT.SERVICE (RO, chapter 14). -/
def STR_STAT_SERVICE : Field := ⟨0x50060008, 7, 1, 0⟩
/-- STR_STAT.ACTIVE_LOW (RO, chapter 14). -/
def STR_STAT_ACTIVE_LOW : Field := ⟨0x50060008, 6, 1, 0⟩
/-- STR_STAT.PEER (RO, chapter 14). -/
def STR_STAT_PEER : Field := ⟨0x50060008, 5, 1, 0⟩
/-- STR_STAT.CLAIM (RO, chapter 14). -/
def STR_STAT_CLAIM : Field := ⟨0x50060008, 4, 1, 0⟩
/-- STR_STAT.PSTATE (RO, chapter 14). -/
def STR_STAT_PSTATE : Field := ⟨0x50060008, 0, 3, 0⟩
/-- STR_CFG.BOOT_WAIT (RW, chapter 14). -/
def STR_CFG_BOOT_WAIT : Field := ⟨0x50060010, 32, 16, 1000⟩
/-- STR_CFG.LINK_TMO (RW, chapter 14). -/
def STR_CFG_LINK_TMO : Field := ⟨0x50060010, 0, 32, 10000⟩
/-- STR_EPOCH_CFG.MAXBYTES (RW, chapter 14). -/
def STR_EPOCH_CFG_MAXBYTES : Field := ⟨0x50060018, 16, 16, 256⟩
/-- STR_EPOCH_CFG.MAXAGE (RW, chapter 14). -/
def STR_EPOCH_CFG_MAXAGE : Field := ⟨0x50060018, 0, 16, 2000⟩
/-- STR_EPOCH.OPEN (RO, chapter 14). -/
def STR_EPOCH_OPEN : Field := ⟨0x50060020, 0, 64, 0⟩
/-- STR_ACKED.EPOCH (RO, chapter 14). -/
def STR_ACKED_EPOCH : Field := ⟨0x50060028, 0, 64, 0⟩
/-- STR_HORIZON.H (RO, chapter 14). -/
def STR_HORIZON_H : Field := ⟨0x50060030, 0, 64, 0⟩
/-- STR_DIAG.COND (RO, chapter 14). -/
def STR_DIAG_COND : Field := ⟨0x50060038, 0, 6, 0⟩
/-- STR_DIAG_CFG.AUDIT_FATAL (RW, chapter 14). -/
def STR_DIAG_CFG_AUDIT_FATAL : Field := ⟨0x50060040, 8, 1, 0⟩
/-- STR_DIAG_CFG.RETIRE_MAX (RW, chapter 14). -/
def STR_DIAG_CFG_RETIRE_MAX : Field := ⟨0x50060040, 0, 8, 2⟩
/-- STR_SEED.ITEMS (RO, chapter 14). -/
def STR_SEED_ITEMS : Field := ⟨0x50060048, 0, 64, 0⟩
/-- STR_JNL.EPOCHS (RO, chapter 14). -/
def STR_JNL_EPOCHS : Field := ⟨0x50060050, 32, 13, 0⟩
/-- STR_JNL.BYTES (RO, chapter 14). -/
def STR_JNL_BYTES : Field := ⟨0x50060050, 0, 19, 0⟩
/-- STR_CNT.COUNT (RO, chapter 14). -/
def STR_CNT_COUNT (i : Nat) : Field := ⟨(0x50060080 + i * 0x8), 0, 64, 0⟩
/-- GRD_CTL.DISARM (RW, chapter 15). -/
def GRD_CTL_DISARM : Field := ⟨0x500B0000, 0, 1, 0⟩
/-- GRD_STAT.ZV_FAIL (RO, chapter 15). -/
def GRD_STAT_ZV_FAIL : Field := ⟨0x500B0008, 5, 1, 0⟩
/-- GRD_STAT.POR_LOST (RO, chapter 15). -/
def GRD_STAT_POR_LOST : Field := ⟨0x500B0008, 4, 1, 1⟩
/-- GRD_STAT.TRIP_ACTIVE (RO, chapter 15). -/
def GRD_STAT_TRIP_ACTIVE : Field := ⟨0x500B0008, 3, 1, 0⟩
/-- GRD_STAT.KEYS (RO, chapter 15). -/
def GRD_STAT_KEYS : Field := ⟨0x500B0008, 2, 1, 0⟩
/-- GRD_STAT.BATTERY (RO, chapter 15). -/
def GRD_STAT_BATTERY : Field := ⟨0x500B0008, 1, 1, 1⟩
/-- GRD_STAT.LOGIC (RO, chapter 15). -/
def GRD_STAT_LOGIC : Field := ⟨0x500B0008, 0, 1, 0⟩
/-- GRD_RESP.RESP (RW, chapter 15). -/
def GRD_RESP_RESP : Field := ⟨0x500B0010, 0, 36, 45812984490⟩
/-- GRD_SRC.LATCHED (W1C, chapter 15). -/
def GRD_SRC_LATCHED : Field := ⟨0x500B0018, 0, 18, 0⟩
/-- GRD_MESH_CFG.FILT (RW, chapter 15). -/
def GRD_MESH_CFG_FILT (ch : Nat) : Field := ⟨(0x500B0100 + ch * 0x10), 32, 4, 2⟩
/-- GRD_MESH_CFG.DLY_MAX (RW, chapter 15). -/
def GRD_MESH_CFG_DLY_MAX (ch : Nat) : Field := ⟨(0x500B0100 + ch * 0x10), 24, 8, 64⟩
/-- GRD_MESH_CFG.DLY_MIN (RW, chapter 15). -/
def GRD_MESH_CFG_DLY_MIN (ch : Nat) : Field := ⟨(0x500B0100 + ch * 0x10), 16, 8, 0⟩
/-- GRD_MESH_CFG.RATE (RW, chapter 15). -/
def GRD_MESH_CFG_RATE (ch : Nat) : Field := ⟨(0x500B0100 + ch * 0x10), 1, 10, 100⟩
/-- GRD_MESH_CFG.EN (RW, chapter 15). -/
def GRD_MESH_CFG_EN (ch : Nat) : Field := ⟨(0x500B0100 + ch * 0x10), 0, 1, 1⟩
/-- GRD_MESH_STAT.FAILS (RO, chapter 15). -/
def GRD_MESH_STAT_FAILS (ch : Nat) : Field := ⟨(0x500B0108 + ch * 0x10), 32, 32, 0⟩
/-- GRD_MESH_STAT.FAULT (RO, chapter 15). -/
def GRD_MESH_STAT_FAULT (ch : Nat) : Field := ⟨(0x500B0108 + ch * 0x10), 24, 2, 0⟩
/-- GRD_MESH_STAT.DLY_B (RO, chapter 15). -/
def GRD_MESH_STAT_DLY_B (ch : Nat) : Field := ⟨(0x500B0108 + ch * 0x10), 8, 8, 0⟩
/-- GRD_MESH_STAT.DLY_A (RO, chapter 15). -/
def GRD_MESH_STAT_DLY_A (ch : Nat) : Field := ⟨(0x500B0108 + ch * 0x10), 0, 8, 0⟩
/-- GRD_TAMP_CFG.IN (RW, chapter 15). -/
def GRD_TAMP_CFG_IN : Field := ⟨0x500B0200, 0, 16, 0⟩
/-- GRD_TEMP.TEMP (RO, chapter 15). -/
def GRD_TEMP_TEMP : Field := ⟨0x500B0208, 0, 16, 0⟩
/-- GRD_TIMER.COUNT (RO, chapter 15). -/
def GRD_TIMER_COUNT : Field := ⟨0x500B0210, 0, 48, 0⟩
/-- GRD_TREC.TRIPS (RO, chapter 15). -/
def GRD_TREC_TRIPS : Field := ⟨0x500B0218, 48, 16, 0⟩
/-- GRD_TREC.CAUSE (RO, chapter 15). -/
def GRD_TREC_CAUSE : Field := ⟨0x500B0218, 0, 18, 0⟩
/-- GRD_TREC_TIME.TIMER (RO, chapter 15). -/
def GRD_TREC_TIME_TIMER : Field := ⟨0x500B0220, 0, 48, 0⟩
/-- GRD_STICKY.AUDIT_LOST (RO, chapter 15). -/
def GRD_STICKY_AUDIT_LOST : Field := ⟨0x500B0228, 32, 1, 0⟩
/-- GRD_STICKY.SEG_BAD (RO, chapter 15). -/
def GRD_STICKY_SEG_BAD : Field := ⟨0x500B0228, 0, 32, 0⟩
/-- SYS_CTL.KEY (WO, chapter 16). -/
def SYS_CTL_KEY : Field := ⟨0x50000000, 8, 8, 0⟩
/-- SYS_CTL.SVC_RST (W1S, chapter 16). -/
def SYS_CTL_SVC_RST : Field := ⟨0x50000000, 1, 1, 0⟩
/-- SYS_CTL.CHIP_RST (W1S, chapter 16). -/
def SYS_CTL_CHIP_RST : Field := ⟨0x50000000, 0, 1, 0⟩
/-- SYS_STRAP.PAIR_PRI (RO, chapter 16). -/
def SYS_STRAP_PAIR_PRI : Field := ⟨0x50000008, 4, 1, 0⟩
/-- SYS_STRAP.CLK_MODE (RO, chapter 16). -/
def SYS_STRAP_CLK_MODE : Field := ⟨0x50000008, 2, 2, 0⟩
/-- SYS_STRAP.BOOT_SRC (RO, chapter 16). -/
def SYS_STRAP_BOOT_SRC : Field := ⟨0x50000008, 0, 2, 0⟩
/-- SYS_STAGE.CLUSTERS (RO, chapter 16). -/
def SYS_STAGE_CLUSTERS : Field := ⟨0x50000010, 40, 24, 0⟩
/-- SYS_STAGE.OVERRIDE (W1S, chapter 16). -/
def SYS_STAGE_OVERRIDE : Field := ⟨0x50000010, 32, 1, 0⟩
/-- SYS_STAGE.CLKGOOD (RO, chapter 16). -/
def SYS_STAGE_CLKGOOD : Field := ⟨0x50000010, 16, 5, 0⟩
/-- SYS_STAGE.STAGE (RO, chapter 16). -/
def SYS_STAGE_STAGE : Field := ⟨0x50000010, 0, 4, 0⟩
/-- SYS_RST_CAUSE.CLK_DOMAIN (RO, chapter 16). -/
def SYS_RST_CAUSE_CLK_DOMAIN : Field := ⟨0x50000018, 24, 3, 0⟩
/-- SYS_RST_CAUSE.PREP_CUT (W1C, chapter 16). -/
def SYS_RST_CAUSE_PREP_CUT : Field := ⟨0x50000018, 23, 1, 0⟩
/-- SYS_RST_CAUSE.DEFERRED (W1C, chapter 16). -/
def SYS_RST_CAUSE_DEFERRED : Field := ⟨0x50000018, 22, 1, 0⟩
/-- SYS_RST_CAUSE.LEVEL (RO, chapter 16). -/
def SYS_RST_CAUSE_LEVEL : Field := ⟨0x50000018, 16, 3, 1⟩
/-- SYS_RST_CAUSE.SOURCES (W1C, chapter 16). -/
def SYS_RST_CAUSE_SOURCES : Field := ⟨0x50000018, 0, 14, 2⟩
/-- SYS_RST_MAP.LEVELS (RO, chapter 16). -/
def SYS_RST_MAP_LEVELS : Field := ⟨0x50000020, 0, 42, 0⟩
/-- SYS_RST_CNT.L1 (RO, chapter 16). -/
def SYS_RST_CNT_L1 : Field := ⟨0x50000028, 32, 32, 0⟩
/-- SYS_RST_CNT.L2 (RO, chapter 16). -/
def SYS_RST_CNT_L2 : Field := ⟨0x50000028, 16, 16, 0⟩
/-- SYS_RST_CNT.NOSERVICE (RO, chapter 16). -/
def SYS_RST_CNT_NOSERVICE : Field := ⟨0x50000028, 0, 8, 0⟩
/-- SYS_GAP.CYCLES (RO, chapter 16). -/
def SYS_GAP_CYCLES (i : Nat) : Field := ⟨(0x50000040 + i * 0x8), 0, 16, 0⟩
/-- SYS_WDOG.KICK (W1S, chapter 16). -/
def SYS_WDOG_KICK (p : Nat) : Field := ⟨(0x50000090 + p * 0x10), 33, 1, 0⟩
/-- SYS_WDOG.EN (W1S, chapter 16). -/
def SYS_WDOG_EN (p : Nat) : Field := ⟨(0x50000090 + p * 0x10), 32, 1, 0⟩
/-- SYS_WDOG.PERIOD (RW, chapter 16). -/
def SYS_WDOG_PERIOD (p : Nat) : Field := ⟨(0x50000090 + p * 0x10), 0, 32, 1000000⟩
/-- SYS_BLK_RST.TMO (RW, chapter 16). -/
def SYS_BLK_RST_TMO : Field := ⟨0x500000B0, 32, 32, 100⟩
/-- SYS_BLK_RST.BUSY (RO, chapter 16). -/
def SYS_BLK_RST_BUSY : Field := ⟨0x500000B0, 9, 1, 0⟩
/-- SYS_BLK_RST.REQ (W1S, chapter 16). -/
def SYS_BLK_RST_REQ : Field := ⟨0x500000B0, 8, 1, 0⟩
/-- SYS_BLK_RST.BLOCK (RW, chapter 16). -/
def SYS_BLK_RST_BLOCK : Field := ⟨0x500000B0, 0, 5, 0⟩
/-- SYS_BOOT_STAT.RESULT (RO, chapter 16). -/
def SYS_BOOT_STAT_RESULT : Field := ⟨0x500000B8, 16, 16, 0⟩
/-- SYS_BOOT_STAT.SOURCE (RO, chapter 16). -/
def SYS_BOOT_STAT_SOURCE : Field := ⟨0x500000B8, 10, 2, 0⟩
/-- SYS_BOOT_STAT.PORT (RO, chapter 16). -/
def SYS_BOOT_STAT_PORT : Field := ⟨0x500000B8, 8, 2, 0⟩
/-- SYS_BOOT_STAT.COPY (RO, chapter 16). -/
def SYS_BOOT_STAT_COPY : Field := ⟨0x500000B8, 4, 4, 0⟩
/-- SYS_BOOT_STAT.PHASE (RO, chapter 16). -/
def SYS_BOOT_STAT_PHASE : Field := ⟨0x500000B8, 0, 4, 0⟩
/-- SYS_MEAS.VALUE (RO, chapter 16). -/
def SYS_MEAS_VALUE (i : Nat) : Field := ⟨(0x500000C0 + i * 0x8), 0, 64, 0⟩
/-- SYS_CLK.LOSSES (RO, chapter 16). -/
def SYS_CLK_LOSSES : Field := ⟨0x500000F0, 32, 32, 0⟩
/-- SYS_CLK.GOOD (RO, chapter 16). -/
def SYS_CLK_GOOD : Field := ⟨0x500000F0, 0, 5, 0⟩
/-- SYS_TEN_RST.BUSY (RO, chapter 16). -/
def SYS_TEN_RST_BUSY : Field := ⟨0x500000F8, 9, 1, 0⟩
/-- SYS_TEN_RST.REQ (W1S, chapter 16). -/
def SYS_TEN_RST_REQ : Field := ⟨0x500000F8, 8, 1, 0⟩
/-- SYS_TEN_RST.TENANT (RW, chapter 16). -/
def SYS_TEN_RST_TENANT : Field := ⟨0x500000F8, 0, 6, 0⟩
/-- LCD_STATE.MARKER (RO, chapter 17). -/
def LCD_STATE_MARKER : Field := ⟨0x500E0000, 8, 1, 0⟩
/-- LCD_STATE.DISAGREE (RO, chapter 17). -/
def LCD_STATE_DISAGREE : Field := ⟨0x500E0000, 4, 1, 0⟩
/-- LCD_STATE.STATE (RO, chapter 17). -/
def LCD_STATE_STATE : Field := ⟨0x500E0000, 0, 3, 0⟩
/-- LCD_UID.UID (RO, chapter 17). -/
def LCD_UID_UID : Field := ⟨0x500E0008, 0, 64, 0⟩
/-- LCD_LC_STAT.GROUPS (RO, chapter 17). -/
def LCD_LC_STAT_GROUPS : Field := ⟨0x500E0010, 8, 4, 0⟩
/-- LCD_LC_STAT.PWR_HOLD (RO, chapter 17). -/
def LCD_LC_STAT_PWR_HOLD : Field := ⟨0x500E0010, 7, 1, 0⟩
/-- LCD_LC_STAT.TARGET (RO, chapter 17). -/
def LCD_LC_STAT_TARGET : Field := ⟨0x500E0010, 4, 3, 0⟩
/-- LCD_LC_STAT.HOLDOFF (RO, chapter 17). -/
def LCD_LC_STAT_HOLDOFF : Field := ⟨0x500E0010, 3, 1, 0⟩
/-- LCD_LC_STAT.STEP (RO, chapter 17). -/
def LCD_LC_STAT_STEP : Field := ⟨0x500E0010, 0, 3, 0⟩
/-- LCD_OTP_CMD.BUSY (RO, chapter 17). -/
def LCD_OTP_CMD_BUSY : Field := ⟨0x500E0018, 63, 1, 0⟩
/-- LCD_OTP_CMD.RESULT (RO, chapter 17). -/
def LCD_OTP_CMD_RESULT : Field := ⟨0x500E0018, 56, 2, 0⟩
/-- LCD_OTP_CMD.READ (W1S, chapter 17). -/
def LCD_OTP_CMD_READ : Field := ⟨0x500E0018, 10, 1, 0⟩
/-- LCD_OTP_CMD.PROG (W1S, chapter 17). -/
def LCD_OTP_CMD_PROG : Field := ⟨0x500E0018, 9, 1, 0⟩
/-- LCD_OTP_CMD.INDEX (RW, chapter 17). -/
def LCD_OTP_CMD_INDEX : Field := ⟨0x500E0018, 0, 9, 0⟩
/-- LCD_OTP_DATA.DATA (RW, chapter 17). -/
def LCD_OTP_DATA_DATA : Field := ⟨0x500E0020, 0, 64, 0⟩
/-- LCD_DBG.PORTS (RO, chapter 17). -/
def LCD_DBG_PORTS : Field := ⟨0x500E0028, 16, 5, 0⟩
/-- LCD_DBG.TENANT (RO, chapter 17). -/
def LCD_DBG_TENANT : Field := ⟨0x500E0028, 8, 6, 0⟩
/-- LCD_DBG.SCOPE (RO, chapter 17). -/
def LCD_DBG_SCOPE : Field := ⟨0x500E0028, 1, 2, 0⟩
/-- LCD_DBG.END (W1S, chapter 17). -/
def LCD_DBG_END : Field := ⟨0x500E0028, 0, 1, 0⟩
/-- LCD_DBG_NA.NOT_AFTER (RO, chapter 17). -/
def LCD_DBG_NA_NOT_AFTER : Field := ⟨0x500E0030, 0, 64, 0⟩
/-- MPU_CTL.LOCK (W1S, chapter 18). -/
def MPU_CTL_LOCK (m : Nat) : Field := ⟨(0x500D0000 + m * 0x8), 1, 1, 0⟩
/-- MPU_CTL.UPD (RW, chapter 18). -/
def MPU_CTL_UPD (m : Nat) : Field := ⟨(0x500D0000 + m * 0x8), 0, 1, 0⟩
/-- CLU_MPU_CTL.LOCK (W1S, chapter 18). -/
def CLU_MPU_CTL_LOCK (c : Nat) (n : Nat) : Field := ⟨(0x20305000 + c * 0x400000 + n * 0x20), 1, 1, 0⟩
/-- CLU_MPU_CTL.UPD (RW, chapter 18). -/
def CLU_MPU_CTL_UPD (c : Nat) (n : Nat) : Field := ⟨(0x20305000 + c * 0x400000 + n * 0x20), 0, 1, 0⟩
/-- MPU_VADDR.ADDR (RO, chapter 18). -/
def MPU_VADDR_ADDR (m : Nat) : Field := ⟨(0x500D0100 + m * 0x10), 0, 64, 0⟩
/-- CLU_MPU_VADDR.ADDR (RO, chapter 18). -/
def CLU_MPU_VADDR_ADDR (c : Nat) (n : Nat) : Field := ⟨(0x20305008 + c * 0x400000 + n * 0x20), 0, 64, 0⟩
/-- MPU_VINFO.COUNT (RO, chapter 18). -/
def MPU_VINFO_COUNT (m : Nat) : Field := ⟨(0x500D0108 + m * 0x10), 48, 16, 0⟩
/-- MPU_VINFO.TENANT (RO, chapter 18). -/
def MPU_VINFO_TENANT (m : Nat) : Field := ⟨(0x500D0108 + m * 0x10), 40, 8, 0⟩
/-- MPU_VINFO.MASTER (RO, chapter 18). -/
def MPU_VINFO_MASTER (m : Nat) : Field := ⟨(0x500D0108 + m * 0x10), 16, 16, 0⟩
/-- MPU_VINFO.CAUSE (RO, chapter 18). -/
def MPU_VINFO_CAUSE (m : Nat) : Field := ⟨(0x500D0108 + m * 0x10), 12, 4, 0⟩
/-- MPU_VINFO.LEVEL (RO, chapter 18). -/
def MPU_VINFO_LEVEL (m : Nat) : Field := ⟨(0x500D0108 + m * 0x10), 10, 2, 0⟩
/-- MPU_VINFO.KIND (RO, chapter 18). -/
def MPU_VINFO_KIND (m : Nat) : Field := ⟨(0x500D0108 + m * 0x10), 8, 2, 0⟩
/-- MPU_VINFO.REGION (RO, chapter 18). -/
def MPU_VINFO_REGION (m : Nat) : Field := ⟨(0x500D0108 + m * 0x10), 0, 8, 0⟩
/-- CLU_MPU_VINFO.COUNT (RO, chapter 18). -/
def CLU_MPU_VINFO_COUNT (c : Nat) (n : Nat) : Field := ⟨(0x20305010 + c * 0x400000 + n * 0x20), 48, 16, 0⟩
/-- CLU_MPU_VINFO.TENANT (RO, chapter 18). -/
def CLU_MPU_VINFO_TENANT (c : Nat) (n : Nat) : Field := ⟨(0x20305010 + c * 0x400000 + n * 0x20), 40, 8, 0⟩
/-- CLU_MPU_VINFO.MASTER (RO, chapter 18). -/
def CLU_MPU_VINFO_MASTER (c : Nat) (n : Nat) : Field := ⟨(0x20305010 + c * 0x400000 + n * 0x20), 16, 16, 0⟩
/-- CLU_MPU_VINFO.CAUSE (RO, chapter 18). -/
def CLU_MPU_VINFO_CAUSE (c : Nat) (n : Nat) : Field := ⟨(0x20305010 + c * 0x400000 + n * 0x20), 12, 4, 0⟩
/-- CLU_MPU_VINFO.LEVEL (RO, chapter 18). -/
def CLU_MPU_VINFO_LEVEL (c : Nat) (n : Nat) : Field := ⟨(0x20305010 + c * 0x400000 + n * 0x20), 10, 2, 0⟩
/-- CLU_MPU_VINFO.KIND (RO, chapter 18). -/
def CLU_MPU_VINFO_KIND (c : Nat) (n : Nat) : Field := ⟨(0x20305010 + c * 0x400000 + n * 0x20), 8, 2, 0⟩
/-- CLU_MPU_VINFO.REGION (RO, chapter 18). -/
def CLU_MPU_VINFO_REGION (c : Nat) (n : Nat) : Field := ⟨(0x20305010 + c * 0x400000 + n * 0x20), 0, 8, 0⟩
/-- MPU_LATCH.VALID (W1C, chapter 18). -/
def MPU_LATCH_VALID (m : Nat) : Field := ⟨(0x500D0200 + m * 0x8), 0, 1, 0⟩
/-- CLU_MPU_LATCH.VALID (W1C, chapter 18). -/
def CLU_MPU_LATCH_VALID (c : Nat) (n : Nat) : Field := ⟨(0x20305018 + c * 0x400000 + n * 0x20), 0, 1, 0⟩
/-- MPU_RGN_BASE.BASE (RW, chapter 18). -/
def MPU_RGN_BASE_BASE (m : Nat) (r : Nat) : Field := ⟨(0x500D1000 + m * 0x400 + r * 0x20), 6, 58, 0⟩
/-- CLU_MPU_RGN_BASE.BASE (RW, chapter 18). -/
def CLU_MPU_RGN_BASE_BASE (c : Nat) (n : Nat) (r : Nat) : Field := ⟨(0x20304000 + c * 0x400000 + n * 0x200 + r * 0x20), 6, 58, 0⟩
/-- MPU_RGN_LIMIT.LIMIT (RW, chapter 18). -/
def MPU_RGN_LIMIT_LIMIT (m : Nat) (r : Nat) : Field := ⟨(0x500D1008 + m * 0x400 + r * 0x20), 6, 58, 0⟩
/-- CLU_MPU_RGN_LIMIT.LIMIT (RW, chapter 18). -/
def CLU_MPU_RGN_LIMIT_LIMIT (c : Nat) (n : Nat) (r : Nat) : Field := ⟨(0x20304008 + c * 0x400000 + n * 0x200 + r * 0x20), 6, 58, 0⟩
/-- MPU_RGN_ATTR.ORDER (RW, chapter 18). -/
def MPU_RGN_ATTR_ORDER (m : Nat) (r : Nat) : Field := ⟨(0x500D1010 + m * 0x400 + r * 0x20), 16, 2, 0⟩
/-- MPU_RGN_ATTR.CACHE (RW, chapter 18). -/
def MPU_RGN_ATTR_CACHE (m : Nat) (r : Nat) : Field := ⟨(0x500D1010 + m * 0x400 + r * 0x20), 14, 2, 0⟩
/-- MPU_RGN_ATTR.TENANT (RW, chapter 18). -/
def MPU_RGN_ATTR_TENANT (m : Nat) (r : Nat) : Field := ⟨(0x500D1010 + m * 0x400 + r * 0x20), 8, 6, 0⟩
/-- MPU_RGN_ATTR.ANY (RW, chapter 18). -/
def MPU_RGN_ATTR_ANY (m : Nat) (r : Nat) : Field := ⟨(0x500D1010 + m * 0x400 + r * 0x20), 6, 1, 0⟩
/-- MPU_RGN_ATTR.PRIV (RW, chapter 18). -/
def MPU_RGN_ATTR_PRIV (m : Nat) (r : Nat) : Field := ⟨(0x500D1010 + m * 0x400 + r * 0x20), 4, 2, 0⟩
/-- MPU_RGN_ATTR.X (RW, chapter 18). -/
def MPU_RGN_ATTR_X (m : Nat) (r : Nat) : Field := ⟨(0x500D1010 + m * 0x400 + r * 0x20), 3, 1, 0⟩
/-- MPU_RGN_ATTR.W (RW, chapter 18). -/
def MPU_RGN_ATTR_W (m : Nat) (r : Nat) : Field := ⟨(0x500D1010 + m * 0x400 + r * 0x20), 2, 1, 0⟩
/-- MPU_RGN_ATTR.R (RW, chapter 18). -/
def MPU_RGN_ATTR_R (m : Nat) (r : Nat) : Field := ⟨(0x500D1010 + m * 0x400 + r * 0x20), 1, 1, 0⟩
/-- MPU_RGN_ATTR.EN (RW, chapter 18). -/
def MPU_RGN_ATTR_EN (m : Nat) (r : Nat) : Field := ⟨(0x500D1010 + m * 0x400 + r * 0x20), 0, 1, 0⟩
/-- CLU_MPU_RGN_ATTR.ORDER (RW, chapter 18). -/
def CLU_MPU_RGN_ATTR_ORDER (c : Nat) (n : Nat) (r : Nat) : Field := ⟨(0x20304010 + c * 0x400000 + n * 0x200 + r * 0x20), 16, 2, 0⟩
/-- CLU_MPU_RGN_ATTR.CACHE (RW, chapter 18). -/
def CLU_MPU_RGN_ATTR_CACHE (c : Nat) (n : Nat) (r : Nat) : Field := ⟨(0x20304010 + c * 0x400000 + n * 0x200 + r * 0x20), 14, 2, 0⟩
/-- CLU_MPU_RGN_ATTR.TENANT (RW, chapter 18). -/
def CLU_MPU_RGN_ATTR_TENANT (c : Nat) (n : Nat) (r : Nat) : Field := ⟨(0x20304010 + c * 0x400000 + n * 0x200 + r * 0x20), 8, 6, 0⟩
/-- CLU_MPU_RGN_ATTR.ANY (RW, chapter 18). -/
def CLU_MPU_RGN_ATTR_ANY (c : Nat) (n : Nat) (r : Nat) : Field := ⟨(0x20304010 + c * 0x400000 + n * 0x200 + r * 0x20), 6, 1, 0⟩
/-- CLU_MPU_RGN_ATTR.PRIV (RW, chapter 18). -/
def CLU_MPU_RGN_ATTR_PRIV (c : Nat) (n : Nat) (r : Nat) : Field := ⟨(0x20304010 + c * 0x400000 + n * 0x200 + r * 0x20), 4, 2, 0⟩
/-- CLU_MPU_RGN_ATTR.X (RW, chapter 18). -/
def CLU_MPU_RGN_ATTR_X (c : Nat) (n : Nat) (r : Nat) : Field := ⟨(0x20304010 + c * 0x400000 + n * 0x200 + r * 0x20), 3, 1, 0⟩
/-- CLU_MPU_RGN_ATTR.W (RW, chapter 18). -/
def CLU_MPU_RGN_ATTR_W (c : Nat) (n : Nat) (r : Nat) : Field := ⟨(0x20304010 + c * 0x400000 + n * 0x200 + r * 0x20), 2, 1, 0⟩
/-- CLU_MPU_RGN_ATTR.R (RW, chapter 18). -/
def CLU_MPU_RGN_ATTR_R (c : Nat) (n : Nat) (r : Nat) : Field := ⟨(0x20304010 + c * 0x400000 + n * 0x200 + r * 0x20), 1, 1, 0⟩
/-- CLU_MPU_RGN_ATTR.EN (RW, chapter 18). -/
def CLU_MPU_RGN_ATTR_EN (c : Nat) (n : Nat) (r : Nat) : Field := ⟨(0x20304010 + c * 0x400000 + n * 0x200 + r * 0x20), 0, 1, 0⟩
/-- EVR_CTL.FLUSH (W1S, chapter 19). -/
def EVR_CTL_FLUSH : Field := ⟨0x500C0000, 0, 1, 0⟩
/-- EVR_STAT.GOOD (RO, chapter 19). -/
def EVR_STAT_GOOD : Field := ⟨0x500C0008, 40, 8, 0⟩
/-- EVR_STAT.BLOCKED (RO, chapter 19). -/
def EVR_STAT_BLOCKED : Field := ⟨0x500C0008, 34, 1, 0⟩
/-- EVR_STAT.VOLATILE (RO, chapter 19). -/
def EVR_STAT_VOLATILE : Field := ⟨0x500C0008, 33, 1, 0⟩
/-- EVR_STAT.FLUSHING (RO, chapter 19). -/
def EVR_STAT_FLUSHING : Field := ⟨0x500C0008, 32, 1, 0⟩
/-- EVR_STAT.BUFFER (RO, chapter 19). -/
def EVR_STAT_BUFFER : Field := ⟨0x500C0008, 0, 12, 0⟩
/-- EVR_NEXT.NUMBER (RO, chapter 19). -/
def EVR_NEXT_NUMBER : Field := ⟨0x500C0010, 0, 64, 0⟩
/-- EVR_FLUSH_INT.INTERVAL (RW, chapter 19). -/
def EVR_FLUSH_INT_INTERVAL : Field := ⟨0x500C0018, 0, 64, 0⟩
/-- EVR_ARCH.BASE (RW, chapter 19). -/
def EVR_ARCH_BASE : Field := ⟨0x500C0020, 24, 33, 0⟩
/-- EVR_ARCH.LINES (RW, chapter 19). -/
def EVR_ARCH_LINES : Field := ⟨0x500C0020, 0, 24, 0⟩
/-- EVR_RD_IDX.NUMBER (RW, chapter 19). -/
def EVR_RD_IDX_NUMBER : Field := ⟨0x500C0028, 0, 64, 0⟩
/-- EVR_RD_DATA.WORD (RO, chapter 19). -/
def EVR_RD_DATA_WORD (i : Nat) : Field := ⟨(0x500C0030 + i * 0x8), 0, 64, 0⟩
/-- EVR_CNT.COUNT (RO, chapter 19). -/
def EVR_CNT_COUNT (i : Nat) : Field := ⟨(0x500C0080 + i * 0x8), 0, 64, 0⟩
/-- EVR_LIMIT.RATE (RW, chapter 19). -/
def EVR_LIMIT_RATE (code : Nat) : Field := ⟨(0x500C4000 + code * 0x4), 16, 16, 256⟩
/-- EVR_LIMIT.BURST (RW, chapter 19). -/
def EVR_LIMIT_BURST (code : Nat) : Field := ⟨(0x500C4000 + code * 0x4), 0, 16, 64⟩
/-- EVR_CODE.READ_T (RW, chapter 19). -/
def EVR_CODE_READ_T (code : Nat) : Field := ⟨(0x500C8000 + code * 0x4), 0, 1, 0⟩
/-- SCL_STAT.PRESENT (RO, chapter 20). -/
def SCL_STAT_PRESENT : Field := ⟨0x500F0000, 7, 1, 0⟩
/-- SCL_STAT.ROMFW (RO, chapter 20). -/
def SCL_STAT_ROMFW : Field := ⟨0x500F0000, 6, 1, 0⟩
/-- SCL_STAT.EXHAUSTED (RO, chapter 20). -/
def SCL_STAT_EXHAUSTED : Field := ⟨0x500F0000, 5, 1, 0⟩
/-- SCL_STAT.SIGNING (RO, chapter 20). -/
def SCL_STAT_SIGNING : Field := ⟨0x500F0000, 4, 1, 0⟩
/-- SCL_STAT.BANK_B_BAD (RO, chapter 20). -/
def SCL_STAT_BANK_B_BAD : Field := ⟨0x500F0000, 3, 1, 0⟩
/-- SCL_STAT.BANK_A_BAD (RO, chapter 20). -/
def SCL_STAT_BANK_A_BAD : Field := ⟨0x500F0000, 2, 1, 0⟩
/-- SCL_GEN.INTERVAL (RO, chapter 20). -/
def SCL_GEN_INTERVAL : Field := ⟨0x500F0008, 32, 32, 0⟩
/-- SCL_GEN.SGEN (RO, chapter 20). -/
def SCL_GEN_SGEN : Field := ⟨0x500F0008, 0, 32, 0⟩
/-- SCL_LEAF.NEXT (RO, chapter 20). -/
def SCL_LEAF_NEXT : Field := ⟨0x500F0010, 0, 21, 0⟩
/-- SCL_STMT.WORD (RO, chapter 20). -/
def SCL_STMT_WORD (i : Nat) : Field := ⟨(0x500F1000 + i * 0x8), 0, 64, 0⟩
/-- SCL_CNT.COUNT (RO, chapter 20). -/
def SCL_CNT_COUNT (t : Nat) (k : Nat) : Field := ⟨(0x500F8000 + t * 0x100 + k * 0x8), 0, 64, 0⟩
/-- RAS_CTL.ROT_START (W1S, chapter 21). -/
def RAS_CTL_ROT_START : Field := ⟨0x50100000, 2, 1, 0⟩
/-- RAS_CTL.ROT_EN (RW, chapter 21). -/
def RAS_CTL_ROT_EN : Field := ⟨0x50100000, 1, 1, 0⟩
/-- RAS_CTL.SCRUB_EN (RW, chapter 21). -/
def RAS_CTL_SCRUB_EN : Field := ⟨0x50100000, 0, 1, 1⟩
/-- RAS_ROT_CFG.DRAIN_TMO (RW, chapter 21). -/
def RAS_ROT_CFG_DRAIN_TMO : Field := ⟨0x50100008, 32, 16, 10⟩
/-- RAS_ROT_CFG.INTERVAL (RW, chapter 21). -/
def RAS_ROT_CFG_INTERVAL : Field := ⟨0x50100008, 0, 32, 3600⟩
/-- RAS_ROT_STAT.ROTATIONS (RO, chapter 21). -/
def RAS_ROT_STAT_ROTATIONS : Field := ⟨0x50100010, 32, 32, 0⟩
/-- RAS_ROT_STAT.BUSY (RO, chapter 21). -/
def RAS_ROT_STAT_BUSY : Field := ⟨0x50100010, 8, 1, 0⟩
/-- RAS_ROT_STAT.CLUSTER (RO, chapter 21). -/
def RAS_ROT_STAT_CLUSTER : Field := ⟨0x50100010, 0, 5, 0⟩
/-- RAS_SCRUB.PERIOD (RW, chapter 21). -/
def RAS_SCRUB_PERIOD : Field := ⟨0x50100018, 0, 32, 1000⟩
/-- RAS_HEALTH_CFG.WINDOW (RW, chapter 21). -/
def RAS_HEALTH_CFG_WINDOW : Field := ⟨0x50100020, 16, 32, 86400⟩
/-- RAS_HEALTH_CFG.THRESH (RW, chapter 21). -/
def RAS_HEALTH_CFG_THRESH : Field := ⟨0x50100020, 0, 8, 3⟩
/-- RAS_CAP.RETIRED (RO, chapter 21). -/
def RAS_CAP_RETIRED : Field := ⟨0x50100028, 24, 24, 0⟩
/-- RAS_CAP.INSERVICE (RO, chapter 21). -/
def RAS_CAP_INSERVICE : Field := ⟨0x50100028, 0, 24, 0⟩
/-- RAS_RETIRE.BUSY (RO, chapter 21). -/
def RAS_RETIRE_BUSY : Field := ⟨0x50100030, 9, 1, 0⟩
/-- RAS_RETIRE.RETURN (W1S, chapter 21). -/
def RAS_RETIRE_RETURN : Field := ⟨0x50100030, 8, 1, 0⟩
/-- RAS_RETIRE.CLUSTER (RW, chapter 21). -/
def RAS_RETIRE_CLUSTER : Field := ⟨0x50100030, 0, 5, 0⟩
/-- RAS_LINK_RECAL.BUSY (RO, chapter 21). -/
def RAS_LINK_RECAL_BUSY : Field := ⟨0x50100038, 9, 1, 0⟩
/-- RAS_LINK_RECAL.START (W1S, chapter 21). -/
def RAS_LINK_RECAL_START : Field := ⟨0x50100038, 8, 1, 0⟩
/-- RAS_LINK_RECAL.PORT (RW, chapter 21). -/
def RAS_LINK_RECAL_PORT : Field := ⟨0x50100038, 0, 3, 0⟩
/-- RAS_CL_HEALTH.EVENTS (RO, chapter 21). -/
def RAS_CL_HEALTH_EVENTS (c : Nat) : Field := ⟨(0x50100100 + c * 0x8), 32, 32, 0⟩
/-- RAS_CL_HEALTH.LAST (RO, chapter 21). -/
def RAS_CL_HEALTH_LAST (c : Nat) : Field := ⟨(0x50100100 + c * 0x8), 16, 8, 0⟩
/-- RAS_CL_HEALTH.COUNT (RO, chapter 21). -/
def RAS_CL_HEALTH_COUNT (c : Nat) : Field := ⟨(0x50100100 + c * 0x8), 0, 8, 0⟩
/-- RAS_CE_CNT.UE (RO, chapter 21). -/
def RAS_CE_CNT_UE (i : Nat) : Field := ⟨(0x50100200 + i * 0x8), 32, 32, 0⟩
/-- RAS_CE_CNT.CE (RO, chapter 21). -/
def RAS_CE_CNT_CE (i : Nat) : Field := ⟨(0x50100200 + i * 0x8), 0, 32, 0⟩
/-- RAS_LANE_CTL.LOCK (RO, chapter 21). -/
def RAS_LANE_CTL_LOCK (l : Nat) : Field := ⟨(0x50101000 + l * 0x20), 31, 1, 0⟩
/-- RAS_LANE_CTL.INJECT (W1S, chapter 21). -/
def RAS_LANE_CTL_INJECT (l : Nat) : Field := ⟨(0x50101000 + l * 0x20), 16, 1, 0⟩
/-- RAS_LANE_CTL.RATE (RW, chapter 21). -/
def RAS_LANE_CTL_RATE (l : Nat) : Field := ⟨(0x50101000 + l * 0x20), 10, 2, 1⟩
/-- RAS_LANE_CTL.LOOP (RW, chapter 21). -/
def RAS_LANE_CTL_LOOP (l : Nat) : Field := ⟨(0x50101000 + l * 0x20), 8, 2, 0⟩
/-- RAS_LANE_CTL.PATTERN (RW, chapter 21). -/
def RAS_LANE_CTL_PATTERN (l : Nat) : Field := ⟨(0x50101000 + l * 0x20), 0, 3, 0⟩
/-- RAS_LANE_USER.PATTERN (RW, chapter 21). -/
def RAS_LANE_USER_PATTERN (l : Nat) : Field := ⟨(0x50101008 + l * 0x20), 0, 64, 0⟩
/-- RAS_LANE_ERR.LOSSES (RO, chapter 21). -/
def RAS_LANE_ERR_LOSSES (l : Nat) : Field := ⟨(0x50101010 + l * 0x20), 48, 16, 0⟩
/-- RAS_LANE_ERR.ERRORS (RO, chapter 21). -/
def RAS_LANE_ERR_ERRORS (l : Nat) : Field := ⟨(0x50101010 + l * 0x20), 0, 48, 0⟩
/-- RAS_LANE_BITS.BITS (RO, chapter 21). -/
def RAS_LANE_BITS_BITS (l : Nat) : Field := ⟨(0x50101018 + l * 0x20), 0, 64, 0⟩
/-- SYS_PWR_CAP.BUSY (RO, chapter 22). -/
def SYS_PWR_CAP_BUSY : Field := ⟨0x50000100, 32, 1, 0⟩
/-- SYS_PWR_CAP.CAP (RW, chapter 22). -/
def SYS_PWR_CAP_CAP : Field := ⟨0x50000100, 0, 5, 0⟩
/-- SYS_THERM.MAXTEMP (RO, chapter 22). -/
def SYS_THERM_MAXTEMP : Field := ⟨0x50000108, 48, 16, 0⟩
/-- SYS_THERM.TEMP (RO, chapter 22). -/
def SYS_THERM_TEMP : Field := ⟨0x50000108, 16, 16, 0⟩
/-- SYS_THERM.SENSOR (RO, chapter 22). -/
def SYS_THERM_SENSOR : Field := ⟨0x50000108, 8, 5, 0⟩
/-- SYS_THERM.WARN (RO, chapter 22). -/
def SYS_THERM_WARN : Field := ⟨0x50000108, 0, 1, 0⟩

end Reg

/-- Register rows of chapter 03. -/
def regRows03a : List RegRow :=
  [⟨"PRF_CTL", 0x50010000, [], 8, [⟨"HCLR", 2, 1, .w1s, 0⟩, ⟨"DISPATCH_EN", 1, 1, .rw, 0⟩, ⟨"FETCH_EN", 0, 1, .rw, 0⟩]⟩,
   ⟨"PRF_STAT", 0x50010008, [], 8, [⟨"RAND_WAIT", 4, 1, .ro, 0⟩, ⟨"SPILL_FULL", 3, 1, .ro, 0⟩, ⟨"STORE_FULL", 2, 1, .ro, 0⟩, ⟨"REFILLING", 1, 1, .ro, 0⟩, ⟨"SPILLING", 0, 1, .ro, 0⟩]⟩,
   ⟨"PRF_OPTMO", 0x50010020, [], 8, [⟨"INTERVAL", 0, 64, .rw, 0⟩]⟩,
   ⟨"PRF_ORDWIN", 0x50010028, [], 8, [⟨"WIN", 0, 11, .rw, 1024⟩]⟩,
   ⟨"PRF_SPILL_CFG", 0x50010030, [], 8, [⟨"LOW", 32, 17, .rw, 49152⟩, ⟨"HIGH", 0, 17, .rw, 57344⟩]⟩,
   ⟨"PRF_SPILL_AREA", 0x50010038, [], 8, [⟨"BASE", 24, 33, .rw, 0⟩, ⟨"LINES", 0, 24, .rw, 0⟩]⟩,
   ⟨"PRF_QDEPTH", 0x50010040, [], 8, [⟨"SPILLED", 24, 24, .ro, 0⟩, ⟨"ONCHIP", 0, 17, .ro, 0⟩]⟩,
   ⟨"PRF_DISP", 0x50010048, [], 8, [⟨"CLUSTERS", 0, 24, .ro, 0⟩]⟩,
   ⟨"PRF_FLOWS", 0x50010050, [], 8, [⟨"SPILLED", 24, 24, .ro, 0⟩, ⟨"ONCHIP", 0, 17, .ro, 0⟩]⟩,
   ⟨"PRF_DRAIN", 0x50010058, [], 8, [⟨"DONE", 9, 1, .ro, 0⟩, ⟨"REQ", 8, 1, .rw, 0⟩, ⟨"CLUSTER", 0, 5, .rw, 0⟩]⟩,
   ⟨"PRF_CNT", 0x50010080, [(0x8, 9)], 8, [⟨"COUNT", 0, 64, .ro, 0⟩]⟩,
   ⟨"PRF_T_RATE", 0x50011000, [(0x40, 64)], 8, [⟨"RATE", 0, 32, .rw, 0⟩]⟩,
   ⟨"PRF_T_SHARE", 0x50011008, [(0x40, 64)], 8, [⟨"WEIGHT", 16, 8, .rw, 0⟩, ⟨"BURST", 0, 16, .rw, 0⟩]⟩,
   ⟨"PRF_T_PLACE", 0x50011010, [(0x40, 64)], 8, [⟨"CORE_CAP", 32, 8, .rw, 0⟩, ⟨"CLMASK", 0, 24, .rw, 0⟩]⟩,
   ⟨"PRF_T_QUOTA", 0x50011018, [(0x40, 64)], 8, [⟨"ENTRIES", 0, 24, .rw, 0⟩]⟩,
   ⟨"PRF_T_DEPTH", 0x50011020, [(0x40, 64)], 8, [⟨"RUNNING", 56, 8, .ro, 0⟩, ⟨"SPILLED", 24, 24, .ro, 0⟩, ⟨"ENTRIES", 0, 24, .ro, 0⟩]⟩]

/-- Register rows of chapter 03. -/
def regRows03b : List RegRow :=
  [⟨"PRF_T_TOKENS", 0x50011028, [(0x40, 64)], 8, [⟨"LEVEL", 0, 32, .ro, 0⟩]⟩,
   ⟨"PRF_T_WAITH", 0x50012000, [(0x40, 64), (0x4, 16)], 4, [⟨"COUNT", 0, 32, .ro, 0⟩]⟩,
   ⟨"PRF_CORE_STAT", 0x50013000, [(0x20, 192)], 8, [⟨"FLOW", 32, 20, .ro, 0⟩, ⟨"PROG", 16, 16, .ro, 0⟩, ⟨"TENANT", 9, 6, .ro, 0⟩, ⟨"RESIDENT", 5, 4, .ro, 0⟩, ⟨"STATE", 0, 3, .ro, 0⟩]⟩,
   ⟨"PRF_CORE_RUN", 0x50013008, [(0x20, 192)], 8, [⟨"COUNT", 0, 64, .ro, 0⟩]⟩,
   ⟨"PRF_CORE_BUSY", 0x50013010, [(0x20, 192)], 8, [⟨"CYCLES", 0, 64, .ro, 0⟩]⟩]

/-- Register rows of chapter 04. -/
def regRows04a : List RegRow :=
  [⟨"CLU_CORE_CTL", 0x20300000, [(0x400000, 24), (0x20, 8)], 8, [⟨"IDLE", 2, 1, .ro, 1⟩, ⟨"IDLE_REQ", 1, 1, .w1s, 0⟩, ⟨"RESET", 0, 1, .w1s, 0⟩]⟩,
   ⟨"CLU_CORE_FAULT", 0x20300008, [(0x400000, 24), (0x20, 8)], 8, [⟨"PROG", 48, 16, .ro, 0⟩, ⟨"TENANT", 42, 6, .ro, 0⟩, ⟨"EXC", 32, 4, .ro, 0⟩, ⟨"OFFSET", 0, 15, .ro, 0⟩]⟩,
   ⟨"CLU_CORE_EXCNT", 0x20300010, [(0x400000, 24), (0x20, 8)], 8, [⟨"COUNT", 0, 32, .ro, 0⟩]⟩,
   ⟨"CLU_IMG_STAT", 0x20301000, [(0x400000, 24)], 8, [⟨"MISSES", 32, 32, .ro, 0⟩, ⟨"HITS", 0, 32, .ro, 0⟩]⟩]

/-- Register rows of chapter 06. -/
def regRows06a : List RegRow :=
  [⟨"CLU_ENG_KAT", 0x20302000, [(0x400000, 24), (0x20, 8)], 8, [⟨"FAILED", 35, 13, .ro, 0⟩, ⟨"INJ_SEEN", 34, 1, .ro, 0⟩, ⟨"PASS", 33, 1, .ro, 0⟩, ⟨"DONE", 32, 1, .ro, 0⟩, ⟨"MODES", 16, 13, .rw, 8191⟩, ⟨"INJECT", 1, 1, .rw, 0⟩, ⟨"START", 0, 1, .w1s, 0⟩]⟩,
   ⟨"CLU_ENG_CNT", 0x20302008, [(0x400000, 24), (0x20, 8)], 8, [⟨"CTR_WRAP", 32, 32, .ro, 0⟩, ⟨"AUTH_FAIL", 0, 32, .ro, 0⟩]⟩,
   ⟨"CLU_ENG_BLK", 0x20302010, [(0x400000, 24), (0x20, 8)], 8, [⟨"BLOCKS", 0, 64, .ro, 0⟩]⟩]

/-- Register rows of chapter 07. -/
def regRows07a : List RegRow :=
  [⟨"CLU_MAU_SUBMIT", 0x20303000, [(0x400000, 24)], 8, [⟨"LINE", 6, 13, .wo, 0⟩]⟩,
   ⟨"CLU_MAU_STAT", 0x20303008, [(0x400000, 24)], 8, [⟨"DROPPED", 48, 16, .ro, 0⟩, ⟨"DONE", 32, 16, .ro, 0⟩, ⟨"BUSY", 6, 1, .ro, 0⟩, ⟨"QFULL", 5, 1, .ro, 0⟩, ⟨"QDEPTH", 0, 5, .ro, 0⟩]⟩,
   ⟨"CLU_MAU_CNT", 0x20303010, [(0x400000, 24)], 8, [⟨"IMG_REFUSED", 48, 16, .ro, 0⟩, ⟨"CHECK_FAIL", 32, 16, .ro, 0⟩, ⟨"OPS", 0, 32, .ro, 0⟩]⟩,
   ⟨"CLU_MAU_BUSY", 0x20303018, [(0x400000, 24)], 8, [⟨"CYCLES", 0, 64, .ro, 0⟩]⟩,
   ⟨"CLU_HASH_CNT", 0x20303020, [(0x400000, 24)], 8, [⟨"CHECK_FAIL", 48, 16, .ro, 0⟩, ⟨"UNITS", 0, 48, .ro, 0⟩]⟩]

/-- Register rows of chapter 08. -/
def regRows08a : List RegRow :=
  [⟨"CSP_CTL", 0x50110000, [], 8, [⟨"FLUSH", 4, 1, .w1s, 0⟩, ⟨"BAUD", 1, 2, .rw, 0⟩, ⟨"EN", 0, 1, .rw, 0⟩]⟩,
   ⟨"CSP_STAT", 0x50110008, [], 8, [⟨"TX_LEVEL", 16, 8, .ro, 0⟩, ⟨"RX_LEVEL", 8, 8, .ro, 0⟩, ⟨"FRAMING", 6, 1, .w1c, 0⟩, ⟨"OVERRUN", 5, 1, .w1c, 0⟩, ⟨"SESSION", 4, 1, .rw, 0⟩, ⟨"ATTN", 1, 1, .ro, 0⟩, ⟨"PRESENT", 0, 1, .ro, 0⟩]⟩,
   ⟨"CSP_RX", 0x50110010, [], 8, [⟨"VALID", 8, 1, .ro, 0⟩, ⟨"DATA", 0, 8, .ro, 0⟩]⟩,
   ⟨"CSP_TX", 0x50110018, [], 8, [⟨"DATA", 0, 8, .wo, 0⟩]⟩,
   ⟨"CSP_CNT", 0x50110020, [], 8, [⟨"SESSIONS", 48, 16, .ro, 0⟩, ⟨"CRC_ERR", 32, 16, .ro, 0⟩, ⟨"FRAMES", 0, 32, .ro, 0⟩]⟩]

/-- Register rows of chapter 10. -/
def regRows10a : List RegRow :=
  [⟨"TBL_CTL", 0x50080000, [], 8, [⟨"WT", 2, 1, .rw, 0⟩, ⟨"AGER_EN", 1, 1, .rw, 0⟩, ⟨"BC_EN", 0, 1, .rw, 0⟩]⟩,
   ⟨"TBL_STAT", 0x50080008, [], 8, [⟨"POISONED", 32, 32, .ro, 0⟩, ⟨"FATAL", 2, 1, .ro, 0⟩, ⟨"RELOADING", 1, 1, .ro, 0⟩, ⟨"FLUSHING", 0, 1, .ro, 0⟩]⟩,
   ⟨"TBL_KC_INV", 0x50080010, [], 8, [⟨"BUSY", 63, 1, .ro, 0⟩, ⟨"SCOPE", 32, 2, .wo, 0⟩, ⟨"GEN", 30, 2, .wo, 0⟩, ⟨"TENANT", 24, 6, .wo, 0⟩, ⟨"HANDLE", 0, 24, .wo, 0⟩]⟩,
   ⟨"TBL_SV_CMD", 0x50080020, [], 8, [⟨"BUSY", 63, 1, .ro, 0⟩, ⟨"RESULT", 32, 16, .ro, 0⟩, ⟨"OP", 0, 3, .wo, 0⟩]⟩,
   ⟨"TBL_SV_KEY", 0x50080028, [], 8, [⟨"DIGHI", 20, 12, .rw, 0⟩, ⟨"TCAM", 19, 1, .rw, 0⟩, ⟨"LEN", 9, 5, .rw, 0⟩, ⟨"TENANT", 0, 6, .rw, 0⟩]⟩,
   ⟨"TBL_SV_DIG", 0x50080030, [], 8, [⟨"DIGITS", 0, 64, .rw, 0⟩]⟩,
   ⟨"TBL_SV_VAL", 0x50080038, [], 8, [⟨"VALUE", 0, 32, .rw, 0⟩]⟩,
   ⟨"TBL_SV_OCC", 0x50080040, [], 8, [⟨"HASH", 24, 21, .ro, 0⟩, ⟨"TCAM", 0, 14, .ro, 0⟩]⟩,
   ⟨"TBL_TT_AGE", 0x50080050, [], 8, [⟨"MAXAGE", 0, 64, .rw, 0⟩]⟩,
   ⟨"TBL_TT_SPILL", 0x50080058, [], 8, [⟨"CHAIN", 60, 4, .rw, 4⟩, ⟨"BASE", 24, 33, .rw, 0⟩, ⟨"LINES", 0, 24, .rw, 0⟩]⟩,
   ⟨"TBL_TT_SALT", 0x50080060, [], 8, [⟨"SALT", 0, 64, .rw, 0⟩]⟩,
   ⟨"TBL_TT_OCC", 0x50080068, [], 8, [⟨"PENDING", 48, 8, .ro, 0⟩, ⟨"SPILLED", 19, 29, .ro, 0⟩, ⟨"ONCHIP", 0, 19, .ro, 0⟩]⟩,
   ⟨"TBL_BC_CFG", 0x50080070, [], 8, [⟨"BASE", 24, 33, .rw, 0⟩, ⟨"PERIOD", 0, 24, .rw, 65536⟩]⟩,
   ⟨"TBL_BC_STAT", 0x50080078, [], 8, [⟨"MISMATCH", 48, 16, .ro, 0⟩, ⟨"WALKS", 16, 32, .ro, 0⟩, ⟨"BLOCK", 0, 12, .ro, 0⟩]⟩,
   ⟨"TBL_CNT", 0x50080100, [(0x8, 7)], 8, [⟨"COUNT", 0, 64, .ro, 0⟩]⟩,
   ⟨"TBL_KH_BASE", 0x50081000, [(0x10, 64)], 8, [⟨"BASE", 0, 33, .rw, 0⟩]⟩]

/-- Register rows of chapter 10. -/
def regRows10b : List RegRow :=
  [⟨"TBL_KH_CFG", 0x50081008, [(0x10, 64)], 8, [⟨"GENOCC", 48, 4, .rw, 0⟩, ⟨"RBASE", 24, 24, .rw, 0⟩, ⟨"LIMIT", 0, 24, .rw, 0⟩]⟩,
   ⟨"TBL_T_POL", 0x50081800, [(0x8, 64)], 8, [⟨"MOVE_EVENT", 2, 1, .rw, 0⟩, ⟨"EVICT", 1, 1, .rw, 0⟩, ⟨"LEARN", 0, 1, .rw, 0⟩]⟩]

/-- Register rows of chapter 11. -/
def regRows11a : List RegRow :=
  [⟨"SST_CTL", 0x50070000, [], 8, [⟨"REKEY", 1, 1, .w1s, 0⟩, ⟨"CUT", 0, 1, .w1s, 0⟩]⟩,
   ⟨"SST_STAT", 0x50070008, [], 8, [⟨"POISONED", 8, 8, .ro, 0⟩, ⟨"FATAL", 7, 1, .ro, 0⟩, ⟨"REKEYING", 6, 1, .ro, 0⟩, ⟨"PENDING", 5, 1, .ro, 0⟩, ⟨"CUTTING", 4, 1, .ro, 0⟩, ⟨"FLUSHED", 3, 1, .ro, 0⟩, ⟨"STATE", 0, 2, .ro, 0⟩]⟩,
   ⟨"SST_CAP", 0x50070010, [], 8, [⟨"LINES", 0, 34, .ro, 0⟩]⟩,
   ⟨"SST_PORT", 0x50070018, [], 8, [⟨"ON_ALT", 5, 1, .ro, 0⟩, ⟨"ALT_VALID", 4, 1, .rw, 0⟩, ⟨"ALT", 2, 2, .rw, 0⟩, ⟨"PORT", 0, 2, .rw, 0⟩]⟩,
   ⟨"SST_CKPT_CFG", 0x50070020, [], 8, [⟨"INTERVAL", 0, 64, .rw, 0⟩]⟩,
   ⟨"SST_CKPT_ADDR", 0x50070028, [], 8, [⟨"ADDR", 6, 58, .ro, 0⟩]⟩,
   ⟨"SST_CKPT_NUM", 0x50070030, [], 8, [⟨"PENDING", 32, 32, .ro, 0⟩, ⟨"OPEN", 0, 32, .ro, 0⟩]⟩,
   ⟨"SST_CKPT_DUR", 0x50070038, [], 8, [⟨"DUR_B", 32, 32, .ro, 0⟩, ⟨"DUR_A", 0, 32, .ro, 0⟩]⟩,
   ⟨"SST_DURABLE_ACK", 0x50070040, [], 8, [⟨"NUMBER", 0, 32, .wo, 0⟩]⟩,
   ⟨"SST_EXT_HOST", 0x50070100, [(0x10, 16)], 8, [⟨"ADDR", 12, 52, .rw, 0⟩]⟩,
   ⟨"SST_EXT_MAP", 0x50070108, [(0x10, 16)], 8, [⟨"PAGES", 32, 32, .rw, 0⟩, ⟨"START", 0, 32, .rw, 0⟩]⟩,
   ⟨"SST_REKEY", 0x50070048, [], 8, [⟨"GEN_NEW", 48, 16, .ro, 0⟩, ⟨"GEN_OLD", 32, 16, .ro, 0⟩, ⟨"POINTER", 0, 29, .ro, 0⟩]⟩,
   ⟨"SST_REKEY_CFG", 0x50070050, [], 8, [⟨"SHARE", 0, 7, .rw, 25⟩]⟩,
   ⟨"SST_INTEG_CFG", 0x50070058, [], 8, [⟨"THRESH", 0, 8, .rw, 4⟩]⟩,
   ⟨"SST_INTEG_WIN", 0x50070060, [], 8, [⟨"WINDOW", 0, 64, .rw, 0⟩]⟩,
   ⟨"SST_CNT", 0x50070080, [(0x8, 5)], 8, [⟨"COUNT", 0, 64, .ro, 0⟩]⟩]

/-- Register rows of chapter 12. -/
def regRows12a : List RegRow :=
  [⟨"TIM_CTL", 0x500A0000, [], 8, [⟨"UNTRUST_FATAL", 3, 1, .rw, 0⟩, ⟨"PAIR_CMP_EN", 2, 1, .rw, 0⟩, ⟨"OUT_HOLD", 1, 1, .rw, 0⟩, ⟨"OUT_EN", 0, 1, .rw, 0⟩]⟩,
   ⟨"TIM_STAT", 0x500A0008, [], 8, [⟨"RUN", 8, 4, .ro, 0⟩, ⟨"GAP", 7, 1, .ro, 0⟩, ⟨"WALL_VALID", 6, 1, .ro, 0⟩, ⟨"PAIR_MISMATCH", 5, 1, .ro, 0⟩, ⟨"DISCIPLINED", 4, 1, .ro, 0⟩, ⟨"STATE", 0, 2, .ro, 2⟩]⟩,
   ⟨"TIM_NOW", 0x500A0010, [], 8, [⟨"TIME", 0, 64, .ro, 0⟩]⟩,
   ⟨"TIM_PERIOD", 0x500A0018, [], 8, [⟨"PERIOD_NS", 0, 30, .rw, 1000000⟩]⟩,
   ⟨"TIM_WINDOW", 0x500A0020, [], 8, [⟨"PPM", 0, 14, .rw, 1000⟩]⟩,
   ⟨"TIM_HOLDOVER", 0x500A0028, [], 8, [⟨"SECONDS", 0, 12, .rw, 60⟩]⟩,
   ⟨"TIM_RELOCK", 0x500A0030, [], 8, [⟨"COUNT", 0, 4, .rw, 4⟩]⟩,
   ⟨"TIM_WALL0", 0x500A0038, [], 8, [⟨"WALL0", 0, 64, .ro, 0⟩]⟩,
   ⟨"TIM_RATE", 0x500A0040, [], 8, [⟨"CYCLES", 24, 40, .ro, 0⟩, ⟨"FRAC", 0, 24, .ro, 0⟩]⟩,
   ⟨"TIM_LAST", 0x500A0048, [], 8, [⟨"TIME", 0, 64, .ro, 0⟩]⟩,
   ⟨"TIM_HOLD_TIME", 0x500A0050, [], 8, [⟨"INTERVAL", 0, 64, .ro, 0⟩]⟩,
   ⟨"TIM_PAIR", 0x500A0058, [], 8, [⟨"PEER", 32, 32, .ro, 0⟩, ⟨"DIFF", 8, 8, .ro, 0⟩, ⟨"N", 0, 4, .rw, 3⟩]⟩,
   ⟨"TIM_CNT", 0x500A0080, [(0x8, 6)], 8, [⟨"COUNT", 0, 64, .ro, 0⟩]⟩,
   ⟨"ENT_CTL", 0x50090000, [], 8, [⟨"TESTPAT", 0, 1, .rw, 0⟩]⟩,
   ⟨"ENT_STAT", 0x50090008, [], 8, [⟨"POOL", 32, 8, .ro, 0⟩, ⟨"BLOCKED", 24, 8, .ro, 0⟩, ⟨"READY", 16, 8, .ro, 0⟩, ⟨"KAT_FAIL", 3, 1, .ro, 0⟩, ⟨"STARVED", 2, 1, .ro, 0⟩, ⟨"AVAIL", 1, 1, .ro, 0⟩, ⟨"FIRST_SEED", 0, 1, .ro, 0⟩]⟩,
   ⟨"ENT_CUT", 0x50090010, [], 8, [⟨"APT", 16, 16, .rw, 794⟩, ⟨"RCT", 0, 16, .rw, 41⟩]⟩]

/-- Register rows of chapter 12. -/
def regRows12b : List RegRow :=
  [⟨"ENT_RESEED_REQ", 0x50090018, [], 8, [⟨"LIMIT", 0, 21, .rw, 65536⟩]⟩,
   ⟨"ENT_RESEED_TIME", 0x50090020, [], 8, [⟨"INTERVAL", 0, 64, .rw, 0⟩]⟩,
   ⟨"ENT_TESTPAT", 0x50090028, [], 8, [⟨"PATTERN", 0, 64, .rw, 0⟩]⟩,
   ⟨"ENT_SRC_CNT", 0x50090040, [(0x40, 2)], 8, [⟨"RCT_FAIL", 48, 16, .ro, 0⟩, ⟨"APT_FAIL", 32, 16, .ro, 0⟩, ⟨"WINDOWS", 0, 32, .ro, 0⟩]⟩,
   ⟨"ENT_SRC_BIAS", 0x50090048, [(0x40, 2)], 8, [⟨"P1", 0, 16, .ro, 0⟩]⟩,
   ⟨"ENT_SRC_CORR", 0x50090050, [(0x40, 2), (0x4, 8)], 4, [⟨"RHO", 0, 16, .ro, 0⟩]⟩,
   ⟨"ENT_CNT", 0x50090100, [(0x8, 4)], 8, [⟨"COUNT", 0, 64, .ro, 0⟩]⟩,
   ⟨"ENT_INST", 0x50091000, [(0x8, 196)], 8, [⟨"RESEEDS", 48, 16, .ro, 0⟩, ⟨"REQS", 6, 21, .ro, 0⟩, ⟨"STATE", 0, 2, .ro, 0⟩]⟩]

/-- Register rows of chapter 13. -/
def regRows13a : List RegRow :=
  [⟨"LNK_CTL", 0x50020000, [(0x10000, 4)], 8, [⟨"HOT_RST_EN", 7, 1, .rw, 1⟩, ⟨"MAXWIDTH", 4, 2, .rw, 2⟩, ⟨"MAXGEN", 2, 2, .rw, 3⟩, ⟨"RETRAIN", 1, 1, .w1s, 0⟩, ⟨"EN", 0, 1, .rw, 1⟩]⟩,
   ⟨"LNK_STAT", 0x50020008, [(0x10000, 4)], 8, [⟨"PGEN", 22, 2, .ro, 0⟩, ⟨"PWIDTH", 20, 2, .ro, 0⟩, ⟨"FAILED", 17, 1, .ro, 0⟩, ⟨"REVERSED", 16, 1, .ro, 0⟩, ⟨"LANES", 12, 4, .ro, 0⟩, ⟨"WIDTH", 10, 2, .ro, 0⟩, ⟨"GEN", 8, 2, .ro, 0⟩, ⟨"STATE", 0, 3, .ro, 0⟩]⟩,
   ⟨"LNK_TMO", 0x50020010, [(0x10000, 4)], 8, [⟨"CPL_TMO", 32, 32, .rw, 20000⟩, ⟨"FO_TMO", 0, 32, .rw, 10000⟩]⟩,
   ⟨"LNK_OCC", 0x50020018, [(0x10000, 4)], 8, [⟨"RETRY", 24, 17, .ro, 0⟩, ⟨"READS", 0, 9, .ro, 0⟩]⟩,
   ⟨"LNK_ERR", 0x50020020, [(0x10000, 4)], 8, [⟨"FAILOVER", 7, 1, .w1c, 0⟩, ⟨"LANE_LOST", 6, 1, .w1c, 0⟩, ⟨"BAD_HOST", 5, 1, .w1c, 0⟩, ⟨"CPL_TMO", 4, 1, .w1c, 0⟩, ⟨"ACK_TMO", 3, 1, .w1c, 0⟩, ⟨"REPLAY_LIMIT", 2, 1, .w1c, 0⟩, ⟨"FEC_UNCORR", 1, 1, .w1c, 0⟩, ⟨"CRC", 0, 1, .w1c, 0⟩]⟩,
   ⟨"LNK_CNT", 0x50020080, [(0x10000, 4), (0x8, 11)], 8, [⟨"COUNT", 0, 64, .ro, 0⟩]⟩]

/-- Register rows of chapter 14. -/
def regRows14a : List RegRow :=
  [⟨"STR_CTL", 0x50060000, [], 8, [⟨"STARTER_EN", 2, 1, .rw, 1⟩, ⟨"SEED", 1, 1, .w1s, 0⟩, ⟨"CLAIM_EN", 0, 1, .rw, 0⟩]⟩,
   ⟨"STR_STAT", 0x50060008, [], 8, [⟨"LAST_ACTIVE", 11, 1, .ro, 0⟩, ⟨"PRI", 10, 1, .ro, 0⟩, ⟨"STARTER_UP", 9, 1, .ro, 0⟩, ⟨"ELIGIBLE", 8, 1, .ro, 0⟩, ⟨"SERVICE", 7, 1, .ro, 0⟩, ⟨"ACTIVE_LOW", 6, 1, .ro, 0⟩, ⟨"PEER", 5, 1, .ro, 0⟩, ⟨"CLAIM", 4, 1, .ro, 0⟩, ⟨"PSTATE", 0, 3, .ro, 0⟩]⟩,
   ⟨"STR_CFG", 0x50060010, [], 8, [⟨"BOOT_WAIT", 32, 16, .rw, 1000⟩, ⟨"LINK_TMO", 0, 32, .rw, 10000⟩]⟩,
   ⟨"STR_EPOCH_CFG", 0x50060018, [], 8, [⟨"MAXBYTES", 16, 16, .rw, 256⟩, ⟨"MAXAGE", 0, 16, .rw, 2000⟩]⟩,
   ⟨"STR_EPOCH", 0x50060020, [], 8, [⟨"OPEN", 0, 64, .ro, 0⟩]⟩,
   ⟨"STR_ACKED", 0x50060028, [], 8, [⟨"EPOCH", 0, 64, .ro, 0⟩]⟩,
   ⟨"STR_HORIZON", 0x50060030, [], 8, [⟨"H", 0, 64, .ro, 0⟩]⟩,
   ⟨"STR_DIAG", 0x50060038, [], 8, [⟨"COND", 0, 6, .ro, 0⟩]⟩,
   ⟨"STR_DIAG_CFG", 0x50060040, [], 8, [⟨"AUDIT_FATAL", 8, 1, .rw, 0⟩, ⟨"RETIRE_MAX", 0, 8, .rw, 2⟩]⟩,
   ⟨"STR_SEED", 0x50060048, [], 8, [⟨"ITEMS", 0, 64, .ro, 0⟩]⟩,
   ⟨"STR_JNL", 0x50060050, [], 8, [⟨"EPOCHS", 32, 13, .ro, 0⟩, ⟨"BYTES", 0, 19, .ro, 0⟩]⟩,
   ⟨"STR_CNT", 0x50060080, [(0x8, 6)], 8, [⟨"COUNT", 0, 64, .ro, 0⟩]⟩]

/-- Register rows of chapter 15. -/
def regRows15a : List RegRow :=
  [⟨"GRD_CTL", 0x500B0000, [], 8, [⟨"DISARM", 0, 1, .rw, 0⟩]⟩,
   ⟨"GRD_STAT", 0x500B0008, [], 8, [⟨"ZV_FAIL", 5, 1, .ro, 0⟩, ⟨"POR_LOST", 4, 1, .ro, 1⟩, ⟨"TRIP_ACTIVE", 3, 1, .ro, 0⟩, ⟨"KEYS", 2, 1, .ro, 0⟩, ⟨"BATTERY", 1, 1, .ro, 1⟩, ⟨"LOGIC", 0, 1, .ro, 0⟩]⟩,
   ⟨"GRD_RESP", 0x500B0010, [], 8, [⟨"RESP", 0, 36, .rw, 45812984490⟩]⟩,
   ⟨"GRD_SRC", 0x500B0018, [], 8, [⟨"LATCHED", 0, 18, .w1c, 0⟩]⟩,
   ⟨"GRD_MESH_CFG", 0x500B0100, [(0x10, 4)], 8, [⟨"FILT", 32, 4, .rw, 2⟩, ⟨"DLY_MAX", 24, 8, .rw, 64⟩, ⟨"DLY_MIN", 16, 8, .rw, 0⟩, ⟨"RATE", 1, 10, .rw, 100⟩, ⟨"EN", 0, 1, .rw, 1⟩]⟩,
   ⟨"GRD_MESH_STAT", 0x500B0108, [(0x10, 4)], 8, [⟨"FAILS", 32, 32, .ro, 0⟩, ⟨"FAULT", 24, 2, .ro, 0⟩, ⟨"DLY_B", 8, 8, .ro, 0⟩, ⟨"DLY_A", 0, 8, .ro, 0⟩]⟩,
   ⟨"GRD_TAMP_CFG", 0x500B0200, [], 8, [⟨"IN", 0, 16, .rw, 0⟩]⟩,
   ⟨"GRD_TEMP", 0x500B0208, [], 8, [⟨"TEMP", 0, 16, .ro, 0⟩]⟩,
   ⟨"GRD_TIMER", 0x500B0210, [], 8, [⟨"COUNT", 0, 48, .ro, 0⟩]⟩,
   ⟨"GRD_TREC", 0x500B0218, [], 8, [⟨"TRIPS", 48, 16, .ro, 0⟩, ⟨"CAUSE", 0, 18, .ro, 0⟩]⟩,
   ⟨"GRD_TREC_TIME", 0x500B0220, [], 8, [⟨"TIMER", 0, 48, .ro, 0⟩]⟩,
   ⟨"GRD_STICKY", 0x500B0228, [], 8, [⟨"AUDIT_LOST", 32, 1, .ro, 0⟩, ⟨"SEG_BAD", 0, 32, .ro, 0⟩]⟩]

/-- Register rows of chapter 16. -/
def regRows16a : List RegRow :=
  [⟨"SYS_CTL", 0x50000000, [], 8, [⟨"KEY", 8, 8, .wo, 0⟩, ⟨"SVC_RST", 1, 1, .w1s, 0⟩, ⟨"CHIP_RST", 0, 1, .w1s, 0⟩]⟩,
   ⟨"SYS_STRAP", 0x50000008, [], 8, [⟨"PAIR_PRI", 4, 1, .ro, 0⟩, ⟨"CLK_MODE", 2, 2, .ro, 0⟩, ⟨"BOOT_SRC", 0, 2, .ro, 0⟩]⟩,
   ⟨"SYS_STAGE", 0x50000010, [], 8, [⟨"CLUSTERS", 40, 24, .ro, 0⟩, ⟨"OVERRIDE", 32, 1, .w1s, 0⟩, ⟨"CLKGOOD", 16, 5, .ro, 0⟩, ⟨"STAGE", 0, 4, .ro, 0⟩]⟩,
   ⟨"SYS_RST_CAUSE", 0x50000018, [], 8, [⟨"CLK_DOMAIN", 24, 3, .ro, 0⟩, ⟨"PREP_CUT", 23, 1, .w1c, 0⟩, ⟨"DEFERRED", 22, 1, .w1c, 0⟩, ⟨"LEVEL", 16, 3, .ro, 1⟩, ⟨"SOURCES", 0, 14, .w1c, 2⟩]⟩,
   ⟨"SYS_RST_MAP", 0x50000020, [], 8, [⟨"LEVELS", 0, 42, .ro, 0⟩]⟩,
   ⟨"SYS_RST_CNT", 0x50000028, [], 8, [⟨"L1", 32, 32, .ro, 0⟩, ⟨"L2", 16, 16, .ro, 0⟩, ⟨"NOSERVICE", 0, 8, .ro, 0⟩]⟩,
   ⟨"SYS_GAP", 0x50000040, [(0x8, 9)], 8, [⟨"CYCLES", 0, 16, .ro, 0⟩]⟩,
   ⟨"SYS_WDOG", 0x50000090, [(0x10, 2)], 8, [⟨"KICK", 33, 1, .w1s, 0⟩, ⟨"EN", 32, 1, .w1s, 0⟩, ⟨"PERIOD", 0, 32, .rw, 1000000⟩]⟩,
   ⟨"SYS_BLK_RST", 0x500000B0, [], 8, [⟨"TMO", 32, 32, .rw, 100⟩, ⟨"BUSY", 9, 1, .ro, 0⟩, ⟨"REQ", 8, 1, .w1s, 0⟩, ⟨"BLOCK", 0, 5, .rw, 0⟩]⟩,
   ⟨"SYS_BOOT_STAT", 0x500000B8, [], 8, [⟨"RESULT", 16, 16, .ro, 0⟩, ⟨"SOURCE", 10, 2, .ro, 0⟩, ⟨"PORT", 8, 2, .ro, 0⟩, ⟨"COPY", 4, 4, .ro, 0⟩, ⟨"PHASE", 0, 4, .ro, 0⟩]⟩,
   ⟨"SYS_MEAS", 0x500000C0, [(0x8, 5)], 8, [⟨"VALUE", 0, 64, .ro, 0⟩]⟩,
   ⟨"SYS_CLK", 0x500000F0, [], 8, [⟨"LOSSES", 32, 32, .ro, 0⟩, ⟨"GOOD", 0, 5, .ro, 0⟩]⟩,
   ⟨"SYS_TEN_RST", 0x500000F8, [], 8, [⟨"BUSY", 9, 1, .ro, 0⟩, ⟨"REQ", 8, 1, .w1s, 0⟩, ⟨"TENANT", 0, 6, .rw, 0⟩]⟩]

/-- Register rows of chapter 17. -/
def regRows17a : List RegRow :=
  [⟨"LCD_STATE", 0x500E0000, [], 8, [⟨"MARKER", 8, 1, .ro, 0⟩, ⟨"DISAGREE", 4, 1, .ro, 0⟩, ⟨"STATE", 0, 3, .ro, 0⟩]⟩,
   ⟨"LCD_UID", 0x500E0008, [], 8, [⟨"UID", 0, 64, .ro, 0⟩]⟩,
   ⟨"LCD_LC_STAT", 0x500E0010, [], 8, [⟨"GROUPS", 8, 4, .ro, 0⟩, ⟨"PWR_HOLD", 7, 1, .ro, 0⟩, ⟨"TARGET", 4, 3, .ro, 0⟩, ⟨"HOLDOFF", 3, 1, .ro, 0⟩, ⟨"STEP", 0, 3, .ro, 0⟩]⟩,
   ⟨"LCD_OTP_CMD", 0x500E0018, [], 8, [⟨"BUSY", 63, 1, .ro, 0⟩, ⟨"RESULT", 56, 2, .ro, 0⟩, ⟨"READ", 10, 1, .w1s, 0⟩, ⟨"PROG", 9, 1, .w1s, 0⟩, ⟨"INDEX", 0, 9, .rw, 0⟩]⟩,
   ⟨"LCD_OTP_DATA", 0x500E0020, [], 8, [⟨"DATA", 0, 64, .rw, 0⟩]⟩,
   ⟨"LCD_DBG", 0x500E0028, [], 8, [⟨"PORTS", 16, 5, .ro, 0⟩, ⟨"TENANT", 8, 6, .ro, 0⟩, ⟨"SCOPE", 1, 2, .ro, 0⟩, ⟨"END", 0, 1, .w1s, 0⟩]⟩,
   ⟨"LCD_DBG_NA", 0x500E0030, [], 8, [⟨"NOT_AFTER", 0, 64, .ro, 0⟩]⟩]

/-- Register rows of chapter 18. -/
def regRows18a : List RegRow :=
  [⟨"MPU_CTL", 0x500D0000, [(0x8, 12)], 8, [⟨"LOCK", 1, 1, .w1s, 0⟩, ⟨"UPD", 0, 1, .rw, 0⟩]⟩,
   ⟨"CLU_MPU_CTL", 0x20305000, [(0x400000, 24), (0x20, 8)], 8, [⟨"LOCK", 1, 1, .w1s, 0⟩, ⟨"UPD", 0, 1, .rw, 0⟩]⟩,
   ⟨"MPU_VADDR", 0x500D0100, [(0x10, 12)], 8, [⟨"ADDR", 0, 64, .ro, 0⟩]⟩,
   ⟨"CLU_MPU_VADDR", 0x20305008, [(0x400000, 24), (0x20, 8)], 8, [⟨"ADDR", 0, 64, .ro, 0⟩]⟩,
   ⟨"MPU_VINFO", 0x500D0108, [(0x10, 12)], 8, [⟨"COUNT", 48, 16, .ro, 0⟩, ⟨"TENANT", 40, 8, .ro, 0⟩, ⟨"MASTER", 16, 16, .ro, 0⟩, ⟨"CAUSE", 12, 4, .ro, 0⟩, ⟨"LEVEL", 10, 2, .ro, 0⟩, ⟨"KIND", 8, 2, .ro, 0⟩, ⟨"REGION", 0, 8, .ro, 0⟩]⟩,
   ⟨"CLU_MPU_VINFO", 0x20305010, [(0x400000, 24), (0x20, 8)], 8, [⟨"COUNT", 48, 16, .ro, 0⟩, ⟨"TENANT", 40, 8, .ro, 0⟩, ⟨"MASTER", 16, 16, .ro, 0⟩, ⟨"CAUSE", 12, 4, .ro, 0⟩, ⟨"LEVEL", 10, 2, .ro, 0⟩, ⟨"KIND", 8, 2, .ro, 0⟩, ⟨"REGION", 0, 8, .ro, 0⟩]⟩,
   ⟨"MPU_LATCH", 0x500D0200, [(0x8, 12)], 8, [⟨"VALID", 0, 1, .w1c, 0⟩]⟩,
   ⟨"CLU_MPU_LATCH", 0x20305018, [(0x400000, 24), (0x20, 8)], 8, [⟨"VALID", 0, 1, .w1c, 0⟩]⟩,
   ⟨"MPU_RGN_BASE", 0x500D1000, [(0x400, 12), (0x20, 32)], 8, [⟨"BASE", 6, 58, .rw, 0⟩]⟩,
   ⟨"CLU_MPU_RGN_BASE", 0x20304000, [(0x400000, 24), (0x200, 8), (0x20, 16)], 8, [⟨"BASE", 6, 58, .rw, 0⟩]⟩,
   ⟨"MPU_RGN_LIMIT", 0x500D1008, [(0x400, 12), (0x20, 32)], 8, [⟨"LIMIT", 6, 58, .rw, 0⟩]⟩,
   ⟨"CLU_MPU_RGN_LIMIT", 0x20304008, [(0x400000, 24), (0x200, 8), (0x20, 16)], 8, [⟨"LIMIT", 6, 58, .rw, 0⟩]⟩,
   ⟨"MPU_RGN_ATTR", 0x500D1010, [(0x400, 12), (0x20, 32)], 8, [⟨"ORDER", 16, 2, .rw, 0⟩, ⟨"CACHE", 14, 2, .rw, 0⟩, ⟨"TENANT", 8, 6, .rw, 0⟩, ⟨"ANY", 6, 1, .rw, 0⟩, ⟨"PRIV", 4, 2, .rw, 0⟩, ⟨"X", 3, 1, .rw, 0⟩, ⟨"W", 2, 1, .rw, 0⟩, ⟨"R", 1, 1, .rw, 0⟩, ⟨"EN", 0, 1, .rw, 0⟩]⟩,
   ⟨"CLU_MPU_RGN_ATTR", 0x20304010, [(0x400000, 24), (0x200, 8), (0x20, 16)], 8, [⟨"ORDER", 16, 2, .rw, 0⟩, ⟨"CACHE", 14, 2, .rw, 0⟩, ⟨"TENANT", 8, 6, .rw, 0⟩, ⟨"ANY", 6, 1, .rw, 0⟩, ⟨"PRIV", 4, 2, .rw, 0⟩, ⟨"X", 3, 1, .rw, 0⟩, ⟨"W", 2, 1, .rw, 0⟩, ⟨"R", 1, 1, .rw, 0⟩, ⟨"EN", 0, 1, .rw, 0⟩]⟩]

/-- Register rows of chapter 19. -/
def regRows19a : List RegRow :=
  [⟨"EVR_CTL", 0x500C0000, [], 8, [⟨"FLUSH", 0, 1, .w1s, 0⟩]⟩,
   ⟨"EVR_STAT", 0x500C0008, [], 8, [⟨"GOOD", 40, 8, .ro, 0⟩, ⟨"BLOCKED", 34, 1, .ro, 0⟩, ⟨"VOLATILE", 33, 1, .ro, 0⟩, ⟨"FLUSHING", 32, 1, .ro, 0⟩, ⟨"BUFFER", 0, 12, .ro, 0⟩]⟩,
   ⟨"EVR_NEXT", 0x500C0010, [], 8, [⟨"NUMBER", 0, 64, .ro, 0⟩]⟩,
   ⟨"EVR_FLUSH_INT", 0x500C0018, [], 8, [⟨"INTERVAL", 0, 64, .rw, 0⟩]⟩,
   ⟨"EVR_ARCH", 0x500C0020, [], 8, [⟨"BASE", 24, 33, .rw, 0⟩, ⟨"LINES", 0, 24, .rw, 0⟩]⟩,
   ⟨"EVR_RD_IDX", 0x500C0028, [], 8, [⟨"NUMBER", 0, 64, .rw, 0⟩]⟩,
   ⟨"EVR_RD_DATA", 0x500C0030, [(0x8, 4)], 8, [⟨"WORD", 0, 64, .ro, 0⟩]⟩,
   ⟨"EVR_CNT", 0x500C0080, [(0x8, 5)], 8, [⟨"COUNT", 0, 64, .ro, 0⟩]⟩,
   ⟨"EVR_LIMIT", 0x500C4000, [(0x4, 4096)], 4, [⟨"RATE", 16, 16, .rw, 256⟩, ⟨"BURST", 0, 16, .rw, 64⟩]⟩,
   ⟨"EVR_CODE", 0x500C8000, [(0x4, 4096)], 4, [⟨"READ_T", 0, 1, .rw, 0⟩]⟩]

/-- Register rows of chapter 20. -/
def regRows20a : List RegRow :=
  [⟨"SCL_STAT", 0x500F0000, [], 8, [⟨"PRESENT", 7, 1, .ro, 0⟩, ⟨"ROMFW", 6, 1, .ro, 0⟩, ⟨"EXHAUSTED", 5, 1, .ro, 0⟩, ⟨"SIGNING", 4, 1, .ro, 0⟩, ⟨"BANK_B_BAD", 3, 1, .ro, 0⟩, ⟨"BANK_A_BAD", 2, 1, .ro, 0⟩]⟩,
   ⟨"SCL_GEN", 0x500F0008, [], 8, [⟨"INTERVAL", 32, 32, .ro, 0⟩, ⟨"SGEN", 0, 32, .ro, 0⟩]⟩,
   ⟨"SCL_LEAF", 0x500F0010, [], 8, [⟨"NEXT", 0, 21, .ro, 0⟩]⟩,
   ⟨"SCL_STMT", 0x500F1000, [(0x8, 2417)], 8, [⟨"WORD", 0, 64, .ro, 0⟩]⟩,
   ⟨"SCL_CNT", 0x500F8000, [(0x100, 64), (0x8, 32)], 8, [⟨"COUNT", 0, 64, .ro, 0⟩]⟩]

/-- Register rows of chapter 21. -/
def regRows21a : List RegRow :=
  [⟨"RAS_CTL", 0x50100000, [], 8, [⟨"ROT_START", 2, 1, .w1s, 0⟩, ⟨"ROT_EN", 1, 1, .rw, 0⟩, ⟨"SCRUB_EN", 0, 1, .rw, 1⟩]⟩,
   ⟨"RAS_ROT_CFG", 0x50100008, [], 8, [⟨"DRAIN_TMO", 32, 16, .rw, 10⟩, ⟨"INTERVAL", 0, 32, .rw, 3600⟩]⟩,
   ⟨"RAS_ROT_STAT", 0x50100010, [], 8, [⟨"ROTATIONS", 32, 32, .ro, 0⟩, ⟨"BUSY", 8, 1, .ro, 0⟩, ⟨"CLUSTER", 0, 5, .ro, 0⟩]⟩,
   ⟨"RAS_SCRUB", 0x50100018, [], 8, [⟨"PERIOD", 0, 32, .rw, 1000⟩]⟩,
   ⟨"RAS_HEALTH_CFG", 0x50100020, [], 8, [⟨"WINDOW", 16, 32, .rw, 86400⟩, ⟨"THRESH", 0, 8, .rw, 3⟩]⟩,
   ⟨"RAS_CAP", 0x50100028, [], 8, [⟨"RETIRED", 24, 24, .ro, 0⟩, ⟨"INSERVICE", 0, 24, .ro, 0⟩]⟩,
   ⟨"RAS_RETIRE", 0x50100030, [], 8, [⟨"BUSY", 9, 1, .ro, 0⟩, ⟨"RETURN", 8, 1, .w1s, 0⟩, ⟨"CLUSTER", 0, 5, .rw, 0⟩]⟩,
   ⟨"RAS_LINK_RECAL", 0x50100038, [], 8, [⟨"BUSY", 9, 1, .ro, 0⟩, ⟨"START", 8, 1, .w1s, 0⟩, ⟨"PORT", 0, 3, .rw, 0⟩]⟩,
   ⟨"RAS_CL_HEALTH", 0x50100100, [(0x8, 24)], 8, [⟨"EVENTS", 32, 32, .ro, 0⟩, ⟨"LAST", 16, 8, .ro, 0⟩, ⟨"COUNT", 0, 8, .ro, 0⟩]⟩,
   ⟨"RAS_CE_CNT", 0x50100200, [(0x8, 11)], 8, [⟨"UE", 32, 32, .ro, 0⟩, ⟨"CE", 0, 32, .ro, 0⟩]⟩,
   ⟨"RAS_LANE_CTL", 0x50101000, [(0x20, 18)], 8, [⟨"LOCK", 31, 1, .ro, 0⟩, ⟨"INJECT", 16, 1, .w1s, 0⟩, ⟨"RATE", 10, 2, .rw, 1⟩, ⟨"LOOP", 8, 2, .rw, 0⟩, ⟨"PATTERN", 0, 3, .rw, 0⟩]⟩,
   ⟨"RAS_LANE_USER", 0x50101008, [(0x20, 18)], 8, [⟨"PATTERN", 0, 64, .rw, 0⟩]⟩,
   ⟨"RAS_LANE_ERR", 0x50101010, [(0x20, 18)], 8, [⟨"LOSSES", 48, 16, .ro, 0⟩, ⟨"ERRORS", 0, 48, .ro, 0⟩]⟩,
   ⟨"RAS_LANE_BITS", 0x50101018, [(0x20, 18)], 8, [⟨"BITS", 0, 64, .ro, 0⟩]⟩]

/-- Register rows of chapter 22. -/
def regRows22a : List RegRow :=
  [⟨"SYS_PWR_CAP", 0x50000100, [], 8, [⟨"BUSY", 32, 1, .ro, 0⟩, ⟨"CAP", 0, 5, .rw, 0⟩]⟩,
   ⟨"SYS_THERM", 0x50000108, [], 8, [⟨"MAXTEMP", 48, 16, .ro, 0⟩, ⟨"TEMP", 16, 16, .ro, 0⟩, ⟨"SENSOR", 8, 5, .ro, 0⟩, ⟨"WARN", 0, 1, .ro, 0⟩]⟩]

/-- Every register of the supervisor windows. -/
def regTable : List RegRow :=
  regRows03a ++ regRows03b ++ regRows04a ++ regRows06a ++ regRows07a ++ regRows08a ++ regRows10a ++ regRows10b ++ regRows11a ++ regRows12a ++ regRows12b ++ regRows13a ++ regRows14a ++ regRows15a ++ regRows16a ++ regRows17a ++ regRows18a ++ regRows19a ++ regRows20a ++ regRows21a ++ regRows22a

/-- Whether an offset from a register array's base is that of one of its elements. -/
def dimsHit : List (Nat × Nat) → Nat → Bool
  | [], off => off == 0
  | (s, n) :: ds, off =>
    if ds.isEmpty then decide (off % s = 0) && decide (off / s < n)
    else decide (off / s < n) && dimsHit ds (off % s)

/-- The register row that an address names. -/
def regRowAt (addr : Nat) : Option RegRow :=
  regTable.find? (fun r => decide (r.base ≤ addr) && dimsHit r.dims (addr - r.base))

/-- A row's field at one address. -/
def FieldRow.field (f : FieldRow) (addr : Nat) : Field := ⟨addr, f.lo, f.width, f.reset⟩

/-- What a write of `v` leaves in a field, by its access code (R4): RO ignores it, W1C clears the ones written,
W1S sets them, WO and RW take the value. -/
def accessWrite (a : Access) (old v : Nat) : Nat :=
  match a with
  | .rw => v
  | .ro => old
  | .wo => old
  | .w1c => (BitVec.ofNat 64 old &&& ~~~ (BitVec.ofNat 64 v)).toNat
  | .w1s => (BitVec.ofNat 64 old ||| BitVec.ofNat 64 v).toNat

/-- A register's fields written by their access codes (R4, R5). -/
def regWriteRow (r : RegFile) (row : RegRow) (addr v : Nat) : RegFile :=
  row.fields.foldl (fun r f =>
    regSet r (f.field addr) (accessWrite f.access (regGet r (f.field addr)) (bitsAt v f.lo f.width))) r

/-- A register's value as its fields hold it; reserved and write-only bits read as 0 (R4). -/
def regReadRow (r : RegFile) (row : RegRow) (addr : Nat) : Nat :=
  row.fields.foldl (fun a f => if f.access = .wo then a else a + regGet r (f.field addr) * 2 ^ f.lo) 0

end Sys2Proof
end

