-- ==== Sys2Proof/Machine/ScaleTypes.lean ====
section
/-! DEFINITION. State of Scale, the sealed transaction meter (chapter 20). -/

namespace Sys2Proof.Machine

/-- A bank of Scale's partition (R446, R447). -/
structure ScaleBank where
  /-- persist number, 0 never written -/ num : Nat
  /-- counters as persisted, tenant · 32 + class -/ counts : Table Nat
  /-- marked bad -/ bad : Bool
deriving DecidableEq, Repr

/-- Scale: its counter array, its partition and what its cores hold. -/
structure Scale where
  /-- live counters, tenant · 32 + class -/ counts : Table Nat
  /-- bank A -/ bankA : ScaleBank
  /-- bank B -/ bankB : ScaleBank
  /-- number of the last statement -/ stmtNum : Nat
  /-- the last two statements, newest first -/ stmts : List Bytes
  /-- seal generation -/ sgen : Nat
  /-- INTERVAL, s -/ interval : Nat
  /-- the stored package, in MRAM at 0x1038_0000 -/ pkg : Option Bytes
  /-- its cores have started since their last reset -/ up : Bool
  /-- ROM firmware runs where its cores are up -/ romfw : Bool
  /-- it has generated a signing key before (R449) -/ hadKey : Bool
  /-- whether it holds its key's seeds -/ present : Bool
  /-- the seeds, 96 bytes -/ seeds : Bytes
  /-- next leaf -/ next : Nat
  /-- durable leaf limit -/ limit : Nat
  /-- SCALE_INDEX_LOW recorded -/ lowDone : Bool
  /-- RESTART for the next statement -/ restart : Bool
  /-- device time of the start of the interval -/ start : Nat
  /-- device time of the last restart, 0 for none -/ lastRestart : Nat
  /-- device time of the last cut -/ lastCut : Option Nat
  /-- device time of the last persist -/ lastPersist : Nat
  /-- at the start of the interval: entries into HOLDOVER and into UNTRUSTED so far, and the trust state -/
  mark : Nat × Nat × Nat
deriving DecidableEq, Repr

/-- Scale with a blank partition, its cores not started yet: ROM firmware, INTERVAL 3,600 (R448; log entry 3). -/
def Scale.reset : Scale where
  counts := []
  bankA := ⟨0, [], false⟩
  bankB := ⟨0, [], false⟩
  stmtNum := 0
  stmts := []
  sgen := 0
  interval := 3600
  pkg := none
  up := false
  romfw := true
  hadKey := false
  present := false
  seeds := []
  next := 0
  limit := 0
  lowDone := false
  restart := false
  start := 0
  lastRestart := 0
  lastCut := none
  lastPersist := 0
  mark := (0, 0, 0)

end Sys2Proof.Machine
end

