-- ==== Sys2Proof/Machine/SignerTypes.lean ====
section
/-! DEFINITION. State of the attestation signer in S0 (R182 to R185). -/

namespace Sys2Proof.Machine

/-- A SEAL record whose signature waits for the signer (R437). -/
structure SignReq where
  /-- the record's number -/ num : Nat
  /-- the message to sign -/ msg : Bytes
deriving DecidableEq, Repr

/-- The attestation signer. -/
structure Signer where
  /-- whether guard SRAM holds an attestation key (R187) -/ present : Bool
  /-- the key's seeds in guard SRAM, 96 bytes (R182) -/ seeds : Bytes
  /-- next leaf (R183) -/ next : Nat
  /-- the durable limit that the signer knows (R183) -/ limit : Nat
  /-- the 16 MRAM words of R184 -/ words : Table Nat
  /-- rebuilding its traversal state after a reset (R182) -/ rebuilding : Bool
  /-- requests that wait -/ waiting : List SignReq
  /-- signatures given to supervisor firmware, newest first: leaf and signature -/ given : List (Nat × Bytes)
  /-- XMSS_INDEX_LOW recorded -/ lowDone : Bool
deriving DecidableEq, Repr

/-- The signer of an uncommissioned unit. -/
def Signer.reset : Signer := ⟨false, [], 0, 0, [], false, [], [], false⟩

end Sys2Proof.Machine
end

