-- ==== Sys2Proof/Machine/TabTypes.lean ====
section
/-! DEFINITION. State of the routing, key and terminal tables (chapter 10). -/

namespace Sys2Proof.Machine

/-- An entry of the key cache (R236). -/
structure CacheKey where
  /-- tenant -/ tenant : Nat
  /-- handle -/ handle : Nat
  /-- the unwrapped key with its words and times -/ key : KeyVal
  /-- names of the entries that pin it, once for each slot: the pin count is their number -/ pins : List Nat
  /-- STALE -/ stale : Bool
  /-- order of last use -/ used : Nat
deriving DecidableEq, Repr

/-- A pending fetch of the key cache (R237). -/
structure KeyFetch where
  /-- tenant -/ tenant : Nat
  /-- handle -/ handle : Nat
  /-- entries attached, once for each slot: entry and slot -/ waiting : List (Nat × Nat)
  /-- name of the store read -/ read : Nat
  /-- invalidated while pending: issued again when its line arrives (R238) -/ again : Bool
  /-- the unwrapped key that waits for a way of its set (R237) -/ ready : Option KeyVal
deriving DecidableEq, Repr

/-- A Sieve prefix (R240). -/
structure Prefix_ where
  /-- tenant -/ tenant : Nat
  /-- digits; their number is the length -/ digits : List Nat
  /-- held in the TCAM, else in the hash tables -/ tcam : Bool
  /-- routing profile index -/ profile : Nat
deriving DecidableEq, Repr

/-- A terminal table entry (R246). -/
structure Term where
  /-- terminal identifier -/ id : Nat
  /-- tenant -/ tenant : Nat
  /-- last transaction counter -/ counter : Nat
  /-- age stamp -/ age : Nat
  /-- tenant flags -/ flags : Nat
  /-- last ingress port -/ port : Nat
  /-- DIRTY -/ dirty : Bool
  /-- MOVED -/ moved : Bool
  /-- port moves -/ moves : Nat
  /-- names of the entries that hold a reference -/ refs : List Nat
deriving DecidableEq, Repr

/-- Where a learning or refill stands (R247). -/
inductive InsertStep where
  /-- the line of the spill chain at this place is being probed -/
  | probe (k : Nat)
  /-- S1 makes the insertion: 1 policy, 2 overflow -/
  | soft (why : Nat)
  /-- the bucket is full and every entry holds references; whether the entry is learned, not refilled -/
  | wait (t : Term) (learned : Bool)
deriving DecidableEq, Repr

/-- A place in the pending-insert CAM (R248). -/
structure Insert where
  /-- tenant -/ tenant : Nat
  /-- terminal identifier -/ id : Nat
  /-- entries attached -/ waiting : List Nat
  /-- step -/ step : InsertStep
  /-- name of the store read of the probe, 0 where none was needed -/ read : Nat
deriving DecidableEq, Repr

/-- The tables. -/
structure Tables where
  /-- key cache -/ cache : List CacheKey
  /-- order of the next use -/ clock : Nat
  /-- hash key of the cache's sets, once drawn from the store engine's DRBG instance after a reset (R236) -/ hashKey : Option Nat
  /-- pending key fetches, at most 512 -/ fetches : List KeyFetch
  /-- Sieve prefixes -/ prefixes : List Prefix_
  /-- S1's shadow of the prefixes -/ shadow : List Prefix_
  /-- length filter, by root -/ filter : Table Nat
  /-- S1's shadow of the length filter -/ shadowFilter : Table Nat
  /-- S1's shadow of TBL_KH_BASE, TBL_KH_CFG and TBL_T_POL, their fields by tenant (R235) -/ shadowKh : Table (List Nat)
  /-- valid terminal entries on chip -/ terms : List Term
  /-- S1's overflow area (R251); the spill table itself is in the store's lines -/ spilled : List Term
  /-- pending inserts, at most 64 -/ inserts : List Insert
  /-- poisoned terminal buckets -/ poisoned : List Nat
  /-- block of the Sieve or configuration that is held and reloads, and whether it mismatched before in the walk -/
  reload : Option Nat
  /-- blocks that mismatched in the current walk (R255) -/ mismatched : List Nat
  /-- bucket that the ager looks at next -/ ager : Nat
deriving DecidableEq, Repr

/-- The tables right after reset: empty. -/
def Tables.reset : Tables where
  cache := []
  clock := 0
  hashKey := none
  fetches := []
  prefixes := []
  shadow := []
  filter := []
  shadowFilter := []
  shadowKh := []
  terms := []
  spilled := []
  inserts := []
  poisoned := []
  reload := none
  mismatched := []
  ager := 0

end Sys2Proof.Machine
end

