-- ==== Sys2Proof/Machine/StoreTypes.lean ====
section
/-! DEFINITION. State of the sealed store (chapter 11). -/

namespace Sys2Proof.Machine

/-- States of the store (R267). -/
inductive StoreSt where
  | unformatted | closed | opened
deriving DecidableEq, Repr

/-- The value of SST_STAT.STATE. -/
def StoreSt.val : StoreSt → Nat
  | .unformatted => 0 | .closed => 1 | .opened => 2

/-- A data line as it was last written (R261): the host holds it enciphered. -/
structure Line where
  /-- version; 0 never written -/ ver : Nat
  /-- the 256 bytes -/ data : Bytes
deriving DecidableEq, Repr

/-- A line never written. -/
def Line.zero : Line := ⟨0, []⟩

/-- A node of the counter tree (R262): its counters follow from its children. -/
structure Node where
  /-- own version, held in its parent -/ ver : Nat
  /-- generation -/ gen : Nat
deriving DecidableEq, Repr

/-- What a checkpoint or LIVE holds of the store: what the counter tree proves of an image (R265, R271). -/
structure Tree where
  /-- data lines -/ lines : Table Line
  /-- nodes by position in the order of R258; unlisted: version 0 in the generation of the format -/ nodes : Table Node
deriving DecidableEq, Repr

/-- A root record (R264, R274). -/
structure Root where
  /-- checkpoint number -/ num : Nat
  /-- device time of the cut -/ time : Nat
  /-- N -/ n : Nat
  /-- current generation -/ gen : Nat
  /-- old generation -/ old : Nat
  /-- rekey pointer -/ ptr : Nat
  /-- the tree whose root counters it holds -/ tree : Tree
  /-- S1's overflow area of terminal entries -/ overflow : List Term
  /-- the recorder archive -/ arch : List ArchSegment
  /-- program images (R115) -/ images : List Image
  /-- S0's table of loaded programs: image by tenant · 2^16 + PROG -/ loaded : Table (Option Nat)
  /-- S1's shadow of the Sieve's prefixes and of the length filter (R255) -/ shadow : List Prefix_ × Table Nat
deriving DecidableEq, Repr

/-- A part of a line read: what it asks host memory for. -/
inductive StorePart where
  /-- the line -/
  | line
  /-- its tag -/
  | tag
  /-- the node of the path at this level -/
  | node (level : Nat)
deriving DecidableEq, Repr

/-- A part of a line read at the host. -/
structure PartRead where
  /-- what it asks for -/ part : StorePart
  /-- its bytes, once they arrived -/ data : Option Bytes
  /-- issued a second time (R319) -/ again : Bool
  /-- of a node: its own version as the read found it, under which its CMAC is checked (R262, R266) -/ ver : Nat
deriving DecidableEq, Repr

/-- Result of a line read (R265, R277). -/
inductive ReadResult where
  | waiting
  | good (data : Bytes)
  | poisoned
  | lost
deriving DecidableEq, Repr

/-- A line read in progress (R265). -/
structure StoreRead where
  /-- its number -/ num : Nat
  /-- line -/ line : Nat
  /-- parts asked of the host -/ parts : List PartRead
  /-- a part failed at the link for good -/ failed : Bool
  /-- version and generation of the line when the read came to its lock (R261, R266) -/ at_ : Nat × Nat
  /-- result -/ res : ReadResult
deriving DecidableEq, Repr

/-- An access to the host that waits at the lock of its line or node (R266). -/
inductive StoreOp where
  /-- bytes written at an offset of the store space -/
  | write (off : Nat) (data : Bytes)
  /-- a part of a read asked for: read and part -/
  | ask (num : Nat) (part : StorePart)
deriving DecidableEq, Repr

/-- A place in the queue of a lock (R266). -/
structure LockOp where
  /-- level of the item, 0 a data line -/ level : Nat
  /-- index of the item -/ index : Nat
  /-- the reads of the item that came before -/ after : List Nat
  /-- the access -/ op : StoreOp
deriving DecidableEq, Repr

/-- A line that S0, S1 or the Proofer needs verified before an operation: its contents, or its path for a write (R265). -/
structure Want where
  /-- line -/ line : Nat
  /-- its contents are read -/ read : Bool
  /-- it is written -/ write : Bool
  /-- lowest level of its path that is needed -/ low : Nat
deriving DecidableEq, Repr

/-- The sealed-store engine and S1's part of it. -/
structure Store where
  /-- state -/ st : StoreSt
  /-- N -/ n : Nat
  /-- the tree, LIVE while OPEN -/ tree : Tree
  /-- nodes changed since they were last written, by position -/ dirty : List Nat
  /-- verified nodes of the counter-tree cache, by position, first come first: at most 4,096, none of level 5 (R265) -/
  cache : List Nat
  /-- LIVE as a flush left it: its record -/ live : Option Root
  /-- FLUSHED -/ flushed : Bool
  /-- PENDING -/ pend : Option Root
  /-- DURABLE_A -/ durA : Option Root
  /-- DURABLE_B -/ durB : Option Root
  /-- highest checkpoint number ever opened -/ high : Nat
  /-- checkpoint open; 0 while not OPEN -/ openNum : Nat
  /-- generation being written, and being left -/ gen : Nat × Nat
  /-- rekey pointer -/ ptr : Nat
  /-- rekey record in MRAM: old and new generation, pointer -/ mramRekey : Option (Nat × Nat × Nat)
  /-- positions rewritten by this rekey -/ rewritten : Nat
  /-- a cut is asked for -/ wantCut : Bool
  /-- device time of the last cut -/ lastCut : Nat
  /-- time-base cycle of the last cut, for untrusted time -/ lastCutCyc : Nat
  /-- poisoned items: level (0 data line, k + 1 node of level k), index, device time -/ poison : List (Nat × Nat × Nat)
  /-- device times of the poisonings within the window (R278) -/ poisonAt : List Nat
  /-- line reads -/ reads : List StoreRead
  /-- reads made for an operation that waits for its lines: read, line, and whether its contents are read -/
  checks : List (Nat × Nat × Bool)
  /-- accesses that wait at a lock, in order of arrival (R266) -/ lock : List LockOp
  /-- number of the next read -/ nextRead : Nat
deriving DecidableEq, Repr

/-- An unformatted store. -/
def Store.reset : Store where
  st := .unformatted
  n := 0
  tree := ⟨[], []⟩
  dirty := []
  cache := []
  live := none
  flushed := false
  pend := none
  durA := none
  durB := none
  high := 0
  openNum := 0
  gen := (0, 0)
  ptr := 0
  mramRekey := none
  rewritten := 0
  wantCut := false
  lastCut := 0
  lastCutCyc := 0
  poison := []
  poisonAt := []
  reads := []
  checks := []
  lock := []
  nextRead := 1

end Sys2Proof.Machine
end

