-- ==== Sys2Proof/Machine/SysTypes.lean ====
section
/-! DEFINITION. State of the guard domain beside its registers (chapter 15), of the reset controller and the boot
(chapter 16), and of the life cycle and the debug port (chapter 17). -/

namespace Sys2Proof.Machine

/-- A Crust channel (R365). -/
structure Mesh where
  /-- consecutive failing steps -/ run : Nat
  /-- faults seen in them: bit 0 integrity, bit 1 timing -/ seen : Nat
deriving DecidableEq, Repr

/-- The guard domain beside its registers and guard SRAM. -/
structure Guard where
  /-- the four mesh channels -/ mesh : Table Mesh
  /-- warnings that S0 has not recorded: source mask, response, 1 logic powered or 2 battery -/ warns : List (Nat × Nat × Nat)
  /-- a trip that S0 has not recorded -/ trip : Bool
  /-- verification passes to record, if any -/ passes : Option Nat
  /-- POR_LOST that S0 has not recorded -/ porLost : Bool
  /-- the guard timer was lost since the time base last restarted (R291, R374) -/ timerLost : Bool
deriving DecidableEq, Repr

/-- The guard domain after its power-on reset (R374). -/
def Guard.reset : Guard := ⟨[], [], false, none, true, true⟩

/-- A reset that is prepared or that waits for a write pulse (R377, R386). -/
structure Prep where
  /-- level, 1 or 2 -/ level : Nat
  /-- sources, a mask by the bits of R378 -/ sources : Nat
  /-- device time of its start -/ start : Nat
  /-- cycle of its start -/ cyc : Nat
  /-- the tables, and for a software service reset the store, have been flushed -/ flushed : Bool
deriving DecidableEq, Repr

/-- Phases of a boot attempt (R393). -/
inductive BootPhase where
  | waiting | loading | verifying | launched | failed
deriving DecidableEq, Repr

/-- The value of PHASE (R393). -/
def BootPhase.val : BootPhase → Nat
  | .waiting => 0 | .loading => 1 | .verifying => 2 | .launched => 3 | .failed => 4

/-- The reset controller and the boot. -/
structure Sys where
  /-- stage released last; 15 before stage 0 (R383) -/ stage : Nat
  /-- device cycle at which it was released -/ stageAt : Nat
  /-- clusters released, a mask -/ clusters : Nat
  /-- level of the release in progress: 1 or 2; 0 when released -/ releasing : Nat
  /-- clock-good, in CLKGOOD bit order -/ good : Nat
  /-- reset in preparation -/ prep : Option Prep
  /-- a non-volatile write pulse runs (R386) -/ pulse : Bool
  /-- a reset that waits for the end of the pulse or group -/ deferred : Option Prep
  /-- sources asserted, a mask -/ asserted : Nat
  /-- straps: BOOT_SRC, CLK_MODE, PAIR_PRI -/ straps : Nat × Nat × Bool
  /-- block reset in progress: block and cycle of the idle request -/ block : Option (Nat × Nat)
  /-- watchdog counts: device cycle of the last restart, by pair -/ wdog : Table Nat
  /-- firmware serves the device window (R329) -/ window : Bool
  /-- boot phase -/ phase : BootPhase
  /-- result of the last attempt (R396) -/ result : Nat
  /-- DW_BOOT_ADDR -/ addr : Nat
  /-- DW_BOOT_LEN -/ len : Nat
  /-- port of the attempt -/ port : Nat
  /-- ports on which the boot ROM serves its mailbox, a mask (R329, R391) -/ served : Nat
  /-- 0 copy A, 1 copy B, 2 host -/ copy : Nat
  /-- reads of the image still outstanding -/ reads : Nat
  /-- the image as its reads have filled it -/ image : Bytes
  /-- a read of the image failed -/ failed : Bool
  /-- the image in supervisor SRAM -/ running : Bytes
  /-- cycle at which the boot may begin its next attempt (R381) -/ backoff : Option Nat
  /-- source of the image: 0 flash, 1 or 2 a host port, as BOOT_SRC -/ source : Nat
  /-- events that the firmware writes at its next start (R397) -/ rejected : List (Nat × Nat)
  /-- cycle at which the flash copy was begun -/ flashAt : Nat
  /-- S1's copy of TBL_TT_SALT in MRAM (chapter 10) -/ salt : Nat
  /-- bytes written at internal addresses whose contents the spec places in no other state: MRAM, supervisor SRAM, Sieve memories (R10,
  R14); an unlisted byte is not known -/ raw : Table (Option Byte)
deriving DecidableEq, Repr

/-- The controller with stage 0 released after an L1 reset (log entry 8). -/
def Sys.reset : Sys where
  stage := 0
  stageAt := 0
  clusters := 0
  releasing := 1
  good := 31
  prep := none
  pulse := false
  deferred := none
  asserted := 0
  straps := (0, 0, false)
  block := none
  wdog := []
  window := false
  phase := .waiting
  result := 0
  addr := 0
  len := 0
  port := 0
  served := 0
  copy := 0
  reads := 0
  image := []
  failed := false
  running := []
  backoff := none
  source := 0
  rejected := []
  flashAt := 0
  salt := 0
  raw := []

/-- A life-cycle move in progress (R405). -/
structure Move where
  /-- target code -/ target : Nat
  /-- code before the move -/ from_ : Nat
  /-- next group to program -/ group : Nat
  /-- groups programmed -/ done : Nat
  /-- a group is being programmed -/ busy : Bool
  /-- slot that waits for the response, 65 for the custodian port -/ src : Nat
deriving DecidableEq, Repr

/-- A debug session (R409). -/
structure Debug where
  /-- scope -/ scope : Nat
  /-- TRACE tenant -/ tenant : Nat
  /-- MAINT ports -/ ports : Nat
  /-- NOT_AFTER -/ notAfter : Nat
deriving DecidableEq, Repr

/-- Life cycle and debug port. -/
structure LifeDbg where
  /-- intent marker in MRAM: target code -/ marker : Option Nat
  /-- the marker was found at this boot: the wipe has been repeated and no service opens (R407) -/ wiped : Bool
  /-- move in progress -/ move : Option Move
  /-- OTP word being programmed: index and the bits still to program -/ prog : Option (Nat × Nat)
  /-- open session -/ session : Option Debug
  /-- token buffer -/ token : Bytes
  /-- digests of consented token bodies since the token was loaded: tenant and digest (R409) -/ consents : List (Nat × Bytes)
  /-- last value shifted out by the TAP -/ tdo : Bytes
deriving DecidableEq, Repr

/-- No move, no session. -/
def LifeDbg.reset : LifeDbg := ⟨none, false, none, none, none, [], [], []⟩

end Sys2Proof.Machine
end

