-- ==== Sys2Proof/Machine/UnitTypes.lean ====
section
/-! DEFINITION. State of the unit as a whole: its part, its OTP array, its life cycle and its pins
(chapters 0, 17 and 22). -/

namespace Sys2Proof.Machine

/-- The ordering codes of R1. -/
inductive Part where
  | c | x | cn | xn
deriving DecidableEq, Repr

/-- Scale is absent on -CN and -XN parts (R2). -/
def Part.hasScale : Part → Bool
  | .c => true | .x => true | .cn => false | .xn => false

/-- Life-cycle states (R398). -/
inductive LcState where
  | maker | integrator | fielded | returned | scrapped | lost
deriving DecidableEq, Repr

/-- The code that LCD_STATE.STATE reads (R398). -/
def LcState.code : LcState → Nat
  | .maker => 0 | .integrator => 1 | .fielded => 2 | .returned => 3 | .scrapped => 4 | .lost => 7

/-- The one-time-programmable array and the fuses. Words 0 to 2 hold the life cycle (R398); the places of the other
contents are not given by the spec, so they are named fields beside the words (log entry 4). -/
structure Otp where
  /-- the 512 words -/ words : Table Nat
  /-- the authority key digests of slots 0 to 2 (R401) -/ keys : Table Bytes
  /-- digest of the firmware root key (R392) -/ rootHash : Bytes
  /-- the rollback thermometer (R394) -/ thermometer : Nat
  /-- ordering code -/ part : Part
  /-- unit identifier -/ uid : Nat
  /-- reset map, three bits per source (R378); none: the map of the table in R378 -/ resetMap : Option Nat
  /-- stage gaps (R383), by stage -/ gaps : Table Nat
  /-- clusters allowed by the power cap (R475) -/ powerCap : Nat
deriving DecidableEq, Repr

/-- A blank array: MAKER, nothing programmed (log entry 4). -/
def Otp.blank : Otp := ⟨[], [], [], 0, .c, 0, none, [], 0⟩

/-- The pins that commands read or drive, as the unit sees them after its filters. -/
structure Pins where
  /-- PRESET_N -/ presetN : Bool
  /-- PGOOD -/ pgood : Bool
  /-- PFAIL_N -/ pfailN : Bool
  /-- PWR_HOLD -/ pwrHold : Bool
  /-- CLAIM_OUT -/ claimOut : Bool
  /-- PEER_CLAIM_IN -/ peerClaim : Bool
  /-- ACTIVE_N driven low by this unit -/ activeDrive : Bool
  /-- TAMPER_N -/ tamperN : Bool
  /-- RESET_OUT_N -/ resetOutN : Bool
  /-- PM_ALERT_N -/ pmAlertN : Bool
  /-- CSP_PRESENT -/ cspPresent : Bool
  /-- CSP_ATTN_N -/ cspAttnN : Bool
  /-- the last bytes that the SMBus target returned (R491) -/ smbus : Bytes
deriving DecidableEq, Repr

/-- The pins under an L1 reset, with good supplies, no partner and no terminal (R389; log entry 3). -/
def Pins.reset : Pins where
  presetN := true
  pgood := true
  pfailN := true
  pwrHold := true
  claimOut := false
  peerClaim := false
  activeDrive := false
  tamperN := true
  resetOutN := false
  pmAlertN := true
  cspPresent := false
  cspAttnN := true
  smbus := []

end Sys2Proof.Machine
end

