-- ==== Sys2Proof/Machine/State.lean ====
section
/-! DEFINITION. The state of the unit, as plain data, and the state right after reset. -/

namespace Sys2Proof.Machine

/-- The reasons for which the block stops with a fault. No command of the block raises one: the spec gives every
command an effect in every state. -/
inductive Fault where
  /-- Raised by nothing: kept so that the interface has a fault type. Safe. -/
  | never
deriving DecidableEq, Repr

/-- The reasons for which a command is refused. -/
inductive Refusal where
  /-- The command has no meaning in this model yet. Raised by its arm in Dispatch alone. Safe. -/
  | notModelled (mnemonic : String)
deriving DecidableEq, Repr

/-- The unit. -/
structure State where
  /-- commands that wait, first in first out -/ pending : List Instr
  /-- the model's own counter for free values (log entry 2) -/ free : Nat
  /-- supervisor register fields -/ regs : RegFile
  /-- the time base -/ time : TimeBase
  /-- the entropy block -/ ent : Entropy
  /-- committed regions of the memory protection units: 12 numbered ones, then core n at 12 + n; 32 each -/
  mpu : Table Region
  /-- the event recorder -/ evr : Recorder
  /-- the attestation signer -/ signer : Signer
  /-- OTP array and fuses -/ otp : Otp
  /-- pins -/ pins : Pins
  /-- rings, vectors and link ports -/ host : HostSide
  /-- the Proofer -/ prf : Proofer
  /-- Thaug cores, 0 to 191 -/ cores : Table Core
  /-- clusters' shared parts, 0 to 23 -/ clus : Table Cluster
  /-- programs -/ progs : Programs
  /-- checking and self-test -/ ras : Ras
  /-- routing, key and terminal tables -/ tab : Tables
  /-- keys, ceremonies, tenants and mailbox -/ keys : Keys
  /-- sealed store -/ store : Store
  /-- pair and Starter -/ pair : Pair
  /-- guard domain -/ guard : Guard
  /-- reset controller and boot -/ sys : Sys
  /-- life cycle and debug port -/ life : LifeDbg
  /-- Scale -/ scale : Scale
deriving DecidableEq, Repr

/-- The unit right after reset. -/
def State.reset : State where
  pending := []
  free := 0
  regs := []
  time := TimeBase.reset
  ent := Entropy.reset
  mpu := []
  evr := Recorder.reset
  signer := Signer.reset
  otp := Otp.blank
  pins := Pins.reset
  host := HostSide.reset
  prf := Proofer.reset
  cores := []
  clus := []
  progs := Programs.reset
  ras := Ras.reset
  tab := Tables.reset
  keys := Keys.reset
  store := Store.reset
  pair := Pair.reset
  guard := Guard.reset
  sys := Sys.reset
  life := LifeDbg.reset
  scale := Scale.reset

end Sys2Proof.Machine
end

