-- ==== Sys2Proof/Machine/Ops.lean ====
section
/-! DEFINITION. The named operations that every family shares: register fields, free values, device time and the
reporting of events. -/

namespace Sys2Proof.Machine

/-- The value of a register field. -/
def State.rd (s : State) (f : Field) : Nat := regGet s.regs f
/-- Whether a one-bit field is 1. -/
def State.bit (s : State) (f : Field) : Bool := regGet s.regs f == 1
/-- A register field set. -/
def State.wr (s : State) (f : Field) (v : Nat) : State := { s with regs := regSet s.regs f v }
/-- A wrapping count advanced. -/
def State.inc (s : State) (f : Field) : State := { s with regs := regInc s.regs f }
/-- A saturating count advanced. -/
def State.satInc (s : State) (f : Field) : State := { s with regs := regSatInc s.regs f }
/-- A wrapping count advanced by `n`. -/
def State.addTo (s : State) (f : Field) (n : Nat) : State := { s with regs := regMod s.regs f (· + n) }

/-- A fresh free value of 64 bits, and the state whose counter has moved on (log entry 2). -/
def State.fresh (s : State) : BitVec 64 × State := (Config.freeValue s.free, { s with free := s.free + 1 })
/-- A fresh free byte string of `n` bytes. -/
def State.freshBytes (s : State) (n : Nat) : Bytes × State :=
  (fitTo n (Config.freeBytes s.free n), { s with free := s.free + 1 })

/-- Device time as TIM_NOW reads (R286). -/
def State.now (s : State) : Nat := s.time.now
/-- The tick count of device time (R286). -/
def State.tick (s : State) : Nat := s.time.now / 2 ^ 24
/-- The declared period in nanoseconds (TIM_PERIOD). -/
def State.periodNs (s : State) : Nat := s.rd Reg.TIM_PERIOD_PERIOD_NS
/-- A number of milliseconds as a raw device-time interval at the declared period (R292). -/
def State.msRaw (s : State) (ms : Nat) : Nat := ms * 1000000 * 2 ^ 24 / s.periodNs
/-- A number of seconds as a raw device-time interval at the declared period (R292). -/
def State.secRaw (s : State) (sec : Nat) : Nat := s.msRaw (sec * 1000)
/-- A number of microseconds as a raw device-time interval at the declared period (R292). -/
def State.usRaw (s : State) (us : Nat) : Nat := us * 1000 * 2 ^ 24 / s.periodNs
/-- A raw device-time interval in microseconds at the declared period. -/
def State.rawUs (s : State) (raw : Nat) : Nat := raw * s.periodNs / 2 ^ 24 / 1000

/-- Source identifiers of R412 and R425. -/
def srcRecorder : Nat := 0x00CC
/-- The guard domain as a source (R425). -/
def srcGuard : Nat := 0x00CD
/-- The reset controller as a source (R425). -/
def srcReset : Nat := 0x00CE
/-- Supervisor S0 as a source: its first core's identifier (R412). -/
def srcS0 : Nat := 0x00C0
/-- Supervisor S1 as a source: its first core's identifier (R412). -/
def srcS1 : Nat := 0x00C2
/-- The link DMA engine of a port as a source (R412). -/
def srcPort (n : Nat) : Nat := 0x00C4 + n
/-- The sealed-store engine as a source (R412). -/
def srcStore : Nat := 0x00C8
/-- The Starter engine as a source (R412). -/
def srcStarter : Nat := 0x00C9
/-- Scale as a source (R412). -/
def srcScale : Nat := 0x00CA

/-- An event reported to the recorder: it waits to be entered (R427). -/
def State.emit (s : State) (ev : Ev) (tenant : Option Nat) (source a0 a1 a2 : Nat) : State :=
  { s with evr := { s.evr with inbox := s.evr.inbox ++
      [⟨ev, tenant, source, a0 % 2 ^ 32, a1 % 2 ^ 32, a2 % 2 ^ 32, s.time.cyc⟩] } }

/-- The bitwise majority of the three life-cycle copies (R398). -/
def lcMajority (o : Otp) : Nat :=
  let w (i : Nat) : BitVec 32 := BitVec.ofNat 32 (tabGet 0 o.words i)
  ((w 0 &&& w 1) ||| (w 0 &&& w 2) ||| (w 1 &&& w 2)).toNat

/-- The state that a majority word decodes to (R398). -/
def lcDecode (v : Nat) : LcState :=
  if v = 0 then .maker else if v = 0xFF then .integrator else if v = 0xFFFF then .fielded
  else if v = 0xFFFFFF then .returned else if v = 0xFFFFFFFF then .scrapped else .lost

/-- The life-cycle state (R398). -/
def State.lc (s : State) : LcState := lcDecode (lcMajority s.otp)

/-- A word as the majority state would be written (R398): the copies of a state that the unit holds. -/
def lcWord : LcState → Nat
  | .maker => 0 | .integrator => 0xFF | .fielded => 0xFFFF | .returned => 0xFFFFFF | .scrapped => 0xFFFFFFFF | .lost => 1

/-- Two values joined in one argument: the first in [31:16], the second in [15:0] (R501). -/
def joined (a b : Nat) : Nat := (a % 65536) * 65536 + b % 65536
/-- The high word of a value that spans two arguments (R501). -/
def hiWord (v : Nat) : Nat := v / 2 ^ 32
/-- The low word of a value that spans two arguments (R501). -/
def loWord (v : Nat) : Nat := v % 2 ^ 32

end Sys2Proof.Machine
end

