-- ==== Sys2Proof/Machine/EntropyOps.lean ====
section
/-! DEFINITION. CTR_DRBG with AES-256 (NIST SP 800-90A, named by R7), the instances of R299 and the health tests of
R297. -/

namespace Sys2Proof

/-- A chain of AES blocks over a message, from a zero value. -/
def bcc (key : Bytes) (blocks : List Bytes) : Bytes := blocks.foldl (fun c b => aesEnc key (xorB c b)) (zeros 16)

/-- The derivation function of SP 800-90A for 48 bytes. -/
def blockDf (input : Bytes) : Bytes :=
  let body := natToBe 4 input.length ++ natToBe 4 48 ++ input ++ [0x80#8]
  let st := body ++ zeros ((16 - body.length % 16) % 16)
  let k := (List.range 32).map (BitVec.ofNat 8)
  let t := (List.range 3).flatMap (fun i => bcc k (chunks 16 (natToBe 4 i ++ zeros 12 ++ st)))
  let k2 := t.take 32
  let x1 := aesEnc k2 (t.drop 32)
  let x2 := aesEnc k2 x1
  x1 ++ x2 ++ aesEnc k2 x2

/-- `n` counter blocks after V. -/
def ctrBlocks (key : Bytes) : Nat → Nat → Bytes
  | 0, _ => []
  | n + 1, v => aesEnc key (natToBe 16 ((v + 1) % 2 ^ 128)) ++ ctrBlocks key n ((v + 1) % 2 ^ 128)

/-- The update function: new key and V. -/
def drbgUpdate (key v data : Bytes) : Bytes × Bytes :=
  let t := xorB (ctrBlocks key 3 (beToNat v)) (fitTo 48 data)
  (t.take 32, t.drop 32)

/-- Key and V of a new instance from entropy, nonce and personalisation. -/
def drbgNew (entropy nonce pers : Bytes) : Bytes × Bytes := drbgUpdate (zeros 32) (zeros 16) (blockDf (entropy ++ nonce ++ pers))

/-- Output of `n` bytes and the next key and V. -/
def drbgGen (key v : Bytes) (n : Nat) : Bytes × Bytes × Bytes :=
  let k := (n + 15) / 16
  let out := (ctrBlocks key k (beToNat v)).take n
  let v2 := natToBe 16 ((beToNat v + k) % 2 ^ 128)
  (out, drbgUpdate key v2 (zeros 48))

namespace Machine

/-- The entropy block changed by a function. -/
def State.modEnt (s : State) (f : Entropy → Entropy) : State := { s with ent := f s.ent }

/-- A DRBG instance; 195 is absent on parts without Scale (R299). -/
def State.drbg (s : State) (i : Nat) : Drbg :=
  if i = 195 ∧ s.otp.part.hasScale = false then { Drbg.empty with st := .absent } else tabGet Drbg.empty s.ent.inst i

/-- A DRBG instance set. -/
def State.setDrbg (s : State) (i : Nat) (d : Drbg) : State :=
  s.modEnt (fun e => { e with inst := tabSet Drbg.empty e.inst i d })

/-- The order in which instances are instantiated and blocked ones reseeded (R300, R301). -/
def drbgOrder : List Nat := [192, 193, 194, 195] ++ List.range 192

/-- The reseed interval of device time: 60 s where the register reads 0 (ENT_RESEED_TIME). -/
def State.reseedTime (s : State) : Nat :=
  if s.rd Reg.ENT_RESEED_TIME_INTERVAL = 0 then s.secRaw 60 else s.rd Reg.ENT_RESEED_TIME_INTERVAL

/-- Whether an instance has reached its request or time limit (R300). -/
def State.drbgAtLimit (s : State) (d : Drbg) : Bool :=
  decide (s.rd Reg.ENT_RESEED_REQ_LIMIT ≤ d.reqs) || decide (d.lastTime + s.reseedTime ≤ s.now)

/-- Whether an instance has reached seven-eighths of a limit (R300). -/
def State.drbgNearLimit (s : State) (d : Drbg) : Bool :=
  decide (s.rd Reg.ENT_RESEED_REQ_LIMIT * 7 ≤ d.reqs * 8) || decide (s.reseedTime * 7 ≤ (s.now - d.lastTime) * 8)

/-- Number of instances in a state. -/
def State.drbgCount (s : State) (st : InstState) : Nat :=
  ((List.range 196).filter (fun i => decide ((s.drbg i).st = st))).length

/-- ENT_STAT.AVAIL (R301, R302). -/
def State.entAvail (s : State) : Bool := s.bit Reg.ENT_STAT_FIRST_SEED && !s.ent.starved

/-- A generate request of at most 64 bytes to an instance (R299): none while it is not instantiated, blocked or at a
limit. -/
def State.drbgDraw (s : State) (i n : Nat) : Option (Bytes × State) :=
  let d := s.drbg i
  if d.st = .ready ∧ s.drbgAtLimit d = false then
    let (out, k, v) := drbgGen d.key d.v n
    some (out, s.setDrbg i { d with key := k, v := v, reqs := d.reqs + 1, byReq := false })
  else none

/-- Requests until `n` bytes are drawn, 64 at a time. -/
def State.drbgDrawN (s : State) (i : Nat) : Nat → Option (Bytes × State)
  | 0 => some ([], s)
  | n + 1 =>
    match s.drbgDrawN i n with
    | none => none
    | some (a, s1) =>
      match s1.drbgDraw i 64 with
      | none => none
      | some (b, s2) => some (a ++ b, s2)

/-- `n` random bytes from an instance, in as many requests as they take. -/
def State.drbgBytes (s : State) (i n : Nat) : Option (Bytes × State) :=
  if n ≤ 64 then s.drbgDraw i n
  else (s.drbgDrawN i ((n + 63) / 64)).map (fun r => (r.1.take n, r.2))

/-- Leaving MAKER clears TESTPAT and its pattern, empties the pool and reinstantiates every instance (R303). -/
def State.leaveMaker (s : State) : State :=
  let s1 := ((s.wr Reg.ENT_CTL_TESTPAT 0).wr Reg.ENT_TESTPAT_PATTERN 0).modEnt (fun e => { e with
    pool := [], inst := [], starved := false })
  let s2 := if s.bit Reg.ENT_CTL_TESTPAT then s1.emit .entTestPattern none (Config.blockSource 3) 0 0 0 else s1
  if s.ent.starved then s2.emit .entRecovered none (Config.blockSource 3) s.ent.recovered 0 0 else s2

/-- The entropy block leaves reset: it runs its known-answer tests, whose outcome in the block at hand is a free value; one that fails sets
KAT_FAIL and is recorded (R296; log entry 62). -/
def State.entropyStart (s : State) : State :=
  let (v, s0) := s.fresh
  let s1 := s0.modEnt (fun e => { e with release := s.now })
  let failed (k : Nat) (s : State) : State :=
    if bitAt v.toNat (k - 1) then (s.wr Reg.ENT_STAT_KAT_FAIL 1).emit .entKatFailed none (Config.blockSource 3) k 0 0 else s
  failed 2 (failed 1 s1)

/-- STARVED set while an instance is blocked and the pool is empty (R302). -/
def State.starveCheck (s : State) : State :=
  let cond := decide (0 < s.drbgCount .blocked) && s.ent.pool.isEmpty
  if cond ∧ s.ent.starved = false then
    let fails (i : Nat) := s.rd (Reg.ENT_SRC_CNT_RCT_FAIL i) + s.rd (Reg.ENT_SRC_CNT_APT_FAIL i)
    (s.modEnt (fun e => { e with starved := true, recovered := 0 })).emit .entStarved none (Config.blockSource 3)
      (fails 0) (fails 1) (s.drbgCount .blocked)
  else s

/-- The bits of a window, bit 0 of each byte first. -/
def windowBits (w : Bytes) : List Bool := w.flatMap (fun b => (List.range 8).map (fun i => bitAt b.toNat i))

/-- The longest run of equal bits: the run in progress, its value and the longest so far. -/
def longestRun (l : List Bool) : Nat :=
  (l.foldl (fun (st : Nat × Option Bool × Nat) b =>
    let r := if st.2.1 = some b then st.1 + 1 else 1
    (r, some b, max r st.2.2)) (0, none, 0)).2.2

/-- A list of bits cut into parts of 1,024. -/
def parts1024 (l : List Bool) : List (List Bool) := (List.range 4).map (fun i => (l.drop (1024 * i)).take 1024)

/-- The repetition count test fails: a run of `cut` identical bits (R297). -/
def rctFails (cut : Nat) (l : List Bool) : Bool := decide (cut ≤ longestRun l)

/-- The adaptive proportion test fails: in a part, `cut` or more bits equal to its first bit (R297). -/
def aptFails (cut : Nat) (l : List Bool) : Bool :=
  (parts1024 l).any (fun p => decide (cut ≤ (p.filter (fun b => b == p.headD false)).length))

end Machine
end Sys2Proof
end

