-- ==== Sys2Proof/Machine/Sha2.lean ====
section
/-! DEFINITION. SHA-2, SHA-1 and HMAC (FIPS 180-4 and FIPS 198-1, named by R7). The standards' texts are outside the
spec: PRESUMED, log entry 6. The round constants are computed as the standard defines them: leading fraction bits of
the cube and square roots of the first primes. -/

namespace Sys2Proof

/-- The largest r with r ^ e ≤ n, found bit by bit from bit `k - 1` down. -/
def rootBits (e n : Nat) : Nat → Nat → Nat
  | 0, r => r
  | k + 1, r => rootBits e n k (if (r + 2 ^ k) ^ e ≤ n then r + 2 ^ k else r)

/-- The first eighty primes. -/
def shaPrimes : List Nat :=
  (List.range 410).filter (fun n => decide (2 ≤ n) && (List.range n).all (fun d => decide (d < 2) || n % d != 0))

/-- First 64 fraction bits of the cube root. -/
def shaK (p : Nat) : Nat := rootBits 3 (p * 2 ^ 192) 68 0 % 2 ^ 64
/-- First 64 fraction bits of the square root. -/
def shaH (p : Nat) : Nat := rootBits 2 (p * 2 ^ 128) 69 0 % 2 ^ 64

/-- The eighty constants of SHA-512. -/
def sha512K : List (BitVec 64) := (shaPrimes.take 80).map (fun p => BitVec.ofNat 64 (shaK p))
/-- The sixty-four constants of SHA-256: the high halves of the first of SHA-512's. -/
def sha256K : List (BitVec 32) := (shaPrimes.take 64).map (fun p => BitVec.ofNat 32 (shaK p / 2 ^ 32))
/-- Start values of SHA-512. -/
def sha512H : List (BitVec 64) := (shaPrimes.take 8).map (fun p => BitVec.ofNat 64 (shaH p))
/-- Start values of SHA-384. -/
def sha384H : List (BitVec 64) := ((shaPrimes.drop 8).take 8).map (fun p => BitVec.ofNat 64 (shaH p))
/-- Start values of SHA-256. -/
def sha256H : List (BitVec 32) := (shaPrimes.take 8).map (fun p => BitVec.ofNat 32 (shaH p / 2 ^ 32))

/-- The rotation and shift amounts of a SHA-2 function: big sigmas 0 and 1, small sigmas 0 and 1. -/
structure ShaRot where
  /-- amounts of the big sigma on a -/ S0 : Nat × Nat × Nat
  /-- amounts of the big sigma on e -/ S1 : Nat × Nat × Nat
  /-- amounts of the small sigma 0 -/ s0 : Nat × Nat × Nat
  /-- amounts of the small sigma 1 -/ s1 : Nat × Nat × Nat
deriving DecidableEq, Repr

/-- Amounts of SHA-256. -/
def rot256 : ShaRot := ⟨(2, 13, 22), (6, 11, 25), (7, 18, 3), (17, 19, 10)⟩
/-- Amounts of SHA-512. -/
def rot512 : ShaRot := ⟨(28, 34, 39), (14, 18, 41), (1, 8, 7), (19, 61, 6)⟩

/-- The message schedule extended by `n` words; the list holds the newest word first. -/
def shaSchedule {w : Nat} (r : ShaRot) : Nat → List (BitVec w) → List (BitVec w)
  | 0, l => l
  | n + 1, l =>
    let x1 := l.getD 1 0
    let x15 := l.getD 14 0
    let a := x1.rotateRight r.s1.1 ^^^ x1.rotateRight r.s1.2.1 ^^^ (x1 >>> r.s1.2.2)
    let b := x15.rotateRight r.s0.1 ^^^ x15.rotateRight r.s0.2.1 ^^^ (x15 >>> r.s0.2.2)
    shaSchedule r n ((a + l.getD 6 0 + b + l.getD 15 0) :: l)

/-- One round on the eight working words. -/
def shaRound {w : Nat} (r : ShaRot) (v : List (BitVec w)) (kw : BitVec w × BitVec w) : List (BitVec w) :=
  match v with
  | [a, b, c, d, e, f, g, h] =>
    let t1 := h + (e.rotateRight r.S1.1 ^^^ e.rotateRight r.S1.2.1 ^^^ e.rotateRight r.S1.2.2)
              + ((e &&& f) ^^^ (~~~ e &&& g)) + kw.1 + kw.2
    let t2 := (a.rotateRight r.S0.1 ^^^ a.rotateRight r.S0.2.1 ^^^ a.rotateRight r.S0.2.2)
              + ((a &&& b) ^^^ (a &&& c) ^^^ (b &&& c))
    [t1 + t2, a, b, c, d + t1, e, f, g]
  | _ => v

/-- One block into the hash value. -/
def shaBlock {w : Nat} (r : ShaRot) (ks : List (BitVec w)) (h : List (BitVec w)) (blk : Bytes) : List (BitVec w) :=
  let ws := (chunks (w / 8) blk).map (fun b => BitVec.ofNat w (beToNat b))
  let sched := (shaSchedule r (ks.length - 16) ws.reverse).reverse
  List.zipWith (· + ·) h ((List.zip ks sched).foldl (shaRound r) h)

/-- The padding of a message for blocks of `bs` bytes with a length field of `lf` bytes. -/
def shaPad (bs lf : Nat) (m : Bytes) : Bytes :=
  let z := (bs - (m.length + 1 + lf) % bs) % bs
  m ++ 0x80#8 :: zeros z ++ natToBe lf (m.length * 8)

/-- SHA-256. -/
def sha256 (m : Bytes) : Bytes :=
  ((chunks 64 (shaPad 64 8 m)).foldl (shaBlock rot256 sha256K) sha256H).flatMap (fun x => natToBe 4 x.toNat)
/-- SHA-512. -/
def sha512 (m : Bytes) : Bytes :=
  ((chunks 128 (shaPad 128 16 m)).foldl (shaBlock rot512 sha512K) sha512H).flatMap (fun x => natToBe 8 x.toNat)
/-- SHA-384. -/
def sha384 (m : Bytes) : Bytes :=
  (((chunks 128 (shaPad 128 16 m)).foldl (shaBlock rot512 sha512K) sha384H).flatMap (fun x => natToBe 8 x.toNat)).take 48

/-- SHA-1's schedule extended by `n` words, newest first. -/
def sha1Schedule : Nat → List (BitVec 32) → List (BitVec 32)
  | 0, l => l
  | n + 1, l => sha1Schedule n ((l.getD 2 0 ^^^ l.getD 7 0 ^^^ l.getD 13 0 ^^^ l.getD 15 0).rotateLeft 1 :: l)

/-- One round of SHA-1. -/
def sha1Round (v : List (BitVec 32)) (iw : Nat × BitVec 32) : List (BitVec 32) :=
  match v with
  | [a, b, c, d, e] =>
    let (f, k) : BitVec 32 × BitVec 32 :=
      if iw.1 < 20 then ((b &&& c) ||| (~~~ b &&& d), 0x5A827999)
      else if iw.1 < 40 then (b ^^^ c ^^^ d, 0x6ED9EBA1)
      else if iw.1 < 60 then ((b &&& c) ||| (b &&& d) ||| (c &&& d), 0x8F1BBCDC)
      else (b ^^^ c ^^^ d, 0xCA62C1D6)
    [a.rotateLeft 5 + f + e + k + iw.2, a, b.rotateLeft 30, c, d]
  | _ => v

/-- One block of SHA-1. -/
def sha1Block (h : List (BitVec 32)) (blk : Bytes) : List (BitVec 32) :=
  let ws := (chunks 4 blk).map (fun b => BitVec.ofNat 32 (beToNat b))
  let sched := (sha1Schedule 64 ws.reverse).reverse
  List.zipWith (· + ·) h ((List.zip (List.range 80) sched).foldl sha1Round h)

/-- SHA-1. -/
def sha1 (m : Bytes) : Bytes :=
  ((chunks 64 (shaPad 64 8 m)).foldl sha1Block [0x67452301, 0xEFCDAB89, 0x98BADCFE, 0x10325476, 0xC3D2E1F0]).flatMap
    (fun x => natToBe 4 x.toNat)

/-- The hash functions that HMAC and the signature schemes name. -/
inductive HashAlg where
  | sha1 | sha256 | sha384 | sha512
deriving DecidableEq, Repr

/-- Block size in bytes. -/
def HashAlg.block : HashAlg → Nat
  | .sha1 => 64 | .sha256 => 64 | .sha384 => 128 | .sha512 => 128
/-- Digest size in bytes. -/
def HashAlg.size : HashAlg → Nat
  | .sha1 => 20 | .sha256 => 32 | .sha384 => 48 | .sha512 => 64
/-- The digest of a message. -/
def HashAlg.run : HashAlg → Bytes → Bytes
  | .sha1, m => Sys2Proof.sha1 m
  | .sha256, m => Sys2Proof.sha256 m
  | .sha384, m => Sys2Proof.sha384 m
  | .sha512, m => Sys2Proof.sha512 m

/-- HMAC. -/
def hmac (h : HashAlg) (key m : Bytes) : Bytes :=
  let k := fitTo h.block (if key.length > h.block then h.run key else key)
  let ipad := k.map (· ^^^ 0x36#8)
  let opad := k.map (· ^^^ 0x5C#8)
  h.run (opad ++ h.run (ipad ++ m))

end Sys2Proof
end

