-- ==== Sys2Proof/Machine/Modes.lean ====
section
/-! DEFINITION. The block cipher modes of chapter 6 as functions on byte strings. The standards that the spec names give
their text (PRESUMED, log entry 6). -/

namespace Sys2Proof.Machine

/-- The block size of a key ALG: 8 for TDES, 16 for AES (R147). -/
def algBlock (alg : Nat) : Nat := if alg ≤ 2 then 8 else 16
/-- Encipherment of one block under a key ALG of R119. -/
def blkEnc (alg : Nat) (key b : Bytes) : Bytes := if alg ≤ 2 then tdesEnc key b else aesEnc key b
/-- Decipherment of one block. -/
def blkDec (alg : Nat) (key b : Bytes) : Bytes := if alg ≤ 2 then tdesDec key b else aesDec key b

/-- ECB over whole blocks. -/
def ecb (f : Bytes → Bytes) (n : Nat) (m : Bytes) : Bytes := (chunks n m).flatMap f

/-- CBC encipherment over whole blocks: the output and the last ciphertext block. -/
def cbcEnc (f : Bytes → Bytes) (n : Nat) (iv m : Bytes) : Bytes × Bytes :=
  (chunks n m).foldl (fun (a : Bytes × Bytes) b =>
    let c := f (xorB b a.2)
    (a.1 ++ c, c)) ([], iv)

/-- CBC decipherment over whole blocks: the output and the last ciphertext block. -/
def cbcDec (f : Bytes → Bytes) (n : Nat) (iv m : Bytes) : Bytes × Bytes :=
  (chunks n m).foldl (fun (a : Bytes × Bytes) b => (a.1 ++ xorB (f b) a.2, b)) ([], iv)

/-- A counter block with its rightmost `w` bytes advanced by one, big-endian, modulo their size (R154). -/
def ctrNext (w : Nat) (b : Bytes) : Bytes :=
  b.take (b.length - w) ++ natToBe w ((beToNat (b.drop (b.length - w)) + 1) % 256 ^ w)

/-- The kinds of stream mode of R147. -/
inductive StreamKind where
  | cfbEnc | cfbDec | ofb
  /-- counter of the given number of bytes -/
  | ctr (w : Nat)
deriving DecidableEq, Repr

/-- The feedback register or counter block after a whole block: its keystream and its ciphertext (R152). -/
def StreamKind.next (k : StreamKind) (chain ks ct : Bytes) : Bytes :=
  match k with
  | .cfbEnc => ct
  | .cfbDec => ct
  | .ofb => ks
  | .ctr w => ctrNext w chain

/-- A stream mode over a byte string: output, chaining value and held bytes (the ciphertext of the block in
progress). At most `fuel` blocks are touched. -/
def streamRun (k : StreamKind) (f : Bytes → Bytes) (n : Nat) : Nat → Bytes → Bytes → Bytes → Bytes × Bytes × Bytes
  | 0, chain, held, _ => ([], chain, held)
  | fuel + 1, chain, held, m =>
    match m with
    | [] => ([], chain, held)
    | _ :: _ =>
      let take := m.take (n - held.length)
      let ks := f chain
      let out := xorB take (ks.drop held.length)
      let ct := held ++ (match k with | .cfbDec => take | _ => out)
      if ct.length < n then (out, chain, ct)
      else
        let r := streamRun k f n fuel (k.next chain ks ct) [] (m.drop take.length)
        (out ++ r.1, r.2)

/-- A stream mode over a byte string. -/
def stream (k : StreamKind) (f : Bytes → Bytes) (n : Nat) (chain held m : Bytes) : Bytes × Bytes × Bytes :=
  streamRun k f n (m.length + 1) chain held m

/-- A block doubled in GF(2^128) or GF(2^64), as CMAC derives its subkeys. -/
def gfDouble (b : Bytes) : Bytes :=
  let n := b.length
  let v := beToNat b * 2
  let r := if n = 16 then 0x87 else 0x1B
  natToBe n (if 256 ^ n ≤ v then (v % 256 ^ n) ^^^ r else v)

/-- CMAC of a message (NIST SP 800-38B). -/
def cmac (f : Bytes → Bytes) (n : Nat) (m : Bytes) : Bytes :=
  let k1 := gfDouble (f (zeros n))
  let k := if m.length = 0 then 0 else (m.length - 1) / n * n
  let last := m.drop k
  let fin := if last.length = n then xorB last k1 else xorB (fitTo n (last ++ [0x80#8])) (gfDouble k1)
  f (xorB fin (cbcEnc f n (zeros n) (m.take k)).2)

/-- AES-CMAC under a key. -/
def aesCmac (key m : Bytes) : Bytes := cmac (aesEnc key) 16 m

/-- A product in the field of GHASH, on numbers whose most significant bit is the first bit. -/
def ghashMulN : Nat → Nat → Nat → Nat → Nat
  | 0, _, _, z => z
  | i + 1, x, v, z =>
    ghashMulN i x (if v % 2 = 1 then (v / 2) ^^^ (0xE1 * 2 ^ 120) else v / 2) (if bitAt x i then z ^^^ v else z)

/-- A product in the field of GHASH. -/
def ghashMul (x y : Nat) : Nat := ghashMulN 128 x y 0

/-- GHASH over a byte string, its last block filled with zeros. -/
def ghash (h y : Nat) (m : Bytes) : Nat :=
  (chunks 16 m).foldl (fun y b => ghashMul (y ^^^ beToNat (fitTo 16 b)) h) y

/-- The GCM tag over associated data and ciphertext, for a 12-byte IV (NIST SP 800-38D). -/
def gcmTag (key iv ad ct : Bytes) : Bytes :=
  let h := beToNat (aesEnc key (zeros 16))
  let y := ghash h (ghash h 0 ad) ct
  let s := ghashMul (y ^^^ beToNat (natToBe 8 (ad.length * 8) ++ natToBe 8 (ct.length * 8))) h
  xorB (natToBe 16 s) (aesEnc key (iv ++ natToBe 4 1))

/-- The first data counter block of GCM: counter value 2 (R154). -/
def gcmFirst (iv : Bytes) : Bytes := iv ++ natToBe 4 2

/-- GCM encipherment of a whole message: ciphertext and 16-byte tag. -/
def gcmSeal (key iv ad pt : Bytes) : Bytes × Bytes :=
  let ct := (stream (.ctr 4) (aesEnc key) 16 (gcmFirst iv) [] pt).1
  (ct, gcmTag key iv ad ct)

/-- GCM decipherment of a whole message: the plaintext where the tag verifies. -/
def gcmOpen (key iv ad ct tag : Bytes) : Option Bytes :=
  if gcmTag key iv ad ct = tag then some (stream (.ctr 4) (aesEnc key) 16 (gcmFirst iv) [] ct).1 else none

/-- The counter block A_i of CCM for a nonce (NIST SP 800-38C). -/
def ccmCtr (nonce : Bytes) (i : Nat) : Bytes :=
  let q := 15 - nonce.length
  [BitVec.ofNat 8 (q - 1)] ++ nonce ++ natToBe q i

/-- The first block B_0 and the encoded length of the associated data (NIST SP 800-38C). -/
def ccmHead (nonce : Bytes) (adLen ptLen tlen : Nat) : Bytes :=
  let q := 15 - nonce.length
  let flags := (if 0 < adLen then 64 else 0) + (tlen - 2) / 2 * 8 + (q - 1)
  let alen := if adLen = 0 then [] else if adLen < 0xFF00 then natToBe 2 adLen else [0xFF#8, 0xFE#8] ++ natToBe 4 adLen
  let plen := if ptLen < 256 ^ q then natToBe q ptLen else fitTo q (Config.ccmLength ptLen q)
  [BitVec.ofNat 8 flags] ++ nonce ++ plen ++ alen

/-- A byte string filled with zeros to whole blocks of 16. -/
def pad16 (m : Bytes) : Bytes := fitTo ((m.length + 15) / 16 * 16) m

/-- The CCM tag over associated data and payload. -/
def ccmTag (key nonce ad pt : Bytes) (tlen : Nat) : Bytes :=
  let b := pad16 (ccmHead nonce ad.length pt.length tlen ++ ad) ++ pad16 pt
  (xorB (cbcEnc (aesEnc key) 16 (zeros 16) b).2 (aesEnc key (ccmCtr nonce 0))).take tlen

/-- A 16-byte XTS tweak multiplied by alpha, as IEEE 1619 orders its bytes. -/
def xtsDouble (t : Bytes) : Bytes :=
  let v := leToNat t * 2
  natToLe 16 (if 2 ^ 128 ≤ v then (v % 2 ^ 128) ^^^ 0x87 else v)

/-- The tweak of block `j`. -/
def xtsTweak (t : Bytes) : Nat → Bytes
  | 0 => t
  | j + 1 => xtsDouble (xtsTweak t j)

/-- Whole blocks of XTS, with the tweak after them. -/
def xtsBlocks (f : Bytes → Bytes) (t : Bytes) (m : Bytes) : Bytes × Bytes :=
  (chunks 16 m).foldl (fun (a : Bytes × Bytes) b => (a.1 ++ xorB (f (xorB b a.2)) a.2, xtsDouble a.2)) ([], t)

/-- XTS-AES-128 over a data unit of at least 16 bytes, with ciphertext stealing (IEEE 1619; R147, R152). -/
def xts (dec : Bool) (key tweak m : Bytes) : Bytes :=
  let k1 := key.take 16
  let f := if dec then aesDec k1 else aesEnc k1
  let t := aesEnc (key.drop 16) tweak
  let r := m.length % 16
  if r = 0 then (xtsBlocks f t m).1
  else
    let whole := (m.length / 16 - 1) * 16
    let a := xtsBlocks f t (m.take whole)
    let b := slice m whole 16
    let tail := m.drop (whole + 16)
    let t0 := a.2
    let t1 := xtsDouble a.2
    let ta := if dec then t1 else t0
    let tb := if dec then t0 else t1
    let cc := xorB (f (xorB b ta)) ta
    let pp := xorB (f (xorB (tail ++ cc.drop r) tb)) tb
    a.1 ++ pp ++ cc.take r

/-- A number of numerals in a radix, most significant first. -/
def numRadix (radix : Nat) (l : List Nat) : Nat := l.foldl (fun a d => a * radix + d) 0

/-- Bits that a number needs. -/
def bitLen (n : Nat) : Nat := if n = 0 then 0 else Nat.log2 n + 1

/-- The round function value y of FF1 (NIST SP 800-38G). -/
def ff1Round (f : Bytes → Bytes) (radix u n : Nat) (tweak : Bytes) (i : Nat) (bNum v : Nat) : Nat :=
  let t := tweak.length
  let b := (bitLen (radix ^ v - 1) + 7) / 8
  let d := 4 * ((b + 3) / 4) + 4
  let p := [1#8, 2#8, 1#8] ++ natToBe 3 radix ++ [10#8, BitVec.ofNat 8 (u % 256)] ++ natToBe 4 n ++ natToBe 4 t
  let q := tweak ++ zeros ((16 * (t + b + 1) - t - b - 1) % 16) ++ [BitVec.ofNat 8 i] ++ natToBe b bNum
  let r := (cbcEnc f 16 (zeros 16) (p ++ q)).2
  let s := r ++ ((List.range ((d + 15) / 16 - 1)).flatMap (fun j => f (xorB r (natToBe 16 (j + 1)))))
  beToNat (s.take d)

/-- FF1 over numerals: the Feistel rounds of the list, on the two halves as numbers. -/
def ff1Rounds (f : Bytes → Bytes) (radix u v n : Nat) (tweak : Bytes) (dec : Bool) : List Nat → Nat × Nat → Nat × Nat
  | [], h => h
  | i :: r, (a, b) =>
    let m := if i % 2 = 0 then u else v
    if dec then
      let y := ff1Round f radix u n tweak i a v
      let c := (b + radix ^ m - y % radix ^ m) % radix ^ m
      ff1Rounds f radix u v n tweak dec r (c, a)
    else
      let y := ff1Round f radix u n tweak i b v
      let c := (a + y) % radix ^ m
      ff1Rounds f radix u v n tweak dec r (b, c)

/-- FF1 over a list of numerals, each reduced modulo the radix first (R156). -/
def ff1 (dec : Bool) (key : Bytes) (radix : Nat) (tweak : Bytes) (x : List Nat) : List Nat :=
  let n := x.length
  let u := n / 2
  let v := n - u
  let x := x.map (· % radix)
  let rounds := if dec then (List.range 10).reverse else List.range 10
  let h := ff1Rounds (aesEnc key) radix u v n tweak dec rounds (numRadix radix (x.take u), numRadix radix (x.drop u))
  digitsOf radix u h.1 ++ digitsOf radix v h.2

/-- ISO 9797-1 padding of method 1 or 2, and PKCS#7 (R153). -/
def padBytes (pad b len : Nat) : Bytes :=
  match pad with
  | 1 => if len = 0 then zeros b else zeros ((b - len % b) % b)
  | 2 => [0x80#8] ++ zeros ((b - (len + 1) % b) % b)
  | 3 => List.replicate (b - len % b) (BitVec.ofNat 8 (b - len % b))
  | _ => []

/-- ISO 9797-1 MAC algorithm 1: CBC-MAC of a padded message. -/
def mac1 (f : Bytes → Bytes) (m : Bytes) : Bytes := (cbcEnc f 8 (zeros 8) m).2

/-- ISO 9797-1 MAC algorithm 3: single DES under the left half, then the output transformation. -/
def mac3 (key m : Bytes) : Bytes :=
  let k1 := key.take 8
  desEnc k1 (desDec (slice key 8 8) (cbcEnc (desEnc k1) 8 (zeros 8) m).2)

end Sys2Proof.Machine
end

