-- ==== Sys2Proof/Machine/Card.lean ====
section
/-! DEFINITION. The payment methods of chapter 5 as functions on byte strings: key check values, X9.143 key blocks, DUKPT,
EMV derivations, PIN blocks, PIN and card verification values. The standards that the spec names give their text
(PRESUMED, log entry 6). -/

namespace Sys2Proof.Machine

/-- The check value of a key by its ALG (R129). -/
def keyCheck (alg : Nat) (key : Bytes) : Bytes :=
  if alg ≤ 2 then (tdesEnc key (zeros 8)).take 3
  else if alg ≤ 5 then (aesCmac key (zeros 16)).take 5
  else (hmac .sha256 key (zeros 32)).take 5

/-- The key length that an ALG needs, in bytes; HMAC keys have no fixed one (R119). -/
def algLen (alg : Nat) : Nat :=
  match alg with | 1 => 16 | 2 => 24 | 3 => 16 | 4 => 24 | 5 => 32 | _ => 0

/-- The strength rank of an ALG, for the export rule of R130. -/
def algStrength (alg : Nat) : Nat :=
  match alg with | 1 => 80 | 2 => 112 | 3 => 128 | 4 => 192 | 5 => 256 | _ => 0

/-- The algorithm letter of an X9.143 header for an ALG. -/
def algLetter (alg : Nat) : Nat := if alg ≤ 2 then 0x54 else if alg ≤ 5 then 0x41 else 0x48

/-- The ALG of a key by its X9.143 algorithm letter and its length in bytes (R130 outcome 3). -/
def letterAlg (letter len : Nat) : Option Nat :=
  if letter = 0x54 then (if len = 16 then some 1 else if len = 24 then some 2 else none)
  else if letter = 0x41 then
    (if len = 16 then some 3 else if len = 24 then some 4 else if len = 32 then some 5 else none)
  else if letter = 0x48 then (if 1 ≤ len ∧ len ≤ 32 then some 6 else none)
  else none

/-- A key derived from a key block protection key by CMAC in counter mode: usage 0 encryption, 1 authentication
(ANSI X9.143, ISO 20038). -/
def kbDerive (alg : Nat) (kbpk : Bytes) (use : Nat) : Bytes :=
  let n := algBlock alg
  let code := match alg with | 1 => 0 | 2 => 1 | 3 => 2 | 4 => 3 | _ => 4
  let len := kbpk.length
  let part (i : Nat) := cmac (blkEnc alg kbpk) n ([BitVec.ofNat 8 i] ++ natToBe 2 use ++ [0#8] ++ natToBe 2 code ++ natToBe 2 (len * 8))
  ((List.range ((len + n - 1) / n)).flatMap (fun i => part (i + 1))).take len

/-- The version letter for an ALG of the protection key: 'B' for TDES, 'D' for AES (R130). -/
def kbVersion (alg : Nat) : Nat := if alg ≤ 2 then 0x42 else 0x44

/-- What a key block holds: algorithm letter, header fields and key. -/
structure KbKey where
  /-- algorithm letter -/ letter : Nat
  /-- usage, first character in the low byte -/ usage : Nat
  /-- mode of use -/ mode : Nat
  /-- key version, first character in the low byte -/ kver : Nat
  /-- exportability -/ exportCh : Nat
  /-- the key -/ key : Bytes
deriving DecidableEq, Repr

/-- The end of the optional blocks of a key block, or none on a malformed one: block identifier, two hexadecimal digits of
length, or 00, two digits that count the bytes of an extended length, and that length in hexadecimal (ANSI X9.143). -/
def kbOptEnd (b : Bytes) : Nat → Nat → Option Nat
  | 0, off => some off
  | n + 1, off =>
    match unhex (slice b (off + 2) 2) with
    | some [l] =>
      if l.toNat = 0 then
        match unhex (slice b (off + 4) 2) with
        | some [ll] =>
          if (slice b (off + 6) (2 * ll.toNat)).length ≠ 2 * ll.toNat then none
          else
            match (unhex (slice b (off + 6) (2 * ll.toNat))).map beToNat with
            | some v => if v < 6 + 2 * ll.toNat ∨ b.length < off + v then none else kbOptEnd b n (off + v)
            | none => none
        | _ => none
      else if l.toNat < 4 ∨ b.length < off + l.toNat then none else kbOptEnd b n (off + l.toNat)
    | _ => none

/-- Whether a character is a printable ASCII character. -/
def printable (n : Nat) : Bool := decide (0x20 ≤ n) && decide (n ≤ 0x7E)

/-- The modes of use of ANSI X9.143. -/
def kbModes : List Nat := ['B', 'C', 'D', 'E', 'G', 'N', 'S', 'T', 'V', 'X', 'Y'].map Char.toNat
/-- Its exportabilities. -/
def kbExports : List Nat := ['E', 'N', 'S'].map Char.toNat

/-- A key block taken apart under a protection key: outcome 1 or 2, or its contents (R130). -/
def kbUnwrap (alg : Nat) (kbpk b : Bytes) : Nat ⊕ KbKey :=
  let n := algBlock alg
  if byteAt b 0 ≠ kbVersion alg ∨ b.length < 16 + 2 * n + 2 * n then .inl 2
  else if decVal (slice b 1 4) ≠ some b.length ∨ (b.take 16).any (fun c => !printable c.toNat) ∨ kbModes.contains (byteAt b 8) = false
      ∨ kbExports.contains (byteAt b 11) = false then .inl 2
  else
    match decVal (slice b 12 2) with
    | none => .inl 2
    | some opts =>
      match kbOptEnd b opts 16 with
      | none => .inl 2
      | some e =>
        if b.length < e + 4 * n then .inl 2
        else
          match unhex (slice b e (b.length - e - 2 * n)), unhex (b.drop (b.length - 2 * n)) with
          | some ct, some mac =>
            if ct.length % n ≠ 0 then .inl 2
            else
              let pt := (cbcDec (blkDec alg (kbDerive alg kbpk 0)) n mac ct).1
              if cmac (blkEnc alg (kbDerive alg kbpk 1)) n (b.take e ++ pt) ≠ mac then .inl 1
              else
                let bits := beToNat (pt.take 2)
                if bits % 8 ≠ 0 ∨ pt.length < 2 + bits / 8 then .inl 2
                else .inr ⟨byteAt b 7, byteAt b 5 + 256 * byteAt b 6, byteAt b 8, byteAt b 9 + 256 * byteAt b 10, byteAt b 11,
                           slice pt 2 (bits / 8)⟩
          | _, _ => .inl 2

/-- Bytes of random padding that a key block needs. -/
def kbPadLen (alg : Nat) (keyLen : Nat) : Nat := (algBlock alg - (2 + keyLen) % algBlock alg) % algBlock alg

/-- The length of the key block of a key. -/
def kbLen (alg keyLen : Nat) : Nat := 16 + 2 * (2 + keyLen + kbPadLen alg keyLen) + 2 * algBlock alg

/-- The key block of a key under a protection key, with its random padding and no optional block (R130). -/
def kbWrap (alg : Nat) (kbpk : Bytes) (k : KbKey) (pad : Bytes) : Bytes :=
  let n := algBlock alg
  let dec (w v : Nat) : Bytes := (digitsOf 10 w v).map (fun d => BitVec.ofNat 8 (0x30 + d))
  let hdr : Bytes := [BitVec.ofNat 8 (kbVersion alg)] ++ dec 4 (kbLen alg k.key.length) ++ natToLe 2 k.usage
    ++ [BitVec.ofNat 8 k.letter, BitVec.ofNat 8 k.mode] ++ natToLe 2 k.kver ++ [BitVec.ofNat 8 k.exportCh] ++ ascii "0000"
  let pt := natToBe 2 (k.key.length * 8) ++ k.key ++ pad
  let mac := cmac (blkEnc alg (kbDerive alg kbpk 1)) n (hdr ++ pt)
  hdr ++ hexAscii (cbcEnc (blkEnc alg (kbDerive alg kbpk 0)) n mac pt).1 ++ hexAscii mac

/-- The number of one bits of a number below 2^32. -/
def popCount (n : Nat) : Nat := ((List.range 32).filter (fun i => bitAt n i)).length

/-- The constant that separates the halves' keys in TDES DUKPT. -/
def dukptC0 : Bytes := [0xC0#8, 0xC0#8, 0xC0#8, 0xC0#8, 0#8, 0#8, 0#8, 0#8, 0xC0#8, 0xC0#8, 0xC0#8, 0xC0#8, 0#8, 0#8, 0#8, 0#8]

/-- The transaction counter of a TDES KSN: its low 21 bits. -/
def dukptCounter (ksn : Bytes) : Nat := beToNat ksn % 2 ^ 21
/-- A KSN with its counter cleared. -/
def dukptBase (ksn : Bytes) : Bytes := natToBe 10 (beToNat ksn / 2 ^ 21 * 2 ^ 21)

/-- The initial key of TDES DUKPT (ANSI X9.24-1). -/
def dukptIk (bdk ksn : Bytes) : Bytes :=
  let d := (dukptBase ksn).take 8
  tdesEnc bdk d ++ tdesEnc (xorB bdk dukptC0) d

/-- The non-reversible key generation step of TDES DUKPT. -/
def dukptStep (key reg : Bytes) : Bytes :=
  let half (k : Bytes) : Bytes := xorB (desEnc (k.take 8) (xorB reg (k.drop 8))) (k.drop 8)
  half (xorB key dukptC0) ++ half key

/-- The transaction key of TDES DUKPT from an initial key (ANSI X9.24-1). -/
def dukptKey (ik ksn : Bytes) : Bytes :=
  let base := beToNat ((dukptBase ksn).drop 2)
  ((List.range 21).foldl (fun (a : Bytes × Nat) j =>
    let i := 20 - j
    if bitAt (dukptCounter ksn) i then (dukptStep a.1 (natToBe 8 (a.2 + 2 ^ i)), a.2 + 2 ^ i) else a) (ik, base)).1

/-- The working key of a variant of R131: 0 PIN, 1 and 2 MAC, 3 and 4 data, the last two enciphered under themselves. -/
def dukptWork (ik ksn : Bytes) (variant : Nat) : Bytes :=
  let pos := match variant with | 0 => 7 | 1 => 6 | 2 => 4 | 3 => 5 | _ => 3
  let half : Bytes := (zeros 8).set pos 0xFF#8
  let v := xorB (dukptKey ik ksn) (half ++ half)
  if variant ≤ 2 then v else tdesEnc v (v.take 8) ++ tdesEnc v (v.drop 8)

/-- The algorithm indicator of ANSI X9.24-3 for an ALG. -/
def aesDukptAlg (alg : Nat) : Nat := alg - 1

/-- One derivation of AES DUKPT: usage and algorithm indicators, and the last 8 bytes of the derivation data. -/
def aesDukptDerive (key : Bytes) (usage ind : Nat) (tail : Bytes) : Bytes :=
  let len := match ind with | 0 => 16 | 1 => 24 | 2 => 16 | 3 => 24 | _ => 32
  let part (i : Nat) := aesEnc key ([1#8, BitVec.ofNat 8 i] ++ natToBe 2 usage ++ natToBe 2 ind ++ natToBe 2 (len * 8) ++ tail)
  ((List.range ((len + 15) / 16)).flatMap (fun i => part (i + 1))).take len

/-- The initial key of AES DUKPT (ANSI X9.24-3). -/
def aesDukptIk (alg : Nat) (bdk ksn : Bytes) : Bytes := aesDukptDerive bdk 0x8001 (aesDukptAlg alg) (ksn.take 8)

/-- The working key of AES DUKPT from an initial key (ANSI X9.24-3). -/
def aesDukptWork (alg : Nat) (ik ksn : Bytes) (usage ind : Nat) : Bytes :=
  let ctr := beToNat (ksn.drop 8)
  let k := ((List.range 32).foldl (fun (a : Bytes × Nat) j =>
    let i := 31 - j
    if bitAt ctr i then
      (aesDukptDerive a.1 0x8000 (aesDukptAlg alg) (slice ksn 4 4 ++ natToBe 4 (a.2 + 2 ^ i)), a.2 + 2 ^ i)
    else a) (ik, 0)).1
  aesDukptDerive k usage ind (slice ksn 4 4 ++ natToBe 4 ctr)

/-- A byte with odd parity, by its lowest bit. -/
def oddParity (b : Byte) : Byte :=
  let n := b.toNat / 2 * 2
  BitVec.ofNat 8 (if popCount n % 2 = 0 then n + 1 else n)

/-- The digits of a PAN operand, or none where it breaks R141. -/
def panDigits (op : Bytes) : Option (List Nat) :=
  let n := byteAt op 0
  let ds := nibbles (slice op 1 10)
  if 12 ≤ n ∧ n ≤ 19 ∧ op.length = 11 ∧ (ds.take n).all (fun d => decide (d ≤ 9)) ∧ (ds.drop n).all (· == 15) then
    some (ds.take n)
  else none

/-- The 8-byte value Y of EMV option A: the rightmost 16 digits of PAN and sequence number. -/
def emvY (pan : List Nat) (psn : Nat) : Bytes :=
  let l := pan ++ [psn / 16, psn % 16]
  packNibbles ((List.replicate (16 - l.length) 0 ++ l).drop ((List.replicate (16 - l.length) 0 ++ l).length - 16))

/-- The card key of EMV-ICC (R131). -/
def emvIcc (alg : Nat) (key : Bytes) (y : Bytes) : Bytes :=
  if alg ≤ 2 then (tdesEnc key y ++ tdesEnc key (y.map (fun b => b ^^^ 0xFF#8))).map oddParity
  else
    let b := y ++ zeros 8
    (aesEnc key b ++ aesEnc key (b.map (fun b => b ^^^ 0xFF#8))).take (algLen alg)

/-- The common session key of EMV-SESSION from an application transaction counter (R131). -/
def emvSession (alg : Nat) (key atc : Bytes) : Bytes :=
  let n := algBlock alg
  let r (x : Nat) : Bytes := fitTo n (atc ++ [BitVec.ofNat 8 x])
  if alg = 3 then aesEnc key (r 0)
  else (blkEnc alg key (r 0xF0) ++ blkEnc alg key (r 0x0F)).take (algLen alg)

/-- The 12 rightmost digits of a PAN other than the check digit, as the PAN field of formats 0 and 3;
zeros stand on the left. -/
def panField0 (pan : List Nat) : List Nat :=
  let l := (pan.dropLast).drop (pan.length - 13)
  List.replicate (16 - l.length) 0 ++ l

/-- The PAN field of format 4: length less 12, the digits, zeros. -/
def panField4 (pan : List Nat) : List Nat :=
  let l := (pan.length - 12) :: pan
  l ++ List.replicate (32 - l.length) 0

/-- The PIN field of a format, whose fill is given as nibbles (R142). -/
def pinField (fmt : Nat) (pin fill : List Nat) : List Nat :=
  let l := fmt :: pin.length :: pin
  l ++ (match fmt with
    | 0 => List.replicate (16 - l.length) 15
    | 1 => (fill.take (16 - l.length))
    | 2 => List.replicate (16 - l.length) 15
    | 3 => (fill.take (16 - l.length)).map (fun d => 10 + d % 6)
    | _ => List.replicate (16 - l.length) 10 ++ (fill.drop 16).take 16)

/-- Bytewise exclusive or of two nibble lists. -/
def xorN (a b : List Nat) : List Nat := List.zipWith (· ^^^ ·) a b

/-- A PIN block of a format, enciphered (R142): `pan` holds the digits where the format needs them. -/
def pinEncode (fmt alg : Nat) (key : Bytes) (pin pan fill : List Nat) : Bytes :=
  let f := pinField fmt pin fill
  match fmt with
  | 0 => blkEnc alg key (packNibbles (xorN f (panField0 pan)))
  | 3 => blkEnc alg key (packNibbles (xorN f (panField0 pan)))
  | 4 => aesEnc key (xorB (aesEnc key (packNibbles f)) (packNibbles (panField4 pan)))
  | _ => blkEnc alg key (packNibbles f)

/-- The PIN in a clear PIN field, or none on any structural fault (R142). -/
def pinOfField (fmt : Nat) (f : List Nat) : Option (List Nat) :=
  let n := f.getD 1 0
  let pin := (f.drop 2).take n
  let rest := (f.take 16).drop (2 + n)
  let fillOk : Bool := match fmt with
    | 0 => rest.all (· == 15)
    | 1 => true
    | 2 => rest.all (· == 15)
    | 3 => rest.all (fun d => decide (10 ≤ d))
    | _ => rest.all (· == 10)
  if f.getD 0 99 = fmt ∧ 4 ≤ n ∧ n ≤ 12 ∧ pin.all (fun d => decide (d ≤ 9)) ∧ fillOk then some pin else none

/-- The PIN that an enciphered block of a format holds, or none (R142). -/
def pinDecode (fmt alg : Nat) (key blk : Bytes) (pan : List Nat) : Option (List Nat) :=
  match fmt with
  | 0 => pinOfField 0 (xorN (nibbles (blkDec alg key blk)) (panField0 pan))
  | 3 => pinOfField 3 (xorN (nibbles (blkDec alg key blk)) (panField0 pan))
  | 4 => pinOfField 4 (nibbles (aesDec key (xorB (aesDec key blk) (packNibbles (panField4 pan)))))
  | _ => pinOfField fmt (nibbles (blkDec alg key blk))

/-- The digits of a card-secret block, or none where its structure fails (R143). -/
def secretDecode (key blk : Bytes) : Option (List Nat) :=
  let b := aesDec key blk
  let n := byteAt b 1
  let ds := nibbles (slice b 2 10)
  if byteAt b 0 = 0x5C ∧ 1 ≤ n ∧ n ≤ 19 ∧ (ds.take n).all (fun d => decide (d ≤ 9)) ∧ (ds.drop n).all (· == 15) then
    some (ds.take n)
  else none

/-- The natural PIN of the offset method: table, validation data, check length (R143). -/
def naturalPin (alg : Nat) (key table val : Bytes) (len : Nat) : List Nat :=
  let e := if alg ≤ 2 then tdesEnc key val else aesEnc key (val ++ zeros 8)
  ((nibbles e).take len).map (fun d => (nibbles table).getD d 0)

/-- The first `n` decimal digits of a nibble list, then its nibbles A to F less 10 (R143). -/
def decimalise (n : Nat) (l : List Nat) : List Nat :=
  (l.filter (fun d => decide (d ≤ 9)) ++ (l.filter (fun d => decide (10 ≤ d))).map (· - 10)).take n

/-- The verification value of the verification-value method (R143). -/
def pinValue (key : Bytes) (pan pin : List Nat) (index : Nat) : List Nat :=
  let b := (pan.dropLast).drop (pan.length - 12) ++ [index] ++ pin.take 4
  decimalise 4 (nibbles (tdesEnc key (packNibbles b)))

/-- The three digits of the card verification value (R142): the two-block method. -/
def cardValue (key : Bytes) (digits : List Nat) : List Nat :=
  let b := packNibbles (digits ++ List.replicate (32 - digits.length) 0)
  decimalise 3 (nibbles (tdesEnc key (xorB (desEnc (key.take 8) (b.take 8)) (b.drop 8))))

/-- The digits that card data give the method, or none where they are invalid (R142). -/
def cardDigits (d : Bytes) : Option (List Nat) :=
  match panDigits (d.take 11) with
  | none => none
  | some pan =>
    let ex := nibbles (slice d 11 2)
    let sc := nibbles (slice d 13 2)
    if ex.all (fun d => decide (d ≤ 9)) ∧ (sc.take 3).all (fun d => decide (d ≤ 9)) ∧ sc.getD 3 0 = 15 then
      some (pan ++ ex ++ sc.take 3)
    else none

end Sys2Proof.Machine
end

