-- ==== Sys2Proof/Machine/PubKey.lean ====
section
/-! DEFINITION. The public-key algorithms that R168 names, as their standards define them (log entry 6): RSA with the
paddings of R168, ECDSA and ECDH on P-256, P-384 and P-521, Ed25519. ML-KEM and ML-DSA are opaque in Config. -/

namespace Sys2Proof

/-- Modular power, one bit of the exponent at a time. -/
def powModN (m : Nat) : Nat → Nat → Nat → Nat → Nat
  | 0, _, _, acc => acc
  | f + 1, b, e, acc => powModN m f (b * b % m) (e / 2) (if e % 2 = 1 then acc * b % m else acc)

/-- b^e modulo m. -/
def powMod (b e m : Nat) : Nat := powModN m (Nat.log2 e + 1) (b % m) e (1 % m)

/-- Inverse modulo a prime. -/
def invMod (a p : Nat) : Nat := powMod a (p - 2) p

/-- A short Weierstrass curve with a = -3. -/
structure Curve where
  /-- field prime -/ p : Nat
  /-- constant -/ b : Nat
  /-- order -/ n : Nat
  /-- base point -/ g : Nat × Nat
  /-- bytes of a field element -/ size : Nat
deriving DecidableEq, Repr

/-- P-256. -/
def p256 : Curve where
  p := 0xFFFFFFFF00000001000000000000000000000000FFFFFFFFFFFFFFFFFFFFFFFF
  b := 0x5AC635D8AA3A93E7B3EBBD55769886BC651D06B0CC53B0F63BCE3C3E27D2604B
  n := 0xFFFFFFFF00000000FFFFFFFFFFFFFFFFBCE6FAADA7179E84F3B9CAC2FC632551
  g := (0x6B17D1F2E12C4247F8BCE6E563A440F277037D812DEB33A0F4A13945D898C296,
    0x4FE342E2FE1A7F9B8EE7EB4A7C0F9E162BCE33576B315ECECBB6406837BF51F5)
  size := 32

/-- P-384. -/
def p384 : Curve where
  p := 0xFFFFFFFFFFFFFFFFFFFFFFFFFFFFFFFFFFFFFFFFFFFFFFFFFFFFFFFFFFFFFFFEFFFFFFFF0000000000000000FFFFFFFF
  b := 0xB3312FA7E23EE7E4988E056BE3F82D19181D9C6EFE8141120314088F5013875AC656398D8A2ED19D2A85C8EDD3EC2AEF
  n := 0xFFFFFFFFFFFFFFFFFFFFFFFFFFFFFFFFFFFFFFFFFFFFFFFFC7634D81F4372DDF581A0DB248B0A77AECEC196ACCC52973
  g := (0xAA87CA22BE8B05378EB1C71EF320AD746E1D3B628BA79B9859F741E082542A385502F25DBF55296C3A545E3872760AB7,
    0x3617DE4A96262C6F5D9E98BF9292DC29F8F41DBD289A147CE9DA3113B5F0B8C00A60B1CE1D7E819D7A431D7C90EA0E5F)
  size := 48

/-- P-521. -/
def p521 : Curve where
  p := 2 ^ 521 - 1
  b := 0x0051953EB9618E1C9A1F929A21A0B68540EEA2DA725B99B315F3B8B489918EF109E156193951EC7E937B1652C0BD3BB1BF073573DF883D2C34F1EF451FD46B503F00
  n := 0x01FFFFFFFFFFFFFFFFFFFFFFFFFFFFFFFFFFFFFFFFFFFFFFFFFFFFFFFFFFFFFFFFFA51868783BF2F966B7FCC0148F709A5D03BB5C9B8899C47AEBB6FB71E91386409
  g := (0x00C6858E06B70404E9CD9E3ECB662395B4429C648139053FB521F828AF606B4D3DBAA14B5E77EFE75928FE1DC127A2FFA8DE3348B3C1856A429BF97E7E31C2E5BD66,
    0x011839296A789A3BC0045C8A5FB42C7D1BD998F54449579B446817AFBD17273E662C97EE72995EF42640C550B9013FAD0761353C7086A272C24088BE94769FD16650)
  size := 66

/-- The curve of an image algorithm, 2 to 4 (R178). -/
def curveOf (alg : Nat) : Option Curve :=
  if alg = 2 then some p256 else if alg = 3 then some p384 else if alg = 4 then some p521 else none

/-- A point; none is the identity. -/
abbrev Point := Option (Nat × Nat)

/-- Sum of two points. -/
def Curve.add (c : Curve) (a b : Point) : Point :=
  match a, b with
  | none, q => q
  | p, none => p
  | some (x1, y1), some (x2, y2) =>
    if x1 = x2 ∧ (y1 + y2) % c.p = 0 then none
    else
      let l := if x1 = x2 then (3 * x1 * x1 + (c.p - 3)) * invMod (2 * y1) c.p % c.p
        else (y2 + c.p - y1) * invMod ((x2 + c.p - x1) % c.p) c.p % c.p
      let x3 := (l * l + 2 * c.p - x1 - x2) % c.p
      some (x3, (l * (x1 + c.p - x3) + c.p - y1) % c.p)

/-- Multiple of a point, one bit at a time. -/
def Curve.mulN (c : Curve) : Nat → Nat → Point → Point → Point
  | 0, _, _, acc => acc
  | f + 1, k, q, acc => c.mulN f (k / 2) (c.add q q) (if k % 2 = 1 then c.add acc q else acc)

/-- k times a point. -/
def Curve.mul (c : Curve) (k : Nat) (q : Point) : Point := c.mulN (Nat.log2 k + 1) k q none

/-- Whether a pair of numbers is a point of the curve. -/
def Curve.onCurve (c : Curve) (q : Nat × Nat) : Bool :=
  decide (q.1 < c.p) && decide (q.2 < c.p) &&
    decide (q.2 * q.2 % c.p = (q.1 * q.1 * q.1 + (c.p - 3) * q.1 + c.b) % c.p)

/-- The uncompressed SEC 1 form (R174). -/
def Curve.encode (c : Curve) (q : Nat × Nat) : Bytes := [4#8] ++ natToBe c.size q.1 ++ natToBe c.size q.2

/-- The point that an uncompressed form holds, if it is on the curve. -/
def Curve.decode (c : Curve) (b : Bytes) : Option (Nat × Nat) :=
  if b.length = 1 + 2 * c.size ∧ byteAt b 0 = 4 then
    let q := (beToNat (slice b 1 c.size), beToNat (slice b (1 + c.size) c.size))
    if c.onCurve q then some q else none
  else none

/-- The integer of a digest: its leftmost bits, as many as the order has. -/
def Curve.hashInt (c : Curve) (h : Bytes) : Nat :=
  let nb := Nat.log2 c.n + 1
  if nb < 8 * h.length then beToNat h / 2 ^ (8 * h.length - nb) else beToNat h

/-- An ECDSA signature of a digest with a secret k: r and s. -/
def Curve.sign (c : Curve) (d k : Nat) (h : Bytes) : Nat × Nat :=
  match c.mul k (some c.g) with
  | none => (0, 0)
  | some (x, _) =>
    let r := x % c.n
    (r, invMod k c.n * (c.hashInt h + r * d) % c.n)

/-- Whether an ECDSA signature of a digest verifies. -/
def Curve.verify (c : Curve) (q : Nat × Nat) (h sig : Bytes) : Bool :=
  let r := beToNat (sig.take c.size)
  let s := beToNat (sig.drop c.size)
  if sig.length ≠ 2 * c.size ∨ r = 0 ∨ c.n ≤ r ∨ s = 0 ∨ c.n ≤ s then false
  else
    let w := invMod s c.n
    match c.add (c.mul (c.hashInt h * w % c.n) (some c.g)) (c.mul (r * w % c.n) (some q)) with
    | none => false
    | some (x, _) => decide (x % c.n = r)

/-- An ECDSA signature and whether it verifies under the key's public point (R171). -/
def Curve.signed (c : Curve) (d k : Nat) (h : Bytes) : Bytes × Bool :=
  let (a, b) := c.sign d k h
  let sig := natToBe c.size a ++ natToBe c.size b
  (sig, match c.mul d (some c.g) with | none => false | some q => c.verify q h sig)

/-- The field of Ed25519. -/
def edP : Nat := 2 ^ 255 - 19
/-- The order of its base point. -/
def edL : Nat := 2 ^ 252 + 27742317777372353535851937790883648493
/-- Its constant d. -/
def edD : Nat := (edP - 121665) * invMod 121666 edP % edP
/-- A square root of -1. -/
def edI : Nat := powMod 2 ((edP - 1) / 4) edP

/-- Sum of two points in affine form. -/
def edAdd (a b : Nat × Nat) : Nat × Nat :=
  let t := edD * (a.1 * b.1 % edP) % edP * (a.2 * b.2 % edP) % edP
  ((a.1 * b.2 + b.1 * a.2) % edP * invMod ((1 + t) % edP) edP % edP,
   (a.2 * b.2 + a.1 * b.1) % edP * invMod ((1 + edP - t) % edP) edP % edP)

/-- Multiple of a point. -/
def edMulN : Nat → Nat → (Nat × Nat) → (Nat × Nat) → (Nat × Nat)
  | 0, _, _, acc => acc
  | f + 1, k, q, acc => edMulN f (k / 2) (edAdd q q) (if k % 2 = 1 then edAdd acc q else acc)

/-- k times a point. -/
def edMul (k : Nat) (q : Nat × Nat) : Nat × Nat := edMulN (Nat.log2 k + 1) k q (0, 1)

/-- The x coordinate of a point from y and the sign of x. -/
def edX (y sign : Nat) : Option Nat :=
  let u := (y * y + edP - 1) % edP
  let v := (edD * (y * y % edP) + 1) % edP
  let x2 := u * invMod v edP % edP
  let r := powMod x2 ((edP + 3) / 8) edP
  let x := if r * r % edP = x2 then some r else if (r * edI % edP) * (r * edI % edP) % edP = x2 then some (r * edI % edP) else none
  x.bind (fun x => if x = 0 ∧ sign = 1 then none else some (if x % 2 = sign then x else edP - x))

/-- The 32 bytes of a point (RFC 8032). -/
def edEncode (q : Nat × Nat) : Bytes := natToLe 32 (q.2 + q.1 % 2 * 2 ^ 255)
/-- The point that 32 bytes hold. -/
def edDecode (b : Bytes) : Option (Nat × Nat) :=
  let v := leToNat b
  let y := v % 2 ^ 255
  if b.length ≠ 32 ∨ edP ≤ y then none else (edX y (v / 2 ^ 255)).map (fun x => (x, y))

/-- The base point of Ed25519. -/
def edB : Nat × Nat :=
  let y := 4 * invMod 5 edP % edP
  ((edX y 0).getD 0, y)

/-- Scalar and prefix bytes of a 32-byte seed. -/
def edExpand (seed : Bytes) : Nat × Bytes :=
  let h := sha512 seed
  let a := leToNat (h.take 32)
  (setBits (setBits (setBits a 0 3 0) 255 1 0) 254 1 1, h.drop 32)

/-- Public key of a seed. -/
def edPublic (seed : Bytes) : Bytes := edEncode (edMul (edExpand seed).1 edB)

/-- A pure Ed25519 signature. -/
def edSign (seed m : Bytes) : Bytes :=
  let (a, pre) := edExpand seed
  let pk := edPublic seed
  let r := leToNat (sha512 (pre ++ m)) % edL
  let rb := edEncode (edMul r edB)
  let k := leToNat (sha512 (rb ++ pk ++ m)) % edL
  rb ++ natToLe 32 ((r + k * a) % edL)

/-- Whether a pure Ed25519 signature verifies. -/
def edVerify (pk m sig : Bytes) : Bool :=
  let s := leToNat (sig.drop 32)
  match edDecode pk, edDecode (sig.take 32) with
  | some a, some r =>
    if sig.length ≠ 64 ∨ edL ≤ s then false
    else edMul s edB == edAdd r (edMul (leToNat (sha512 (sig.take 32 ++ pk ++ m)) % edL) a)
  | _, _ => false

/-- An RSA private key as an image body holds it (R178); e is 65,537 (R168). -/
structure RsaKey where
  /-- p -/ p : Nat
  /-- q -/ q : Nat
  /-- d modulo p - 1 -/ dp : Nat
  /-- d modulo q - 1 -/ dq : Nat
  /-- inverse of q modulo p -/ qi : Nat
  /-- modulus -/ n : Nat
  /-- modulus length in bits -/ bits : Nat
deriving DecidableEq, Repr

/-- An inverse by extended Euclid: coefficients of a modulo m, at most `fuel` steps. -/
def egcd : Nat → Int → Int → Int → Int → Int
  | 0, _, _, x, _ => x
  | f + 1, a, b, x, y => if b = 0 then x else egcd f b (a % b) y (x - a / b * y)
/-- The inverse of a modulo m. -/
def invEuclid (a m : Nat) : Nat := ((egcd (2 * (Nat.log2 m + 2)) a m 1 0) % (m : Int)).toNat
/-- The key of two primes. -/
def RsaKey.ofPrimes (p q bits : Nat) : RsaKey :=
  ⟨p, q, invEuclid 65537 (p - 1), invEuclid 65537 (q - 1), invMod (q % p) p, p * q, bits⟩
/-- The private exponent of two primes, for the least common multiple of p - 1 and q - 1. -/
def RsaKey.d (k : RsaKey) : Nat := invEuclid 65537 (Nat.lcm (k.p - 1) (k.q - 1))
/-- The private operation by the Chinese remainder theorem (R168). -/
def RsaKey.run (k : RsaKey) (c : Nat) : Nat :=
  let m1 := powMod c k.dp k.p
  let m2 := powMod c k.dq k.q
  m2 + k.qi * ((m1 + (k.p - m2 % k.p)) % k.p) % k.p * k.q
/-- The check before release: the result raised to e modulo n equals the input (R171). -/
def RsaKey.check (k : RsaKey) (c : Nat) : Bool := powMod (k.run c) 65537 k.n == c

/-- MGF1 (PKCS #1). -/
def mgf1 (h : Bytes → Bytes) (hl : Nat) (seed : Bytes) (n : Nat) : Bytes :=
  ((List.range ((n + hl - 1) / hl)).flatMap (fun i => h (seed ++ natToBe 4 i))).take n

/-- The DigestInfo header of SHA-256 or SHA-512 (PKCS #1). -/
def digestInfo (h512 : Bool) : Bytes :=
  [0x30#8, (if h512 then 0x51#8 else 0x31#8), 0x30#8, 0x0D#8, 0x06#8, 0x09#8, 0x60#8, 0x86#8, 0x48#8, 0x01#8, 0x65#8, 0x03#8,
    0x04#8, 0x02#8, (if h512 then 0x03#8 else 0x01#8), 0x05#8, 0x00#8, 0x04#8, (if h512 then 0x40#8 else 0x20#8)]

/-- The PKCS #1 v1.5 encoding of a digest in k bytes. -/
def padV15 (h512 : Bool) (dig : Bytes) (k : Nat) : Bytes :=
  let t := digestInfo h512 ++ dig
  [0#8, 1#8] ++ List.replicate (k - t.length - 3) 0xFF#8 ++ [0#8] ++ t

/-- The PSS encoding of a digest with a salt, for a modulus of `bits` bits. -/
def padPss (h512 : Bool) (dig salt : Bytes) (bits : Nat) : Bytes :=
  let hf := if h512 then sha512 else sha256
  let hl := if h512 then 64 else 32
  let em := (bits - 1 + 7) / 8
  let hh := hf (zeros 8 ++ dig ++ salt)
  let db := zeros (em - salt.length - hl - 2) ++ [1#8] ++ salt
  let masked := xorB db (mgf1 hf hl hh (em - hl - 1))
  let top := BitVec.ofNat 8 (byteAt masked 0 % 2 ^ (8 - (8 * em - (bits - 1))))
  top :: masked.drop 1 ++ hh ++ [0xBC#8]

/-- Whether a PSS encoding is that of a digest with a salt of the hash length. -/
def pssOk (h512 : Bool) (dig em : Bytes) (bits : Nat) : Bool :=
  let hf := if h512 then sha512 else sha256
  let hl := if h512 then 64 else 32
  let hh := slice em (em.length - hl - 1) hl
  let db := xorB (em.take (em.length - hl - 1)) (mgf1 hf hl hh (em.length - hl - 1))
  padPss h512 dig (db.drop (db.length - hl)) bits == em

/-- The OAEP decoding with SHA-256, MGF1-SHA-256 and an empty label (R168). -/
def oaepDecode (em : Bytes) : Option Bytes :=
  if em.length < 66 ∨ byteAt em 0 ≠ 0 then none
  else
    let ms := slice em 1 32
    let mdb := em.drop 33
    let seed := xorB ms (mgf1 sha256 32 mdb 32)
    let db := xorB mdb (mgf1 sha256 32 seed mdb.length)
    let rest := (db.drop 32).dropWhile (fun b => b == 0#8)
    if db.take 32 = sha256 [] ∧ rest.head? = some 1#8 then some (rest.drop 1) else none

/-- The encoding of a digest that an RSA signature signs (R168): PSS with a given salt, else PKCS #1 v1.5. -/
def RsaKey.encode (k : RsaKey) (pss h512 : Bool) (dig salt : Bytes) : Bytes :=
  if pss then padPss h512 dig salt k.bits else padV15 h512 dig (k.bits / 8)

/-- Whether an RSA signature verifies under a modulus. -/
def rsaVerify (n e bits : Nat) (pss h512 : Bool) (dig sig : Bytes) : Bool :=
  let v := beToNat sig
  if sig.length ≠ bits / 8 ∨ n ≤ v then false
  else
    let m := natToBe (bits / 8) (powMod v e n)
    if pss then pssOk h512 dig m bits else m == padV15 h512 dig (bits / 8)

end Sys2Proof
end

