-- ==== Sys2Proof/Machine/MpuOps.lean ====
section
/-! DEFINITION. The memory protection units: regions, the check of an access, the report of a refusal (R412 to R423),
and the four commands on their registers. Index m is 0 to 11 as the registers number them, and 12 + n for core n. -/

namespace Sys2Proof.Machine

/-- Regions of an MPU (R412). -/
def mpuRegions (m : Nat) : Nat := if m < 4 then 32 else if m < 8 then 16 else if m < 12 then 8 else 16

/-- The master identifier of an MPU (R412): supervisors 0xC0 to 0xC3, then ports, store, Starter, Scale, debug; cores
from 0. -/
def mpuMaster (m : Nat) : Nat := if m < 12 then 0xC0 + m else m - 12

/-- A committed region. -/
def State.region (s : State) (m r : Nat) : Region := tabGet Region.empty s.mpu (m * 32 + r)

/-- UPD of an MPU. -/
def mpuUpd (m : Nat) : Field :=
  if m < 12 then Reg.MPU_CTL_UPD m else Reg.CLU_MPU_CTL_UPD ((m - 12) / 8) ((m - 12) % 8)
/-- LOCK of an MPU. -/
def mpuLockF (m : Nat) : Field :=
  if m < 12 then Reg.MPU_CTL_LOCK m else Reg.CLU_MPU_CTL_LOCK ((m - 12) / 8) ((m - 12) % 8)
/-- The latch of an MPU. -/
def mpuLatch (m : Nat) : Field :=
  if m < 12 then Reg.MPU_LATCH_VALID m else Reg.CLU_MPU_LATCH_VALID ((m - 12) / 8) ((m - 12) % 8)
/-- VADDR of an MPU. -/
def mpuVaddr (m : Nat) : Field :=
  if m < 12 then Reg.MPU_VADDR_ADDR m else Reg.CLU_MPU_VADDR_ADDR ((m - 12) / 8) ((m - 12) % 8)
/-- A field of VINFO by its lowest bit and width. -/
def mpuVinfo (m lo w : Nat) : Field :=
  ⟨if m < 12 then 0x500D0108 + m * 0x10 else 0x20305010 + (m - 12) / 8 * 0x400000 + (m - 12) % 8 * 0x20, lo, w, 0⟩
/-- A staged BASE. -/
def mpuBase (m r : Nat) : Field :=
  if m < 12 then Reg.MPU_RGN_BASE_BASE m r else Reg.CLU_MPU_RGN_BASE_BASE ((m - 12) / 8) ((m - 12) % 8) r
/-- A staged LIMIT. -/
def mpuLimit (m r : Nat) : Field :=
  if m < 12 then Reg.MPU_RGN_LIMIT_LIMIT m r else Reg.CLU_MPU_RGN_LIMIT_LIMIT ((m - 12) / 8) ((m - 12) % 8) r
/-- A field of ATTR by its lowest bit and width. -/
def mpuAttr (m r lo w : Nat) : Field :=
  ⟨if m < 12 then 0x500D1010 + m * 0x400 + r * 0x20
    else 0x20304010 + (m - 12) / 8 * 0x400000 + (m - 12) % 8 * 0x200 + r * 0x20, lo, w, 0⟩

/-- Whether a region is enabled and covers a byte (R413). -/
def Region.covers (g : Region) (a : Nat) : Bool := g.en && decide (g.base ≤ a) && decide (a ≤ g.limit + 63)

/-- The lowest-numbered enabled region that covers a byte (R414). -/
def State.regionAt (s : State) (m a : Nat) : Option Nat :=
  (List.range (mpuRegions m)).find? (fun r => (s.region m r).covers a)

/-- An access as an MPU sees it (R414). -/
structure MpuAccess where
  /-- level -/ level : Level
  /-- tenant, or none -/ tenant : Option Nat
  /-- read, write or fetch -/ kind : AccKind
deriving DecidableEq, Repr

/-- A refusal: first forbidden byte, cause, deciding region (0xFF none). -/
structure MpuFault where
  /-- first forbidden byte -/ addr : Nat
  /-- cause -/ cause : MpuCause
  /-- deciding region -/ region : Nat
deriving DecidableEq, Repr

/-- Which address map an access is made in: host addresses, the internal map of R14 as a supervisor sees it, or the
core-local map of R77. -/
inductive AddrMap where
  | host | supervisor | core
deriving DecidableEq, Repr

/-- Whether an internal address is mapped (R14, R15, R16). -/
def internalMapped (a : Nat) : Bool :=
  decide (a < 0x40000) || (decide (0x10000000 ≤ a) && decide (a < 0x10400000))
    || (decide (0x20000000 ≤ a) && decide (a < 0x26000000)
        && (decide (a % 0x400000 < 0x180000) || (decide (0x300000 ≤ a % 0x400000) && decide (a % 0x400000 < 0x310000))))
    || (decide (0x30000000 ≤ a) && decide (a < 0x30200000))
    || (decide (0x40000000 ≤ a) && decide (a < 0x41000000)) || (decide (0x50000000 ≤ a) && decide (a < 0x50120000))

/-- Whether an address of the core-local map of R77 is local memory. -/
def coreLocal (a : Nat) : Bool := decide (a < 0x20000)
/-- Whether an address of the core-local map of R77 is cluster shared memory. -/
def coreShared (a : Nat) : Bool := decide (0x100000 ≤ a) && decide (a < 0x180000)

/-- Whether an internal address is one of the MPU registers of the core whose MPU is `m` (R415). -/
def ownMpuRegs (m a : Nat) : Bool :=
  let n := m - 12
  let w := 0x20300000 + n / 8 * 0x400000
  (decide (w + 0x4000 + n % 8 * 0x200 ≤ a) && decide (a < w + 0x4200 + n % 8 * 0x200))
    || (decide (w + 0x5000 + n % 8 * 0x20 ≤ a) && decide (a < w + 0x5020 + n % 8 * 0x20))

/-- Whether an address is mapped in a map (R14, R77). -/
def AddrMap.unmapped (mp : AddrMap) (a : Nat) : Bool :=
  match mp with
  | .host => false
  | .supervisor => !internalMapped a
  | .core => !(coreLocal a || coreShared a || (decide (0x20000000 ≤ a) && internalMapped a))

/-- Whether the default map of R415 permits a kind of access: link traffic at S may use every host address, a
supervisor the windows of R14, a core at K its local map with its K rights and its own MPU's registers. -/
def AddrMap.dflt (mp : AddrMap) (m : Nat) (k : AccKind) (a : Nat) : Bool :=
  match mp with
  | .host => true
  | .supervisor =>
    if a < 0x40000 then decide (k ≠ .write)
    else if 0x30000000 ≤ a ∧ a < 0x30200000 then true
    else decide (k ≠ .fetch)
  | .core =>
    if a < 0x4000 then true
    else if coreLocal a || coreShared a || ownMpuRegs m a then decide (k ≠ .fetch)
    else false

/-- One byte's access checked (R414, R418): none when it is permitted. -/
def State.mpuByte (s : State) (m : Nat) (mp : AddrMap) (x : MpuAccess) (a : Nat) : Option MpuFault :=
  if mp.unmapped a then some ⟨a, .unmapped, 0xFF⟩
  else if s.bit (mpuUpd m) ∧ x.level = .u then some ⟨a, .disabled, 0xFF⟩
  else
    let byDefault : Option MpuFault :=
      if x.level = .u then some ⟨a, .noRegion, 0xFF⟩
      else if mp.dflt m x.kind a then none else some ⟨a, .noRegion, 0xFF⟩
    if s.bit (mpuUpd m) then byDefault
    else
      match s.regionAt m a with
      | none => byDefault
      | some r =>
        let g := s.region m r
        if x.level.rank < g.priv then some ⟨a, .privilege, r⟩
        else if g.any = false ∧ x.tenant ≠ some g.tenant then some ⟨a, .tenant, r⟩
        else
          let ok := match x.kind with | .read => g.r | .write => g.w | .fetch => g.x
          if ok then none else some ⟨a, .permission, r⟩

/-- The first refused part of an access of `n` bytes at `a`, granule by granule in address order (R417). -/
def State.mpuFirst (s : State) (m : Nat) (mp : AddrMap) (x : MpuAccess) (a n : Nat) : Option MpuFault :=
  if n = 0 then none
  else
    (List.range ((a + n - 1) / 64 - a / 64 + 1)).findSome? (fun i => s.mpuByte m mp x (max a ((a / 64 + i) * 64)))

/-- Whether any part of a host range is refused. The answer is the same at every address between two bounds of regions, so only
the range's start and the bounds in it are asked (R414, R417). -/
def State.hostRefused (s : State) (m : Nat) (x : MpuAccess) (a n : Nat) : Bool :=
  let bounds := (List.range (mpuRegions m)).flatMap (fun r => [(s.region m r).base, (s.region m r).limit + 64])
  decide (n ≠ 0) && (a :: bounds).any (fun p => decide (a ≤ p) && decide (p < a + n) && (s.mpuByte m .host x p).isSome)

/-- A refusal reported: latched if the latch is free, counted, recorded (R422, R423). -/
def State.mpuReport (s : State) (m : Nat) (x : MpuAccess) (f : MpuFault) : State :=
  let ten := x.tenant.getD 0xFF
  let s1 :=
    if s.bit (mpuLatch m) then s
    else
      (((((((s.wr (mpuLatch m) 1).wr (mpuVaddr m) f.addr).wr (mpuVinfo m 40 8) ten).wr (mpuVinfo m 16 16) (mpuMaster m)).wr
        (mpuVinfo m 12 4) f.cause.val).wr (mpuVinfo m 10 2) x.level.rank).wr (mpuVinfo m 8 2) x.kind.val).wr
        (mpuVinfo m 0 8) f.region
  (s1.satInc (mpuVinfo m 48 16)).emit .mpuViolation x.tenant (mpuMaster m) (loWord f.addr) (hiWord f.addr)
    (f.region % 256 + x.kind.val * 256 + x.level.rank * 1024 + f.cause.val * 4096)

/-- Whether one region of an MPU covers a whole range with a right for a tenant (R420). -/
def State.oneRegionCovers (s : State) (m tenant a n : Nat) (write : Bool) : Bool :=
  (List.range (mpuRegions m)).any (fun r =>
    let g := s.region m r
    g.covers a && g.covers (a + n - 1) && decide (g.priv = 0) && (g.any || decide (g.tenant = tenant))
      && (if write then g.w else g.r))

/-- The region that a write of ATTR commits from the staged BASE and LIMIT (R413). -/
def regionOf (base limit : Nat) (attr : BitVec 64) : Region :=
  let v := attr.toNat
  ⟨base * 64, limit * 64, bitAt v 0, bitAt v 1, bitAt v 2, bitAt v 3, bitAt v 6, min 2 (bitsAt v 4 2), bitsAt v 8 6,
    (if bitsAt v 14 2 = 3 then 0 else bitsAt v 14 2), min 2 (bitsAt v 16 2)⟩

/-- The refused completion entries and messages of a port may be tried again: a region of its MPU, 4 + port, has committed
(R421). -/
def State.retryRefused (s : State) (m : Nat) : State :=
  if 4 ≤ m ∧ m < 8 then
    { s with host := { s.host with
      port := tabMod Port.reset s.host.port (m - 4) (fun p => { p with
        entries := p.entries.map (fun (c : CplEntry) => { c with refused := false }) })
      iv := tabMap Iv.reset (fun _ i => if i.refused = some (m - 4) then { i with refused := none } else i) s.host.iv } }
  else s

/-- The committed region and the ATTR fields of a region set at once; refused writes of the MPU's port may then be tried
again (R413, R421). -/
def State.commitRegion (s : State) (m r : Nat) (attr : BitVec 64) : State :=
  let v := attr.toNat
  let fields : List (Nat × Nat) := [(0, 1), (1, 1), (2, 1), (3, 1), (4, 2), (6, 1), (8, 6), (14, 2), (16, 2)]
  let s1 := fields.foldl (fun s f => s.wr (mpuAttr m r f.1 f.2) (bitsAt v f.1 f.2)) s
  let g := regionOf (s.rd (mpuBase m r)) (s.rd (mpuLimit m r)) attr
  State.retryRefused { s1 with mpu := tabSet Region.empty s1.mpu (m * 32 + r) g } m

/-- Whether software may write an MPU's regions: indices 10 and 11 are not writable, and LOCK freezes a supervisor's
(R412, R418). -/
def State.mpuWritable (s : State) (m : Nat) : Bool :=
  decide (m ≠ 10) && decide (m ≠ 11) && !(decide (m < 4) && s.bit (mpuLockF m))

/-- MPU_UPD_WRITE: UPD disables or enables the MPU's regions, unless LOCK ignores the write (R418). -/
def execMpuUpdWrite (m : Fin 204) (upd : Bool) (s : State) : Host.Outcome State Fault Refusal :=
  .next (if s.mpuWritable m then s.wr (mpuUpd m) (b2n upd) else s)

/-- MPU_LOCK: LOCK freezes a supervisor MPU until a reset; it has no effect on the others (R418). -/
def execMpuLock (m : Fin 204) (s : State) : Host.Outcome State Fault Refusal :=
  .next (if m.val < 4 then s.wr (mpuLockF m) 1 else s)

/-- MPU_LATCH_CLEAR: writing 1 to VALID frees the latch (R423). -/
def execMpuLatchClear (m : Fin 204) (s : State) : Host.Outcome State Fault Refusal :=
  .next (s.wr (mpuLatch m) 0)

end Sys2Proof.Machine
end

