-- ==== Sys2Proof/Machine/LinkOps.lean ====
section
/-! DEFINITION. The packet layer of the link ports: queues, credits, tags, retry, acceptance (R309 to R322). -/

namespace Sys2Proof.Machine

/-- The rings and ports changed by a function. -/
def State.modHost (s : State) (f : HostSide → HostSide) : State := { s with host := f s.host }
/-- A port. -/
def State.port (s : State) (n : Nat) : Port := tabGet Port.reset s.host.port n
/-- A port changed. -/
def State.modPort (s : State) (n : Nat) (f : Port → Port) : State :=
  s.modHost (fun h => { h with port := tabMod Port.reset h.port n f })
/-- Whether a port is ACTIVE. -/
def State.portActive (s : State) (n : Nat) : Bool := decide ((s.port n).st = .active)

/-- The four groups of R318. -/
inductive Group where
  | prf | core | store | s0
deriving DecidableEq, Repr

/-- A packet put at the end of a group's queue. -/
def Port.push (p : Port) (g : Group) (k : Pkt) : Port :=
  match g with
  | .prf => { p with qPrf := p.qPrf ++ [k] }
  | .core => { p with qCore := p.qCore ++ [k] }
  | .store => { p with qStore := p.qStore ++ [k] }
  | .s0 => { p with qS0 := p.qS0 ++ [k] }

/-- The queue of a group by its round-robin place: Proofer, cores, store, S0 (R318). -/
def Port.queue (p : Port) (i : Nat) : List Pkt :=
  match i % 4 with
  | 0 => p.qPrf | 1 => p.qCore | 2 => p.qStore | _ => p.qS0

/-- A group's queue without its first packet. -/
def Port.popQueue (p : Port) (i : Nat) : Port :=
  match i % 4 with
  | 0 => { p with qPrf := p.qPrf.tail } | 1 => { p with qCore := p.qCore.tail }
  | 2 => { p with qStore := p.qStore.tail } | _ => { p with qS0 := p.qS0.tail }

/-- Bytes of a packet on the link: header, payload padded to 4, CRC (R309). -/
def Pkt.size (k : Pkt) : Nat := 16 + (k.data.length + 3) / 4 * 4 + 4

/-- Credits that a packet uses, in 64-byte units, at least one (R310; log entry 7). -/
def Pkt.units (k : Pkt) : Nat := max 1 ((k.data.length + 63) / 64)

/-- Whether a cumulative credit covers `u` more units (R310). -/
def creditOk (have_ used u : Nat) : Bool := decide (u ≤ (have_ + 65536 - used) % 65536)

/-- Whether a port has the credits that a packet needs (R310). -/
def Port.creditFor (p : Port) (k : Pkt) : Bool :=
  match k.kind with
  | .mrd => creditOk p.credits.2.1 p.used.2.1 k.units
  | .cpl => creditOk p.credits.2.2 p.used.2.2 k.units
  | _ => creditOk p.credits.1 p.used.1 k.units

/-- The credits of a packet marked used. -/
def Port.useCredit (p : Port) (k : Pkt) : Port :=
  let (a, b, c) := p.used
  match k.kind with
  | .mrd => { p with used := (a, (b + k.units) % 65536, c) }
  | .cpl => { p with used := (a, b, (c + k.units) % 65536) }
  | _ => { p with used := ((a + k.units) % 65536, b, c) }

/-- The tags of a read by what it serves (R317): first tag and count. -/
def tagRange : ReadFor → Nat × Nat
  | .descriptors _ _ => (0, 32)
  | .mailbox _ _ => (0, 32)
  | .boot _ => (0, 32)
  | .storeLine _ => (32, 96)
  | .transfer _ _ _ => (128, 128)

/-- The lowest free tag for a read (R317). -/
def Port.freeTag (p : Port) (u : ReadFor) : Option Nat :=
  let r := tagRange u
  ((List.range r.2).map (· + r.1)).find? (fun t => p.reads.all (fun x => x.tag != t))

/-- The sequence number after another: from 0xFFFF to 0x0001 (R311). -/
def seqNext (n : Nat) : Nat := if 0xFFFF ≤ n then 1 else n + 1

/-- A packet sent: numbered, kept for retry, its credits used (R311). -/
def Port.emitPkt (p : Port) (k : Pkt) (now : Nat) (tag : Option Nat) : Port :=
  let k1 := { k with seq := p.txSeq, tag := tag.getD k.tag }
  let rd : List Read :=
    match k.rd, tag with
    | some u, some t => [⟨t, u, k.addr, k.len, [], k.id, k.owner, now⟩]
    | _, _ => []
  { p.useCredit k with
    txSeq := seqNext p.txSeq, retry := p.retry ++ [k1], sent := p.sent ++ [k1], reads := p.reads ++ rd }

/-- Whether a port may send a new sequenced packet now: ACTIVE, not between the SEQ_RESETs of an L2 reset, room in the
64 KiB retry buffer, credits (R310, R311, R312). -/
def Port.maySend (p : Port) (k : Pkt) : Bool :=
  decide (p.st = .active) && !p.quiet && p.creditFor k
    && decide ((p.retry.map Pkt.size).foldl (· + ·) 0 + k.size ≤ 65536)

/-- The next new packet sent by the order of R318: answers to the host first, then the four groups in round robin; none
when nothing can be sent. -/
def Port.sendOne (p : Port) (now : Nat) : Option Port :=
  match p.answers with
  | k :: rest => if p.maySend k then some ({ p with answers := rest }.emitPkt k now none) else none
  | [] =>
    (List.range 4).findSome? (fun j =>
      let i := p.rr + j
      match p.queue i with
      | [] => none
      | k :: _ =>
        if p.maySend k then
          match k.rd with
          | none => some ({ p.popQueue i with rr := (i + 1) % 4 }.emitPkt k now none)
          | some u =>
            match p.freeTag u with
            | none => none
            | some t => some ({ p.popQueue i with rr := (i + 1) % 4 }.emitPkt k now (some t))
        else none)

/-- New packets sent while any can be, at most `fuel` of them; the number sent is counted. -/
def Port.pumpN (now : Nat) : Nat → Port → Nat × Port
  | 0, p => (0, p)
  | fuel + 1, p =>
    match p.sendOne now with
    | none => (0, p)
    | some p1 =>
      let r := Port.pumpN now fuel p1
      (r.1 + 1, r.2)

/-- Packets that wait at a port. -/
def Port.waiting (p : Port) : Nat :=
  p.answers.length + p.qPrf.length + p.qCore.length + p.qStore.length + p.qS0.length

/-- A port sends what it can (R318); LNKn_CNT(0) counts the packets sent. -/
def State.pump (s : State) (n : Nat) : State :=
  let p := s.port n
  let r := p.pumpN s.now p.waiting
  (s.modPort n (fun _ => r.2)).addTo (Reg.LNK_CNT_COUNT n 0) r.1

/-- Whether a MAINT session holds a port: 0 to 3 host ports, 4 the Starter (R409). -/
def State.maintHolds (s : State) (n : Nat) : Bool :=
  match s.life.session with
  | some d => decide (d.scope = 3) && bitAt d.ports n
  | none => false

/-- Whether a lane's pattern and loopback may be other than 0 (R468). -/
def State.laneAllowed (s : State) (l : Nat) : Bool :=
  let idle := if l < 16 then decide ((s.port (l / 4)).st = .disabled) else !s.bit Reg.STR_CTL_STARTER_EN
  match s.lc with
  | .maker => idle
  | .integrator => idle
  | .returned => idle
  | .fielded => s.maintHolds (l / 4) && (decide (l < 16) || idle)
  | .scrapped => false
  | .lost => false

/-- Lanes whose condition has ended: PATTERN and LOOP return to 0 and LANE_PATTERN is recorded (R468). -/
def State.laneCheck (s : State) : State :=
  (List.range 18).foldl (fun s l =>
    let p := s.rd (Reg.RAS_LANE_CTL_PATTERN l)
    let m := s.rd (Reg.RAS_LANE_CTL_LOOP l)
    if (p = 0 ∧ m = 0) ∨ s.laneAllowed l then s
    else (((s.wr (Reg.RAS_LANE_CTL_PATTERN l) 0).wr (Reg.RAS_LANE_CTL_LOOP l) 0).wr (Reg.RAS_LANE_CTL_LOCK l) 0).emit .lanePattern none
      srcS0 l (joined p m) (loWord (s.rd (Reg.RAS_LANE_ERR_ERRORS l)))) s

/-- A packet with its own number. -/
def State.mkPkt (s : State) (kind : PktKind) (ro : Bool) (addr len : Nat) (data : Bytes) (owner : Owner)
    (rd : Option ReadFor) : Pkt × State :=
  (⟨s.host.nextPkt, 0, kind, ro, 0, len, 0, false, 0, addr, data, owner, rd⟩,
   s.modHost (fun h => { h with nextPkt := h.nextPkt + 1 }))

/-- Whether traffic of an owner waits behind the implied fence of a fail-over (R324). -/
def Port.behindFence (p : Port) (o : Owner) : Bool :=
  !p.fence.isEmpty && (match o with | .ring _ _ _ => true | .store => true | _ => false)

/-- A packet handed to a port in a group, and what can be sent sent. New traffic waits behind an implied fence (R324). -/
def State.enqueue (s : State) (n : Nat) (g : Group) (k : Pkt) : State :=
  if (s.port n).behindFence k.owner then s.modPort n (fun p => { p with fenced := p.fenced ++ [k] })
  else (s.modPort n (fun p => p.push g k)).pump n

/-- A range cut at the next multiples of `unit`: address and length of each part (R316). -/
def splitRange (unit : Nat) : Nat → Nat → Nat → List (Nat × Nat)
  | 0, _, _ => []
  | fuel + 1, a, n =>
    if n = 0 then []
    else
      let k := min n (unit - a % unit)
      (a, k) :: splitRange unit fuel (a + k) (n - k)

/-- Host writes of a byte string from an address, each ending at a 256-byte boundary (R316). -/
def State.hostWrite (s : State) (n : Nat) (g : Group) (ro : Bool) (addr : Nat) (data : Bytes) (o : Owner) : State :=
  (splitRange 256 (data.length + 1) addr data.length).foldl (fun s p =>
    let (k, s1) := s.mkPkt .mwr ro p.1 p.2 (slice data (p.1 - addr) p.2) o none
    s1.enqueue n g k) s

/-- One host read handed to a port. -/
def State.hostRead (s : State) (n : Nat) (g : Group) (addr len : Nat) (o : Owner) (u : ReadFor) : State :=
  let (k, s1) := s.mkPkt .mrd false addr len [] o (some u)
  s1.enqueue n g k

/-- A management packet sent at once: not sequenced, not kept for retry (R310, R318). -/
def State.sendMgt (s : State) (n sub addr : Nat) : State :=
  let k : Pkt := ⟨s.host.nextPkt, 0, .mgt, false, 0, 0, 0, false, sub, addr, [], .none, none⟩
  ((s.modHost (fun h => { h with nextPkt := h.nextPkt + 1 })).modPort n (fun p => { p with sent := p.sent ++ [k] })).inc
    (Reg.LNK_CNT_COUNT n 0)

/-- The SEQ that an ACK or NAK carries: the last one received in order (R310). -/
def Port.lastRx (p : Port) : Nat := if p.rxSeq = 1 then 0xFFFF else p.rxSeq - 1

/-- An ACK packet. -/
def State.sendAck (s : State) (n : Nat) : State := s.sendMgt n 0x01 (s.port n).lastRx
/-- A NAK packet, counted in LNKn_CNT(3). -/
def State.sendNak (s : State) (n : Nat) : State := (s.sendMgt n 0x02 (s.port n).lastRx).inc (Reg.LNK_CNT_COUNT n 3)

/-- Whether a port accepts sequenced packets from its partner (R311, R312). -/
def Port.accepts (p : Port) : Bool := decide (p.st = .active) && !p.quiet && !p.awaitPeer

/-- A sequenced packet accepted in order at a port (R311): the next SEQ is expected. -/
def State.accept (s : State) (n : Nat) : State :=
  (s.modPort n (fun p => { p with rxSeq := seqNext p.rxSeq })).inc (Reg.LNK_CNT_COUNT n 1)

/-- Departure of a port from ACTIVE to a state (R307): the generation reads 0 and the moment is kept (R323). -/
def Port.leave (p : Port) (st : PortState) (trigger now : Nat) : Port :=
  if p.st = .active then { p with st := st, gen := 0, leftAt := now, trigger := trigger } else { p with st := st, gen := 0 }

/-- A recovery of a port with its trigger (R314, R330). The duration of the event is not known when it is recorded, so
it is a free value (log entry 2). -/
def State.recover (s : State) (n trigger : Nat) : State :=
  if s.portActive n then
    let (d, s1) := s.fresh
    ((s1.modPort n (fun p => { p.leave .recovery trigger s.now with replays := 0 })).inc (Reg.LNK_CNT_COUNT n 7)).emit
      .linkRecovery none (srcPort n) n trigger d.toNat
  else s

/-- A replay: every unacknowledged packet sent again with its own SEQ, RO and content (R311). The fourth in a row
without progress enters RECOVERY (R314). -/
def State.replay (s : State) (n : Nat) : State :=
  let s1 := (s.modPort n (fun p => { p with sent := p.sent ++ p.retry, replays := p.replays + 1 })).inc
    (Reg.LNK_CNT_COUNT n 4)
  if 4 ≤ (s1.port n).replays then (s1.wr (Reg.LNK_ERR_REPLAY_LIMIT n) 1).recover n 1 else s1

/-- The packets of a retry buffer up to a SEQ, and the rest; none covered where the SEQ is not in it. -/
def splitAcked (seq : Nat) (l : List Pkt) : List Pkt × List Pkt :=
  if l.any (fun k => k.seq == seq) then
    let i := l.findIdx (fun k => k.seq == seq)
    (l.take (i + 1), l.drop (i + 1))
  else ([], l)

/-- The packets that an ACK or NAK covers freed (R311); a fence whose packets are all acknowledged lifts, and the
packets behind it join their queues (R324). -/
def Port.acked (p : Port) (seq : Nat) : Port :=
  let r := splitAcked seq p.retry
  let ids := r.1.map (·.id)
  let fence := p.fence.filter (fun i => !ids.contains i)
  let p1 := { p with retry := r.2, replays := if r.1.isEmpty then p.replays else 0, fence := fence }
  if fence.isEmpty then
    let q := p1.fenced
    q.foldl (fun p k =>
      p.push (match k.owner, k.rd with
        | .store, _ => .store
        | .s0, _ => .s0
        | _, some (.transfer _ _ _) => .core
        | _, some _ => .prf
        | _, none => if k.ro then .core else .prf) k) { p1 with fenced := [] }
  else p1

/-- Whether a packet, by its number, is still unacknowledged or unsent at a port. -/
def Port.unacked (p : Port) (id : Nat) : Bool :=
  (p.retry ++ p.qPrf ++ p.qCore ++ p.qStore ++ p.qS0 ++ p.fenced).any (fun k => k.id == id)

/-- Whether a packet, by its number, still waits to be sent at a port. -/
def Port.queued (p : Port) (id : Nat) : Bool :=
  (p.qPrf ++ p.qCore ++ p.qStore ++ p.qS0 ++ p.fenced).any (fun k => k.id == id)

/-- The submission ring q of a tenant. -/
def State.sq (s : State) (t q : Nat) : Sq := tabGet Sq.reset s.host.sq (16 * t + q)
/-- A submission ring changed. -/
def State.modSq (s : State) (t q : Nat) (f : Sq → Sq) : State :=
  s.modHost (fun h => { h with sq := tabMod Sq.reset h.sq (16 * t + q) f })
/-- The completion ring q of a tenant. -/
def State.cq (s : State) (t q : Nat) : Cq := tabGet Cq.reset s.host.cq (16 * t + q)
/-- A completion ring changed. -/
def State.modCq (s : State) (t q : Nat) (f : Cq → Cq) : State :=
  s.modHost (fun h => { h with cq := tabMod Cq.reset h.cq (16 * t + q) f })
/-- The vector v of a tenant. -/
def State.iv (s : State) (t v : Nat) : Iv := tabGet Iv.reset s.host.iv (16 * t + v)
/-- A vector changed. -/
def State.modIv (s : State) (t v : Nat) (f : Iv → Iv) : State :=
  s.modHost (fun h => { h with iv := tabMod Iv.reset h.iv (16 * t + v) f })

/-- Whether a completion ring has an entry that an MPU refused: releases into it wait as for a full ring (R421). -/
def State.cqRefused (s : State) (t q : Nat) : Bool :=
  (List.range 4).any (fun n => (s.port n).entries.any (fun c => c.tenant == t && c.cq == q && c.refused))

/-- A ring's current port (R27): its bound port, or its alternate while ON_ALT is 1. -/
def Sq.cur (r : Sq) : Nat := if r.onAlt then r.altPort else r.port
/-- A completion ring's current port (R320, R324). -/
def Cq.cur (c : Cq) : Nat := if c.onAlt then c.altPort else c.port
/-- The other port of a completion ring's binding, where an alternate is bound. -/
def Cq.other (c : Cq) : Option Nat := if c.altValid then some (if c.onAlt then c.port else c.altPort) else none
/-- The other port of a ring's binding, where an alternate is bound. -/
def Sq.other (r : Sq) : Option Nat := if r.altValid then some (if r.onAlt then r.port else r.altPort) else none

/-- The ring that a packet's or a read's traffic belongs to. -/
def Owner.ofRing : Owner → Option (Nat × Nat)
  | .ring t q _ => some (t, q)
  | _ => Option.none

/-- The access of a port for a tenant's traffic (R412). -/
def tenantAccess (t : Nat) (k : AccKind) : MpuAccess := ⟨.u, some t, k⟩

/-- A reset-done message handed to its port, or kept where the port's MPU refuses it (R229, R421). -/
def State.sendDone (s : State) (m : DoneMsg) : State :=
  let x := tenantAccess m.tenant .write
  match s.mpuFirst (4 + m.port) .host x (m.addr * 4) 4 with
  | some f => (s.mpuReport (4 + m.port) x f).modHost (fun h => { h with msgs := h.msgs ++ [m] })
  | none =>
    let (k, s1) := s.mkPkt .msg false (m.addr * 4) 4 (natToLe 4 m.data) (.ring m.tenant 0 0) none
    s1.enqueue m.port .prf k

/-- The refused reset-done messages of an MPU's port tried again (R421). -/
def State.resendDone (s : State) (m : Nat) : State :=
  (s.host.msgs.filter (fun d => decide (4 + d.port = m))).foldl State.sendDone
    (s.modHost (fun h => { h with msgs := h.msgs.filter (fun d => decide (4 + d.port ≠ m)) }))

/-- A region committed, and what its MPU's port had refused tried again (R413, R421). -/
def State.commitWindow (s : State) (m r : Nat) (attr : BitVec 64) : State := (s.commitRegion m r attr).resendDone m

/-- MPU_REGION_COMMIT: a write of a region's ATTR commits BASE, LIMIT and ATTR at once (R413). -/
def execMpuRegionCommit (m : Fin 204) (r : Fin 32) (attr : BitVec 64) (s : State) : Host.Outcome State Fault Refusal :=
  .next (if s.mpuWritable m ∧ r.val < mpuRegions m then s.commitWindow m r attr else s)

end Sys2Proof.Machine
end

