-- ==== Sys2Proof/Machine/CoreBase.lean ====
section
/-! DEFINITION. Access to cores, clusters and program images; the cluster health count and retirement; residency and core
resets (chapters 4 and 21). -/

namespace Sys2Proof.Machine

/-- A core. -/
def State.core (s : State) (n : Nat) : Core := tabGet Core.reset s.cores n
/-- A core changed. -/
def State.modCore (s : State) (n : Nat) (f : Core → Core) : State := { s with cores := tabMod Core.reset s.cores n f }
/-- A cluster's shared parts. -/
def State.cluster (s : State) (c : Nat) : Cluster := tabGet Cluster.reset s.clus c
/-- A cluster changed. -/
def State.modCluster (s : State) (c : Nat) (f : Cluster → Cluster) : State :=
  { s with clus := tabMod Cluster.reset s.clus c f }
/-- Checking changed by a function. -/
def State.modRas (s : State) (f : Ras → Ras) : State := { s with ras := f s.ras }

/-- An image by its name. -/
def State.image? (s : State) (id : Nat) : Option Image := s.progs.images.find? (fun i => i.id == id)
/-- An empty image, for a core that runs none. -/
def Image.none : Image := ⟨0, 0, 0, 0, 0, false, false, false, 0, [], [], [], 0, 0, [], 0⟩
/-- The image that a core runs. -/
def State.coreImage (s : State) (n : Nat) : Image := (s.image? (s.core n).image).getD Image.none

/-- Number of one bits among the low 24: clusters of a mask. -/
def clusterCount (m : Nat) : Nat := ((List.range 24).filter (fun c => bitAt m c)).length

/-- A fatal condition latched in STR_DIAG (R336); FATAL_CONDITION acts on it. -/
def State.latchCond (s : State) (i : Nat) : State := s.wr Reg.STR_DIAG_COND (s.rd Reg.STR_DIAG_COND ||| 2 ^ i)

/-- Whether an image is resident in a core (R65, R115). -/
def State.resident (s : State) (core image : Nat) : Bool := (s.core core).res.contains image

/-- The code bytes of resident images. -/
def State.codeBytes (s : State) (l : List Nat) : Nat :=
  l.foldl (fun n i => n + ((s.image? i).getD Image.none).code.length) 0

/-- Resident images, least recently started first, cut until at most eight whose code fits in 48 KiB remain (R115). -/
def State.evictN (s : State) : Nat → List Nat → List Nat
  | 0, l => l
  | fuel + 1, l => if l.length ≤ 8 ∧ s.codeBytes l ≤ 49152 then l else s.evictN fuel l.tail

/-- Whether an image is at hand for a core: resident, or still held by the cluster's shared memory, which is open: a free value
decides it (R115; log entry 2). -/
def State.imageAtHand (s : State) (n image : Nat) : Bool :=
  s.resident n image || ((s.cluster (n / 8)).cached.contains image && decide ((Config.freeValue s.free).toNat % 2 = 0))

/-- An image made resident in a core, as the most recently started one; a copy that shared memory serves counts as a
hit, one fetched from the sealed store as a miss (R115, CLU_IMG_STAT). -/
def State.makeResident (s : State) (n image : Nat) : State :=
  let l := (s.core n).res.filter (· ≠ image) ++ [image]
  let s1 := s.modCore n (fun c => { c with res := s.evictN l.length l })
  if s.resident n image then s1
  else
    let c := n / 8
    let s2 : State := { s1 with free := s1.free + 1 }
    if s.imageAtHand n image then s2.inc (Reg.CLU_IMG_STAT_HITS c)
    else
      (s2.modCluster c (fun k => { k with cached := if k.cached.contains image then k.cached else image :: k.cached })).inc
        (Reg.CLU_IMG_STAT_MISSES c)

/-- The cancel flag of the command that a core runs (R67): set, and a WAIT ends (R92). -/
def State.setCancelFlag (s : State) (n entry : Nat) : State :=
  s.modCore n (fun c =>
    if c.run = some entry then { c with cancel := true, stall := if c.stall = .wait then .none else c.stall } else c)

/-- A forced recalibration of a port that has ended: LINK_RECALIBRATED with its microseconds and the rings moved (R466). -/
def State.recalEnds (s : State) (n : Nat) : State :=
  match s.ras.recal with
  | some (p, t0, moved) =>
    if p = n then
      (s.modRas (fun r => { r with recal := none })).emit .linkRecalibrated none srcS0 n (s.rawUs (s.now - t0)) moved
    else s
  | none => s

/-- Whether a MAU function draws randomness: ECDSA-SIGN, MLKEM-ENCAPS, MLDSA-SIGN, KEYGEN (R176). -/
def funcDraws (func : Nat) : Bool := [0x008, 0x010, 0x014, 0x018].contains func

/-- A draw by an instruction of a core (R99, R127): none while it stalls. After a block at the request limit a MAU operation of the
same core, issued before, draws first (R300). -/
def State.coreDraw (s : State) (n len : Nat) : Option (Bytes × State) :=
  let mau := match (s.cluster (n / 8)).busy with
    | some (q, r) => q == n % 8 && funcDraws r.func
    | none => false
  if (s.drbg n).byReq && mau then none else s.drbgBytes n len

end Sys2Proof.Machine
end

