-- ==== Sys2Proof/Machine/StoreOps.lean ====
section
/-! DEFINITION. The sealed-store engine: layout, keys, the counter tree, line reads and writes, poison, cuts and rekey
(R258 to R283). -/

namespace Sys2Proof.Machine

/-- The store changed by a function. -/
def State.modStore (s : State) (f : Store → Store) : State := { s with store := f s.store }

/-- The sealed store's current port (SST_PORT). -/
def State.storePort (s : State) : Nat :=
  if s.bit Reg.SST_PORT_ON_ALT then s.rd Reg.SST_PORT_ALT else s.rd Reg.SST_PORT_PORT
/-- The other port of the store's binding. -/
def State.storeOther (s : State) : Option Nat :=
  if s.bit Reg.SST_PORT_ALT_VALID then
    some (if s.bit Reg.SST_PORT_ON_ALT then s.rd Reg.SST_PORT_PORT else s.rd Reg.SST_PORT_ALT)
  else none

/-- n_k: nodes of level k for N lines (R258). -/
def nodeCount (n k : Nat) : Nat := (n + 32 ^ (k + 1) - 1) / 32 ^ (k + 1)
/-- Nodes of the levels below k. -/
def nodesBelow (n : Nat) : Nat → Nat
  | 0 => 0
  | k + 1 => nodesBelow n k + nodeCount n k
/-- T: nodes of all six levels (R258). -/
def nodeTotal (n : Nat) : Nat := nodesBelow n 6
/-- Position of node j of level k in the order of R258. -/
def nodePos (n k j : Nat) : Nat := nodesBelow n k + j
/-- Level and index of a position. -/
def nodeAt (n p : Nat) : Nat × Nat :=
  let k := ((List.range 6).filter (fun k => decide (nodesBelow n k ≤ p))).length - 1
  (k, p - nodesBelow n k)

/-- The key of a generation (R263). -/
def storeKey (root : Bytes) (label : String) (g : Nat) : Bytes := shake256 32 (root ++ ascii label ++ natToLe 2 g)
/-- The device root key as the engine receives it; without one no store is open. -/
def State.rootKey (s : State) : Bytes := s.keys.root.getD (zeros 32)
/-- Data key of a generation. -/
def State.dataKey (s : State) (g : Nat) : Bytes := storeKey s.rootKey "DQ STORE DATA" g
/-- Tree key of a generation. -/
def State.treeKey (s : State) (g : Nat) : Bytes := storeKey s.rootKey "DQ STORE TREE" g

/-- A node that was never written: version 0 in generation 1 (R262, R270). -/
def Node.zero : Node := ⟨0, 1⟩
/-- A node of a tree by position. -/
def Tree.node (t : Tree) (p : Nat) : Node := tabGet Node.zero t.nodes p
/-- A data line of a tree. -/
def Tree.line (t : Tree) (i : Nat) : Line := tabGet Line.zero t.lines i

/-- Counter c of node j of level k (R262): the version of a data line or of a child node. -/
def Tree.counter (t : Tree) (n k j c : Nat) : Nat :=
  match k with
  | 0 => (t.line (32 * j + c)).ver
  | k + 1 => (t.node (nodePos n k (32 * j + c))).ver

/-- Bytes 0 to 239 of a node (R262). -/
def Tree.nodeHead (t : Tree) (n k j : Nat) : Bytes :=
  (List.range 32).flatMap (fun c => natToLe 7 (t.counter n k j c)) ++ natToLe 2 (t.node (nodePos n k j)).gen ++ zeros 14

/-- The CMAC of a node over its place, generation, own version and bytes 0 to 239 (R262). -/
def nodeMac (key : Bytes) (k j gen ver : Nat) (head : Bytes) : Bytes :=
  aesCmac key (natToLe 1 k ++ natToLe 8 j ++ natToLe 2 gen ++ natToLe 7 ver ++ head)

/-- A node as it is written to host memory (R262). -/
def State.nodeBytes (s : State) (k j : Nat) : Bytes :=
  let t := s.store.tree
  let nd := t.node (nodePos s.store.n k j)
  let h := t.nodeHead s.store.n k j
  h ++ nodeMac (s.treeKey nd.gen) k j nd.gen nd.ver h

/-- The host address of an offset in the store space (R259). -/
def State.storeHost (s : State) (off : Nat) : Nat :=
  match (List.range 16).find? (fun e =>
      let st := s.rd (Reg.SST_EXT_MAP_START e) * 4096
      decide (st ≤ off) && decide (off < st + s.rd (Reg.SST_EXT_MAP_PAGES e) * 4096)) with
  | none => 0
  | some e => s.rd (Reg.SST_EXT_HOST_ADDR e) * 4096 + (off - s.rd (Reg.SST_EXT_MAP_START e) * 4096)

/-- Offset of a data line's tag. -/
def tagOffset (n i : Nat) : Nat := 256 * n + 16 * i
/-- Offset of a node. -/
def nodeOffset (n p : Nat) : Nat := 272 * n + 256 * p

/-- The number of a part in its request. -/
def StorePart.code : StorePart → Nat
  | .line => 0 | .tag => 1 | .node k => 2 + k
/-- The level of the item of a part: 0 a data line, k + 1 a node of level k. -/
def StorePart.level : StorePart → Nat
  | .node k => k + 1
  | _ => 0

/-- Whether a read holds the lock of an item (R266): it has not ended and reads a part of it. -/
def StoreRead.holds (r : StoreRead) (l i : Nat) : Bool :=
  decide (r.res = .waiting) && decide (r.line / 32 ^ l = i) && r.parts.any (fun p => p.part.level == l)

/-- The reads that a write of an item comes after at its lock (R266). -/
def Store.before (r : Store) (l i : Nat) : List Nat :=
  ((r.reads.filter (fun x => x.holds l i)).map (·.num) ++ (r.lock.filter (fun o => o.level == l && o.index == i)).flatMap (·.after)).eraseDups
/-- The reads that a read of an item comes after: those that a write before it waits for. -/
def Store.beforeRead (r : Store) (l i : Nat) : List Nat :=
  ((r.lock.filter (fun o => o.level == l && o.index == i)).flatMap (·.after)).eraseDups

/-- The place in the store space of a part of a line's read: offset and length. -/
def partPlace (n line : Nat) (p : StorePart) : Nat × Nat :=
  match p with
  | .line => (256 * line, 256)
  | .tag => (tagOffset n line, 16)
  | .node k => (nodeOffset n (nodePos n k (line / 32 ^ (k + 1))), 256)

/-- An access made at the host: a write through the store's port, or a part of a read asked for. -/
def State.storeDo (s : State) : StoreOp → State
  | .write off b => s.hostWrite s.storePort .store false (s.storeHost off) b .store
  | .ask num p =>
    match s.store.reads.find? (fun r => r.num == num) with
    | none => s
    | some r =>
      let x := partPlace s.store.n r.line p
      s.hostRead s.storePort .store (s.storeHost x.1) x.2 .store (.storeLine (num * 16 + p.code))

/-- Bytes of an item written to the store space, once the reads before it at its lock have ended (R266). -/
def State.storeWrite (s : State) (l i off : Nat) (b : Bytes) : State :=
  let w := s.store.before l i
  if w.isEmpty then s.storeDo (.write off b)
  else s.modStore (fun r => { r with lock := r.lock ++ [⟨l, i, w, .write off b⟩] })

/-- A read that has ended gives up its locks: what waited for it alone goes on, in order (R266). -/
def State.unlock (s : State) (num : Nat) : State :=
  let l := s.store.lock.map (fun (o : LockOp) => { o with after := o.after.filter (· ≠ num) })
  (l.filter (fun o => o.after.isEmpty)).foldl (fun s o => s.storeDo o.op)
    (s.modStore (fun r => { r with lock := l.filter (fun o => !o.after.isEmpty) }))

/-- Whether a write of the store has not been sent yet (R272, R282). -/
def State.storePending (s : State) : Bool :=
  !s.store.lock.isEmpty
    || (List.range 4).any (fun n => ((s.port n).qStore ++ (s.port n).fenced).any (fun k => decide (k.owner = .store) && decide (k.kind ≠ .mrd)))

/-- The nonce of a line (R261). -/
def lineNonce (i v : Nat) : Bytes := natToLe 5 i ++ natToLe 7 v

/-- Whether an item is poisoned: level 0 a data line, k + 1 a node of level k (R277). -/
def State.isPoisoned (s : State) (l i : Nat) : Bool := s.store.poison.any (fun p => p.1 == l && p.2.1 == i)
/-- Whether a node on the path of a line is poisoned. -/
def State.pathPoisoned (s : State) (i : Nat) : Bool := (List.range 6).any (fun k => s.isPoisoned (k + 1) (i / 32 ^ (k + 1)))

/-- The window of poisonings: 10 s where SST_INTEG_WIN reads 0. -/
def State.poisonWindow (s : State) : Nat :=
  if s.rd Reg.SST_INTEG_WIN_WINDOW = 0 then s.secRaw 10 else s.rd Reg.SST_INTEG_WIN_WINDOW

/-- The store-integrity fatal condition raised with a cause (R278, R336). -/
def State.storeFatal (s : State) (cause : Nat) : State :=
  ((s.wr Reg.SST_STAT_FATAL 1).latchCond 5).emit .storeFatal none srcStore cause 0 0

/-- Whether an item covers a data line. -/
def itemCovers (l i line : Nat) : Bool := decide (i * 32 ^ l ≤ line) && decide (line < (i + 1) * 32 ^ l)

/-- Whether a spilled entry has a part in a line that an item covers (R70, R278). -/
def State.spilledIn (s : State) (l i : Nat) (e : Entry) : Bool :=
  e.spilled && e.places.any (fun p => itemCovers l i (s.rd Reg.PRF_SPILL_AREA_BASE + p / 4))
/-- Whether a flow context lies in a line that an item covers (R51, R278). -/
def flowIn (l i : Nat) (f : Flow) : Bool := match f.stored with | some n => itemCovers l i n | none => false

/-- Whether an item covers a line that holds spilled entries or a flow context (R278). -/
def State.hitsProofer (s : State) (l i : Nat) : Bool :=
  s.prf.entries.any (s.spilledIn l i) || s.prf.flows.any (fun e => flowIn l i e.2)

/-- The commands and flow contexts that a poisoned item held, lost: no completion of them comes from this unit (R278). -/
def State.loseProofer (s : State) (l i : Nat) : State :=
  { s with prf := { s.prf with
    entries := s.prf.entries.filter (fun e => !s.spilledIn l i e)
    flows := s.prf.flows.filter (fun e => !flowIn l i e.2) } }

/-- An item poisoned (R277), with the fatal condition where R278 raises it. -/
def State.poisonItem (s : State) (l i : Nat) : State :=
  if s.isPoisoned l i then s
  else
    let full := decide (256 ≤ s.store.poison.length)
    let recent := s.store.poisonAt.filter (fun a => decide (s.now < a + s.poisonWindow)) ++ [s.now]
    let s1 := (s.modStore (fun r => { r with poison := if full then r.poison else r.poison ++ [(l, i, s.now)], poisonAt := recent })).inc
      (Reg.SST_CNT_COUNT 3)
    let s2 := s1.emit .storeLinePoisoned none srcStore l (hiWord i) (loWord i)
    let s3 := if max 1 (s2.rd Reg.SST_INTEG_CFG_THRESH) ≤ recent.length then s2.storeFatal 1 else s2
    let s4 := if 256 ≤ s3.store.poison.length then s3.storeFatal 2 else s3
    if s4.hitsProofer l i then (s4.loseProofer l i).storeFatal 3 else s4

/-- The generation under which the lines of a counter block are written. -/
def State.blockGen (s : State) (j : Nat) : Nat := (s.store.tree.node (nodePos s.store.n 0 j)).gen

/-- A position marked changed; a node below level 5 is held by the counter-tree cache (R264, R265). -/
def Store.touch (r : Store) (p : Nat) : Store :=
  { r with dirty := if r.dirty.contains p then r.dirty else p :: r.dirty
           cache := if r.cache.contains p ∨ (nodeAt r.n p).1 = 5 then r.cache else r.cache ++ [p] }

/-- The refusal of a write of the store engine by its MPU, if any (R421). -/
def State.storeRefusal (s : State) (off len : Nat) : Option MpuFault :=
  s.mpuFirst 8 .host ⟨.u, none, .write⟩ (s.storeHost off) len

/-- Whether a rekey runs. -/
def Store.rekeying (r : Store) : Bool := decide (r.gen.1 ≠ r.gen.2)

/-- A rekey begun (R279): cause 1 the register, 2 a counter about to reach its end. -/
def State.beginRekey (s : State) (cause : Nat) : State :=
  let g := s.store.gen.1
  (s.modStore (fun r => { r with gen := (g + 1, g), ptr := 0, rewritten := 0, mramRekey := some (g, g + 1, 0) })).emit
    .rekeyStarted none srcStore g (g + 1) cause

/-- A changed node written to host memory, or kept in guard SRAM for level 5 until a cut or a flush: its own version advances,
which changes its parent (R262, R265). Where that would bring the counter in its parent to its end, a rekey begins and the
parent goes to the new generation (R279); under the new generation the node stays changed until the rekey ends (R281). -/
def State.writeNode (s0 : State) (p : Nat) : State :=
  let (k, j) := nodeAt s0.store.n p
  let parent := nodePos s0.store.n (k + 1) (j / 32)
  let top := decide (2 ^ 56 - 1 ≤ (s0.store.tree.node p).ver + 1)
  let s := if top ∧ s0.store.rekeying = false then s0.beginRekey 2 else s0
  if top ∧ s0.store.rekeying then s
  else
    let s1 := s.modStore (fun r =>
      let nodes := tabMod Node.zero r.tree.nodes p (fun (nd : Node) => { nd with ver := nd.ver + 1 })
      { r with tree := ⟨r.tree.lines, if top ∧ k < 5 then tabMod Node.zero nodes parent (fun (nd : Node) => { nd with gen := r.gen.1 }) else nodes⟩
               dirty := r.dirty.filter (· ≠ p) })
    let s2 := if k < 5 then s1.modStore (fun r => r.touch parent) else s1
    match s2.storeRefusal (nodeOffset s2.store.n p) 256 with
    | none => s2.storeWrite (k + 1) j (nodeOffset s2.store.n p) (s2.nodeBytes k j)
    | some f => (s2.mpuReport 8 ⟨.u, none, .write⟩ f).poisonItem (k + 1) j

/-- Whether a cached node is the ancestor of another cached one, which pins it (R265). -/
def Store.pinned (r : Store) (p : Nat) : Bool :=
  let (k, j) := nodeAt r.n p
  r.cache.any (fun q => let x := nodeAt r.n q; decide (x.1 + 1 = k) && decide (x.2 / 32 = j))

/-- The counter-tree cache cut to its 4,096 nodes: the first come that pins nothing is evicted, and written back where it has
changed (R265; log entry 58). -/
def State.trimCache : Nat → State → State
  | 0, s => s
  | fuel + 1, s =>
    if s.store.cache.length ≤ 4096 then s
    else
      match s.store.cache.find? (fun p => !s.store.pinned p) with
      | none => s
      | some p =>
        let s1 := if s.store.dirty.contains p then s.writeNode p else s
        State.trimCache fuel (s1.modStore (fun r => { r with cache := r.cache.filter (· ≠ p) }))

/-- The ciphertext and the tag of a line written to host memory (R261, R265); a refused write poisons the line (R421). -/
def State.putLine (s : State) (i g v : Nat) (data : Bytes) : State :=
  let c := gcmSeal (s.dataKey g) (lineNonce i v) [] data
  match s.storeRefusal (256 * i) 256, s.storeRefusal (tagOffset s.store.n i) 16 with
  | none, none =>
    ((s.storeWrite 0 i (256 * i) c.1).storeWrite 0 i (tagOffset s.store.n i) c.2).inc (Reg.SST_CNT_COUNT 1)
  | some f, _ => (s.mpuReport 8 ⟨.u, none, .write⟩ f).poisonItem 0 i
  | none, some f => (s.mpuReport 8 ⟨.u, none, .write⟩ f).poisonItem 0 i

/-- A counter block moved to the new generation: its written lines get version 1 under it (R280). A poisoned line has nothing
that could be enciphered again: it stays poisoned. -/
def State.moveBlock (s : State) (j g : Nat) : State :=
  let p := nodePos s.store.n 0 j
  let s1 := (List.range 32).foldl (fun s c =>
    let i := 32 * j + c
    let ln := s.store.tree.line i
    if ln.ver = 0 then s
    else
      let s' := s.modStore (fun r => { r with tree := { r.tree with lines := tabSet Line.zero r.tree.lines i { ln with ver := 1 } } })
      if s.isPoisoned 0 i then s' else s'.putLine i g 1 ln.data) s
  s1.modStore (fun r =>
    let t : Tree := ⟨r.tree.lines, tabMod Node.zero r.tree.nodes p (fun (nd : Node) => { nd with gen := g })⟩
    Store.touch { r with tree := t } p)

/-- Whether a write of a line waits for the end of the rekey: it would take a counter under the new generation to its end
(R281). -/
def State.writeWaits (s : State) (i : Nat) : Bool :=
  s.store.rekeying && decide (2 ^ 56 - 1 ≤ (s.store.tree.line i).ver + 1) && decide (s.blockGen (i / 32) = s.store.gen.1)

/-- A write of a whole data line (R261, R277, R279, R281): whether it could be made, and the state. -/
def State.lineWrite (s : State) (i : Nat) (data : Bytes) : Bool × State :=
  if s.store.st ≠ .opened ∨ s.store.n ≤ i ∨ s.pathPoisoned i ∨ s.writeWaits i then (false, s)
  else
    let j := i / 32
    let top := decide (2 ^ 56 - 1 ≤ (s.store.tree.line i).ver + 1)
    let s0 := if top ∧ s.store.rekeying = false then s.beginRekey 2 else s
    let s1 := if top then s0.moveBlock j s0.store.gen.1 else s0
    let v := (s1.store.tree.line i).ver + 1
    let s2 := s1.modStore (fun r =>
      let t : Tree := ⟨tabSet Line.zero r.tree.lines i ⟨v, fitTo 256 data⟩, r.tree.nodes⟩
      Store.touch { r with tree := t, poison := r.poison.filter (fun p => !(p.1 == 0 && p.2.1 == i)) } (nodePos r.n 0 j))
    (true, (s2.putLine i (s2.blockGen j) v (fitTo 256 data)).trimCache 8)

/-- What a line holds, by the tree and the poison table (R261, R267, R277): what a read of it gives once the host's copy has
been verified. -/
def State.lineGet (s : State) (i : Nat) : ReadResult :=
  if s.store.st ≠ .opened ∨ s.store.n ≤ i then .lost
  else if s.isPoisoned 0 i ∨ s.pathPoisoned i then .poisoned
  else .good (fitTo 256 (s.store.tree.line i).data)

/-- A part of a line read asked of the host, once the writes before it at its lock have gone; where the engine's MPU refuses
it, the read fails at once (R266, R421). -/
def State.askPart (s : State) (num line : Nat) (p : StorePart) : State :=
  let x := partPlace s.store.n line p
  let a : MpuAccess := ⟨.u, none, .read⟩
  match s.mpuFirst 8 .host a (s.storeHost x.1) x.2 with
  | some f =>
    (s.mpuReport 8 a f).modStore (fun r => { r with
      reads := r.reads.map (fun (q : StoreRead) => if q.num = num then { q with failed := true } else q) })
  | none =>
    let l := p.level
    let w := s.store.beforeRead l (line / 32 ^ l)
    if w.isEmpty then s.storeDo (.ask num p)
    else s.modStore (fun r => { r with lock := r.lock ++ [⟨l, line / 32 ^ l, w, .ask num p⟩] })

/-- The levels of a line's path, from `low` up to the first node that the cache holds, whose nodes must be read: a node of
version 0 is known (R262, R265). -/
def State.pathLevels (s : State) (low i : Nat) : List Nat :=
  let at_ (k : Nat) : Nat := nodePos s.store.n k (i / 32 ^ (k + 1))
  (((List.range 5).filter (fun k => decide (low ≤ k))).takeWhile (fun k => !s.store.cache.contains (at_ k))).filter
    (fun k => decide ((s.store.tree.node (at_ k)).ver ≠ 0))

/-- A read with its parts begun: its number. The read is checked as the line and its path stand now (R266). -/
def State.beginRead (s : State) (i : Nat) (parts : List StorePart) : Nat × State :=
  let num := s.store.nextRead
  let part (p : StorePart) : PartRead :=
    ⟨p, none, false, match p with | .node k => (s.store.tree.node (nodePos s.store.n k (i / 32 ^ (k + 1)))).ver | _ => 0⟩
  let s1 := s.modStore (fun r => { r with
    nextRead := r.nextRead + 1
    reads := r.reads ++ [⟨num, i, parts.map part, false, ((r.tree.line i).ver, s.blockGen (i / 32)), .waiting⟩] })
  let nodes := (parts.filter (fun p => decide (p.level ≠ 0))).length
  (num, parts.foldl (fun s p => s.askPart num i p) (s1.addTo (Reg.SST_CNT_COUNT 2) nodes))

/-- A line read begun: its number. A line of version 0 needs no host read (R261); the nodes of the path up to the first that
the cache holds are read with it (R265). -/
def State.lineFetch (s : State) (i : Nat) : Nat × State :=
  let num := s.store.nextRead
  let s0 := s.inc (Reg.SST_CNT_COUNT 0)
  let add (res : ReadResult) : State :=
    s0.modStore (fun r => { r with nextRead := r.nextRead + 1, reads := r.reads ++ [⟨num, i, [], false, (0, 0), res⟩] })
  match s.lineGet i with
  | .good d =>
    if (s.store.tree.line i).ver = 0 then (num, add (.good d))
    else s0.beginRead i ([StorePart.line, StorePart.tag] ++ (s.pathLevels 0 i).map StorePart.node)
  | r => (num, add r)

/-- What an operation's line still needs of the host (R261, R265): its contents where they are read and were ever written, and
its path. -/
def State.needs (s : State) (q : Want) : List StorePart :=
  let path := (s.pathLevels q.low q.line).map StorePart.node
  if q.read ∧ (s.store.tree.line q.line).ver ≠ 0 then [StorePart.line, StorePart.tag] ++ path
  else if q.write then path
  else []

/-- Whether a line is ready for its operation: it can be neither read nor written at all, or what it needs has been verified,
and its write need not wait for a rekey (R265, R281). -/
def State.wantReady (s : State) (q : Want) : Bool :=
  match s.lineGet q.line with
  | .good _ =>
    !(q.write && s.writeWaits q.line)
      && ((s.needs q).isEmpty || s.store.checks.any (fun c => decide (c.2.1 = q.line) && c.2.2 && q.read
        && s.store.reads.any (fun r => decide (r.num = c.1) && decide (r.res ≠ .waiting))))
  | _ => true

/-- The reads that a line still needs begun, unless they run already. -/
def State.askWant (s : State) (q : Want) : State :=
  if s.wantReady q ∨ (s.needs q).isEmpty ∨ s.store.checks.any (fun c => decide (c.2.1 = q.line) && c.2.2 == q.read
      && s.store.reads.any (fun r => decide (r.num = c.1) && decide (r.res = .waiting))) then s
  else
    let s0 := if q.read then s.inc (Reg.SST_CNT_COUNT 0) else s
    let (num, s1) := s0.beginRead q.line (s.needs q)
    s1.modStore (fun r => { r with checks := r.checks ++ [(num, q.line, q.read)] })

/-- The reads made for a line given up. -/
def Store.dropChecks (r : Store) (line : Nat) : Store :=
  { r with reads := r.reads.filter (fun x => !(decide (x.res ≠ .waiting) && r.checks.any (fun c => decide (c.1 = x.num) && decide (c.2.1 = line))))
           checks := r.checks.filter (fun c => c.2.1 ≠ line) }

/-- The lines that an operation of S0, S1 or the Proofer needs: whether all are ready, with the reads made for them given up,
or the state in which those that are missing have been asked for. The operation waits for them (R265, R277). -/
def State.wantLines (s : State) (l : List Want) : Bool × State :=
  if l.all s.wantReady then (true, s.modStore (fun r => l.foldl (fun r q => r.dropChecks q.line) r)) else (false, l.foldl State.askWant s)

/-- A read changed. -/
def State.modRead (s : State) (num : Nat) (f : StoreRead → StoreRead) : State :=
  s.modStore (fun r => { r with reads := r.reads.map (fun x => if x.num = num then f x else x) })
/-- A read by its number. -/
def State.storeRead? (s : State) (num : Nat) : Option StoreRead := s.store.reads.find? (fun r => r.num == num)
/-- A read done with. -/
def State.dropRead (s : State) (num : Nat) : State :=
  (s.modStore (fun r => { r with reads := r.reads.filter (fun x => x.num ≠ num) })).unlock num

/-- A read ended: its locks are given up (R266). -/
def State.endRead (s : State) (num : Nat) (res : ReadResult) : State :=
  (s.modRead num (fun r => { r with res := res })).unlock num

/-- Bytes of a part arrived (R317). -/
def State.partArrived (s : State) (m : Nat) (data : Bytes) : State :=
  s.modRead (m / 16) (fun r => { r with parts := r.parts.map (fun (p : PartRead) =>
    if p.part.code = m % 16 then { p with data := some data } else p) })

/-- A part failed: it is issued once more; a second failure ends the read (R319). -/
def State.partFailed (s : State) (m : Nat) : State :=
  match s.storeRead? (m / 16) with
  | none => s
  | some r =>
    match r.parts.find? (fun p => p.part.code == m % 16) with
    | none => s
    | some p =>
      if p.again then s.modRead r.num (fun r => { r with failed := true })
      else (s.modRead r.num (fun r => { r with parts := r.parts.map (fun (q : PartRead) =>
        if q.part.code = m % 16 then { q with again := true } else q) })).askPart r.num r.line p.part

/-- Whether a generation of a node at a position is accepted (R280). -/
def Store.genOk (r : Store) (p g : Nat) : Bool :=
  if p < r.ptr then decide (g = r.gen.1) else decide (g = r.gen.1) || decide (g = r.gen.2)

/-- A node read from the host verified under its own version: its CMAC, generation and, by it, its contents (R262, R265, R277). -/
def State.nodeGood (s : State) (k j ver : Nat) (b : Bytes) : Bool :=
  let g := leAt b 224 2
  s.store.genOk (nodePos s.store.n k j) g && (slice b 240 16 == nodeMac (s.treeKey g) k j g ver (b.take 240)) && decide (b.length = 256)

/-- The line of a read opened with its tag, under the version and generation that the read found (R261, R266). -/
def State.lineGood (s : State) (r : StoreRead) (c tag : Bytes) : Option Bytes :=
  gcmOpen (s.dataKey r.at_.2) (lineNonce r.line r.at_.1) [] c tag

/-- STORE_LINE_READ_DONE: every part of a line read has arrived, or one has failed; the path is verified from the top and
then the line; a failure poisons the node or the line (R265, R277, R319). -/
def execStoreLineReadDone (read : Nat) (s : State) : Host.Outcome State Fault Refusal :=
  match s.storeRead? read with
  | none => .next s
  | some r =>
    if r.res ≠ .waiting ∨ (r.failed = false ∧ r.parts.any (fun p => p.data.isNone)) then .next s
    else if s.store.st ≠ .opened then .next (s.endRead read .lost)
    else if r.failed then .next ((s.poisonItem 0 r.line).endRead read .poisoned)
    else
      let got (p : StorePart) : Option PartRead := r.parts.find? (fun x => decide (x.part = p))
      let bad := [4, 3, 2, 1, 0].find? (fun k =>
        match got (.node k) with
        | none => false
        | some p => !s.nodeGood k (r.line / 32 ^ (k + 1)) p.ver (p.data.getD []))
      match bad with
      | some k => .next ((s.poisonItem (k + 1) (r.line / 32 ^ (k + 1))).endRead read .poisoned)
      | none =>
        let s1 := (s.modStore (fun x => { x with cache := (List.range 5).foldl (fun c k =>
          let p := nodePos x.n k (r.line / 32 ^ (k + 1))
          if (got (.node k)).isSome ∧ c.contains p = false then c ++ [p] else c) x.cache })).trimCache 8
        match got .line, got .tag with
        | some c, some tag =>
          match s.lineGood r (c.data.getD []) (tag.data.getD []) with
          | some d => .next (s1.endRead read (.good d))
          | none => .next ((s1.poisonItem 0 r.line).endRead read .poisoned)
        | _, _ => .next (s1.endRead read (.good (zeros 256)))

/-- Every dirty node of a level written. -/
def State.writeLevel (s : State) (k : Nat) : State :=
  (s.store.dirty.filter (fun p => decide ((nodeAt s.store.n p).1 = k))).foldl State.writeNode s

/-- Every dirty node written, level by level, the level-5 nodes last (R268, R272): the state and the number written. -/
def State.writeNodes (s : State) : Nat × State :=
  (List.range 6).foldl (fun (r : Nat × State) k =>
    let l := (r.2.store.dirty.filter (fun p => decide ((nodeAt r.2.store.n p).1 = k))).length
    (r.1 + l, r.2.writeLevel k)) (0, s)

/-- The root record of the store as it stands, under a number (R264, R274). -/
def State.rootOf (s : State) (num : Nat) : Root :=
  ⟨num, s.now, s.store.n, s.store.gen.1, s.store.gen.2, s.store.ptr, s.store.tree, s.tab.spilled, s.evr.archive,
    s.progs.images, s.progs.loaded, (s.tab.shadow, s.tab.shadowFilter)⟩

/-- The eight root counters: versions of the level-5 nodes (R264). -/
def Root.counters (r : Root) : Bytes :=
  (List.range 8).flatMap (fun j => natToLe 7 (if j < nodeCount r.n 5 then (r.tree.node (nodePos r.n 5 j)).ver else 0))

/-- The 64 bytes of a checkpoint record (R274). -/
def Root.bytes (r : Root) : Bytes :=
  natToLe 4 0x54534B43 ++ natToLe 4 r.num ++ natToLe 8 r.time ++ natToLe 8 r.n ++ natToLe 2 r.gen ++ natToLe 2 r.old
    ++ natToLe 4 r.ptr ++ shake256 16 r.counters ++ zeros 16

end Sys2Proof.Machine
end

