-- ==== Sys2Proof/Machine/KeyOps.lean ====
section
/-! DEFINITION. The key hierarchy's shared operations: tenants, master keys, key records, registries, challenges, signer
blocks, mirrored changes (R187 to R206, R346 to R351). -/

namespace Sys2Proof.Machine

/-- Keys, tenants and mailbox changed by a function. -/
def State.modKeys (s : State) (f : Keys → Keys) : State := { s with keys := f s.keys }
/-- A tenant. -/
def State.tenant (s : State) (t : Nat) : Tenant := tabGet Tenant.absent s.keys.tenants t
/-- A tenant changed. -/
def State.modTenant (s : State) (t : Nat) (f : Tenant → Tenant) : State :=
  s.modKeys (fun k => { k with tenants := tabMod Tenant.absent k.tenants t f })
/-- A mailbox slot (R221). -/
def State.slot (s : State) (k : Nat) : MbSlot := tabGet MbSlot.reset s.keys.mb k
/-- A mailbox slot changed. -/
def State.modSlot (s : State) (k : Nat) (f : MbSlot → MbSlot) : State :=
  s.modKeys (fun x => { x with mb := tabMod MbSlot.reset x.mb k f })
/-- The pair changed by a function. -/
def State.modPair (s : State) (f : Pair → Pair) : State := { s with pair := f s.pair }

/-- Whether a tenant's page is open: it was created, and its deletion has not started (R21, R218). -/
def State.pageOpen (s : State) (t : Nat) : Bool := (s.tenant t).exist && !(s.tenant t).deleting
/-- Whether a tenant reset of a tenant is in progress (R228). -/
def State.tenantResetting (s : State) (t : Nat) : Bool := s.keys.resets.any (fun r => r.tenant == t)
/-- Whether the device window is served: the firmware has opened it (R329). -/
def State.winOpen (s : State) : Bool := s.sys.window
/-- Whether a BREAK of a tenant's command halts its core (R102, R408). -/
def State.traceHalts (s : State) (t : Nat) : Bool :=
  match s.life.session with
  | some d => decide (d.scope = 2 ∧ d.tenant = t)
  | none => false

/-- A change of a mirrored item noted in the open epoch (R349); records are formed while a partner is seeded or being
seeded. The journal's 256 KiB are counted when the epoch closes. -/
def State.mirror (s : State) (c : Change) : State :=
  s.modPair (fun p => { p with
    oldest := some (p.oldest.getD s.time.cyc)
    recs := if p.st = .seedingOut ∨ p.st = .protected_ then p.recs ++ [c] else p.recs })

/-- Whether the journal of 256 KiB is full: each producer of a mirrored change waits (R349). -/
def State.journalFull (s : State) : Bool :=
  let p := s.pair
  (decide (p.st = .seedingOut) || decide (p.st = .protected_))
    && decide (262144 ≤ (p.journal.map (·.bytes)).foldl (· + ·) 0 + (p.recs.map (fun c => 16 + c.body.length)).foldl (· + ·) 0)

/-- The master key in a tenant's slot (R191). -/
def State.master (s : State) (t g : Nat) : Option MasterKey := tabGet none (s.tenant t).masters g
/-- The current generation of a kind (R192). -/
def State.currentGen (s : State) (t kind : Nat) : Option Nat := tabGet none (s.tenant t).current kind

/-- Whether a kind permits an ALG (R191). -/
def kindAlg (kind alg : Nat) : Bool := if kind = 2 then decide (1 ≤ alg ∧ alg ≤ 6) else decide (1 ≤ alg ∧ alg ≤ 2)

/-- The variant of a usage's first character (R195). -/
def variantOf (usage : Nat) : Option Nat :=
  match usage % 256 with
  | 0x4B => some 0x08 | 0x50 => some 0x22 | 0x4D => some 0x44 | 0x44 => some 0x66
  | 0x42 => some 0x88 | 0x43 => some 0xAA | 0x56 => some 0xCC | 0x45 => some 0xEE
  | _ => none

/-- Whether a record of an ALG and usage can be stored under a kind (R191, R195). -/
def kindFits (kind alg usage : Nat) : Bool := kindAlg kind alg && (decide (kind ≠ 0) || (variantOf usage).isSome)

/-- The fields of word A (R119): ALG, usage, mode, exportability, KVER, tenant, generation. -/
def wordAFields (w : Nat) : Nat × Nat × Nat × Nat × Nat × Nat × Nat :=
  (bitsAt w 0 8, bitsAt w 8 16, bitsAt w 24 8, bitsAt w 32 8, bitsAt w 40 16, bitsAt w 56 6, bitsAt w 62 2)

/-- Bytes 0 to 63 of a record (R194). -/
def recordHead (t h kind gen wordA klen nb na : Nat) (kcv : Bytes) (created : Nat) (label : Bytes) : Bytes :=
  natToLe 2 1 ++ natToLe 1 (gen + 4 * kind) ++ [0#8] ++ natToLe 4 (h + t * 2 ^ 24)
    ++ natToLe 8 (bitsAt wordA 0 56 + t * 2 ^ 56 + gen * 2 ^ 62) ++ natToLe 1 klen ++ zeros 7 ++ natToLe 8 nb ++ natToLe 8 na
    ++ fitTo 5 kcv ++ zeros 3 ++ natToLe 8 created ++ fitTo 8 label

/-- A key with a value XORed into byte 0 of each 8-byte part (R195). -/
def variantKey (key : Bytes) (v : Nat) : Bytes :=
  (chunks 8 key).flatMap (fun p => xorB p (natToLe 1 v ++ zeros 7))

/-- Whether a usage has no variant, its variant read as 0. -/
def variantOr (head : Bytes) : Nat := (variantOf (byteAt head 9)).getD 0

/-- The ALG of a master key: TDES three-key or AES-256. -/
def masterAlg (kind : Nat) : Nat := if kind = 2 then 5 else 2

/-- A whole record: head and the clear key field protected under a master key (R195). -/
def recordSeal (mk : MasterKey) (head clear : Bytes) : Bytes :=
  if mk.kind = 0 then
    let ct := ecb (tdesEnc (variantKey mk.key (variantOr head))) 8 clear
    let mac := cmac (tdesEnc (xorB mk.key (List.replicate 24 0xA6#8))) 8 (head ++ ct)
    head ++ ct ++ fitTo 16 mac ++ zeros 16
  else
    let a := masterAlg mk.kind
    let mac := cmac (blkEnc a (kbDerive a mk.key 1)) (algBlock a) (head ++ clear)
    head ++ (cbcEnc (blkEnc a (kbDerive a mk.key 0)) (algBlock a) (mac.take (algBlock a)) clear).1 ++ fitTo 16 mac ++ zeros 16

/-- The clear key field of a record, if its MAC holds (R195). -/
def recordOpen (mk : MasterKey) (r : Bytes) : Option Bytes :=
  let head := r.take 64
  let ct := slice r 64 32
  let mac := slice r 96 16
  if mk.kind = 0 then
    if fitTo 16 (cmac (tdesEnc (xorB mk.key (List.replicate 24 0xA6#8))) 8 (head ++ ct)) = mac then
      some (ecb (tdesDec (variantKey mk.key (variantOr head))) 8 ct)
    else none
  else
    let a := masterAlg mk.kind
    let clear := (cbcDec (blkDec a (kbDerive a mk.key 0)) (algBlock a) (mac.take (algBlock a)) ct).1
    if fitTo 16 (cmac (blkEnc a (kbDerive a mk.key 1)) (algBlock a) (head ++ clear)) = mac then some clear else none

/-- The reserved fields of a record that R194 says are zero. -/
def recordReserved (r : Bytes) : Bool :=
  decide (byteAt r 2 / 16 = 0) && decide (byteAt r 3 = 0) && decide (byteAt r 7 / 64 = 0) && allZero (slice r 17 7)
    && allZero (slice r 45 3) && allZero (slice r 112 16)

/-- Generation, kind, handle and tenant fields of a record. -/
def recordGen (r : Bytes) : Nat := byteAt r 2 % 4
/-- Kind field of a record. -/
def recordKind (r : Bytes) : Nat := byteAt r 2 / 4 % 4
/-- Handle field of a record. -/
def recordHandle (r : Bytes) : Nat := leAt r 4 3
/-- Tenant field of a record. -/
def recordTenant (r : Bytes) : Nat := byteAt r 7 % 64

/-- The fault of R196 that a record has against a handle and the master key of its slot, or its clear key field. A
record of another kind than the slot's master key has no MAC to check, so its other faults come first (log entry 9). -/
def recordFault (t h : Nat) (mk : MasterKey) (r : Bytes) : Nat ⊕ Bytes :=
  let w := wordAFields (leAt r 8 8)
  let rest : Option Nat :=
    if recordHandle r ≠ h ∨ recordTenant r ≠ t then some 2
    else if recordReserved r = false then some 3
    else if w.2.2.2.2.2.1 ≠ recordTenant r ∨ w.2.2.2.2.2.2 ≠ recordGen r then some 4
    else none
  if mk.kind ≠ recordKind r then .inl (rest.getD 5)
  else
    match recordOpen mk r with
    | none => .inl 1
    | some c => match rest with | some f => .inl f | none => .inr c

/-- The key that a record holds, from its head and its clear key field (R194, R120). -/
def recordKey (r clear : Bytes) : KeyVal :=
  let w := wordAFields (leAt r 8 8)
  let t (v : Nat) : Option Nat := if v = 0 then none else some v
  ⟨clear.take (byteAt r 16), w.1, w.2.1, w.2.2.1, w.2.2.2.1, w.2.2.2.2.1, recordTenant r, recordGen r, t (leAt r 24 8),
   t (leAt r 32 8), 0, 0, 0⟩

/-- LIMIT of a tenant, at most 0xFF_C000 (R234). -/
def State.handleLimit (s : State) (t : Nat) : Nat := min 0xFFC000 (s.rd (Reg.TBL_KH_CFG_LIMIT t))
/-- The line of a handle (R235). -/
def State.recordLine (s : State) (t h : Nat) : Nat := s.rd (Reg.TBL_KH_BASE_BASE t) + h / 2
/-- The record of a handle in its line (R235). -/
def recordIn (h : Nat) (line : Bytes) : Bytes := slice line (128 * (h % 2)) 128

/-- A record read by S0 or S1: bytes of the line's half. -/
def State.recordGet (s : State) (t h : Nat) : ReadResult :=
  match s.lineGet (s.recordLine t h) with
  | .good d => .good (recordIn h d)
  | r => r

/-- Whether a line's half holds a record (R237). -/
def holdsRecord (r : Bytes) : Bool := decide (leAt r 0 2 ≠ 0)

/-- Record counts after a half line changes (R193). -/
def State.countRecord (s : State) (t : Nat) (old new_ : Bytes) : State :=
  let dec (m : Table Nat) := if holdsRecord old then tabMod 0 m (recordGen old) (· - 1) else m
  let inc (m : Table Nat) := if holdsRecord new_ then tabMod 0 m (recordGen new_) (· + 1) else m
  s.modTenant t (fun x => { x with records := inc (dec x.records) })

/-- A record written, or a zero one: whether the line could be written, and the state. -/
def State.recordPut (s : State) (t h : Nat) (r : Bytes) : Bool × State :=
  match s.lineGet (s.recordLine t h) with
  | .good d =>
    let w := s.lineWrite (s.recordLine t h) (patch d (128 * (h % 2)) r)
    if w.1 then
      let s1 := w.2.countRecord t (recordIn h d) r
      (true, s1.mirror (if holdsRecord r then ⟨3, 1, t, h, r⟩ else ⟨3, 2, t, h, []⟩))
    else (false, s)
  | _ => (false, s)

/-- Whether an identifier names a custodian, and of which tenant (R203). -/
def custodianOf (id : Nat) : Option Nat :=
  if 0x1000 ≤ id ∧ id < 0x1400 ∧ id % 16 < 8 then some ((id - 0x1000) / 16) else none

/-- A registered credential (R203): without a root key no entry authenticates (R190). -/
def State.cred? (s : State) (id : Nat) : Option Credential :=
  if s.keys.root.isNone then none
  else match custodianOf id with
  | some t => (s.tenant t).custodians.find? (fun c => c.id == id)
  | none => s.keys.officers.find? (fun c => c.id == id)

/-- Roles (R203). -/
def roleAdmin : Nat := 0
/-- AUDIT of an officer, COMP of a custodian: bit 1. -/
def roleOne : Nat := 1
/-- KEYS of an officer, AUTH of a custodian: bit 2. -/
def roleTwo : Nat := 2

/-- A signer block taken off the front of a byte string (R204): algorithm, key, signature and the rest. -/
def signerBlock (b : Bytes) : Option (Nat × Bytes × Bytes × Bytes) :=
  let cut (a k g : Nat) : Option (Nat × Bytes × Bytes × Bytes) :=
    if b.length < 4 + k + g then none else some (a, slice b 4 k, slice b (4 + k) g, b.drop (4 + k + g))
  if b.length < 4 ∨ allZero (slice b 1 3) = false then none
  else if byteAt b 0 = 1 then cut 1 97 96
  else if byteAt b 0 = 2 then cut 2 1952 3309
  else none

/-- Whether a signature of an officer's or custodian's key verifies (R204). -/
def credVerify (alg : Nat) (pk sig msg : Bytes) : Bool :=
  if alg = 1 then
    match p384.decode pk with
    | none => false
    | some q => p384.verify q (sha512 msg) sig
  else Config.mldsaVerify 8 pk msg sig

/-- Whether a public key is that of a credential (R203). -/
def Credential.isKey (c : Credential) (alg : Nat) (pk : Bytes) : Bool :=
  c.alg == alg && shake256 32 pk == c.digest

/-- The challenge life at the present policy, as a device-time interval (R207). -/
def State.chalLife (s : State) : Nat := s.secRaw s.keys.policy.chalLife

/-- A new challenge issued (R202): 32 bytes of S0's instance; a 17th retires the oldest. While the instance gives no
bytes S0 waits. -/
def State.newChallenge (s : State) : Option (Bytes × State) :=
  (s.drbgBytes 192 32).map (fun r => (r.1, r.2.modKeys (fun k =>
    { k with chals := (Challenge.mk r.1 (s.now + s.chalLife) :: k.chals).take 16 })))

/-- A challenge consumed, if it is outstanding and unexpired (R202). -/
def State.useChallenge (s : State) (c : Bytes) : Option State :=
  match s.keys.chals.find? (fun x => x.value == c && decide (s.now < x.until_)) with
  | none => none
  | some x => some (s.modKeys (fun k => { k with chals := k.chals.erase x }))

/-- Whether device time is trusted or in holdover (R206). -/
def State.timeGood (s : State) : Bool := decide (s.time.state ≠ .untrusted)

/-- An open ceremony abandoned (R209): its staging buffer is zeroised and the slot is unchanged. Causes: 1 NOT_AFTER,
2 ABORT, 3 untrusted time, 4 revocation, 5 tenant reset, 6 a reset, 7 end of the session, 8 weak key, 9 check value
(log entry 10). -/
def State.abandon (s : State) (o : OpenLoad) (cause : Nat) : State :=
  (s.modKeys (fun k => { k with opens := k.opens.erase o })).emit .ceremonyAbandoned (some o.tenant) srcS0 o.tenant 0x12
    (Config.causeNumber 0xB05 cause)

/-- The serial port changed by a function. -/
def State.modCsp (s : State) (f : Csp → Csp) : State := s.modKeys (fun k => { k with csp := f k.csp })

/-- The bytes of a frame (R214): length and CRC little-endian. -/
def cspFrame (type seq : Nat) (data : Bytes) : Bytes :=
  let m := natToLe 1 type ++ natToLe 1 seq ++ natToLe 2 data.length ++ data
  0x7E#8 :: m ++ natToLe 2 (crc16 m)

/-- A frame of S0 to the terminal that waits for its answer (R214). -/
def State.cspSend (s : State) (type : Nat) (data : Bytes) : State :=
  s.modCsp (fun c =>
    let f := cspFrame type c.seq data
    { c.give f with seq := (c.seq + 1) % 256, sent := c.sent ++ [⟨f, c.seq, 0, s.now⟩] })

/-- An open ceremony abandoned by an event of its own: one that arrived on the serial port's open session returns ABANDONED
there (R209). -/
def State.abandonOne (s : State) (o : OpenLoad) (cause : Nat) : State :=
  let s1 := s.abandon o cause
  if o.csp ∧ s1.keys.csp.terminal.isSome then s1.cspSend 0x83 (natToLe 2 MbResult.abandoned.code) else s1

/-- The open ceremonies of a kind abandoned. -/
def State.abandonIf (s : State) (p : OpenLoad → Bool) (cause : Nat) : State :=
  (s.keys.opens.filter p).foldl (fun s o => s.abandonOne o cause) s

/-- Authorised states of a mask ended (R212). -/
def State.endAuth (s : State) (t mask cause : Nat) : State :=
  let x := s.tenant t
  let m := b2n (bitAt mask 0 && x.keymgmt.isSome) + 2 * b2n (bitAt mask 1 && x.export_.isSome)
  if m = 0 then s
  else
    (s.modTenant t (fun x => { x with keymgmt := if bitAt m 0 then none else x.keymgmt
                                      export_ := if bitAt m 1 then none else x.export_ })).emit
      .authStateEnded (some t) srcS0 t m cause

end Sys2Proof.Machine
end

