-- ==== Sys2Proof/Machine/TabBase.lean ====
section
/-! DEFINITION. Access to the terminal table for the cores (R246, R250). -/

namespace Sys2Proof.Machine

/-- The tables changed by a function. -/
def State.modTab (s : State) (f : Tables → Tables) : State := { s with tab := f s.tab }

/-- The fields of a tenant's key-handle registers: BASE, LIMIT, RBASE, GENOCC, LEARN, EVICT, MOVE_EVENT. -/
def khFields (t : Nat) : List Field :=
  [Reg.TBL_KH_BASE_BASE t, Reg.TBL_KH_CFG_LIMIT t, Reg.TBL_KH_CFG_RBASE t, Reg.TBL_KH_CFG_GENOCC t, Reg.TBL_T_POL_LEARN t,
    Reg.TBL_T_POL_EVICT t, Reg.TBL_T_POL_MOVE_EVENT t]
/-- S1's shadow of a tenant's key-handle registers brought up to date after S0 or S1 wrote them (R235). -/
def State.noteHandles (s : State) (t : Nat) : State :=
  s.modTab (fun b => { b with shadowKh := tabSet [] b.shadowKh t ((khFields t).map s.rd) })

/-- A terminal entry on chip. -/
def State.term? (s : State) (tenant id : Nat) : Option Term := s.tab.terms.find? (fun t => t.tenant == tenant && t.id == id)
/-- A terminal entry on chip changed. -/
def State.modTerm (s : State) (tenant id : Nat) (f : Term → Term) : State :=
  s.modTab (fun t => { t with terms := t.terms.map (fun e => if e.tenant = tenant ∧ e.id = id then f e else e) })

/-- The copy of its terminal context that a command takes to its core (R250). -/
def State.termLoad (s : State) (e : Entry) : Option TermCopy :=
  if e.tctx then
    (s.term? e.tenant e.ctxKey).map (fun t => ⟨t.id, t.counter, t.flags, t.age, t.port⟩)
  else none

/-- What an entry holds in the tables until it ends given up: its pins of the key cache, where a STALE key that no entry
pins is dropped (R54, R238), and its places in pending fetches and pending inserts. A fetch or a learning goes on without
it. -/
def State.unpinKeys (s : State) (e : Entry) : State :=
  s.modTab (fun t => { t with
    cache := (t.cache.map (fun (c : CacheKey) => { c with pins := c.pins.filter (· ≠ e.id) })).filter
      (fun c => !(c.stale && c.pins.isEmpty))
    fetches := t.fetches.map (fun (f : KeyFetch) => { f with waiting := f.waiting.filter (fun w => w.1 ≠ e.id) })
    inserts := t.inserts.map (fun (i : Insert) => { i with waiting := i.waiting.filter (· ≠ e.id) }) })

/-- All that an entry holds in the tables given up, its reference to a terminal entry too, which it holds until it leaves
the store (R247). -/
def State.unpinEntry (s : State) (e : Entry) : State :=
  (s.unpinKeys e).modTab (fun t => { t with
    terms := t.terms.map (fun (x : Term) => { x with refs := x.refs.filter (· ≠ e.id) }) })

end Sys2Proof.Machine
end

