-- ==== Sys2Proof/Machine/Reads.lean ====
section
/-! DEFINITION. What a host read does for the master that asked, when its bytes have arrived and when it has failed
(R317, R319). -/

namespace Sys2Proof.Machine

/-- A transfer of a core changed. -/
def State.modXfer (s : State) (n num : Nat) (f : Xfer → Xfer) : State :=
  s.modCore n (fun c => { c with xfers := c.xfers.map (fun x => if x.num = num then f x else x) })

/-- The bytes of a read handed to its master. -/
def State.readArrived (s : State) (u : ReadFor) (data : Bytes) : State :=
  match u with
  | .descriptors t q => s.modSq t q (fun r => { r with fetch := r.fetch.map (fun (f : FetchRead) => { f with data := some data }) })
  | .transfer n num off => s.modXfer n num (fun x => { x with parts := x.parts - 1, got := x.got ++ [(off, data)] })
  | .storeLine m => s.partArrived m data
  | .mailbox k off => s.modSlot k (fun b => { b with reads := b.reads - 1, bytes := patch b.bytes off data })
  | .boot off => { s with sys := { s.sys with reads := s.sys.reads - 1, image := patch s.sys.image off data } }

/-- A read that ended badly: `timeout` is a completion time-out, else UR or CA (R319). -/
def State.readFailed (s : State) (u : ReadFor) (timeout : Bool) : State :=
  match u with
  | .transfer n num _ =>
    s.modXfer n num (fun x => { x with parts := x.parts - 1, fail := some (x.fail.getD (if timeout then .aborted else .refused)) })
  | .storeLine m => s.partFailed m
  | .mailbox k _ => s.modSlot k (fun b => { b with reads := b.reads - 1, failed := true })
  | .boot _ => { s with sys := { s.sys with reads := s.sys.reads - 1, failed := true } }
  | .descriptors t q => s.modSq t q (fun x => { x with fetch := none, error := true })

end Sys2Proof.Machine
end

