-- ==== Sys2Proof/Machine/PrfOps.lean ====
section
/-! DEFINITION. The Proofer's shared operations: readiness, completion of entries, stop on error, cancel, core choice,
tokens (chapter 3). -/

namespace Sys2Proof.Machine

/-- The Proofer changed by a function. -/
def State.modPrf (s : State) (f : Proofer → Proofer) : State := { s with prf := f s.prf }
/-- An entry by its name. -/
def State.entry? (s : State) (id : Nat) : Option Entry := s.prf.entries.find? (fun e => e.id == id)
/-- An entry changed. -/
def State.modEntry (s : State) (id : Nat) (f : Entry → Entry) : State :=
  s.modPrf (fun p => { p with entries := p.entries.map (fun e => if e.id = id then f e else e) })

/-- The key of a flow context (R51). -/
def flowKey (tenant flow : Nat) : Nat := tenant * 2 ^ 20 + flow
/-- A flow context. -/
def State.flow (s : State) (tenant flow : Nat) : Flow := tabGet Flow.fresh s.prf.flows (flowKey tenant flow)
/-- A flow context changed. -/
def State.modFlow (s : State) (tenant flow : Nat) (f : Flow → Flow) : State :=
  s.modPrf (fun p => { p with flows := tabMod Flow.fresh p.flows (flowKey tenant flow) f })

/-- Whether an entry is a member of its flow's sequence (R55). -/
def Entry.member (e : Entry) : Bool := decide (e.mode ≠ .relaxed)
/-- Whether two entries are members of one sequence. -/
def Entry.sameSeq (a b : Entry) : Bool := a.member && b.member && a.tenant == b.tenant && a.flow == b.flow

/-- Whether an entry has not ended: it waits, or is staged or running (R56). -/
def Entry.alive (e : Entry) : Bool := decide (e.phase ≠ .ended)
/-- Whether an entry is in the store and not dispatched. -/
def Entry.inStore (e : Entry) : Bool := decide (e.phase = .waiting)
/-- The core of a staged or running command. -/
def Entry.core? (e : Entry) : Option Nat :=
  match e.phase with
  | .staged c => some c
  | .running c => some c
  | _ => none

/-- The TURN condition (R56): an atomic member waits for every earlier member of the sequence to end, an ordered one
for every earlier atomic member. -/
def State.turn (s : State) (b : Entry) : Bool :=
  s.prf.entries.all (fun a =>
    !(a.sameSeq b && decide (a.id < b.id) && a.alive && (decide (b.mode = .atomic) || decide (a.mode = .atomic))))

/-- The FENCE condition: every earlier command of the ring has been released (R52). -/
def State.fenceOk (s : State) (b : Entry) : Bool :=
  s.prf.entries.all (fun a => !(a.tenant == b.tenant && a.ring == b.ring && decide (a.id < b.id)))

/-- Whether the RAND bit of an entry is set (R52, R302). -/
def State.randOk (s : State) (e : Entry) : Bool :=
  !e.needRand || (s.bit Reg.ENT_STAT_FIRST_SEED && !s.ent.starved)

/-- The readiness bits of an entry as a mask (R52). -/
def State.readyMask (s : State) (e : Entry) : Nat :=
  b2n e.keys + 2 * b2n e.tctxOk + 4 * b2n (!e.member || s.turn e) + 8 * b2n (!e.fence || s.fenceOk e)
    + 16 * b2n e.time + 32 * b2n e.token + 64 * b2n e.segsOk + 128 * b2n (s.randOk e)

/-- Whether every bit but TOKEN is set (R63). -/
def State.readyButToken (s : State) (e : Entry) : Bool :=
  e.inStore && !e.spilled && decide ((s.readyMask e) ||| 32 = 255)

/-- Whether all eight bits are set. -/
def State.ready (s : State) (e : Entry) : Bool := e.inStore && !e.spilled && decide (s.readyMask e = 255)

/-- The operand time-out: 50 ms where PRF_OPTMO reads 0. -/
def State.opTimeout (s : State) : Nat :=
  if s.rd Reg.PRF_OPTMO_INTERVAL = 0 then s.msRaw 50 else s.rd Reg.PRF_OPTMO_INTERVAL

/-- Whether the operand time-out has expired with a covered bit clear (R53): KEYS and TCTX by the start of their resolution,
which a spill ends and a refill starts again (R70, R71); SEGS and RAND by the entry of the first segment. -/
def State.operandsLate (s : State) (e : Entry) : Bool :=
  ((!e.keys || !e.tctxOk) && !e.spilled && decide (e.opStart + s.opTimeout ≤ s.now))
    || ((!e.segsOk || !s.randOk e) && decide (e.created + s.opTimeout ≤ s.now))

/-- Whether the flow is stopped by a member before an entry (R59). -/
def State.stoppedFor (s : State) (e : Entry) : Bool :=
  e.member && !(s.flow e.tenant e.flow).stoppedBy.isEmpty
    && s.prf.entries.any (fun a =>
      a.sameSeq e && decide (a.id < e.id) && (s.flow e.tenant e.flow).stoppedBy.contains a.seqNo)

/-- The outcome that the dispatch stage gives an entry before dispatch, in the order of R66. -/
def State.decided (s : State) (e : Entry) : Option Status :=
  if s.tenantResetting e.tenant then some .tenantReset
  else if e.cancelled then some .cancelled
  else if e.deadline ≠ 0 ∧ e.deadline ≤ s.now then some .deadlineMissed
  else if s.stoppedFor e then some .flowAborted
  else if e.timedOut then some (if s.randOk e then .operandTimeout else .entropyUnavailable)
  else none

/-- A tenant's head entry: ready but for TOKEN, highest priority, then oldest (R63). -/
def State.headEntry (s : State) (t : Nat) : Option Entry :=
  (s.prf.entries.filter (fun e => e.tenant == t && !e.token && s.readyButToken e)).foldl
    (fun (b : Option Entry) e =>
      match b with
      | none => some e
      | some x => if x.prio < e.prio then some e else some x) none

/-- A tenant with no head entry waiting has its deficit set to 0 (R63). -/
def State.settleDeficit (s : State) (t : Nat) : State :=
  if tabGet 0 s.prf.deficit t ≠ 0 ∧ (s.headEntry t).isNone then s.modPrf (fun p => { p with deficit := tabSet 0 p.deficit t 0 })
  else s

/-- The deficits settled after a change that may leave any tenant without a head entry, as STARVED does (R63, R302). -/
def State.settleAll (s : State) : State := (List.range 64).foldl State.settleDeficit s

/-- The pause of a tenant at its quota noted and recorded when it begins, and forgotten when it has ended (R72, R73). -/
def State.noteQuota (s : State) (t : Nat) : State :=
  let n := (s.prf.entries.filter (fun e => e.tenant == t)).foldl (fun n e => n + e.cells) 0
  let quota := s.rd (Reg.PRF_T_QUOTA_ENTRIES t)
  if n < quota then s.modPrf (fun p => { p with paused := p.paused.filter (· ≠ t) })
  else if s.prf.paused.contains t then s
  else (s.modPrf (fun p => { p with paused := t :: p.paused })).emit .quotaPause (some t) (Config.blockSource 0) t n quota

/-- An entry ended with a status and a program status; its message, if open, is closed and its pins are released;
a tenant reset counts it (R43, R54, R229). -/
def State.endEntry (s : State) (id : Nat) (st : Status) (ps : Nat) : State :=
  match s.entry? id with
  | none => s
  | some e =>
    let s0 := if st = .tenantReset ∧ e.alive then s.modKeys (fun k => { k with resets := k.resets.map (fun (r : TenReset) =>
      if r.tenant = e.tenant then { r with done := r.done + 1 } else r) }) else s
    let s1 := s0.unpinKeys e
    let s2 := if e.msgOpen then s1.modSq e.tenant e.ring (fun r => if r.openMsg = some id then { r with openMsg := none } else r)
      else s1
    (s2.modEntry id (fun e => { e with phase := .ended, status := st, pstatus := ps, spilled := false, places := [], msgOpen := false
                                       cancelLate := e.cancelLate || (e.cancelled && decide (st ≠ .cancelled)) })).settleDeficit e.tenant

/-- Whether a status ending a member with SOE stops its flow (R59). -/
def stopsFlow (e : Entry) (st : Status) : Bool :=
  e.soe && e.member && decide (st ≠ .ok) && decide (st ≠ .cancelled) && decide (st ≠ .flowAborted)

/-- The flow's stop recorded (R59, R73): a dispatched member always, one that fails before dispatch when the flow was
not already stopped. -/
def State.markStop (s : State) (e : Entry) (dispatched : Bool) : State :=
  let was := !(s.flow e.tenant e.flow).stoppedBy.isEmpty
  let s1 := s.modFlow e.tenant e.flow (fun f => { f with stoppedBy := f.stoppedBy ++ [e.seqNo] })
  if dispatched ∨ was = false then s1.emit .flowStopped (some e.tenant) (Config.blockSource 0) e.tenant e.flow e.seqNo
  else s1

/-- Later members of a stopped flow that are not dispatched leave the store with the outcome of R66, FLOW_ABORTED unless
an earlier row holds (R59). -/
def State.abortLater (s : State) (e : Entry) : State :=
  (s.prf.entries.filter (fun b => e.sameSeq b && decide (e.id < b.id) && b.inStore)).foldl (fun s b =>
    match s.decided b with
    | some st => s.endEntry b.id st 0
    | none => s.endEntry b.id .flowAborted 0) s

/-- A command ended with its status, its flow stopped where R59 says so. -/
def State.finish (s : State) (id : Nat) (st : Status) (ps : Nat) : State :=
  match s.entry? id with
  | none => s
  | some e =>
    let dispatched := e.core?.isSome
    let s1 := s.endEntry id st ps
    if stopsFlow e st then (s1.markStop e dispatched).abortLater e else s1

/-- A waiting entry completed with the outcome that the dispatch stage decides (R66, R53). -/
def State.applyDecided (s : State) (e : Entry) (st : Status) : State :=
  match st with
  | .operandTimeout => s.finish e.id st (255 - s.readyMask e)
  | .entropyUnavailable => s.finish e.id st (255 - s.readyMask e)
  | _ => s.finish e.id st 0

/-- What a cancel does to one command that it reaches (R67). -/
def State.cancelOne (s : State) (e : Entry) : State :=
  match e.phase with
  | .waiting => (s.modEntry e.id (fun e => { e with cancelled := true })).finish e.id .cancelled 0
  | .staged c => (s.modEntry e.id (fun e => { e with cancelled := true })).setCancelFlag c e.id
  | .running c => (s.modEntry e.id (fun e => { e with cancelled := true })).setCancelFlag c e.id
  | .ended => s.modEntry e.id (fun e => { e with cancelled := true, cancelLate := true })

/-- The commands that a cancel reaches: those of the target ring with the tag, not reached before (R41). -/
def State.cancelTargets (s : State) (tenant ring tag : Nat) : List Entry :=
  s.prf.entries.filter (fun e => e.tenant == tenant && e.ring == ring && e.tag == tag && !e.cancelled && !e.ctrl)

/-- The effect of a cancel on its targets, and the number reached (R41, R67). A command of a tenant in reset, or of a
ring in reset, has already left the store. -/
def State.cancelAll (s : State) (tenant ring tag : Nat) : Nat × State :=
  let l := s.cancelTargets tenant ring tag
  (l.length, l.foldl (fun s e => s.cancelOne e) s)

/-- Whether a cluster is in service for dispatch (PRF_DISP) and not drained. -/
def State.clusterServes (s : State) (c : Nat) : Bool :=
  bitAt s.ras.inService c && !s.prf.drained.contains c

/-- Commands running and staged on a core. -/
def State.coreLoad (s : State) (n : Nat) : Nat := (s.prf.entries.filter (fun e => e.core? == some n)).length
/-- Whether a core's staged slot is free: it is taken by a staged command (R65). -/
def State.stagedFree (s : State) (n : Nat) : Bool := s.prf.entries.all (fun e => decide (e.phase ≠ .staged n))
/-- Whether a core lies in a cluster of the tenant's allowed set that serves. -/
def State.allowed (s : State) (t n : Nat) : Bool :=
  s.clusterServes (n / 8) && bitAt (s.rd (Reg.PRF_T_PLACE_CLMASK t)) (n / 8)
/-- Whether a core is eligible for a tenant (R65). -/
def State.eligible (s : State) (t n : Nat) : Bool := s.allowed t n && s.stagedFree n

/-- The member of a list of cores with the fewest commands, the lowest number among equals. -/
def State.leastLoaded (s : State) (l : List Nat) : Option Nat :=
  l.foldl (fun (b : Option Nat) n =>
    match b with
    | none => some n
    | some m => if s.coreLoad n < s.coreLoad m then some n else some m) none

/-- Rows 2 and 3 of R65 among the cores of a list. -/
def State.chooseRest (s : State) (e : Entry) (l : List Nat) : Option Nat :=
  let res := l.filter (fun n => s.resident n e.image)
  match res.find? (fun n => s.coreLoad n == 0) with
  | some n => some n
  | none => if res.isEmpty then s.leastLoaded l else s.leastLoaded res

/-- The core that R65 chooses among the cores of a list. -/
def State.chooseAmong (s : State) (e : Entry) (l : List Nat) : Option Nat :=
  match (s.flow e.tenant e.flow).lastCore with
  | some c => if l.contains c then some c else s.chooseRest e l
  | none => s.chooseRest e l

/-- The core that the dispatch stage chooses for an entry (R65). -/
def State.coreChoice (s : State) (e : Entry) : Option Nat :=
  s.chooseAmong e ((List.range 192).filter (fun n => s.eligible e.tenant n))

/-- Running and staged commands of a tenant (R65). -/
def State.tenantLoad (s : State) (t : Nat) : Nat :=
  (s.prf.entries.filter (fun e => e.tenant == t && e.core?.isSome)).length

/-- The idle cores that granted entries, in the order of their grants, claim (R63). -/
def State.claimed (s : State) : List Nat :=
  let granted := (s.prf.entries.filter (fun e => e.inStore && e.token)).mergeSort (fun a b => decide (a.tokenAt ≤ b.tokenAt))
  granted.foldl (fun cl e =>
    let idle := (List.range 192).filter (fun n => s.eligible e.tenant n && s.coreLoad n == 0 && !cl.contains n)
    match s.chooseAmong e idle with
    | some c => c :: cl
    | none => cl) []

/-- Whether an idle core of the tenant's allowed set is claimed by no granted entry (R63). -/
def State.unclaimedIdle (s : State) (t : Nat) : Bool :=
  let cl := s.claimed
  (List.range 192).any (fun n => s.eligible t n && s.coreLoad n == 0 && !cl.contains n)

/-- TOKEN given to an entry. -/
def State.giveToken (s : State) (id : Nat) : State :=
  (s.modEntry id (fun e => { e with token := true, tokenAt := s.prf.nextToken })).modPrf
    (fun p => { p with nextToken := p.nextToken + 1 })

/-- Whether a tenant meets the surplus row of R63. -/
def State.surplusRow (s : State) (t : Nat) : Bool :=
  decide (tabGet 0 s.prf.bucket t < 65536) && decide (s.rd (Reg.PRF_T_SHARE_WEIGHT t) ≠ 0)
    && (s.headEntry t).isSome && s.unclaimedIdle t

/-- The surplus grants of one visit: while the deficit is at least 1 and the row holds (R63). -/
def State.surplusVisit (t : Nat) : Nat → State → State
  | 0, s => s
  | fuel + 1, s =>
    if 1 ≤ tabGet 0 s.prf.deficit t ∧ s.surplusRow t then
      match s.headEntry t with
      | none => s
      | some e =>
        State.surplusVisit t fuel (((s.giveToken e.id).modPrf (fun p =>
          { p with deficit := tabMod 0 p.deficit t (· - 1) })).settleDeficit t)
    else s

/-- The next tenant of the surplus round: the first after the last one visited that meets the row (R63). -/
def State.nextSurplus (s : State) : Option Nat :=
  ((List.range 64).map (fun k => (s.prf.lastVisit + 1 + k) % 64)).find? (fun t => s.surplusRow t)

/-- Matching-store entries on chip (R70). -/
def State.onChip (s : State) : Nat := (s.prf.entries.filter (fun e => !e.spilled)).foldl (fun n e => n + e.cells) 0
/-- Matching-store entries spilled. -/
def State.spilledCells (s : State) : Nat := (s.prf.entries.filter (fun e => e.spilled)).foldl (fun n e => n + e.cells) 0
/-- Entries of a tenant, on chip and spilled (R72). -/
def State.tenantCells (s : State) (t : Nat) : Nat :=
  (s.prf.entries.filter (fun e => e.tenant == t)).foldl (fun n e => n + e.cells) 0
/-- HIGH, at most 65,536. -/
def State.spillHigh (s : State) : Nat := min 65536 (s.rd Reg.PRF_SPILL_CFG_HIGH)

/-- The histogram bin of a wait in quanta (PRF_T_WAITH). -/
def waitBin (quanta : Nat) : Nat := if quanta < 2 then 0 else min 15 (Nat.log2 quanta)

/-- The value of PRF_T_RATE for a guaranteed rate: rate times the period in seconds, to nearest (R219). -/
def State.rateValue (s : State) (rate : Nat) : Nat := (rate * s.periodNs + 500000000) / 1000000000

/-- PRF_T_RATE, SHARE, PLACE and QUOTA written from a block; the bucket clipped to BURST (R219). -/
def State.writeLevels (s : State) (t : Nat) (p : Bytes) : State :=
  let s1 := ((s.wr (Reg.PRF_T_RATE_RATE t) (s.rateValue (leAt p 4 4))).wr (Reg.PRF_T_SHARE_WEIGHT t) (byteAt p 10)).wr
    (Reg.PRF_T_SHARE_BURST t) (leAt p 8 2)
  let s2 := ((s1.wr (Reg.PRF_T_PLACE_CORE_CAP t) (byteAt p 11)).wr (Reg.PRF_T_PLACE_CLMASK t) (leAt p 12 3)).wr
    (Reg.PRF_T_QUOTA_ENTRIES t) (leAt p 16 3)
  s2.modPrf (fun x => { x with bucket := tabMod 0 x.bucket t (fun l => min l (leAt p 8 2 * 65536)) })

end Sys2Proof.Machine
end

