-- ==== Sys2Proof/Machine/TableOps.lean ====
section
/-! DEFINITION. The lookup tables' shared operations: terminal entries and the spill table, the key cache and its fetches, the
Sieve, operand resolution (R234 to R255). -/

namespace Sys2Proof.Machine

/-- A terminal entry as its 32 bytes (R246); the pointer field is zero. -/
def Term.bytes (t : Term) : Bytes :=
  natToLe 8 t.id ++ natToLe 8 t.counter ++ natToLe 8 t.age ++ natToLe 2 t.flags ++ natToLe 1 (t.tenant % 64 + 64 * (t.port % 4))
    ++ natToLe 1 (1 + 2 * b2n t.dirty + 4 * b2n t.moved) ++ natToLe 1 t.moves ++ zeros 3

/-- The terminal entry that 32 bytes hold, if VALID. -/
def termOfBytes (b : Bytes) : Option Term :=
  if bitAt (byteAt b 27) 0 then
    some ⟨leAt b 0 8, byteAt b 26 % 64, leAt b 8 8, leAt b 16 8, leAt b 24 2, byteAt b 26 / 64, bitAt (byteAt b 27) 1,
      bitAt (byteAt b 27) 2, byteAt b 28, []⟩
  else none

/-- The bucket of a terminal (R246). -/
def State.bucketOf (s : State) (t id : Nat) : Nat := Config.termBucket (s.rd Reg.TBL_TT_SALT_SALT) t id % 32768

/-- Lines of a spill chain: 1 to 15 (TBL_TT_SPILL.CHAIN). -/
def State.chainLen (s : State) : Nat := max 1 (s.rd Reg.TBL_TT_SPILL_CHAIN)
/-- Whether there is a spill table (TBL_TT_SPILL.LINES). -/
def State.spillOn (s : State) : Bool := decide (s.rd Reg.TBL_TT_SPILL_LINES ≠ 0)
/-- The home line of a terminal, within the table (R251). -/
def State.homeOf (s : State) (t id : Nat) : Nat :=
  Config.spillHome (s.rd Reg.TBL_TT_SALT_SALT) t id % max 1 (s.rd Reg.TBL_TT_SPILL_LINES)
/-- The data line at a place of a terminal's chain (R251). -/
def State.chainLine (s : State) (t id k : Nat) : Nat :=
  let h := s.homeOf t id
  s.rd Reg.TBL_TT_SPILL_BASE + (if k = 0 then h else Config.spillNext h k % max 1 (s.rd Reg.TBL_TT_SPILL_LINES))

/-- The place of a terminal in a line of the spill table. -/
def placeIn (d : Bytes) (t id : Nat) : Option Nat :=
  (List.range 8).find? (fun i =>
    match termOfBytes (slice d (32 * i) 32) with
    | some x => x.tenant == t && x.id == id
    | none => false)
/-- A free place in a line of the spill table. -/
def holeIn (d : Bytes) : Option Nat := (List.range 8).find? (fun i => (termOfBytes (slice d (32 * i) 32)).isNone)

/-- The lines of a terminal's chain with their contents; none where one cannot be read. -/
def State.chainLines (s : State) (t id : Nat) : Option (List (Nat × Bytes)) :=
  (List.range s.chainLen).foldr (fun k (r : Option (List (Nat × Bytes))) =>
    match r, s.lineGet (s.chainLine t id k) with
    | some l, .good d => some ((s.chainLine t id k, d) :: l)
    | _, _ => none) (some [])

/-- The lines of a terminal's chain, to be read and written by an operation (R251, R265). -/
def State.chainWants (s : State) (t id : Nat) : List Want :=
  if s.spillOn then (List.range s.chainLen).map (fun k => ⟨s.chainLine t id k, true, true, 0⟩) else []
/-- The lines that a flush of the DIRTY entries needs (R253). -/
def State.flushWants (s : State) : List Want := (s.tab.terms.filter (fun x => x.dirty)).flatMap (fun x => s.chainWants x.tenant x.id)

/-- An entry put in the spill table, in its own place, in the first free one, or in S1's overflow area with
SPILL_CHAIN_OVERFLOW (R251): whether it could be, and the state. -/
def State.spillPut (s : State) (x : Term) : Bool × State :=
  let t : Term := { x with dirty := false, refs := [] }
  if s.spillOn = false then (false, s)
  else
    match s.chainLines t.tenant t.id with
    | none => (false, s)
    | some l =>
      match l.findSome? (fun p => (placeIn p.2 t.tenant t.id).map (fun (i : Nat) => (p.1, p.2, i))) with
      | some (n, d, i) => s.lineWrite n (patch d (32 * i) t.bytes)
      | none =>
        match l.findSome? (fun p => (holeIn p.2).map (fun (i : Nat) => (p.1, p.2, i))) with
        | some (n, d, i) =>
          let w := s.lineWrite n (patch d (32 * i) t.bytes)
          if w.1 then (true, w.2.inc Reg.TBL_TT_OCC_SPILLED) else w
        | none =>
          (true, (s.emit .spillChainOverflow none (Config.blockSource 1) (s.homeOf t.tenant t.id) s.chainLen 0).modTab (fun b =>
            { b with spilled := t :: b.spilled.filter (fun (y : Term) => !(y.tenant == t.tenant && y.id == t.id)) }))

/-- A place of a line of the spill table emptied: whether it could be, and the state (R247 step 2). -/
def State.spillClear (s : State) (n i : Nat) (d : Bytes) : Bool × State :=
  let w := s.lineWrite n (patch d (32 * i) (zeros 32))
  if w.1 then (true, w.2.wr Reg.TBL_TT_OCC_SPILLED (s.rd Reg.TBL_TT_OCC_SPILLED - 1)) else (false, s)

/-- An entry removed from the spill table and from S1's overflow area (R247 step 2). -/
def State.spillDrop (s0 : State) (t id : Nat) : State :=
  let s := s0.modTab (fun b => { b with spilled := b.spilled.filter (fun (y : Term) => !(y.tenant == t && y.id == id)) })
  match s.chainLines t id with
  | none => s
  | some l =>
    match l.findSome? (fun p => (placeIn p.2 t id).map (fun (i : Nat) => (p.1, p.2, i))) with
    | none => s
    | some (n, d, i) => (s.spillClear n i d).2

/-- Entries of a bucket on chip. -/
def State.inBucket (s : State) (b : Nat) : List Term := s.tab.terms.filter (fun x => s.bucketOf x.tenant x.id == b)

/-- An entry spilled and freed on chip; whether it could be. -/
def State.spillOut (s : State) (x : Term) : Bool × State :=
  let w := s.spillPut x
  if w.1 then (true, w.2.modTab (fun t => { t with terms := t.terms.filter (fun y => !(y.tenant == x.tenant && y.id == x.id)) }))
  else (false, s)

/-- The entry that a full bucket evicts: the oldest age stamp under EVICT 0, a random one under EVICT 1 (R247). -/
def State.victim (s : State) (tenant : Nat) (l : List Term) : Option Term × State :=
  if s.bit (Reg.TBL_T_POL_EVICT tenant) then
    let (v, s1) := s.fresh
    (l[v.toNat % max 1 l.length]?, s1)
  else
    (l.foldl (fun (b : Option Term) x =>
      match b with | none => some x | some y => if x.age < y.age then some x else some y) none, s)

/-- An entry made valid in its bucket (R247): into a free place or in place of an evicted entry; not while all eight hold
references, nor until the evicted one's spill lines are at hand and it could be spilled. -/
def State.placeTerm (s : State) (x : Term) : Bool × State :=
  let l := s.inBucket (s.bucketOf x.tenant x.id)
  let add (s : State) : State := s.modTab (fun t => { t with terms := t.terms ++ [x] })
  if l.length < 8 then (true, add s)
  else
    match s.victim x.tenant (l.filter (fun y => y.refs.isEmpty)) with
    | (none, _) => (false, s)
    | (some v, s1) =>
      let q := s1.wantLines (s1.chainWants v.tenant v.id)
      if q.1 = false then (false, q.2)
      else
        let w := q.2.spillOut v
        if w.1 then (true, add w.2) else (false, s)

/-- MSTATE set for a command, with the epoch that holds its change (R346, R351). -/
def State.setMstate (s : State) (id : Nat) : State :=
  s.modEntry id (fun e => { e with mstate := true, epoch := s.pair.epoch })

/-- A terminal entry noted as a mirrored change (R346). -/
def State.mirrorTerm (s : State) (t id : Nat) : State :=
  match s.term? t id with
  | none => s
  | some x => s.mirror ⟨5, 0, t, id, x.bytes⟩

/-- The ingress port of an entry: the current port of its ring (R246). -/
def State.ingress (s : State) (e : Entry) : Nat := (s.sq e.tenant e.ring).cur

/-- An on-chip hit of an entry's context (R247, R249): reference, age, port; TCTX is set. The new age stamp is a change since the
last spill: DIRTY (R246). -/
def State.termHit (s : State) (e : Entry) : State :=
  match s.term? e.tenant e.ctxKey with
  | none => s
  | some x =>
    let p := s.ingress e
    let move := decide (x.port ≠ p)
    let s1 := s.modTerm e.tenant e.ctxKey (fun y => { y with
      refs := y.refs ++ [e.id], age := s.now, port := p, moved := y.moved || move
      moves := if move then min 255 (y.moves + 1) else y.moves, dirty := true })
    let s2 := if move ∧ s.bit (Reg.TBL_T_POL_MOVE_EVENT e.tenant) then
        s1.emit .terminalMoved (some e.tenant) (Config.blockSource 1) e.tenant (loWord x.id) (joined x.port p)
      else s1
    (s2.inc (Reg.TBL_CNT_COUNT 3)).modEntry e.id (fun e => { e with tctxOk := true })

/-- A probe of a place of the chain begun for a pending insert. -/
def State.probeLine (s : State) (t id k : Nat) : State :=
  let put (s : State) (read : Nat) : State :=
    s.modTab (fun b => { b with inserts := b.inserts.map (fun (i : Insert) =>
      if i.tenant = t ∧ i.id = id then { i with step := .probe k, read := read } else i) })
  if s.spillOn then
    let (num, s1) := s.lineFetch (s.chainLine t id k)
    put s1 num
  else put s 0

/-- Resolution of an entry's TCTX operand begun or tried again (R247, R248, R254). -/
def State.resolveTerm (s : State) (id : Nat) : State :=
  match s.entry? id with
  | none => s
  | some e =>
    if e.tctxOk ∨ e.inStore = false ∨ e.spilled then s
    else if s.tab.poisoned.contains (s.bucketOf e.tenant e.ctxKey) then s.finish id .internalCheck 0
    else if (s.term? e.tenant e.ctxKey).isSome then s.termHit e
    else
      match s.tab.inserts.find? (fun i => i.tenant == e.tenant && i.id == e.ctxKey) with
      | some i =>
        if i.waiting.contains id then s
        else s.modTab (fun b => { b with inserts := b.inserts.map (fun (j : Insert) =>
          if j.tenant = e.tenant ∧ j.id = e.ctxKey then { j with waiting := j.waiting ++ [id] } else j) })
      | none =>
        if 64 ≤ s.tab.inserts.length then s
        else (s.modTab (fun b => { b with inserts := b.inserts ++ [⟨e.tenant, e.ctxKey, [id], .probe 0, 0⟩] })).probeLine
          e.tenant e.ctxKey 0

/-- The lookups that wait for a place in the pending-insert CAM, or were held, tried again. -/
def State.retryTerms (s : State) : State :=
  (s.prf.entries.filter (fun e => e.inStore && !e.spilled && !e.tctxOk)).foldl (fun s e => s.resolveTerm e.id) s

/-- A pending insert given up, its waiting entries completed with a status. -/
def State.dropInsert (s : State) (i : Insert) (st : Status) : State :=
  let s1 := s.modTab (fun b => { b with inserts := b.inserts.filter (fun j => !(j.tenant == i.tenant && j.id == i.id)) })
  (i.waiting.foldl (fun s id => s.finish id st 0) s1).retryTerms

/-- A pending insert whose entry can be made valid now, refilled or learned; else it waits until a reference is released
(R247, R248, R249). A learning counts as a mirrored change of the command that came first (log entry 21). -/
def State.insertTerm (s : State) (i : Insert) (x : Term) (learned : Bool) : State :=
  let w := s.placeTerm x
  if w.1 = false then
    w.2.modTab (fun b => { b with inserts := b.inserts.map (fun (j : Insert) =>
      if j.tenant = i.tenant ∧ j.id = i.id then { j with step := .wait x learned } else j) })
  else
    let s1 := w.2.modTab (fun b => { b with inserts := b.inserts.filter (fun j => !(j.tenant == i.tenant && j.id == i.id)) })
    let s2 := i.waiting.foldl (fun s id => match s.entry? id with | some e => s.termHit e | none => s) s1
    let s3 := if learned then
        let s' := (s2.inc (Reg.TBL_CNT_COUNT 5)).mirrorTerm i.tenant i.id
        match i.waiting with | id :: _ => s'.setMstate id | [] => s'
      else s2
    s3.retryTerms

/-- The inserts that wait for a reference of a full bucket tried again (R247). -/
def State.retryWaits (s : State) : State :=
  s.tab.inserts.foldl (fun s i => match i.step with | .wait x learned => s.insertTerm i x learned | _ => s) s

/-- A new terminal entry for a pending insert (R247 step 3). -/
def State.newTerm (s : State) (i : Insert) : Term :=
  let p := match i.waiting with | id :: _ => ((s.entry? id).map (fun e => s.ingress e)).getD 0 | [] => 0
  ⟨i.id, i.tenant, 0, s.now, 0, p, true, false, 0, []⟩

/-- A true miss (R247 step 3): S1 inserts where the chain is full or under LEARN 1, else the bucket learns. -/
def State.trueMiss (s : State) (i : Insert) : State :=
  let full := s.spillOn && (match s.chainLines i.tenant i.id with
    | some l => l.all (fun p => (holeIn p.2).isNone)
    | none => false)
  let soft (why : Nat) : State :=
    s.modTab (fun b => { b with inserts := b.inserts.map (fun (j : Insert) => if j.tenant = i.tenant ∧ j.id = i.id then { j with step := .soft why } else j) })
  if full then soft 2
  else if s.bit (Reg.TBL_T_POL_LEARN i.tenant) then soft 1
  else s.insertTerm i (s.newTerm i) true

/-- A change of a terminal's counter or flags by a command: DIRTY, the mirrored change, MSTATE and, of a counter with WT, the copy
in the spill table (R250, R253). -/
def State.termChange (s : State) (t id cmd : Nat) (through : Bool) (f : Term → Term) : State :=
  let s1 := ((s.modTerm t id (fun x => { f x with dirty := true })).mirrorTerm t id).setMstate cmd
  if s.bit Reg.TBL_CTL_WT ∧ through then
    match s1.term? t id with
    | some x =>
      let w := s1.spillPut x
      if w.1 then w.2.modTerm t id (fun y => { y with dirty := false }) else w.2
    | none => s1
  else s1

/-- Every DIRTY entry written to the spill table (R253). -/
def State.flushTerms (s : State) : State :=
  (s.tab.terms.filter (fun x => x.dirty)).foldl (fun s x =>
    let w := s.spillPut x
    if w.1 then w.2.modTerm x.tenant x.id (fun y => { y with dirty := false }) else s) s

/-- The refilled entries of a tenant that wait for a place in their bucket: they are in the spill table no more. -/
def State.heldTerms (s : State) (t : Nat) : List Term :=
  s.tab.inserts.filterMap (fun i => match i.step with
    | .wait x false => if i.tenant = t then some x else none
    | _ => none)

/-- A tenant's entries spilled and then purged on chip, with the refilled ones that wait for a place (R229). An entry that cannot
be spilled stays on chip: it is never dropped (R247; log entry 59). -/
def State.purgeTerms (s : State) (t : Nat) : State :=
  let s1 := (s.tab.terms.filter (fun x => x.tenant == t)).foldl (fun s x => (s.spillOut x).2) s
  let s2 := (s.heldTerms t).foldl (fun s x =>
    let w := s.spillPut x
    if w.1 then w.2 else s.modTab (fun b => { b with terms := b.terms ++ [x] })) s1
  s2.modTab (fun b => { b with inserts := b.inserts.filter (fun i => i.tenant ≠ t) })

/-- The lines that the purge of a tenant's entries needs, those of the flush of every DIRTY entry included (R229, R253). -/
def State.purgeWants (s : State) (t : Nat) : List Want :=
  s.flushWants ++ (s.tab.terms.filter (fun x => x.tenant == t) ++ s.heldTerms t).flatMap (fun x => s.chainWants x.tenant x.id)

/-- A block of the tables that is being reloaded (R255). -/
def State.blockHeld (s : State) (b : Nat) : Bool := decide (s.tab.reload = some b)
/-- The block of a Sieve prefix. -/
def prefixBlock (t : Nat) (d : List Nat) : Nat := Config.tableBlock 0 t d % max 1 Config.tableBlocks
/-- The block of a tenant's key-handle registers. -/
def handleBlock (t : Nat) : Nat := Config.tableBlock 1 t [] % max 1 Config.tableBlocks

/-- The block of a root of the length filter. -/
def filterBlock (root : Nat) : Nat := Config.tableBlock 2 root [] % max 1 Config.tableBlocks

/-- The contents of a block: its prefixes, filter entries and key-handle registers, in the model's own layout (R255; log
entry 60). -/
def blockBytes (n : Nat) (l : List Prefix_) (filter : Table Nat) (kh : Table (List Nat)) : Bytes :=
  (l.filter (fun p => prefixBlock p.tenant p.digits == n)).flatMap (fun p =>
      natToLe 1 p.tenant ++ natToLe 1 p.digits.length ++ natToLe 1 (b2n p.tcam) ++ p.digits.map (BitVec.ofNat 8) ++ natToLe 4 p.profile)
    ++ (filter.filter (fun e => filterBlock e.1 == n)).flatMap (fun e => natToLe 2 e.1 ++ natToLe 3 e.2)
    ++ (kh.filter (fun e => handleBlock e.1 == n)).flatMap (fun e => natToLe 1 e.1 ++ e.2.flatMap (natToLe 5))

/-- The key-handle registers as they stand, for the tenants that the shadow holds. -/
def State.liveKh (s : State) : Table (List Nat) := s.tab.shadowKh.map (fun e => (e.1, (khFields e.1).map s.rd))
/-- The 128-bit digest of the live block, and that of the shadow's (R255). -/
def State.blockDigests (s : State) (n : Nat) : Bytes × Bytes :=
  let sorted (l : List Prefix_) : List Prefix_ := l.mergeSort (fun a b =>
    decide ((a.tenant, b2n a.tcam, a.digits.length, a.digits.foldl (fun v d => 16 * v + d) 1)
      = (b.tenant, b2n b.tcam, b.digits.length, b.digits.foldl (fun v d => 16 * v + d) 1))
      || decide (a.tenant * 2 ^ 100 + b2n a.tcam * 2 ^ 99 + a.digits.foldl (fun v d => 16 * v + d) 1
        < b.tenant * 2 ^ 100 + b2n b.tcam * 2 ^ 99 + b.digits.foldl (fun v d => 16 * v + d) 1))
  (shake256 16 (blockBytes n (sorted s.tab.prefixes) s.tab.filter s.liveKh),
   shake256 16 (blockBytes n (sorted s.tab.shadow) s.tab.shadowFilter s.tab.shadowKh))

/-- The 16 lines of the sealed store that hold the shadow of a block, from TBL_BC_CFG.BASE (R255). -/
def State.shadowLines (s : State) (n : Nat) : List Nat := (List.range 16).map (fun k => s.rd Reg.TBL_BC_CFG_BASE + 16 * n + k)
/-- The lines that a change of blocks needs. -/
def State.shadowWants (s : State) (l : List Nat) : List Want := (l.flatMap s.shadowLines).map (fun i => ⟨i, false, true, 0⟩)
/-- The shadow's lines of blocks written (R245, R255). -/
def State.writeShadow (s : State) (l : List Nat) : State :=
  l.foldl (fun s n =>
    let b := fitTo 4096 (blockBytes n s.tab.shadow s.tab.shadowFilter s.tab.shadowKh)
    (List.range 16).foldl (fun s k => (s.lineWrite (s.rd Reg.TBL_BC_CFG_BASE + 16 * n + k) (slice b (256 * k) 256)).2) s) s

/-- The hash key of the cache's sets drawn from the store engine's instance, where a reset has left none (R236); none while the
instance gives no bytes. -/
def State.withHash (s : State) : Option State :=
  if s.tab.hashKey.isSome then some s
  else (s.drbgBytes 194 8).map (fun r => r.2.modTab (fun b => { b with hashKey := some (leToNat r.1) }))
/-- The set of a handle in the key cache (R236). -/
def State.cacheSetOf (s : State) (t h : Nat) : Nat := Config.cacheSet (s.tab.hashKey.getD 0) t h % 8192

/-- The slots of an entry whose handle a key resolves, set. -/
def State.setResolved (s : State) (id slot : Nat) (k : KeyVal) : State :=
  s.modEntry id (fun e =>
    let r := (List.range 4).map (fun i => if i = slot then some k else e.resolved.getD i none)
    { e with resolved := r
             keys := (List.range 4).all (fun i => (e.handles.getD i none).isNone || (r.getD i none).isSome) })

/-- A key of the cache pinned by a slot of an entry (R237). -/
def State.pinKey (s : State) (c : CacheKey) (id slot : Nat) : State :=
  (s.modTab (fun b => { b with
    clock := b.clock + 1
    cache := b.cache.map (fun (x : CacheKey) => if x = c then { x with pins := x.pins ++ [id], used := b.clock } else x) })).setResolved
    id slot c.key

/-- A fetch of a record begun (R237). -/
def State.beginFetch (s : State) (t h : Nat) (waiting : List (Nat × Nat)) : State :=
  let (num, s1) := s.lineFetch (s.recordLine t h)
  (s1.modTab (fun b => { b with fetches := b.fetches ++ [⟨t, h, waiting, num, false, none⟩] })).inc (Reg.TBL_CNT_COUNT 1)

/-- A record handle of a slot resolved: hit, attachment or fetch (R234, R237). -/
def State.resolveHandle (s : State) (id slot t h : Nat) : State :=
  match s.tab.cache.find? (fun c => c.tenant == t && c.handle == h && !c.stale) with
  | some c => (s.pinKey c id slot).inc (Reg.TBL_CNT_COUNT 0)
  | none =>
    match s.tab.fetches.find? (fun f => f.tenant == t && f.handle == h) with
    | some f =>
      if f.waiting.contains (id, slot) then s
      else s.modTab (fun b => { b with fetches := b.fetches.map (fun (g : KeyFetch) =>
        if g.tenant = t ∧ g.handle = h then { g with waiting := g.waiting ++ [(id, slot)] } else g) })
    | none => if 512 ≤ s.tab.fetches.length then s else s.beginFetch t h [(id, slot)]

/-- Whether a handle word is routed: profile key index and inline offset (R234). -/
def routedHandle (h : Nat) : Option (Nat × Nat) := if 0xFFF000 ≤ h ∧ h ≤ 0xFFF3FF then some (bitsAt h 8 2, h % 256) else none
/-- Whether a handle word names no record at once (R234). -/
def deadHandle (limit h : Nat) : Bool := decide (h = 0) || (decide (limit ≤ h) && (routedHandle h).isNone)

/-- The longest TCAM prefix of a tenant that matches the digits (R241). -/
def tcamMatch (l : List Prefix_) (t : Nat) (d : List Nat) : Option Prefix_ :=
  (l.filter (fun p => p.tcam && p.tenant == t && d.take p.digits.length == p.digits && decide (p.digits.length ≤ d.length))).foldl
    (fun (b : Option Prefix_) p =>
      match b with
      | none => some p
      | some q => if q.digits.length < p.digits.length then some p else some q) none

/-- The filter entry that the first four digits index, as a 16-bit BCD value (R241). -/
def filterRoot (d : List Nat) : Nat := (d.take 4).foldl (fun a x => a * 16 + x) 0

/-- The longest hash prefix among the lengths that the filter admits (R241). -/
def hashMatch (l : List Prefix_) (f : Table Nat) (t : Nat) (d : List Nat) : Option Prefix_ :=
  if d.length < 4 then none
  else
    let mask := tabGet 0 f (filterRoot d)
    ((List.range (d.length - 3)).map (fun i => d.length - i)).findSome? (fun n =>
      if bitAt mask (n - 1) then l.find? (fun p => !p.tcam && p.tenant == t && p.digits == d.take n) else none)

/-- A Sieve lookup (R241): profile index, length matched, 1 TCAM or 2 hash. -/
def sieveLookup (b : Tables) (t : Nat) (d : List Nat) : Option (Nat × Nat × Nat) :=
  match tcamMatch b.prefixes t d, hashMatch b.prefixes b.filter t d with
  | some p, some q =>
    if q.digits.length ≤ p.digits.length then some (p.profile, p.digits.length, 1) else some (q.profile, q.digits.length, 2)
  | some p, none => some (p.profile, p.digits.length, 1)
  | none, some q => some (q.profile, q.digits.length, 2)
  | none, none => none

/-- Whether a lookup reaches the block that is being reloaded (R255). -/
def State.lookupHeld (s : State) (t : Nat) (d : List Nat) : Bool :=
  (List.range (d.length + 1)).any (fun n => s.blockHeld (prefixBlock t (d.take n)))

/-- The PAN operand of a routed handle in an inline input (R243). -/
def panAt (e : Entry) (off : Nat) : Option (List Nat) :=
  match e.inline with
  | none => none
  | some b => if b.length < off + 11 then none else panDigits (slice b off 11)

/-- The routed handles of an entry resolved to profile keys (R243): the failure, or the entry's handles and profile; none
while the lookup is held. -/
def State.routeHandles (s : State) (e : Entry) : Option (Status ⊕ (List (Option Nat) × Nat)) :=
  let offs := e.handles.filterMap (fun h => (h.bind routedHandle).map (·.2))
  match offs with
  | [] => none
  | off :: rest =>
    if e.inline.isNone ∨ e.d2 ∨ rest.any (fun o => o ≠ off) then some (.inl .noRoute)
    else
      match panAt e off with
      | none => some (.inl .noRoute)
      | some d =>
        if s.lookupHeld e.tenant d then none
        else
          match sieveLookup s.tab e.tenant d with
          | none => some (.inl .noRoute)
          | some (p, _, _) =>
            let key (i : Nat) := s.rd (Reg.TBL_KH_CFG_RBASE e.tenant) + 4 * (p % 65536) + i
            if p / 65536 ≠ e.prog then some (.inl .routeProgram)
            else if e.handles.any (fun h => match h.bind routedHandle with
                | some (i, _) => decide (s.handleLimit e.tenant ≤ key i)
                | none => false) then some (.inl .keyNotFound)
            else some (.inr (e.handles.map (fun h => match h.bind routedHandle with
                | some (i, _) => some (key i)
                | none => h), p))

/-- Whether an entry still has routed handles. -/
def Entry.routed (e : Entry) : Bool := e.handles.any (fun h => (h.bind routedHandle).isSome)

/-- The record handles of an entry resolved, each slot that is not yet resolved (R237); not while the cache waits for its hash
key (R236). -/
def State.resolveSlots (s : State) (e : Entry) : State :=
  if s.blockHeld (handleBlock e.tenant) then s
  else
    match s.withHash with
    | none => s
    | some s1 =>
      (List.range 4).foldl (fun s i =>
        match e.handles.getD i none, e.resolved.getD i none with
        | some h, none => s.resolveHandle e.id i e.tenant h
        | _, _ => s) s1

/-- Resolution of an entry's KEYS operand begun or tried again (R234, R237, R243): dead handles first, then routed ones,
then records. A lookup of the Sieve is counted where its PAN operand is in order. -/
def State.resolveKeys (s : State) (id : Nat) : State :=
  match s.entry? id with
  | none => s
  | some e =>
    if e.keys ∨ e.inStore = false ∨ e.spilled then s
    else if e.handles.any (fun h => match h with | some w => deadHandle (s.handleLimit e.tenant) w | none => false) then
      s.finish id .keyNotFound 0
    else if e.routed then
      match s.routeHandles e with
      | none => s
      | some (.inl st) =>
        let looked := match e.handles.findSome? (fun h => h.bind routedHandle) with
          | some (_, off) => (panAt e off).isSome && !e.d2
          | none => false
        (if looked then s.inc (Reg.TBL_CNT_COUNT 2) else s).finish id st 0
      | some (.inr (hs, p)) =>
        let s1 := (s.inc (Reg.TBL_CNT_COUNT 2)).modEntry id (fun e => { e with handles := hs, route := some p })
        s1.resolveSlots { e with handles := hs }
    else s.resolveSlots e

/-- The resolutions that wait tried again. -/
def State.retryKeys (s : State) : State :=
  (s.prf.entries.filter (fun e => e.inStore && !e.spilled && !e.keys)).foldl (fun s e => s.resolveKeys e.id) s

/-- A pending fetch given up, its attached entries completed with a status. -/
def State.dropFetch (s : State) (f : KeyFetch) (st : Status) : State :=
  let s1 := (s.modTab (fun b => { b with fetches := b.fetches.erase f })).dropRead f.read
  (f.waiting.foldl (fun s w => s.finish w.1 st 0) s1).retryKeys

/-- A way of a key's set taken (R237): a free one or the least recently used unpinned one; none while all eight are pinned. -/
def State.takeWay (s : State) (t h : Nat) : Option State :=
  let n := s.cacheSetOf t h
  let ways := s.tab.cache.filter (fun c => s.cacheSetOf c.tenant c.handle == n)
  if ways.length < 8 then some s
  else
    match (ways.filter (fun c => c.pins.isEmpty)).foldl (fun (b : Option CacheKey) c =>
        match b with
        | none => some c
        | some x => if (c.stale && !x.stale) || (c.stale == x.stale && decide (c.used < x.used)) then some c else some x) none with
    | none => none
    | some c => some (s.modTab (fun b => { b with cache := b.cache.erase c }))

/-- A fetched key filled into a way and pinned for every attached entry, or held until a way is free (R237). -/
def State.fillKey (s : State) (f : KeyFetch) (k : KeyVal) : State :=
  match s.takeWay f.tenant f.handle with
  | none => s.modTab (fun b => { b with fetches := b.fetches.map (fun (g : KeyFetch) => if g = f then { g with ready := some k } else g) })
  | some s1 =>
    let s2 := (s1.modTab (fun b => { b with
      fetches := b.fetches.erase f
      clock := b.clock + 1
      cache := b.cache ++ [⟨f.tenant, f.handle, k, f.waiting.map (·.1), false, b.clock⟩] })).dropRead f.read
    (f.waiting.foldl (fun s w => s.setResolved w.1 w.2 k) s2).retryKeys

/-- The checks of R237 on a fetched record: the failure with the fault of R196, if any, or the key. -/
def State.checkRecord (s : State) (t h : Nat) (line : Bytes) : (Status × Option Nat) ⊕ KeyVal :=
  let r := recordIn h line
  let g := recordGen r
  if holdsRecord r = false then .inl (.keyNotFound, none)
  else if bitAt (s.rd (Reg.TBL_KH_CFG_GENOCC t)) g = false then .inl (.keyNotFound, none)
  else
    match s.master t g with
    | none => .inl (.keyBlockIntegrity, some 5)
    | some m =>
      match recordFault t h m r with
      | .inl n => .inl (.keyBlockIntegrity, some n)
      | .inr clear => .inr (recordKey r clear)

/-- Cache entries in a scope dropped, or marked STALE where pinned, and pending fetches in it marked to be issued again
(R238). -/
def State.invalidate (s : State) (inScope : Nat → Nat → Option Nat → Bool) : State :=
  s.modTab (fun b => { b with
    cache := (b.cache.map (fun (c : CacheKey) => if inScope c.tenant c.handle (some c.key.gen) then { c with stale := true } else c)).filter
      (fun c => !(c.stale && c.pins.isEmpty))
    fetches := b.fetches.map (fun (f : KeyFetch) => if inScope f.tenant f.handle none then { f with again := true } else f) })

/-- One handle invalidated. -/
def State.invalidateHandle (s : State) (t h : Nat) : State := s.invalidate (fun a b _ => a == t && b == h)
/-- One generation of a tenant invalidated; a pending fetch may be of it. -/
def State.invalidateGen (s : State) (t g : Nat) : State :=
  s.invalidate (fun a _ x => a == t && (match x with | some n => n == g | none => true))
/-- A whole tenant invalidated. -/
def State.invalidateTenant (s : State) (t : Nat) : State := s.invalidate (fun a _ _ => a == t)

/-- Prefixes of a table (TBL_SV_OCC). -/
def prefixCount (l : List Prefix_) (tcam : Bool) : Nat := (l.filter (fun p => p.tcam == tcam)).length

/-- A prefix inserted or replaced in the shadow and then in the Sieve, its filter bit first (R240, R244, R245): 0 done,
1 full. -/
def State.sieveInsert (s : State) (t : Nat) (tcam : Bool) (d : List Nat) (profile : Nat) : Nat × State :=
  let l := s.tab.prefixes
  let same (p : Prefix_) : Bool := p.tenant == t && p.tcam == tcam && p.digits == d
  let p : Prefix_ := ⟨t, d, tcam, profile⟩
  let full := if tcam then decide (8192 ≤ prefixCount l true)
    else decide (1048576 ≤ prefixCount l false)
      || Config.sieveFull ((l.filter (fun p => !p.tcam)).map (fun (p : Prefix_) => (p.tenant, p.digits))) t d
  if l.any same = false ∧ full then (1, s)
  else
    let set (f : Table Nat) : Table Nat := if tcam then f else tabMod 0 f (filterRoot d) (fun m => setBits m (d.length - 1) 1 1)
    (0, s.modTab (fun b => { b with
      shadow := b.shadow.filter (fun q => !same q) ++ [p], shadowFilter := set b.shadowFilter
      prefixes := b.prefixes.filter (fun q => !same q) ++ [p], filter := set b.filter }))

/-- A prefix removed from the shadow and then from the Sieve; its filter bit stays (R245): 0 done, 2 not found. -/
def State.sieveDelete (s : State) (t : Nat) (tcam : Bool) (d : List Nat) : Nat × State :=
  let same (p : Prefix_) : Bool := p.tenant == t && p.tcam == tcam && p.digits == d
  if s.tab.prefixes.any same then
    (0, s.modTab (fun b => { b with shadow := b.shadow.filter (fun q => !same q), prefixes := b.prefixes.filter (fun q => !same q) }))
  else (2, s)

end Sys2Proof.Machine
end

