-- ==== Sys2Proof/Machine/CoreOps.lean ====
section
/-! DEFINITION. The shared operations of a Thaug core: registers, exceptions, core reset, issue of an instruction, access
to memory, host transfers (chapter 4). -/

namespace Sys2Proof.Machine

/-- A general register; g0 reads as zero (R76). -/
def State.getG (s : State) (n r : Nat) : BitVec 64 := if r = 0 then 0#64 else tabGet 0#64 (s.core n).g r
/-- A general register written; writes to g0 are discarded (R76). -/
def State.setG (s : State) (n r : Nat) (v : BitVec 64) : State :=
  if r = 0 then s else s.modCore n (fun c => { c with g := tabSet 0#64 c.g r v })

/-- The entry of the command that a core runs. -/
def State.coreEntry (s : State) (n : Nat) : Option Entry := ((s.core n).run).bind s.entry?
/-- The tenant of the command that a core runs; 0 where it runs none. -/
def State.coreTenant (s : State) (n : Nat) : Nat := ((s.coreEntry n).map (·.tenant)).getD 0

/-- The core address of the first byte of an image's code in a core: a line of the code area, from which the code fits in it (R77). -/
def codeBase (n : Nat) (im : Image) : Nat := 0x4000 + 64 * (Config.codeLine n im.id % max 1 (769 - (im.code.length + 63) / 64))
/-- CONSTBASE: the core address of the constants segment, 0 where the package has none (R94). -/
def State.constBase (s : State) (n : Nat) : Nat :=
  if (s.coreImage n).consts.isEmpty then 0
  else 0x100000 + 64 * (Config.constLine (n / 8) (s.core n).image % 7168)

/-- The code offset of a core address in the running program, as CLU_CORE_FAULT gives it. -/
def State.codeOffset (s : State) (n : Nat) : Nat := (s.core n).pc - codeBase n (s.coreImage n)

/-- The program counter moved past the instruction. -/
def State.nextPc (s : State) (n : Nat) : State := s.modCore n (fun c => { c with pc := c.pc + 4 })
/-- A result written to a general register, and the program counter moved past the instruction. -/
def State.ret (s : State) (n r : Nat) (v : BitVec 64) : State := (s.setG n r v).nextPc n

/-- Destination bytes of quarantined extents written with zero (R162, R163). -/
def zeroExtents (m : Memory) (l : List (Nat × Nat)) : Memory := l.foldl (fun m e => memZero m e.1 e.2) m

/-- The quarantine windows of a core, by context: those of its contexts, and those of contexts that a queued CLOAD puts in place. -/
def Core.windows (k : Core) : List (Nat × List (Nat × Nat)) :=
  k.ctx.map (fun (e : Nat × Ctx) => (e.1, e.2.extents))
    ++ k.eng.filterMap (fun o => match o with | .load c x => some (c, x.extents) | _ => none)

/-- A context emptied: its windows, if any, are zero-filled (R163), and later queued operations on it are discarded. -/
def State.dropCtx (s : State) (n c : Nat) : State :=
  s.modCore n (fun k => { k with
    mem := (k.windows.filter (fun w => w.1 = c)).foldl (fun m w => zeroExtents m w.2) k.mem
    ctx := tabSet Ctx.empty k.ctx c Ctx.empty
    eng := k.eng.filter (fun o => o.ctx ≠ c) })

/-- An image freed when no tenant has it loaded and no command uses it (R114). -/
def State.freeImages (s : State) : State :=
  let used (i : Image) : Bool :=
    s.progs.loaded.any (fun e => e.2 == some i.id) || s.prf.entries.any (fun e => e.image == i.id && decide (e.phase ≠ .ended))
  { s with progs := { s.progs with images := s.progs.images.filter used } }

/-- An HPUT handed to the port of its command's completion ring (R97, R316, R320): bytes written after issue are open (R82); nothing leaves
once the unit has given up (R338). -/
def State.sendPut (s : State) (n : Nat) (e : Entry) (x : Xfer) : State :=
  let p := (s.cq e.tenant (s.sq e.tenant e.ring).cq).cur
  let (data, s1) := if x.raced then s.freshBytes x.len else (memRead (s.core n).mem x.loc x.len, s)
  if s.pair.st = .gaveUp then s1
  else s1.hostWrite p .core (x.fences == 0) (e.outAddr + x.off) data (.ring e.tenant e.ring e.id)

/-- The HPUTs that a core has issued and no port has taken, handed over in order: they are not recalled (R106). -/
def State.sendPuts (s : State) (n : Nat) : State :=
  match s.coreEntry n with
  | none => s
  | some e => ((s.core n).xfers.filter (fun x => !x.get && !x.done)).foldl (fun s x => s.sendPut n e x) s

/-- A core reset (R107): registers, local memory and code area are cleared, the command that it runs ends
INTERNAL_CHECK, a new context key is drawn (R139), CORE_RESET is recorded (R116); its tenant argument is 0xFF where the core runs no
command (DESIGN CHOICE, log entry 56). The HPUTs of the command still reach its output area (R106), unless a tenant reset discards them (R229). CORE_RESET_DONE
ends it. -/
def State.coreReset (s : State) (n reason : Nat) : State :=
  let k := s.core n
  let t := s.coreTenant n
  let s := if reason = 2 then s else s.sendPuts n
  let s1 : State := match s.coreEntry n with
    | some e => if e.phase = CmdPhase.ended then s else s.finish e.id .internalCheck 0
    | none => s
  let (key, s2) := match s1.drbgBytes n 32 with
    | some r => r
    | none => ([], s1)
  let s3 := s2.modCore n (fun _ => { Core.reset with ctxKey := key, nextXfer := k.nextXfer, resetting := some reason })
  let s4 := s3.modCluster (n / 8) (fun c => { c with
    mau := tabSet [] c.mau (n % 8) []
    busy := c.busy.bind (fun (b : Nat × UnitReq) => if b.1 = n % 8 then none else some b) })
  s4.emit .coreReset none (Config.blockSource 7) n reason (if k.run.isSome then t else 0xFF)

/-- Entry to K: the program counter is kept and the runtime runs (R75). -/
def State.enterK (s : State) (n : Nat) : State :=
  s.modCore n (fun c => { c with user := false, epc := c.pc, pc := Config.runtimeEntry % 0x1000 * 4 })

/-- The program of a command ended with a cause; the first cause stays. Stalls end. -/
def State.endProgram (s : State) (n : Nat) (cause : EndCause) : State :=
  (s.modCore n (fun c => { c with ending := some (c.ending.getD cause), stall := .none })).enterK n

/-- A command on a core ended with INTERNAL_CHECK and no exception that the program sees (R102, R103). -/
def State.coreCheck (s : State) (n : Nat) : State :=
  if (s.core n).run.isSome then (s.modCore n (fun c => { c with residue := true })).endProgram n (.idle .internalCheck) else s

/-- An exception at U recorded: cause words, CLU_CORE_FAULT, CLU_CORE_EXCNT and PROGRAM_EXCEPTION (R94, R116). The cause word is the
exception's number, or names an engine fault (R158). -/
def State.noteExc (s : State) (n : Nat) (x : Exc) (addr cause : Nat) : State :=
  let t := s.coreTenant n
  let p := ((s.coreEntry n).map (·.prog)).getD 0
  let o := s.codeOffset n % 2 ^ 15
  let s1 := s.modCore n (fun c => { c with
    words := tabSet 0#64 (tabSet 0#64 c.words (Config.causeWord % 16) (BitVec.ofNat 64 cause)) (Config.faultWord % 16)
      (BitVec.ofNat 64 addr) })
  let s2 := (((s1.wr (Reg.CLU_CORE_FAULT_PROG (n / 8) (n % 8)) p).wr (Reg.CLU_CORE_FAULT_TENANT (n / 8) (n % 8)) t).wr
    (Reg.CLU_CORE_FAULT_EXC (n / 8) (n % 8)) x.num).wr (Reg.CLU_CORE_FAULT_OFFSET (n / 8) (n % 8)) o
  (s2.inc (Reg.CLU_CORE_EXCNT_COUNT (n / 8) (n % 8))).emit .programException (some t) n t p (joined x.num o)

/-- An exception taken (R102), with the faulting address and the cause word. At U it ends the command; a BREAK under a TRACE session
halts instead. At K it resets the core alone. -/
def State.excCause (s : State) (n : Nat) (x : Exc) (addr cause : Nat) : State :=
  if (s.core n).user then
    let s1 := s.noteExc n x addr cause
    if x = .brk ∧ s.traceHalts (s.coreTenant n) then s1.modCore n (fun c => { c with halted := true })
    else
      let s2 := if x = .twinMismatch then s1.modCore n (fun c => { c with twin := true }) else s1
      s2.endProgram n (.exception x.num)
  else s.coreReset n 1

/-- An exception taken whose cause word is its number. -/
def State.excAt (s : State) (n : Nat) (x : Exc) (addr : Nat) : State := s.excCause n x addr x.num

/-- An exception whose faulting address is the program counter. -/
def State.exc (s : State) (n : Nat) (x : Exc) : State := s.excAt n x (s.core n).pc

/-- An exception detected after issue (R102), with its cause word: taken at the next instruction boundary. A twin mismatch has occurred in
the command from its detection on (R103). -/
def State.pendCause (s : State) (n : Nat) (x : Exc) (cause : Nat) : State :=
  s.modCore n (fun c => { c with pendExc := c.pendExc ++ [(x, cause)], stall := .none, twin := c.twin || decide (x = .twinMismatch) })
/-- An exception detected after issue whose cause word is its number. -/
def State.pendException (s : State) (n : Nat) (x : Exc) : State := s.pendCause n x x.num

/-- The exception that a boundary takes: TWIN_MISMATCH if it is among them, else the first detected (R102). -/
def boundaryExc (l : List (Exc × Nat)) : Option (Exc × Nat) :=
  match l.find? (fun e => decide (e.1 = .twinMismatch)) with
  | some e => some e
  | none => l.head?

/-- Whether a core can issue: not resetting, not halted, no stall, its program not ended. -/
def Core.canIssue (c : Core) : Bool :=
  c.resetting.isNone && !c.halted && decide (c.stall = .none) && (!c.user || (c.run.isSome && c.ending.isNone))

/-- The refusal of an access of a core at K, if any (R77, R415, R421): in the core-local map its K rights hold, which the regions that the
runtime sets for a program do not narrow (log entry 67); from 0x2000_0000 upwards its MPU decides, for the running tenant. -/
def State.kRefusal (s : State) (n : Nat) (kind : AccKind) (a len : Nat) : Option MpuFault :=
  if a < 0x20000000 then
    (List.range len).findSome? (fun i =>
      if coreLocal (a + i) = false ∧ coreShared (a + i) = false then some ⟨a + i, .unmapped, 0xFF⟩
      else if kind = .fetch ∧ 0x4000 ≤ a + i then some ⟨a + i, .permission, 0xFF⟩
      else none)
  else s.mpuFirst (12 + n) .core ⟨.k, (s.core n).run.map (fun _ => s.coreTenant n), kind⟩ a len

/-- Whether a core's MPU permits an access at U for the running tenant: a program's, and those that its engine and units make for it (R77,
R412). -/
def State.coreMpu (s : State) (n : Nat) (kind : AccKind) (a len : Nat) : Bool :=
  (s.mpuFirst (12 + n) .core ⟨.u, some (s.coreTenant n), kind⟩ a len).isNone

/-- Whether the program counter may be fetched from: at U within the running program's code, as the core's MPU permits; at K in the runtime
area, or where the MPU permits above the core-local map (R77). -/
def State.fetchOk (s : State) (n : Nat) : Bool :=
  let k := s.core n
  if k.user then
    decide (codeBase n (s.coreImage n) ≤ k.pc) && decide (k.pc + 4 ≤ codeBase n (s.coreImage n) + (s.coreImage n).code.length)
      && s.coreMpu n .fetch k.pc 4
  else (s.kRefusal n .fetch k.pc 4).isNone

/-- The exceptions that the next boundary of a core sees: none once the runtime is ending the command (R102, R105). -/
def Core.boundary (c : Core) : List (Exc × Nat) := if c.user ∨ c.ending.isNone then c.pendExc else []

/-- Whether the next instruction of a core runs: it can issue, nothing stands at the boundary, the budget holds and the
fetch is allowed. -/
def State.runs (s : State) (n : Nat) : Bool :=
  (s.core n).canIssue && (s.core n).boundary.isEmpty && !((s.core n).user && (s.core n).budgetOut) && s.fetchOk n

/-- An instruction of a core (R102, R108, R77): where the core cannot issue nothing happens; an exception waiting at the
boundary is taken, unless the command has ended already; a spent budget raises BUDGET; a fetch outside the code takes ACCESS; else the instruction has its
effect. -/
def State.issue (s : State) (n : Nat) (f : State → State) : State :=
  let k := s.core n
  if k.canIssue = false then s
  else
    match boundaryExc k.boundary with
    | some x => (s.modCore n (fun c => { c with pendExc := [] })).excCause n x.1 k.pc x.2
    | none =>
      if k.user ∧ k.budgetOut then s.exc n .budget
      else if s.fetchOk n = false then s.exc n .access
      else f s

/-- Whether a range lies in the data area (R77). -/
def inData (a len : Nat) : Bool := decide (0x10000 ≤ a) && decide (a + len ≤ 0x20000)

/-- Whether two ranges of bytes share a byte. -/
def overlaps (a n b m : Nat) : Bool := decide (0 < n) && decide (0 < m) && decide (a < b + m) && decide (b < a + n)

/-- Whether a range touches a quarantined 64-byte line of a core (R160). -/
def Core.quarantined (c : Core) (a len : Nat) : Bool :=
  c.windows.any (fun w => w.2.any (fun x =>
    overlaps a len (x.1 / 64 * 64) ((x.1 + x.2 + 63) / 64 * 64 - x.1 / 64 * 64)))

/-- Local ranges that an outstanding operation of the core may still write: HGET destinations before HWAIT has returned,
destinations of queued engine operations and of unit requests (R82, R176). -/
def State.pendingWrites (s : State) (n : Nat) : List (Nat × Nat) :=
  let k := s.core n
  (k.xfers.filter (·.get)).map (fun x => (x.loc, x.len))
    ++ k.eng.filterMap (fun o => match o with
      | .crun _ d _ l _ _ _ => some (d, l + 32)
      | .tag _ d l => some (d, l)
      | .save _ d _ _ _ => some (d, 160)
      | _ => none)
    ++ (k.hreqs ++ tabGet [] (s.cluster (n / 8)).mau (n % 8)).flatMap (fun r =>
      [(r.addr, 64), (leAt r.block 32 8, leAt r.block 20 4), (leAt r.block 40 8, 4096)])

/-- Whether a byte read before the operation that writes it has ended: its value is open (R82, R176). -/
def State.racy (s : State) (n a len : Nat) : Bool := (s.pendingWrites n).any (fun r => overlaps a len r.1 r.2)

/-- Whether a program may load from a range: data area outside quarantine, or its constants, as the core's MPU permits (R77, R160). -/
def State.userLoadOk (s : State) (n a len : Nat) : Bool :=
  ((inData a len && !(s.core n).quarantined a len)
    || (decide (s.constBase n ≠ 0) && decide (s.constBase n ≤ a)
        && decide (a + len ≤ s.constBase n + (s.coreImage n).consts.length))) && s.coreMpu n .read a len

/-- Whether a program may store to a range (R77, R160). -/
def State.userStoreOk (s : State) (n a len : Nat) : Bool :=
  inData a len && !(s.core n).quarantined a len && s.coreMpu n .write a len

/-- The bytes that a load of local or shared memory reads, where allowed. Bytes that an operation in flight may still write are open (R82). -/
def State.loadBytes (s : State) (n a len : Nat) : Bytes × State :=
  if s.racy n a len then s.freshBytes len
  else if coreShared a then (memRead (s.cluster (n / 8)).shared (a - 0x100000) len, s)
  else (memRead (s.core n).mem a len, s)

/-- Bytes stored to the data area by the program or the runtime: an HPUT that still reads one of them is marked (R82). -/
def State.storeLocal (s : State) (n a : Nat) (b : Bytes) : State :=
  s.modCore n (fun c => { c with
    mem := memWrite c.mem a b
    xfers := c.xfers.map (fun x => if x.get = false ∧ x.done = false ∧ overlaps a b.length x.loc x.len then { x with raced := true } else x) })

/-- A store, where allowed. -/
def State.storeBytes (s : State) (n a : Nat) (b : Bytes) : State :=
  if coreLocal a then s.storeLocal n a b
  else if coreShared a then s.modCluster (n / 8) (fun c => { c with shared := memWrite c.shared (a - 0x100000) b })
  else s

/-- The core address of an operand: a register plus an offset, modulo 2^64. -/
def State.addrOf (s : State) (n ga : Nat) (imm : BitVec 16) : Nat := (s.getG n ga + imm.signExtend 64).toNat

/-- A taken branch or jump: outside the running program's code it takes ACCESS at the target fetch (R91). -/
def State.jumpTo (s : State) (n target : Nat) : State :=
  let s1 := s.modCore n (fun c => { c with pc := target })
  if s1.fetchOk n then s1 else s1.excAt n .access target

/-- The target of a signed offset that counts instructions from the branch itself, an address modulo 2^64 (R83). -/
def State.target (s : State) (n : Nat) (off : Int) : Nat := ((((s.core n).pc : Int) + 4 * off) % 2 ^ 64).toNat

/-- A conditional branch (R91). -/
def State.branch (s : State) (n : Nat) (taken : Bool) (off : Int) : State :=
  if taken then s.jumpTo n (s.target n off) else s.nextPc n

/-- Total input length of a command (R78). -/
def Entry.inLen (e : Entry) : Nat := ((e.inline.getD []).length) + (e.inputs.map (·.2)).foldl (· + ·) 0

/-- The host ranges of an input range: address and length, in segment order (R96). -/
def inputRanges : List (Nat × Nat) → Nat → Nat → List (Nat × Nat)
  | [], _, _ => []
  | (a, l) :: r, off, len =>
    if len = 0 then []
    else if l ≤ off then inputRanges r (off - l) len
    else (a + off, min len (l - off)) :: inputRanges r 0 (len - min len (l - off))

/-- The part of an input range that lies in the inline input, and the offset and length of the rest in the host ranges: an
inline first segment stands before the later segments (R43, R96). -/
def Entry.inlinePart (e : Entry) (off len : Nat) : Bytes × Nat × Nat :=
  let b := slice (e.inline.getD []) off (min len ((e.inline.getD []).length - off))
  (b, off + b.length - (e.inline.getD []).length, len - b.length)

/-- The ranges of a read cut at 512-byte boundaries, with the offset of each in the transfer (R316). -/
def readParts : List (Nat × Nat) → Nat → List (Nat × Nat × Nat)
  | [], _ => []
  | (a, l) :: r, off =>
    (splitRange 512 (l + 1) a l).map (fun p => (off + (p.1 - a), p.1, p.2)) ++ readParts r (off + l)

/-- Host transfers outstanding (R96). -/
def Core.openXfers (c : Core) : Nat := (c.xfers.filter (fun x => !x.done)).length

/-- Whether an HGET or HPUT takes DMA_FAULT at issue (R96, R160). -/
def State.dmaBad (s : State) (n loc off len lim : Nat) (put : Bool) : Bool :=
  decide (len = 0) || decide (65536 < len) || !inData loc len || decide (lim < off + len)
    || (put && (s.core n).quarantined loc len)

/-- A host transfer begun (R96): the port's MPU checks the host range whole; a refused one moves nothing and is reported
at the next HWAIT (R97, R421). Reads are handed to the port of the command's ring. -/
def State.beginXfer (s : State) (n : Nat) (e : Entry) (x : Xfer) (ranges : List (Nat × Nat)) (kind : AccKind) : State :=
  let p := if x.get then (s.sq e.tenant e.ring).cur else (s.cq e.tenant (s.sq e.tenant e.ring).cq).cur
  let acc := MpuAccess.mk .u (some e.tenant) kind
  let s0 := s.modCore n (fun c => { c with nextXfer := c.nextXfer + 1 })
  match ranges.findSome? (fun r => s.mpuFirst (4 + p) .host acc r.1 r.2) with
  | some f =>
    (s0.mpuReport (4 + p) acc f).modCore n (fun c => { c with xfers := c.xfers ++ [{ x with done := true, fail := some .refused }] })
  | none =>
    if x.get then
      let parts := readParts ranges (x.len - (ranges.map (·.2)).foldl (· + ·) 0)
      let s1 := s0.modCore n (fun c => { c with xfers := c.xfers ++ [{ x with parts := parts.length }] })
      parts.foldl (fun s r => s.hostRead p .core r.2.1 r.2.2 (.ring e.tenant e.ring e.id) (.transfer n x.num r.1)) s1
    else s0.modCore n (fun c => { c with xfers := c.xfers ++ [x] })

/-- HWAIT once nothing is outstanding (R97): a refusal or an abort is reported by DMA_FAULT, else it returns and the
transfers before it are done with. -/
def State.hwaitReturn (s : State) (n : Nat) : State :=
  let k := s.core n
  let ab := k.xfers.any (fun x => x.fail == some .aborted)
  let rf := k.xfers.any (fun x => x.fail == some .refused)
  let s1 := s.modCore n (fun c => { c with xfers := [], linkAborted := c.linkAborted || ab, refused := c.refused || rf, stall := .none })
  if ab || rf then s1.exc n .dmaFault else s1.nextPc n

/-- A stall in WAIT ends on a completion (R92). -/
def State.wake (s : State) (n : Nat) : State :=
  s.modCore n (fun c => { c with stall := if c.stall = .wait then .none else c.stall })

/-- Whether a random draw by a core would stall (R99): before the first seed and while its instance is blocked. -/
def State.randStalls (s : State) (n bytes : Nat) : Bool := (s.coreDraw n bytes).isNone

/-- Staged commands of a cluster go back to the ready state (R387). -/
def State.unstage (s : State) (c : Nat) : State :=
  { s with prf := { s.prf with entries := s.prf.entries.map (fun e =>
      match e.phase with
      | .staged n => if n / 8 = c then { e with phase := .waiting } else e
      | _ => e) } }

/-- A cluster reset: commands still running on it complete ABORTED, and its cores, engines, MAU and hash unit are reset, with
new context keys (R139, R387). -/
def State.clusterReset (s : State) (c : Nat) : State :=
  let s0 := s.unstage c
  let s1 := (List.range 8).foldl (fun s i =>
    let n := c * 8 + i
    let s := s.sendPuts n
    let k := s.core n
    let s1 : State := match s.coreEntry n with
      | some e => if e.phase = CmdPhase.ended then s else s.finish e.id .aborted 0
      | none => s
    let (key, s2) := match s1.drbgBytes n 32 with
      | some r => r
      | none => ([], s1)
    s2.modCore n (fun _ => { Core.reset with ctxKey := key, nextXfer := k.nextXfer })) s0
  s1.modCluster c (fun k => { k with mau := [], turn := 8, busy := none })

/-- Whether a rotation test waits or runs. -/
def Ras.rotating (r : Ras) : Bool :=
  r.queue.any (fun q => decide (q.2 = .rotation)) || r.tests.any (fun t => decide (t.cause = .rotation))

/-- A rotation pass whose clusters have all been queued and tested ends: ROTATIONS counts it (R464). -/
def State.passDone (s : State) : State :=
  if s.ras.pass = some [] ∧ s.ras.rotating = false then
    (s.inc Reg.RAS_ROT_STAT_ROTATIONS).modRas (fun r => { r with pass := none, once := false })
  else s

/-- A test that runs on a cluster ended or abandoned: the drain that it asked for ends (R463). -/
def State.closeTest (s : State) (c : Nat) : State :=
  if s.ras.tests.any (fun t => t.cluster = c) then
    let s1 := s.modRas (fun r => { r with tests := r.tests.filter (fun t => t.cluster ≠ c) })
    let s2 : State := { s1 with prf := { s1.prf with drained := s1.prf.drained.filter (· ≠ c) } }
    (if s2.rd Reg.PRF_DRAIN_CLUSTER = c then s2.wr Reg.PRF_DRAIN_REQ 0 else s2).passDone
  else s

/-- A test abandoned (R463): CLUSTER_TEST_SKIPPED with 1 drain time-out or 2 block reset. -/
def State.skipTest (s : State) (c why : Nat) : State :=
  if s.ras.tests.any (fun t => t.cluster = c) then
    ((s.closeTest c).wr (Reg.RAS_CL_HEALTH_LAST c) 3).emit .clusterTestSkipped none srcS0 c why 0
  else s

/-- The lowest-numbered cluster that the power cap holds out is released and queued for its test: a cluster in service was
retired (R475). -/
def State.fillCap (s : State) : State :=
  match (List.range 24).find? (fun c => s.ras.held.contains c) with
  | none => s
  | some c => s.modRas (fun r => { r with held := r.held.filter (· ≠ c), queue := r.queue ++ [(c, .returned)] })

/-- A cluster retired (R462): it leaves dispatch, stays in reset and is marked in MRAM; CLUSTER_RETIRED with its cause and
the clusters in service, and condition 2 of R336 where too many are retired. -/
def State.retireCluster (s : State) (c cause : Nat) : State :=
  let was := bitAt s.ras.inService c
  let s1 := ((s.closeTest c).clusterReset c).modRas (fun r => { r with
    retired := setBits r.retired c 1 1, inService := setBits r.inService c 1 0, queue := r.queue.filter (fun q => q.1 ≠ c) })
  let s2 := s1.emit .clusterRetired none srcS0 c cause (clusterCount s1.ras.inService)
  let s3 := if s2.rd Reg.STR_DIAG_CFG_RETIRE_MAX < clusterCount s2.ras.retired then s2.latchCond 2 else s2
  (if was then s3.fillCap else s3).passDone

/-- The health count of a core's cluster advanced, with the cause of CORE_CHECK_FAILED: 1 twin, 2 residue, 3 register
file, 4 memory, 5 unit (R461, R469). `core` is 0xFF where no core is concerned. -/
def State.healthUp (s : State) (c core cause : Nat) : State :=
  let s1 := (s.satInc (Reg.RAS_CL_HEALTH_COUNT c)).satInc (Reg.RAS_CL_HEALTH_EVENTS c)
  let n := s1.rd (Reg.RAS_CL_HEALTH_COUNT c)
  let s2 := s1.emit .coreCheckFailed none (Config.blockSource 7) (joined c core) cause n
  let due (s : State) : State :=
    if s.ras.queue.any (fun q => q.1 = c) then s else s.modRas (fun r => { r with queue := r.queue ++ [(c, .health)] })
  if n < max 1 (s2.rd Reg.RAS_HEALTH_CFG_THRESH) then s2
  else
    match tabGet none s2.ras.passed c with
    | some t => if s2.now < t + s2.secRaw (s2.rd Reg.RAS_HEALTH_CFG_WINDOW) then s2.retireCluster c 2 else due s2
    | none => due s2

end Sys2Proof.Machine
end

