-- ==== Sys2Proof/Machine/Flags.lean ====
section
/-! DEFINITION. The computations of the integer unit that give more than a sum: comparison, division corners, digits
(R85 to R88). The core has no flags register. -/

namespace Sys2Proof.Machine

/-- The shift amount of a register: its bits [5:0] (R85). -/
def shiftAmount (b : BitVec 64) : Nat := b.toNat % 64

/-- The high 64 bits of the unsigned product (R85). -/
def mulHigh (a b : BitVec 64) : BitVec 64 := BitVec.ofNat 64 (a.toNat * b.toNat / 2 ^ 64)

/-- The unsigned quotient, all ones for a zero divisor (R86). -/
def divOrOnes (a b : BitVec 64) : BitVec 64 := if b = 0#64 then BitVec.allOnes 64 else a / b

/-- The unsigned remainder, all ones for a zero divisor (R86). -/
def remOrOnes (a b : BitVec 64) : BitVec 64 := if b = 0#64 then BitVec.allOnes 64 else a % b

/-- The signed comparison: −1, 0 or 1 (R85). -/
def compareSigned (a b : BitVec 64) : BitVec 64 := if a.slt b then BitVec.allOnes 64 else if a = b then 0#64 else 1#64

/-- The lowest bit of digit `i` in a register (R87). -/
def digitLo (i : Nat) : Nat := 8 * (i / 2) + 4 * (1 - i % 2)
/-- Digit `i` of a register (R87). -/
def digitOf (v : BitVec 64) (i : Nat) : Nat := bitsAt v.toNat (digitLo i) 4
/-- A register with digit `i` replaced (R85, R87). -/
def setDigit (v : BitVec 64) (i d : Nat) : BitVec 64 := BitVec.ofNat 64 (setBits v.toNat (digitLo i) 4 d)

/-- The sum of ISO/IEC 7812 over a payload, rightmost digit first: every second digit doubled, beginning with the first. -/
def luhnSum : List Nat → Bool → Nat
  | [], _ => 0
  | d :: r, dbl => (if dbl then (if 9 < 2 * d then 2 * d - 9 else 2 * d) else d) + luhnSum r (!dbl)

/-- The digits 0 to n − 1 of LUHN: 0 to 15 from ga, 16 and 17 from gb (R88). -/
def luhnDigits (a b : BitVec 64) (n : Nat) : List Nat :=
  (List.range n).map (fun i => if i < 16 then digitOf a i else digitOf b (i - 16))

/-- The check digit of n digits, all ones where one exceeds 9 (R88). -/
def luhn (a b : BitVec 64) (n : Nat) : BitVec 64 :=
  let l := luhnDigits a b n
  if l.any (fun d => decide (9 < d)) then BitVec.allOnes 64
  else BitVec.ofNat 64 ((10 - luhnSum l.reverse true % 10) % 10)

end Sys2Proof.Machine
end

