-- ==== Sys2Proof/Machine/Operands.lean ====
section
/-! DEFINITION. The operand forms of the core's instructions: three registers, a register and an immediate, a branch, the
pair of format K (R83, R124), and which words are instructions at all (R84). -/

namespace Sys2Proof.Machine

/-- Format A with three registers: gd gets a function of ga and gb (R83). -/
def State.op3 (s : State) (n gd ga gb : Nat) (f : BitVec 64 → BitVec 64 → BitVec 64) : State :=
  s.issue n (fun s => s.ret n gd (f (s.getG n ga) (s.getG n gb)))

/-- Format I: gd gets a function of ga (R83). -/
def State.opImm (s : State) (n gd ga : Nat) (f : BitVec 64 → BitVec 64) : State :=
  s.issue n (fun s => s.ret n gd (f (s.getG n ga)))

/-- An integer operation under the residue check of its unit: gd gets its result, or, where the check fails, the command ends (R102,
R461; log entry 69). -/
def State.opChecked (s : State) (n : Nat) (gd : Nat) (f : State → BitVec 64) : State :=
  s.issue n (fun s =>
    if (s.core n).badAt = some (s.core n).pc then (s.coreCheck n).healthUp (n / 8) (n % 8) 2 else s.ret n gd (f s))

/-- Format B: a branch taken where a condition on ga and gb holds (R91). -/
def State.opBranch (s : State) (n ga gb : Nat) (off : Int) (f : BitVec 64 → BitVec 64 → Bool) : State :=
  s.issue n (fun s => s.branch n (f (s.getG n ga) (s.getG n gb)) off)

/-- Whether a general-register field obeys the pair rule of format K (R124). -/
def pairOk (gr : Nat) : Bool := decide (1 ≤ gr) && decide (gr ≤ 28)
/-- Whether an s-register field names a register (R124). -/
def sOk (r : Nat) : Bool := decide (r ≤ 7)

/-- A field of an instruction word. -/
def wf (w : BitVec 32) (lo n : Nat) : Nat := bitsAt w.toNat lo n

/-- Whether the status words that MFS may name include a number (R94); runtime words are K's. -/
def mfsWord (user : Bool) (i : Nat) : Bool :=
  decide (i ≤ 8) || (decide (0x10 ≤ i) && decide (i ≤ 0x12)) || (!user && decide (0x20 ≤ i) && decide (i ≤ 0x2F))
/-- Whether the status words that MTS may name include a number (R94). -/
def mtsWord (user : Bool) (i : Nat) : Bool :=
  (decide (0x10 ≤ i) && decide (i ≤ 0x12)) || (!user && decide (0x20 ≤ i) && decide (i ≤ 0x2F))

/-- Whether a word of majors 0x1B and 0x1C is an instruction (R91 to R93). -/
def legalSystem (user : Bool) (w : BitVec 32) : Bool :=
  let gd := wf w 21 5; let ga := wf w 16 5; let gb := wf w 11 5; let f := wf w 0 11
  if wf w 26 6 = 0x1B then decide (f = 1 ∧ gd = 0 ∧ gb = 0)
  else
    match f with
    | 1 => decide (gd = 0 ∧ gb = 0 ∧ ga < 16)
    | 2 => decide (gd = 0 ∧ ga = 0 ∧ gb = 0)
    | 3 => decide (gd = 0 ∧ ga = 0 ∧ gb = 0)
    | 4 => decide (gd = 0 ∧ ga = 0) && (!user || decide (gb ≤ 2) || decide (gb = 31))
    | 5 => decide (gd = 0 ∧ ga = 0 ∧ gb = 0) && !user
    | 6 => decide (ga = 0 ∧ gb = 0)
    | _ => false

/-- Whether a word of the unit requests, majors 0x25 and 0x26, is an instruction (R173). -/
def legalUnit (w : BitVec 32) : Bool :=
  let d := wf w 22 4; let a := wf w 18 4; let b := wf w 14 4; let f := wf w 0 9
  decide (a = 0 ∧ b = 0) &&
    (if wf w 26 6 = 0x25 then
      [3, 0xA, 0x10, 0x11].contains f || ([1, 2, 8, 9, 0xC, 0xD, 0x14, 0x15, 0x18, 0x19].contains f && decide (d = 0))
    else decide (d = 0 ∧ 1 ≤ f % 256 ∧ f % 256 ≤ 7))

/-- Whether a word of the engine majors 0x30 to 0x36 is an instruction (R124, R138). -/
def legalEngine (w : BitVec 32) : Bool :=
  let gd := wf w 21 5; let ga := wf w 16 5; let gb := wf w 11 5; let k := wf w 5 4; let v := wf w 0 5
  match wf w 26 6 with
  | 0x30 => decide (v = 0 ∧ gd = 0 ∧ gb = 0)
  | 0x31 => decide (v ≤ 2 ∧ gd = 0 ∧ k = 0)
  | 0x32 => decide (v ≤ 3 ∧ k = 0)
  | 0x33 => decide (k = 0) && (match v with | 0 => decide (gd = 0) | 1 => true | 2 => decide (ga = 0 ∧ gb = 0) | _ => false)
  | 0x34 => decide (v ≤ 1 ∧ gd = 0 ∧ gb = 0 ∧ k = 0)
  | 0x35 => decide (v ≤ 1 ∧ gd = 0 ∧ gb = 0) && (decide (v = 0) || decide (k = 0))
  | _ => decide (v = 0 ∧ k = 0)

/-- Whether a word of majors 0x38 to 0x3E is an instruction (R124, R128, R142). -/
def legalSecret (w : BitVec 32) : Bool :=
  let d := wf w 22 4; let a := wf w 18 4; let b := wf w 14 4; let gr := wf w 9 5; let f := wf w 0 9
  let p := pairOk gr
  match wf w 26 6 with
  | 0x38 =>
    if f = 1 then decide (a = 0 ∧ b = 0)
    else if f = 2 then decide (a = 0 ∧ b = 0 ∧ gr = 0)
    else if f = 3 then decide (d = 0 ∧ a = 0 ∧ b = 0 ∧ gr = 0)
    else decide (4 ≤ f ∧ f ≤ 8 ∧ d = 0 ∧ b = 0)
  | 0x39 => (decide (f = 1 ∧ b = 0) || decide (f = 2 ∧ d = 0)) && p
  | 0x3A => [1, 2, 3, 4, 8, 9].contains f && decide (b = 0) && p
  | 0x3B => decide (f = 1 ∧ a = 0 ∧ b = 0)
  | 0x3C =>
    if 0x10 ≤ f ∧ f ≤ 0x14 then sOk d && decide (b = 0) && p
    else if f = 0x18 then sOk d && decide (b = 0)
    else decide (0x20 ≤ f ∧ f ≤ 0x24 ∧ d = 0) && sOk b && p
  | 0x3D =>
    if 1 ≤ f ∧ f ≤ 3 then decide (d = 0) && sOk b && p
    else if f = 8 then sOk d && decide (a = 0 ∧ b = 0)
    else if f = 9 then sOk d && decide (b = 0) && p
    else if f = 0x10 then sOk d && sOk b && decide (a = 0)
    else if f = 0x18 ∨ f = 0x19 then decide (d = 0 ∧ b = 0) && p
    else decide (f = 0x1A ∧ d = 0) && sOk b
  | _ =>
    if f = 1 then sOk b && decide (d = 0 ∧ a = 0)
    else if f = 2 then sOk d && decide (a = 0 ∧ b = 0 ∧ gr = 0)
    else decide (f = 3 ∧ d = 0 ∧ a = 0 ∧ b = 0 ∧ gr = 0)

/-- Whether a 32-bit word is an instruction at a level (R84): else it takes ILLEGAL. -/
def legalWord (user : Bool) (w : BitVec 32) : Bool :=
  let m := wf w 26 6; let gd := wf w 21 5; let ga := wf w 16 5; let gb := wf w 11 5; let f := wf w 0 11; let imm := wf w 0 16
  if m = 0 then
    (decide (1 ≤ f ∧ f ≤ 8)) || (decide (0x10 ≤ f ∧ f ≤ 0x13)) || [0x18, 0x20, 0x21].contains f || decide (0x41 ≤ f ∧ f ≤ 0x52)
  else if m ≤ 4 then true
  else if m = 5 then decide (ga = 0)
  else if m < 0x10 then false
  else if m ≤ 0x1A then true
  else if m ≤ 0x1C then legalSystem user w
  else if m = 0x1D then decide (ga = 0) && mfsWord user imm
  else if m = 0x1E then decide (gd = 0) && mtsWord user imm
  else if m = 0x1F then false
  else if m ≤ 0x21 then decide (f = 0)
  else if m = 0x22 then decide (gd = 0 ∧ ga = 0 ∧ gb = 0 ∧ f = 0)
  else if m = 0x23 then decide (ga = 0 ∧ imm ≤ 4)
  else if m = 0x24 then decide (gd = 0 ∧ imm ≤ 4)
  else if m ≤ 0x26 then legalUnit w
  else if m = 0x27 then decide (ga = 0 ∧ gb = 0 ∧ f = 0)
  else if m < 0x30 then false
  else if m ≤ 0x36 then legalEngine w
  else if m = 0x37 ∨ m = 0x3F then false
  else legalSecret w

end Sys2Proof.Machine
end

