-- ==== Sys2Proof/Machine/Control.lean ====
section
/-! DEFINITION. Branches and jumps, system instructions, status words, terminal fields and random numbers (R91 to R95,
R98, R99). -/

namespace Sys2Proof.Machine

/-- BEQ: taken if ga = gb (R91). -/
def execBeq (core : Fin 192) (ga gb : Fin 32) (off : BitVec 16) (s : State) : Host.Outcome State Fault Refusal :=
  .next (s.opBranch core ga gb off.toInt (fun a b => a == b))
/-- BNE: taken if ga ≠ gb (R91). -/
def execBne (core : Fin 192) (ga gb : Fin 32) (off : BitVec 16) (s : State) : Host.Outcome State Fault Refusal :=
  .next (s.opBranch core ga gb off.toInt (fun a b => a != b))
/-- BLT: signed less (R91). -/
def execBlt (core : Fin 192) (ga gb : Fin 32) (off : BitVec 14) (s : State) : Host.Outcome State Fault Refusal :=
  .next (s.opBranch core ga gb off.toInt (fun a b => a.slt b))
/-- BGE: signed greater or equal (R91). -/
def execBge (core : Fin 192) (ga gb : Fin 32) (off : BitVec 14) (s : State) : Host.Outcome State Fault Refusal :=
  .next (s.opBranch core ga gb off.toInt (fun a b => !a.slt b))
/-- BLTU: unsigned less (R91). -/
def execBltu (core : Fin 192) (ga gb : Fin 32) (off : BitVec 14) (s : State) : Host.Outcome State Fault Refusal :=
  .next (s.opBranch core ga gb off.toInt (fun a b => a.ult b))
/-- BGEU: unsigned greater or equal (R91). -/
def execBgeu (core : Fin 192) (ga gb : Fin 32) (off : BitVec 14) (s : State) : Host.Outcome State Fault Refusal :=
  .next (s.opBranch core ga gb off.toInt (fun a b => !a.ult b))
/-- JAL: g31 ← address + 4; jump (R91). -/
def execJal (core : Fin 192) (off : BitVec 26) (s : State) : Host.Outcome State Fault Refusal :=
  .next (s.issue core (fun s =>
    let t := s.target core off.toInt
    (s.setG core 31 (BitVec.ofNat 64 ((s.core core).pc + 4))).jumpTo core t))
/-- JR: jump to ga; a target that is not a multiple of 4 takes ALIGN (R91). -/
def execJr (core : Fin 192) (ga : Fin 32) (s : State) : Host.Outcome State Fault Refusal :=
  .next (s.issue core (fun s =>
    let t := (s.getG core ga).toNat
    if t % 4 ≠ 0 then s.excAt core .align t else s.jumpTo core t))

/-- Whether an engine or unit operation of a core has not ended (R81). -/
def State.unitsBusy (s : State) (n : Nat) : Bool :=
  !(s.core n).eng.isEmpty || !(s.core n).hreqs.isEmpty || !(tabGet [] (s.cluster (n / 8)).mau (n % 8)).isEmpty
    || (match (s.cluster (n / 8)).busy with | some (r, _) => r == n % 8 | none => false)

/-- FENCE: with scope E it waits for every engine, MAU and hash operation; with scope H later HPUTs are strongly ordered.
L and C hold in a core that runs its instructions in order (R81). -/
def execFence (core : Fin 192) (mask : BitVec 4) (s : State) : Host.Outcome State Fault Refusal :=
  .next (s.issue core (fun s =>
    if bitAt mask.toNat 3 ∧ s.unitsBusy core then s
    else (s.modCore core (fun c => { c with fences := c.fences + b2n (bitAt mask.toNat 2) })).nextPc core))

/-- YIELD: a pause of at most 16 cycles (R92); only the program counter advances. -/
def execYield (core : Fin 192) (s : State) : Host.Outcome State Fault Refusal := .next (s.issue core (fun s => s.nextPc core))

/-- WAIT: stalls until an operation of the core completes or the cancel flag is set (R92). -/
def execWait (core : Fin 192) (s : State) : Host.Outcome State Fault Refusal :=
  .next (s.issue core (fun s =>
    let s1 := s.nextPc core
    if (s.core core).cancel then s1 else s1.modCore core (fun c => { c with stall := .wait })))

/-- What TRAP does at K: its use there belongs to the runtime, and the core goes on (R93). -/
def State.trapAtK (s : State) (n : Nat) : State := s.nextPc n

/-- TRAP 0, END: the command ends with the status in CSTATUS (R93). -/
def execTrapEnd (core : Fin 192) (s : State) : Host.Outcome State Fault Refusal :=
  .next (s.issue core (fun s => if (s.core core).user then s.endProgram core .trapEnd else s.trapAtK core))
/-- TRAP 1, FAIL: the command ends with PROGRAM_FAULT and PSTATUS (R93). -/
def execTrapFail (core : Fin 192) (s : State) : Host.Outcome State Fault Refusal :=
  .next (s.issue core (fun s => if (s.core core).user then s.endProgram core .trapFail else s.trapAtK core))
/-- TRAP 2, CANCEL_ACK: the command ends with CANCELLED if the cancel flag is set; otherwise ILLEGAL (R93). -/
def execTrapCancelAck (core : Fin 192) (s : State) : Host.Outcome State Fault Refusal :=
  .next (s.issue core (fun s =>
    if (s.core core).user then
      if (s.core core).cancel then s.endProgram core .trapCancel else s.exc core .illegal
    else s.trapAtK core))
/-- TRAP 31, BRK: raises BREAK (R93). -/
def execTrapBrk (core : Fin 192) (s : State) : Host.Outcome State Fault Refusal :=
  .next (s.issue core (fun s => if (s.core core).user then s.exc core .brk else s.trapAtK core))

/-- ERET: at K the core enters U at the saved program counter; at U it takes ILLEGAL (R75, R92). -/
def execEret (core : Fin 192) (s : State) : Host.Outcome State Fault Refusal :=
  .next (s.issue core (fun s =>
    if (s.core core).user then s.exc core .illegal
    else s.modCore core (fun c => { c with user := true, pc := c.epc })))

/-- CANCELQ: gd ← 1 if the command's cancel flag is set, else 0 (R92). -/
def execCancelq (core : Fin 192) (gd : Fin 32) (s : State) : Host.Outcome State Fault Refusal :=
  .next (s.issue core (fun s => s.ret core gd (BitVec.ofNat 64 (b2n (s.core core).cancel))))

/-- The code of a flow mode (R32). -/
def FlowMode.val : FlowMode → Nat
  | .relaxed => 0 | .ordered => 1 | .atomic => 2

/-- CFLAGS of a command (R94). -/
def Entry.cflags (e : Entry) : Nat :=
  b2n e.inline.isSome + 2 * b2n e.tctx + 4 * b2n e.fence + 8 * e.mode.val + 32 * b2n (decide (1 < e.segs)) + 64 * b2n e.d2
    + 256 * ((List.range 4).foldl (fun m i => m + b2n (e.handles.getD i none).isSome * 2 ^ i) 0)

/-- A status word as MFS reads it (R94); the remaining budget is an open value no larger than the package's, since the model counts no cycles
(log entry 2). -/
def State.statusWord (s : State) (n w : Nat) : BitVec 64 × State :=
  let k := s.core n
  let e := s.coreEntry n
  let v (x : Nat) : BitVec 64 × State := (BitVec.ofNat 64 x, s)
  match w with
  | 0x00 => v n
  | 0x01 => v (s.coreTenant n)
  | 0x02 => v ((e.map (·.prog)).getD 0)
  | 0x03 => v ((e.map Entry.cflags).getD 0)
  | 0x04 => v ((e.map (·.seqNo)).getD 0 % 2 ^ 32)
  | 0x05 => v s.now
  | 0x06 => v s.time.state.val
  | 0x07 =>
    let r := s.fresh
    (BitVec.ofNat 64 (r.1.toNat % ((s.coreImage n).budget + 1)), r.2)
  | 0x08 => v (s.constBase n)
  | 0x10 => v k.pstatus
  | 0x11 => v k.outLen
  | 0x12 => v k.cstatus.code
  | _ => (tabGet 0#64 k.words (w - 0x20), s)

/-- MFS: gd ← a status word; one without the needed right takes ILLEGAL (R94). -/
def execMfs (core : Fin 192) (gd : Fin 32) (word : BitVec 16) (s : State) : Host.Outcome State Fault Refusal :=
  .next (s.issue core (fun s =>
    if mfsWord (s.core core).user word.toNat = false then s.exc core .illegal
    else
      let r := s.statusWord core word.toNat
      r.2.ret core gd r.1))

/-- The completion statuses that CSTATUS accepts (R95). -/
def cstatusOf (v : Nat) : Option Status :=
  [Status.ok, .keyUsage, .keyExpired, .keyBlockIntegrity, .authFail, .replay].find? (fun st => st.code == v)

/-- The output maximum of the command that a core runs. -/
def State.outMax (s : State) (n : Nat) : Nat := ((s.coreEntry n).map (·.outMax)).getD 0

/-- MTS: a status word ← ga (R94, R95). CSTATUS held by a failed tag or a replay keeps its value without an exception
(R140, R250). -/
def execMts (core : Fin 192) (ga : Fin 32) (word : BitVec 16) (s : State) : Host.Outcome State Fault Refusal :=
  .next (s.issue core (fun s =>
    let v := s.getG core ga
    if mtsWord (s.core core).user word.toNat = false then s.exc core .illegal
    else
      match word.toNat with
      | 0x10 => (s.modCore core (fun c => { c with pstatus := v.toNat % 65536 })).nextPc core
      | 0x11 =>
        let m := min v.toNat (s.outMax core)
        (s.modCore core (fun c => { c with outLen := m })).nextPc core
      | 0x12 =>
        if (s.core core).locked then s.nextPc core
        else
          match cstatusOf v.toNat with
          | none => s.exc core .illegal
          | some st => (s.modCore core (fun c => { c with cstatus := st })).nextPc core
      | w => (s.modCore core (fun c => { c with words := tabSet 0#64 c.words (w - 0x20) v })).nextPc core))

/-- A field of a terminal copy as TGET reads it (R98). -/
def TermCopy.field (t : TermCopy) (i : Nat) : Nat :=
  match i with | 0 => t.counter | 1 => t.flags | 2 => t.age | 3 => t.port | _ => t.id

/-- TGET: gd ← a field of the command's terminal context (R98). A number of no field takes ILLEGAL even without TCTX, where ACCESS
holds too: the spec gives no order (log entry 56). -/
def execTget (core : Fin 192) (gd : Fin 32) (field : BitVec 16) (s : State) : Host.Outcome State Fault Refusal :=
  .next (s.issue core (fun s =>
    if 4 < field.toNat then s.exc core .illegal
    else
      match (s.core core).term with
      | none => s.exc core .access
      | some t => s.ret core gd (BitVec.ofNat 64 (t.field field.toNat))))

/-- TPUT: field 0 writes the copy and posts a compare-and-write; field 1 writes the copy and the entry; the others take
ACCESS, and a number of no field ILLEGAL even without TCTX (R98, R250; log entry 56). A field 1 that does not change the entry changes no mirrored state. -/
def execTput (core : Fin 192) (ga : Fin 32) (field : BitVec 16) (s : State) : Host.Outcome State Fault Refusal :=
  .next (s.issue core (fun s =>
    let v := (s.getG core ga).toNat
    if 4 < field.toNat then s.exc core .illegal
    else
      match (s.core core).term with
      | none => s.exc core .access
      | some t =>
        if field = 0#16 then
          (s.modCore core (fun c => { c with term := some { t with counter := v }, post := c.post ++ [v] })).nextPc core
        else if field = 1#16 then
          let f := v % 65536
          let s1 := s.modCore core (fun c => { c with term := some { t with flags := f } })
          let old := ((s.term? (s.coreTenant core) t.id).map (·.flags)).getD f
          (match (s.core core).run with
            | some id => if old = f then s1 else s1.termChange (s.coreTenant core) t.id id false (fun x => { x with flags := f })
            | none => s1).nextPc core
        else s.exc core .access))

/-- TERMINAL_COUNTER_WRITE: the bucket's stage answers the oldest posted compare-and-write: a newer counter is written,
any other makes the command's CSTATUS REPLAY for good (R250). With WT the answer waits for the lines of the entry's spill chain
(R253). -/
def execTerminalCounterWrite (core : Fin 192) (s : State) : Host.Outcome State Fault Refusal :=
  match (s.core core).post, (s.core core).term with
  | v :: rest, some t =>
    let c0 := ((s.term? (s.coreTenant core) t.id).map (·.counter)).getD 0
    let w := if s.bit Reg.TBL_CTL_WT ∧ c0 < v then s.wantLines (s.chainWants (s.coreTenant core) t.id) else (true, s)
    let s1 := w.2.modCore core (fun c => { c with post := rest })
    if w.1 = false then .next w.2
    else if c0 < v then
      .next (match (s.core core).run with
        | some id => s1.termChange (s.coreTenant core) t.id id true (fun x => { x with counter := v })
        | none => s1)
    else
      .next ((s1.inc (Reg.TBL_CNT_COUNT 6)).modCore core (fun c =>
        if c.locked then c else { c with cstatus := .replay, locked := true }))
  | _, _ => .next s

/-- RAND: gd ← 64 bits of the core's DRBG instance; it stalls before the first seed and while the instance is blocked
(R99). -/
def execRand (core : Fin 192) (gd : Fin 32) (s : State) : Host.Outcome State Fault Refusal :=
  .next (s.issue core (fun s =>
    match s.coreDraw core 8 with
    | none => s
    | some (b, s1) => s1.ret core gd (BitVec.ofNat 64 (leToNat b))))

/-- ILLEGAL_OPCODE: a word that is no instruction takes ILLEGAL (R84). -/
def execIllegalOpcode (core : Fin 192) (word : BitVec 32) (s : State) : Host.Outcome State Fault Refusal :=
  .next (s.issue core (fun s => if legalWord (s.core core).user word then s else s.exc core .illegal))

end Sys2Proof.Machine
end

