-- ==== Sys2Proof/Machine/Command.lean ====
section
/-! DEFINITION. Host transfers, and the start and end of a command on a core (R96, R97, R104 to R108). -/

namespace Sys2Proof.Machine

/-- HGET: bytes of the command's input to the data area (R96). A 17th transfer outstanding stalls issue. -/
def execHget (core : Fin 192) (gd ga gb : Fin 32) (s : State) : Host.Outcome State Fault Refusal :=
  .next (s.issue core (fun s =>
    let loc := (s.getG core gd).toNat
    let off := (s.getG core ga).toNat
    let len := (s.getG core gb).toNat
    match s.coreEntry core with
    | none => s.exc core .dmaFault
    | some e =>
      if s.dmaBad core loc off len e.inLen false then s.exc core .dmaFault
      else if 16 ≤ (s.core core).openXfers then s
      else
        let (here, off1, len1) := e.inlinePart off len
        let x : Xfer := ⟨(s.core core).nextXfer, true, loc, len, off, decide (len1 ≠ 0), 0, 0,
          if here = [] then [] else [(0, here)], false, none, false⟩
        (s.beginXfer core e x (inputRanges e.inputs off1 len1) .read).nextPc core))

/-- HPUT: bytes of the data area to the command's output; OUTLEN rises to the end of its range (R94, R96). -/
def execHput (core : Fin 192) (gd ga gb : Fin 32) (s : State) : Host.Outcome State Fault Refusal :=
  .next (s.issue core (fun s =>
    let loc := (s.getG core gd).toNat
    let off := (s.getG core ga).toNat
    let len := (s.getG core gb).toNat
    match s.coreEntry core with
    | none => s.exc core .dmaFault
    | some e =>
      if s.dmaBad core loc off len e.outMax true then s.exc core .dmaFault
      else if 16 ≤ (s.core core).openXfers then s
      else
        let x : Xfer := ⟨(s.core core).nextXfer, false, loc, len, off, true, (s.core core).fences, 0, [], false, none, false⟩
        ((s.beginXfer core e x [(e.outAddr + off, len)] .write).modCore core (fun c =>
          { c with outLen := max c.outLen (off + len) })).nextPc core))

/-- HWAIT: returns when every HGET has landed and every HPUT has been accepted; otherwise it stalls (R97). -/
def execHwait (core : Fin 192) (s : State) : Host.Outcome State Fault Refusal :=
  .next (s.issue core (fun s =>
    if (s.core core).openXfers = 0 then s.hwaitReturn core
    else s.modCore core (fun c => { c with stall := .hwait s.now })))

/-- HWAIT_TIMEOUT: an HWAIT that waits longer than the operand time-out takes DMA_FAULT with a link-abort cause (R97). -/
def execHwaitTimeout (core : Fin 192) (s : State) : Host.Outcome State Fault Refusal :=
  match (s.core core).stall with
  | .hwait since =>
    if since + s.opTimeout ≤ s.now then
      .next ((s.modCore core (fun c => { c with stall := .none, linkAborted := true })).exc core .dmaFault)
    else .next s
  | _ => .next s

/-- The bytes of an HGET once all its parts have arrived. -/
def Xfer.bytes (x : Xfer) : Bytes := x.got.foldl (fun b p => patch b p.1 p.2) (zeros x.len)

/-- A transfer marked done; a stall in HWAIT ends with the last one, a stall in WAIT with any. -/
def State.xferDone (s : State) (n num : Nat) : State :=
  let s1 := (s.modXfer n num (fun x => { x with done := true })).wake n
  match (s1.core n).stall with
  | .hwait _ => if (s1.core n).openXfers = 0 then s1.hwaitReturn n else s1
  | _ => s1

/-- HOST_TRANSFER_DONE: an HGET whose bytes have arrived lands in the data area, unless the program has ended (R105); an
HPUT is accepted by the port of the command's ring, which sends its packets, after every HPUT before a FENCE H that stands
before it (R81, R97, R316, R320). -/
def execHostTransferDone (core : Fin 192) (xfer : Nat) (s : State) : Host.Outcome State Fault Refusal :=
  match (s.core core).xfers.find? (fun x => x.num == xfer && !x.done), s.coreEntry core with
  | some x, some e =>
    if x.get then
      if x.parts ≠ 0 then .next s
      else if x.fail.isSome ∨ (s.core core).ending.isSome then .next (s.xferDone core xfer)
      else
        .next ((s.modCore core (fun c => { c with mem := memWrite c.mem x.loc x.bytes })).xferDone core xfer)
    else
      if (s.core core).xfers.any (fun y => !y.get && !y.done && decide (y.fences < x.fences)) then .next s
      else .next ((s.sendPut core e x).xferDone core xfer)
  | _, _ => .next s

/-- Whether a key matches a usage-table entry for a handle slot, or for a produced key (R133). -/
def usageMatch (rows : List UsageRow) (slot : Option Nat) (k : KeyVal) : Bool :=
  rows.any (fun r =>
    r.usage == k.usage && (r.mode == k.mode || r.mode == 0x2A)
      && (match slot with | some i => bitAt r.slots i | none => r.slots == 0))

/-- The check of a key's window at binding, both ends inside it (R136). -/
def State.windowCheck (s : State) (k : KeyVal) : Option Status :=
  if (k.nb.isSome || k.na.isSome) && decide (s.time.state = .untrusted) then some .timeUntrusted
  else if (k.nb.map (fun t => decide (s.now < t))).getD false || (k.na.map (fun t => decide (t < s.now))).getD false then
    some .keyExpired
  else none

/-- The resolved key of a handle slot, with its origin (R119). -/
def Entry.slotKey (e : Entry) (i : Nat) : Option KeyVal :=
  match e.handles.getD i none with
  | none => none
  | some _ => (e.resolved.getD i none).map (fun k => { k with origin := 0, slot := i, func := 0 })

/-- The check that binding makes of a slot's key: usage, then window (R104 step 3, R136). -/
def State.bindCheck (s : State) (rows : List UsageRow) (i : Nat) (k : KeyVal) : Option Status :=
  if usageMatch rows (some i) k then s.windowCheck k else some .keyUsage

/-- The keys of slots 0 to 3 bound in order; the first failing check ends the command (R104, R136). -/
def State.bindAll (s : State) (n : Nat) (e : Entry) (rows : List UsageRow) : List Nat → State
  | [] => s
  | i :: r =>
    match e.slotKey i with
    | none => s.bindAll n e rows r
    | some k =>
      match s.bindCheck rows i k with
      | some st => s.endProgram n (.start st 0)
      | none => (s.modCore n (fun c => { c with k := tabSet none c.k i (some k) })).bindAll n e rows r

/-- The core MPU regions of a program (R77, R104 step 4): code execute only, data area read and write, constants read
only. -/
def State.setCoreRegions (s : State) (n : Nat) (im : Image) (tenant : Nat) : State :=
  let cb := codeBase n im
  let code : Region := ⟨cb, (cb + im.code.length - 1) / 64 * 64, true, false, false, true, false, 0, tenant, 0, 0⟩
  let data : Region := ⟨0x10000, 0x1FFC0, true, true, true, false, false, 0, tenant, 0, 0⟩
  let k := s.constBase n
  let const : Region :=
    if k = 0 then Region.empty else ⟨k, (k + im.consts.length - 1) / 64 * 64, true, true, false, false, false, 0, tenant, 0, 0⟩
  let m := (12 + n) * 32
  { s with mpu := tabSet Region.empty (tabSet Region.empty (tabSet Region.empty s.mpu m code) (m + 1) data) (m + 2) const }

/-- The staged command of a core. -/
def State.stagedOn (s : State) (n : Nat) : Option Entry := s.prf.entries.find? (fun e => decide (e.phase = .staged n))

/-- The lines of the sealed store that hold an image, to be read (R115). -/
def Image.wants (i : Image) : List Want := (List.range ((i.package.length + 255) / 256)).map (fun k => ⟨i.line + k, true, false, 0⟩)
/-- The status that ends a command whose image cannot be read (R267, R277). -/
def State.imageStatus (s : State) (i : Image) : Option Status :=
  i.wants.findSome? (fun q => match s.lineGet q.line with
    | .poisoned => some .storeIntegrity
    | .lost => some .storeLost
    | _ => none)

/-- COMMAND_START: the runtime takes the staged command, makes its program resident, from the sealed store where neither the core
nor shared memory holds it, binds its keys, sets the regions and registers, and enters U at the start of the program's code (R78,
R104, R115). The descriptor image goes to the runtime area, at a place that the spec does not give; the code of a program that was not
resident goes to the code area, and the constants to their segment of shared memory (R77). It waits for the lines of an image that it
fetches. Where the command's residue check fails, if anywhere, is a free value (log entry 69). -/
def execCommandStart (core : Fin 192) (s : State) : Host.Outcome State Fault Refusal :=
  let k := s.core core
  match s.stagedOn core with
  | none => .next s
  | some e =>
    if k.run.isSome ∨ k.ending.isSome ∨ k.resetting.isSome then .next s
    else
      let im := (s.image? e.image).getD Image.none
      let w := if s.imageAtHand core e.image then (true, s) else s.wantLines im.wants
      if w.1 = false then .next w.2
      else
      match (if s.imageAtHand core e.image then none else s.imageStatus im) with
      | some st => .next (w.2.finish e.id st 0).freeImages
      | none =>
      let (bad, s0) := w.2.fresh
      let s1 := (s0.makeResident core e.image).modEntry e.id (fun e => { e with phase := .running core })
      let g : Table (BitVec 64) := tabSet 0#64 (tabSet 0#64 (tabSet 0#64 (tabSet 0#64 [] 1 (BitVec.ofNat 64 e.arg)) 2
        (BitVec.ofNat 64 e.inLen)) 3 (BitVec.ofNat 64 e.outMax)) 30 0x20000#64
      let mem0 := memWrite k.mem (64 * (Config.descPlace % 252)) e.descr
      let mem1 := if s.resident core e.image then mem0 else memWrite mem0 (codeBase core im) im.code
      let s2 := s1.modCore core (fun c =>
        { Core.reset with
          user := true, g := g, pc := codeBase core im, run := some e.id, image := e.image, mem := mem1, badAt := some bad.toNat
          nextXfer := c.nextXfer, cancel := e.cancelled, idleReq := c.idleReq, words := c.words, ctxKey := c.ctxKey
          images := c.images, term := e.term, res := c.res })
      let s3 := (s2.modCluster (core.val / 8) (fun c =>
        { c with shared := memWrite c.shared (s2.constBase core - 0x100000) im.consts })).setCoreRegions core im e.tenant
      .next (s3.bindAll core e im.usage [0, 1, 2, 3])

/-- Whether the end of a command need wait no longer: every HPUT accepted or refused, every engine and unit operation
ended, every posted compare-and-write answered (R105 step 2, R250). -/
def State.endReady (s : State) (n : Nat) : Bool :=
  (s.core n).ending.isSome && (s.core n).resetting.isNone && (s.core n).xfers.all (fun x => x.get || x.done)
    && !s.unitsBusy n && (s.core n).post.isEmpty

/-- The completion status and program status by the order of R103. The program status of rows that no exception of the program leads to is
0: a register-file or memory check, an idle request; and a failed transfer gives 0xE008 also where another exception ended the program (DESIGN
CHOICE, log entry 56). -/
def Core.outcome (c : Core) : Status × Nat :=
  if c.twin then (.internalCheck, 0xE007)
  else if c.residue then (.internalCheck, 0)
  else if c.ending = some (.idle .tenantReset) then (.tenantReset, 0)
  else if c.linkAborted then (.aborted, 0xE008)
  else if c.refused then (.accessViolation, 0xE008)
  else
    match c.ending with
    | some (.exception n) =>
      let st : Status := match n with
        | 2 => .accessViolation | 4 => .keyUsage | 7 => .internalCheck | 8 => .accessViolation | 9 => .programBudget
        | _ => .programFault
      (st, 0xE000 + n)
    | some .trapCancel => (.cancelled, c.pstatus)
    | some .trapFail => (.programFault, c.pstatus)
    | some .trapEnd => (c.cstatus, c.pstatus)
    | some (.idle st) => (st, 0)
    | some (.start st ps) => (st, ps)
    | none => (c.cstatus, c.pstatus)

/-- A failed transfer that no HWAIT reported is reported by DMA_FAULT at the end of the command (R97); PROGRAM_EXCEPTION
carries the offset of the ending instruction. -/
def State.endDma (s : State) (n : Nat) : State :=
  let k := s.core n
  let ab := k.xfers.any (fun x => x.fail == some .aborted)
  let rf := k.xfers.any (fun x => x.fail == some .refused)
  if ab || rf then
    (s.modCore n (fun c => { c with linkAborted := c.linkAborted || ab, refused := c.refused || rf, pc := c.epc })).noteExc n
      .dmaFault k.epc Exc.dmaFault.num
  else s

/-- COMMAND_END: once nothing is outstanding, the runtime zeroises every register, clears the data area, reports the
status to the Proofer and frees the core (R79, R103, R105). -/
def execCommandEnd (core : Fin 192) (s : State) : Host.Outcome State Fault Refusal :=
  if s.endReady core = false then .next s
  else
    let s1 := s.endDma core
    let k := s1.core core
    let r := k.outcome
    let s2 := s1.modCore core (fun c =>
      { Core.reset with
        mem := memZero c.mem 0x10000 0x10000, nextXfer := c.nextXfer, words := c.words, ctxKey := c.ctxKey
        images := c.images, res := c.res })
    match k.run with
    | none => .next s2
    | some id =>
      let s3 := s2.modEntry id (fun e => { e with outLen := k.outLen, early := k.early })
      .next ((s3.finish id r.1 r.2).freeImages)

/-- IDLE_REQUEST_TAKEN: a waiting idle request interrupts the program at the boundary, or in a stall, and the command
ends with the status it names; an idle core drops it (R107). -/
def execIdleRequestTaken (core : Fin 192) (s : State) : Host.Outcome State Fault Refusal :=
  match (s.core core).idleReq with
  | none => .next s
  | some st =>
    let s1 := s.modCore core (fun c => { c with idleReq := none, halted := false })
    .next (if (s.core core).run.isSome ∧ (s.core core).ending.isNone then s1.endProgram core (.idle st) else s1)

/-- BUDGET_EXHAUSTED: the cycle count has reached the budget, and the next instruction to issue raises BUDGET (R108). -/
def execBudgetExhausted (core : Fin 192) (s : State) : Host.Outcome State Fault Refusal :=
  .next (if (s.core core).user ∧ (s.core core).run.isSome ∧ (s.core core).ending.isNone then
    s.modCore core (fun c => { c with budgetOut := true }) else s)

/-- CORE_RESET_REQUEST: a write of CLU_CORE_CTL.RESET resets the core alone, with reason 3 (R107, R116). -/
def execCoreResetRequest (core : Fin 192) (s : State) : Host.Outcome State Fault Refusal :=
  .next (if (s.core core).resetting.isSome then s else s.coreReset core 3)

/-- CORE_RESET_DONE: the reset of a core ends (R107). -/
def execCoreResetDone (core : Fin 192) (s : State) : Host.Outcome State Fault Refusal :=
  .next (s.modCore core (fun c => { c with resetting := none }))

/-- CORE_IDLE_REQUEST: a write of CLU_CORE_CTL.IDLE_REQ sends a running core an idle request with reason "supervisor"
(R107); the status that it names is ABORTED (DEDUCED). -/
def execCoreIdleRequest (core : Fin 192) (s : State) : Host.Outcome State Fault Refusal :=
  .next (if (s.core core).run.isSome then s.modCore core (fun c => { c with idleReq := some (c.idleReq.getD .aborted) }) else s)

end Sys2Proof.Machine
end

