-- ==== Sys2Proof/Machine/SecretOps.lean ====
section
/-! DEFINITION. The shared operations of the secret instructions, majors 0x30 to 0x3E: opaque registers, key checks, the
twin check, local operands (R117 to R120, R133 to R136, R144, R145). -/

namespace Sys2Proof.Machine

/-- A two-character field as the attribute words hold it, first character low (R119). -/
def chars (a b : Char) : Nat := a.toNat + 256 * b.toNat

/-- A key register (R117). -/
def State.kreg (s : State) (n k : Nat) : Option KeyVal := tabGet none (s.core n).k k
/-- A key register written. -/
def State.setK (s : State) (n k : Nat) (v : Option KeyVal) : State := s.modCore n (fun c => { c with k := tabSet none c.k k v })
/-- A sensitive-data register (R117). -/
def State.sval (s : State) (n r : Nat) : Option SVal := tabGet none (s.core n).sreg r
/-- A sensitive-data register written. -/
def State.setS (s : State) (n r : Nat) (v : Option SVal) : State := s.modCore n (fun c => { c with sreg := tabSet none c.sreg r v })
/-- An engine context (R117). -/
def State.ctx (s : State) (n c : Nat) : Ctx := tabGet Ctx.empty (s.core n).ctx c
/-- An engine context changed. -/
def State.modCtx (s : State) (n c : Nat) (f : Ctx → Ctx) : State :=
  s.modCore n (fun k => { k with ctx := tabMod Ctx.empty k.ctx c f })

/-- The context that a queued CLOAD, the last on a context, puts in place. -/
def Core.pendingLoad (k : Core) (c : Nat) : Option Ctx :=
  (k.eng.filterMap (fun o => match o with | .load d x => if d = c then some x else none | _ => none)).getLast?
/-- The last queued CLOAD on a context, changed; none where there is none. -/
def modLoad (c : Nat) (f : Ctx → Ctx) : List EngOp → Option (List EngOp)
  | [] => none
  | o :: r =>
    match modLoad c f r with
    | some l => some (o :: l)
    | none => match o with | .load d x => if d = c then some (.load d (f x) :: r) else none | _ => none
/-- A context as the instructions issued so far leave it (R149). -/
def State.ctxView (s : State) (n c : Nat) : Ctx := ((s.core n).pendingLoad c).getD (s.ctx n c)
/-- What issue tracks of a context, changed. -/
def State.modView (s : State) (n c : Nat) (f : Ctx → Ctx) : State :=
  s.modCore n (fun k =>
    match modLoad c f k.eng with
    | some l => { k with eng := l }
    | none => { k with ctx := tabMod Ctx.empty k.ctx c f })

/-- Attribute word A of a key (R119). -/
def KeyVal.wordA (k : KeyVal) : Nat :=
  k.alg + k.usage * 2 ^ 8 + k.mode * 2 ^ 24 + k.exportCh * 2 ^ 32 + k.kver * 2 ^ 40 + k.tenant * 2 ^ 56 + k.gen * 2 ^ 62
/-- Attribute word B of a key (R119). -/
def KeyVal.wordB (k : KeyVal) : Nat :=
  k.val.length + b2n k.nb.isSome * 2 ^ 8 + b2n k.na.isSome * 2 ^ 9 + k.origin * 2 ^ 10
    + (if k.origin = 0 then k.slot else 0) * 2 ^ 12 + (if k.origin = 2 then k.func else 0) * 2 ^ 16

/-- Destinations of a secret instruction, which a failure empties (R118, R145): k register, s register, context. -/
structure Dest where
  /-- destination k register -/ k : Option Nat
  /-- destination s register -/ sr : Option Nat
  /-- context used -/ c : Option Nat
  /-- every k register -/ allK : Bool
  /-- every s register -/ allS : Bool
deriving DecidableEq, Repr

/-- No destination. -/
def Dest.none : Dest := ⟨Option.none, Option.none, Option.none, false, false⟩
/-- A destination k register. -/
def Dest.ofK (k : Nat) : Dest := ⟨some k, Option.none, Option.none, false, false⟩
/-- A destination s register. -/
def Dest.ofS (r : Nat) : Dest := ⟨Option.none, some r, Option.none, false, false⟩
/-- A context. -/
def Dest.ofC (c : Nat) : Dest := ⟨Option.none, Option.none, some c, false, false⟩
/-- Every k register. -/
def Dest.allKs : Dest := ⟨Option.none, Option.none, Option.none, true, false⟩
/-- Every s register. -/
def Dest.allSs : Dest := ⟨Option.none, Option.none, Option.none, false, true⟩

/-- The destination registers emptied. -/
def State.clearDest (s : State) (n : Nat) (d : Dest) : State :=
  let s1 := match d.k with | some k => s.setK n k none | none => s
  let s2 := match d.sr with | some r => s1.setS n r none | none => s1
  if d.allK ∨ d.allS then s2.modCore n (fun c => { c with k := if d.allK then [] else c.k, sreg := if d.allS then [] else c.sreg }) else s2

/-- What a twin mismatch does at once (R145): the result is discarded, the destination and the context are zeroised, the
cluster's health count advances. -/
def State.twinDiscard (s : State) (n : Nat) (d : Dest) : State :=
  let s1 := s.clearDest n d
  let s2 := match d.c with | some c => s1.dropCtx n c | none => s1
  s2.healthUp (n / 8) (n % 8) 1

/-- A secret instruction: a mismatch of the two datapaths takes TWIN_MISMATCH precisely, else it has its effect (R144,
R145). -/
def State.secret (s : State) (n : Nat) (mismatch : Bool) (d : Dest) (f : State → State) : State :=
  s.issue n (fun s => if mismatch then (s.twinDiscard n d).exc n .twinMismatch else f s)

/-- A failure of a secret instruction: its destination is empty and it takes an exception (R118). -/
def State.failS (s : State) (n : Nat) (d : Dest) (x : Exc) : State := (s.clearDest n d).exc n x

/-- An outcome code other than success: the destination is empty, no memory is written, and g(r) gets the code (R125). -/
def State.outcome (s : State) (n gr : Nat) (d : Dest) (code : Nat) : State :=
  (s.clearDest n d).ret n gr (BitVec.ofNat 64 code)

/-- The running tenant of a core. -/
def State.runTenant (s : State) (n : Nat) : Nat := s.coreTenant n
/-- The usage table of the running package (R110). -/
def State.usageRows (s : State) (n : Nat) : List UsageRow := (s.coreImage n).usage

/-- A key register used with the usages and modes that an instruction accepts (R134, R135). -/
def State.useKey (s : State) (n k : Nat) (usages modes : List Nat) : Exc ⊕ KeyVal :=
  match s.kreg n k with
  | none => .inl .keyEmpty
  | some v =>
    if v.tenant ≠ s.runTenant n ∨ usages.contains v.usage = false ∨ modes.contains v.mode = false then .inl .keyUsage
    else .inr v

/-- Modes of use by their letters. -/
def modeList (l : List Char) : List Nat := l.map (·.toNat)

/-- The usages E0 to E6. -/
def emvUsages : List Nat := (List.range 7).map (fun i => 0x45 + 256 * (0x30 + i))

/-- Whether a local operand of a secret instruction may be read or written: in the data area and outside quarantine at U,
anywhere in local memory at K (R138, R160, R77). -/
def State.operandOk (s : State) (n a len : Nat) : Bool :=
  if (s.core n).user then s.userStoreOk n a len && s.coreMpu n .read a len else decide (a + len ≤ 0x20000)

/-- The register pair g(r), g(r+1) as numbers (R124). -/
def State.gPair (s : State) (n gr : Nat) : Nat × Nat := ((s.getG n gr).toNat, (s.getG n (gr + 1)).toNat)

/-- A produced key put in its register if the package's usage table lists it for produced keys, else KEY_USAGE (R133). -/
def State.produce (s : State) (n kd : Nat) (v : KeyVal) (f : State → State) : State :=
  if usageMatch (s.usageRows n) none v then f (s.setK n kd (some v)) else s.failS n (.ofK kd) .keyUsage

/-- Whether an instruction that names a k register waits for a request that will write it (R176). -/
def State.kdBusy (s : State) (n k : Nat) : Bool :=
  let cl := s.cluster (n / 8)
  let mine := tabGet [] cl.mau (n % 8) ++ (match cl.busy with | some (r, q) => if r = n % 8 then [q] else [] | none => [])
  mine.any (fun q => [0x003, 0x00A, 0x010, 0x011].contains q.func && q.kd == k)

/-- An instruction that names k registers stalls while a request that will write one is outstanding (R176). -/
def State.kWait (s : State) (n : Nat) (ks : List Nat) (o : Host.Outcome State Fault Refusal) : Host.Outcome State Fault Refusal :=
  if s.runs n ∧ ks.any (fun k => s.kdBusy n k) then .next s else o

end Sys2Proof.Machine
end

