-- ==== Sys2Proof/Machine/EngineOps.lean ====
section
/-! DEFINITION. What a context of the cipher engine does with the bytes it is given (R147 to R158, R162, R164). -/

namespace Sys2Proof.Machine

/-- MODE of a mode word (R137). -/
def mwMode (w : Nat) : Nat := bitsAt w 0 5
/-- DIR of a mode word. -/
def mwDir (w : Nat) : Nat := bitsAt w 5 1
/-- PAD of a mode word. -/
def mwPad (w : Nat) : Nat := bitsAt w 6 2
/-- TLEN of a mode word. -/
def mwTlen (w : Nat) : Nat := bitsAt w 8 5
/-- RADIX of a mode word, 0 meaning 65,536 (R137). -/
def mwRadix (w : Nat) : Nat := if bitsAt w 16 16 = 0 then 65536 else bitsAt w 16 16

/-- Check 1 of R148: the mode word itself. -/
def mwWellFormed (w : Nat) : Bool :=
  decide (mwMode w ≤ 12) && decide (bitsAt w 13 3 = 0) && decide (w < 2 ^ 32)
    && (if mwMode w = 11 then decide (bitsAt w 16 16 ≠ 1) else decide (bitsAt w 16 16 = 0))

/-- Whether R147 permits a mode word for a key ALG. -/
def mwPermitted (w alg : Nat) : Bool :=
  let pad := mwPad w; let t := mwTlen w; let cipher := decide (1 ≤ alg) && decide (alg ≤ 5)
  let aes := decide (3 ≤ alg) && decide (alg ≤ 5)
  match mwMode w with
  | 0 => cipher && decide (t = 0) && (decide (mwDir w = 0) || decide (pad = 0))
  | 1 => cipher && decide (t = 0) && (decide (mwDir w = 0) || decide (pad = 0))
  | 2 => cipher && decide (t = 0 ∧ pad = 0)
  | 3 => cipher && decide (t = 0 ∧ pad = 0)
  | 4 => cipher && decide (t = 0 ∧ pad = 0)
  | 5 => aes && decide (pad = 0) && (decide (t = 0) || (decide (12 ≤ t) && decide (t ≤ 16)))
  | 6 => aes && decide (pad = 0) && (decide (t = 0) || (decide (4 ≤ t) && decide (t ≤ 16) && decide (t % 2 = 0)))
  | 7 => cipher && decide (pad = 0) && (decide (t = 0) || (decide (4 ≤ t) && decide (t ≤ algBlock alg)))
  | 8 => (decide (alg = 1) || decide (alg = 2)) && (decide (pad = 1) || decide (pad = 2)) && (decide (t = 0) || (decide (4 ≤ t) && decide (t ≤ 8)))
  | 9 => decide (alg = 1) && (decide (pad = 1) || decide (pad = 2)) && (decide (t = 0) || (decide (4 ≤ t) && decide (t ≤ 8)))
  | 10 => decide (alg = 5) && decide (pad = 0 ∧ t = 0)
  | 11 => aes && decide (pad = 0 ∧ t = 0)
  | 12 => decide (alg = 6) && decide (pad ≤ 1) && (decide (t = 0) || (decide (10 ≤ t) && decide (t ≤ 31)))
  | _ => false

/-- The usages, modes of use and algorithm rules of R134 for CINIT. -/
def cinitKeyOk (w : Nat) (k : KeyVal) : Bool :=
  let m := mwMode w; let enc := decide (mwDir w = 0)
  let derived := decide (k.origin = 2 ∧ k.func = 9)
  let mac := [7, 8, 9].contains m
  let gen := modeList (if enc then ['G', 'C', 'N'] else ['V', 'C', 'N'])
  let use :=
    if m = 12 then decide (k.usage = chars 'M' '7' ∧ k.alg = 6) && gen.contains k.mode
    else if mac then
      let own := if m = 8 then chars 'M' '1' else if m = 9 then chars 'M' '3' else chars 'M' '6'
      (decide (k.usage = own) || (derived && decide (m ≠ 8) && [chars 'E' '0', chars 'E' '2'].contains k.usage)) && gen.contains k.mode
    else if enc then
      (decide (k.usage = chars 'D' '0') && (modeList ['E', 'B', 'N']).contains k.mode)
        || (decide (m = 0) && derived && emvUsages.contains k.usage && decide (k.mode = 'C'.toNat))
    else decide (k.usage = chars 'D' '0') && (modeList ['D', 'B', 'N']).contains k.mode
  let algOk :=
    if m = 8 ∨ m = 9 then decide (k.alg ≤ 2)
    else if m = 5 ∨ m = 6 ∨ m = 10 ∨ m = 11 then decide (3 ≤ k.alg) && decide (k.alg ≤ 5)
    else true
  use && algOk

/-- The checks of R148 in order: the exception of the first that fails, or the key. -/
def State.cinitCheck (s : State) (n k w : Nat) : Exc ⊕ KeyVal :=
  if mwWellFormed w = false then .inl .illegal
  else
    match s.kreg n k with
    | none => .inl .keyEmpty
    | some v =>
      if v.tenant ≠ s.runTenant n ∨ cinitKeyOk w v = false then .inl .keyUsage
      else if mwPermitted w v.alg = false then .inl .illegal
      else .inr v

/-- A new context under a key (R138). -/
def Ctx.fresh (w : Nat) (k : KeyVal) : Ctx :=
  { Ctx.empty with phase := .idle, mode := w, key := k.val, alg := k.alg, usage := k.usage, tenant := k.tenant }

/-- The block size of a context. -/
def Ctx.bs (c : Ctx) : Nat := algBlock c.alg
/-- Whether a context's mode needs CIV variant 0 (R149). -/
def needsIv (m : Nat) : Bool := [1, 2, 3, 4, 5, 6, 10].contains m
/-- Whether a mode is a MAC: CMAC, the MAC algorithms, HMAC. -/
def isMac (m : Nat) : Bool := [7, 8, 9, 12].contains m
/-- Whether a mode is GCM or CCM. -/
def isAead (m : Nat) : Bool := m == 5 || m == 6
/-- Whether a context decrypts with authentication. -/
def Ctx.authDec (c : Ctx) : Bool := isAead (mwMode c.mode) && mwDir c.mode == 1
/-- The tag or MAC length of a context: TLEN, or the full one for 0 (R147). -/
def Ctx.tagLen (c : Ctx) : Nat :=
  if mwTlen c.mode ≠ 0 then mwTlen c.mode
  else match mwMode c.mode with
    | 5 => 16 | 6 => 16 | 7 => c.bs | 8 => 8 | 9 => 8
    | _ => if mwPad c.mode = 1 then 64 else 32

/-- Whether a CIV of a length is allowed by R150 for a mode. -/
def civLenOk (c : Ctx) (v len : Nat) : Bool :=
  match v with
  | 0 =>
    (match mwMode c.mode with
      | 5 => decide (len = 12)
      | 6 => decide (19 ≤ len) && decide (len ≤ 25)
      | 10 => decide (len = 16)
      | _ => decide (len = c.bs))
  | 1 => decide (1 ≤ len) && decide (len ≤ 65536)
  | _ => decide (len ≤ 32)

/-- Whether R149 allows a CIV variant in the current state. -/
def civAllowed (c : Ctx) (v : Nat) : Bool :=
  match v with
  | 0 => decide (c.phase = .idle) && needsIv (mwMode c.mode)
  | 1 => decide (c.phase = .opened) && isAead (mwMode c.mode)
  | _ => decide (c.phase = .idle) && decide (mwMode c.mode = 11)

/-- Bytes of one FF1 numeral (R156). -/
def numeralSize (w : Nat) : Nat := if mwRadix w ≤ 256 then 1 else 2

/-- The length of a CRUN's output (R152, R153); `held` bytes wait in the context. -/
def crunOutLen (c : Ctx) (len : Nat) (final : Bool) : Nat :=
  let m := mwMode c.mode
  if isMac m then 0
  else if m ≤ 1 then
    let held := c.issued % c.bs
    if final then
      held + len + (if mwDir c.mode = 0 then (padBytes (mwPad c.mode) c.bs (c.issued + len)).length else 0)
    else (held + len) / c.bs * c.bs
  else len

/-- Whether R151, R153 and R156 allow a CRUN's length. -/
def crunLenOk (c : Ctx) (len : Nat) (final : Bool) : Bool :=
  let m := mwMode c.mode
  decide (len ≤ 65536) && (final || decide (len ≠ 0))
    && (if m ≤ 1 ∧ final ∧ mwPad c.mode = 0 then decide ((c.issued + len) % c.bs = 0) else true)
    && (if m = 10 then decide (16 ≤ len) else true)
    && (if m = 11 then
        let z := numeralSize c.mode
        decide (len % z = 0) && decide (2 ≤ len / z) && decide (len / z ≤ 128) && decide (1000000 ≤ mwRadix c.mode ^ (len / z))
      else true)

/-- Whether R149 allows a CRUN in the current state. -/
def crunAllowed (c : Ctx) (final : Bool) : Bool :=
  let m := mwMode c.mode
  (decide (c.phase = .opened) || decide (c.phase = .run) || (decide (c.phase = .idle) && !needsIv m))
    && (final || !(m == 10 || m == 11))

/-- The state after a CRUN (R149). -/
def crunNext (c : Ctx) (final : Bool) : CtxPhase :=
  if final then (if isAead (mwMode c.mode) || isMac (mwMode c.mode) then .done else .idle) else .run

/-- Bytes of the counter of a counter mode (R154, R155). -/
def Ctx.ctrBytes (c : Ctx) : Nat :=
  match mwMode c.mode with
  | 4 => if c.alg ≤ 2 then 4 else 8
  | 5 => 4
  | _ => 15 - c.nonce.length

/-- Whether a CRUN of a length would make a CTR or GCM counter pass from all ones to zero within the message (R158). -/
def Ctx.wraps (c : Ctx) (len : Nat) : Bool :=
  let w := c.ctrBytes
  let cur := beToNat (c.chain.drop (c.chain.length - w))
  let v := if c.bs ≤ c.processed ∧ cur = 0 then 256 ^ w else cur
  decide (0 < len) && decide (256 ^ w < v + (c.held.length + len + c.bs - 1) / c.bs)

/-- The causes of an engine fault (R158). -/
inductive EngFault where
  | ctrWrap | ccmLength
deriving DecidableEq, Repr

/-- What CIV feeds to a context (R150, R155): a fault where CCM's counter cannot hold the declared payload (R158). -/
def Ctx.civ (c : Ctx) (v : Nat) (d : Bytes) : EngFault ⊕ Ctx :=
  match v with
  | 1 => .inr { c with ad := c.ad ++ d }
  | 2 => .inr { c with chain := d, started := false }
  | _ =>
    let c0 := { c with held := [], processed := 0, ad := [], text := [], started := false }
    match mwMode c.mode with
    | 5 => .inr { c0 with nonce := d, chain := gcmFirst d }
    | 6 =>
      let nonce := d.drop 12
      let p := leAt d 0 8
      if 256 ^ (15 - nonce.length) < (p + 15) / 16 + 1 then .inl .ctrWrap
      else .inr { c0 with nonce := nonce, chain := ccmCtr nonce 1, declP := p, declA := leAt d 8 4 }
    | _ => .inr { c0 with chain := d }

/-- The numerals of a FF1 string, and back (R156). -/
def numerals (w : Nat) (d : Bytes) : List Nat := (chunks (numeralSize w) d).map leToNat
/-- Numerals as bytes. -/
def unNumerals (w : Nat) (l : List Nat) : Bytes := l.flatMap (natToLe (numeralSize w))

/-- A stream mode of a context. -/
def Ctx.streamKind (c : Ctx) : StreamKind :=
  match mwMode c.mode with
  | 2 => if mwDir c.mode = 0 then .cfbEnc else .cfbDec
  | 3 => .ofb
  | _ => .ctr c.ctrBytes

/-- A CRUN of a context (R151 to R158): a fault, or its output and the context after it. -/
def Ctx.crun (c : Ctx) (d : Bytes) (final : Bool) : EngFault ⊕ Bytes × Ctx :=
  let m := mwMode c.mode
  let dec := mwDir c.mode == 1
  let c := if c.started then c
    else if needsIv m then { c with started := true }
    else { c with started := true, held := [], processed := 0, text := [] }
  let fin (c : Ctx) : Ctx := if final then { c with started := false } else c
  if m ≤ 1 then
    let data := c.held ++ d
    let pad := if final && !dec then padBytes (mwPad c.mode) c.bs (c.processed + data.length) else []
    let whole := if final then data ++ pad else data.take (data.length / c.bs * c.bs)
    let f := if dec then blkDec c.alg c.key else blkEnc c.alg c.key
    let r : Bytes × Bytes :=
      if m = 0 then (ecb f c.bs whole, c.chain)
      else if dec then cbcDec f c.bs c.chain whole else cbcEnc f c.bs c.chain whole
    .inr (r.1, fin { c with chain := r.2, held := data.drop whole.length, processed := c.processed + whole.length
                            written := c.written + r.1.length })
  else if m ≤ 6 then
    if (m = 4 ∨ m = 5) ∧ c.wraps d.length then .inl .ctrWrap
    else if m = 6 ∧ (c.ad.length ≠ c.declA ∨ (final ∧ c.processed + d.length ≠ c.declP)) then .inl .ccmLength
    else
      let r := stream c.streamKind (blkEnc c.alg c.key) c.bs c.chain c.held d
      let t := if m = 5 then (if dec then d else r.1) else if m = 6 then (if dec then r.1 else d) else []
      .inr (r.1, fin { c with chain := r.2.1, held := r.2.2, processed := c.processed + d.length
                              written := c.written + r.1.length, text := c.text ++ t })
  else if m = 10 then
    let o := xts dec c.key c.chain d
    .inr (o, fin { c with processed := d.length, written := c.written + o.length })
  else if m = 11 then
    let o := unNumerals c.mode (ff1 dec c.key (mwRadix c.mode) c.chain (numerals c.mode d))
    .inr (o, fin { c with processed := d.length, written := c.written + o.length, chain := [] })
  else .inr ([], fin { c with text := c.text ++ d, processed := c.processed + d.length })

/-- The tag or MAC of a finished message, cut to its length. -/
def Ctx.tag (c : Ctx) : Bytes :=
  let t := match mwMode c.mode with
    | 5 => gcmTag c.key c.nonce c.ad c.text
    | 6 => ccmTag c.key c.nonce c.ad c.text c.tagLen
    | 7 => cmac (blkEnc c.alg c.key) c.bs c.text
    | 8 => mac1 (blkEnc c.alg c.key) (c.text ++ padBytes (mwPad c.mode) 8 c.text.length)
    | 9 => mac3 c.key (c.text ++ padBytes (mwPad c.mode) 8 c.text.length)
    | _ => hmac (if mwPad c.mode = 1 then .sha512 else .sha256) c.key c.text
  t.take c.tagLen

/-- Cipher blocks and compressions that a CRUN processes, for CLU_ENG_BLK (R159). -/
def Ctx.blocks (c : Ctx) (len : Nat) (final : Bool) : Nat :=
  let m := mwMode c.mode
  if m = 12 then
    let b := if mwPad c.mode = 1 then 128 else 64
    let lf := if mwPad c.mode = 1 then 17 else 9
    let before := if c.started then c.processed else 0
    let first := if c.started then 0 else 1
    if final then (before + len + lf + b - 1) / b - before / b + 2 + first else (before + len) / b - before / b + first
  else if m = 11 then
    let n := len / numeralSize c.mode
    let b := (bitLen (mwRadix c.mode ^ (n - n / 2) - 1) + 7) / 8
    10 * ((1 + (c.chain.length + b + 1 + 15) / 16) + (4 * ((b + 3) / 4) + 4 + 15) / 16 - 1)
  else if m ≤ 1 ∨ isMac m then
    let held := if c.started then (if m ≤ 1 then c.held.length else c.processed % c.bs) else 0
    if final then (held + len + (if mwDir c.mode = 0 ∨ isMac m then (padBytes (mwPad c.mode) c.bs (held + len)).length else 0) + c.bs - 1) / c.bs
    else (held + len) / c.bs
  else (c.held.length + len + c.bs - 1) / c.bs - (if c.held.isEmpty then 0 else 1)

/-- The state byte of a clear image (R164). -/
def CtxPhase.imageByte : CtxPhase → Nat
  | .idle => 1 | .opened => 2 | .run => 3 | _ => 0

/-- The clear image of a context (R164). -/
def Ctx.clearImage (c : Ctx) : Bytes :=
  natToLe 8 c.mode ++ [BitVec.ofNat 8 c.phase.imageByte, BitVec.ofNat 8 c.held.length, BitVec.ofNat 8 c.alg, BitVec.ofNat 8 c.tenant]
    ++ zeros 4 ++ fitTo 16 c.chain ++ fitTo 16 c.held ++ natToLe 8 c.processed ++ natToLe 8 c.written
    ++ fitTo 5 (keyCheck c.alg c.key) ++ zeros 59

/-- The context that a clear image gives under a key, or none where CLOAD refuses it (R139, R164). -/
def clearLoad (b : Bytes) (k : KeyVal) : Option Ctx :=
  let w := leAt b 0 8
  let held := byteAt b 9
  let st := byteAt b 8
  let bs := algBlock k.alg
  if allZero (slice b 12 4) && allZero (slice b 69 59) && decide (mwMode w ≤ 4) && decide (k.usage = chars 'D' '0')
      && decide (1 ≤ st) && decide (st ≤ 3) && decide (held < bs) && decide (byteAt b 10 = k.alg) && decide (byteAt b 11 = k.tenant)
      && decide (slice b 64 5 = fitTo 5 (keyCheck k.alg k.val)) then
    let phase := if st = 1 then CtxPhase.idle else if st = 2 then .opened else .run
    some { Ctx.fresh w k with
      phase := phase, chain := slice b 16 bs, held := slice b 32 held, processed := leAt b 48 8, written := leAt b 56 8
      issued := leAt b 48 8 + (if mwMode w ≤ 1 then held else 0), started := decide (st = 3) }
  else none

end Sys2Proof.Machine
end

