-- ==== Sys2Proof/Machine/Engine.lean ====
section
/-! DEFINITION. Engine instructions, majors 0x30 to 0x36, the engine's operations and its known-answer test (R137 to R140,
R149 to R167). -/

namespace Sys2Proof.Machine

/-- Whether a queued operation of a core is on a context. -/
def State.ctxBusy (s : State) (n c : Nat) : Bool := (s.core n).eng.any (fun o => o.ctx == c)
/-- Whether the engine's queue of a core is full: a ninth operation stalls issue (R121). -/
def State.engFull (s : State) (n : Nat) : Bool := decide (8 ≤ (s.core n).eng.length)
/-- An operation queued, and the program counter moved on (R126). -/
def State.queueOp (s : State) (n : Nat) (o : EngOp) : State := (s.modCore n (fun c => { c with eng := c.eng ++ [o] })).nextPc n
/-- Whether a local range of an engine operation is allowed: in the data area; the engine may use quarantined lines, and passes the core's MPU at U (R138, R151,
R160, R412). -/
def State.engRange (s : State) (n : Nat) (kind : AccKind) (a len : Nat) : Bool :=
  decide (len = 0) || (inData a len && s.coreMpu n kind a len)

/-- An instruction on a context that is not empty and of the running tenant, else SENSITIVE_MISUSE (R135, R138). -/
def State.onCtx (s : State) (n c : Nat) (f : Ctx → State) : State :=
  let x := s.ctxView n c
  if x.phase = .empty ∨ x.tenant ≠ s.runTenant n then s.exc n .sensitiveMisuse else f x

/-- CINIT: context c ← a new context under key k with the mode word in ga, with the checks of R148. It waits for earlier
operations on the context (DEDUCED). -/
def execCinit (core : Fin 192) (c : Fin 4) (k : Fin 16) (ga : Fin 32) (mismatch : Bool) (s : State) :
    Host.Outcome State Fault Refusal :=
  s.kWait core [k.val] (
  .next (if s.ctxBusy core c then s
    else s.secret core mismatch (.ofC c) (fun s =>
      let w := (s.getG core ga).toNat
      match s.cinitCheck core k w with
      | .inl x => (s.dropCtx core c).exc core x
      | .inr v => ((s.dropCtx core c).modCtx core c (fun _ => Ctx.fresh w v)).nextPc core)))

/-- A CIV of a variant (R138, R149, R150). -/
def State.civ (s : State) (n c v ga gb : Nat) : State :=
  s.issue n (fun s =>
    s.onCtx n c (fun x =>
      let a := (s.getG n ga).toNat
      let len := (s.getG n gb).toNat
      if civAllowed x v = false ∨ civLenOk x v len = false then s.exc n .illegal
      else if s.engRange n .read a len = false then s.exc n .access
      else if s.engFull n then s
      else (s.modView n c (fun x => { x with phase := .opened, issued := if v = 1 then x.issued else 0 })).queueOp n (.civ c v a len)))

/-- CIV variant 0: IV, nonce or initial counter. -/
def execCivIv (core : Fin 192) (c : Fin 4) (ga gb : Fin 32) (s : State) : Host.Outcome State Fault Refusal :=
  .next (s.civ core c 0 ga gb)
/-- CIV variant 1: associated data. -/
def execCivAd (core : Fin 192) (c : Fin 4) (ga gb : Fin 32) (s : State) : Host.Outcome State Fault Refusal :=
  .next (s.civ core c 1 ga gb)
/-- CIV variant 2: FF1 tweak. -/
def execCivTweak (core : Fin 192) (c : Fin 4) (ga gb : Fin 32) (s : State) : Host.Outcome State Fault Refusal :=
  .next (s.civ core c 2 ga gb)

/-- An extent added to a window; extents whose ranges touch are merged (R161). -/
def addExtent (l : List (Nat × Nat)) (a len : Nat) : List (Nat × Nat) :=
  if len = 0 then l
  else
    let near := l.filter (fun e => decide (e.1 ≤ a + len) && decide (a ≤ e.1 + e.2))
    let lo := near.foldl (fun m e => min m e.1) a
    let hi := near.foldl (fun m e => max m (e.1 + e.2)) (a + len)
    (l.filter (fun e => !near.contains e)) ++ [(lo, hi - lo)]

/-- Whether a range touches a line quarantined by another context (R160). -/
def State.otherWindow (s : State) (n c a len : Nat) : Bool :=
  (s.core n).windows.any (fun e => decide (e.1 ≠ c) && e.2.any (fun x =>
    overlaps (a / 64 * 64) ((a + len + 63) / 64 * 64 - a / 64 * 64) (x.1 / 64 * 64) ((x.1 + x.2 + 63) / 64 * 64 - x.1 / 64 * 64)))

/-- A CRUN (R138, R149 to R161): at issue every condition that takes ILLEGAL, then the ranges; the operation then runs in
the engine. -/
def State.crun (s : State) (n c gd ga gb : Nat) (final early : Bool) : State :=
  s.issue n (fun s =>
    s.onCtx n c (fun x =>
      let dst := (s.getG n gd).toNat
      let src := (s.getG n ga).toNat
      let len := (s.getG n gb).toNat
      let m := mwMode x.mode
      let x := if x.phase = .idle then { x with issued := 0 } else x
      let out := crunOutLen x len final
      let quar := x.authDec && !early && decide (0 < out)
      let ext := if quar then addExtent x.extents dst out else x.extents
      if crunAllowed x final = false ∨ crunLenOk x len final = false ∨ (early && !x.authDec)
          ∨ (isMac m && decide (gd ≠ 0)) ∨ (!isMac m && decide (dst ≠ src) && overlaps dst out src len)
          ∨ (x.authDec && decide (0 < out) && s.otherWindow n c dst out) ∨ 16 < ext.length then s.exc n .illegal
      else if s.engRange n .read src len = false ∨ s.engRange n .write dst out = false then s.exc n .access
      else if s.engFull n then s
      else
        let s1 := s.modView n c (fun _ => { x with phase := crunNext x final, issued := x.issued + len, extents := ext })
        let slot := (s.core n).slotNo
        if m = 12 then
          (s1.modCore n (fun k => { k with slotNo := slot + 1 })).queueOp n (.crun c dst src len final early (some slot))
        else s1.queueOp n (.crun c dst src len final early none)))

/-- CRUN without FINAL. -/
def execCrun (core : Fin 192) (c : Fin 4) (gd ga gb : Fin 32) (s : State) : Host.Outcome State Fault Refusal :=
  .next (s.crun core c gd ga gb false false)
/-- CRUN with FINAL. -/
def execCrunFinal (core : Fin 192) (c : Fin 4) (gd ga gb : Fin 32) (s : State) : Host.Outcome State Fault Refusal :=
  .next (s.crun core c gd ga gb true false)
/-- CRUN with EARLY, and with or without FINAL. -/
def execCrunEarly (core : Fin 192) (c : Fin 4) (final : Bool) (gd ga gb : Fin 32) (s : State) : Host.Outcome State Fault Refusal :=
  .next (s.crun core c gd ga gb final true)

/-- CTAG variant 0, GEN: the tag or MAC is written from ga; its length is the tag length (R138, R149). -/
def execCtagGen (core : Fin 192) (c : Fin 4) (ga gb : Fin 32) (s : State) : Host.Outcome State Fault Refusal :=
  .next (s.issue core (fun s =>
    s.onCtx core c (fun x =>
      let a := (s.getG core ga).toNat
      let len := (s.getG core gb).toNat
      if mwDir x.mode = 1 then s.exc core .keyUsage
      else if x.phase ≠ .done ∨ len ≠ x.tagLen then s.exc core .illegal
      else if s.engRange core .write a len = false then s.exc core .access
      else if s.engFull core then s
      else (s.modView core c (fun x => { x with phase := .idle })).queueOp core (.tag c a len))))

/-- CSTATUS held at AUTH_FAIL for the rest of the command, unless a replay came first (R140). -/
def State.holdAuthFail (s : State) (n : Nat) : State :=
  s.modCore n (fun c => if c.locked then c else { c with cstatus := .authFail, locked := true })

/-- CTAG variant 1, CHECK: compares the tag in memory, then opens the window on a pass, or zero-fills it, empties the
context and sets AUTH_FAIL on a failure (R138, R140, R162). -/
def execCtagCheck (core : Fin 192) (c : Fin 4) (gd ga gb : Fin 32) (mismatch : Bool) (s : State) :
    Host.Outcome State Fault Refusal :=
  .next (if s.ctxBusy core c then s
    else s.secret core mismatch (.ofC c) (fun s =>
      s.onCtx core c (fun x =>
        let a := (s.getG core ga).toNat
        let len := (s.getG core gb).toNat
        if x.phase ≠ .done ∨ x.authDec = false ∨ len ≠ x.tagLen then s.exc core .illegal
        else if s.engRange core .read a len = false then s.exc core .access
        else
          let r := s.loadBytes core a len
          if r.1 = x.tag then
            (r.2.modCtx core c (fun x => { x with phase := .idle, extents := [] })).ret core gd 0#64
          else
            (((r.2.dropCtx core c).holdAuthFail core).inc (Reg.CLU_ENG_CNT_AUTH_FAIL (core.val / 8) (core.val % 8))).ret core gd 1#64)))

/-- CTAG variant 2, COUNT: gd ← bytes written by the context since CINIT (R138). -/
def execCtagCount (core : Fin 192) (c : Fin 4) (gd : Fin 32) (mismatch : Bool) (s : State) : Host.Outcome State Fault Refusal :=
  .next (if s.ctxBusy core c then s
    else s.secret core mismatch (.ofC c) (fun s =>
      s.onCtx core c (fun x => s.ret core gd (BitVec.ofNat 64 x.written))))

/-- CMACV: compares the finished MAC with the one in memory (R138, R149). -/
def execCmacv (core : Fin 192) (c : Fin 4) (gd ga gb : Fin 32) (mismatch : Bool) (s : State) : Host.Outcome State Fault Refusal :=
  .next (if s.ctxBusy core c then s
    else s.secret core mismatch (.ofC c) (fun s =>
      s.onCtx core c (fun x =>
        let a := (s.getG core ga).toNat
        let len := (s.getG core gb).toNat
        if mwDir x.mode = 0 then s.exc core .keyUsage
        else if x.phase ≠ .done ∨ isMac (mwMode x.mode) = false ∨ len ≠ x.tagLen then s.exc core .illegal
        else if s.engRange core .read a len = false then s.exc core .access
        else
          let r := s.loadBytes core a len
          (r.2.modCtx core c (fun x => { x with phase := .idle })).ret core gd (if r.1 = x.tag then 0#64 else 1#64))))

/-- A CSAVE or CLOAD refused: the context is emptied, its window zero-filled, SENSITIVE_MISUSE (R139, R163). -/
def State.ctxRefused (s : State) (n c : Nat) : State := (s.dropCtx n c).exc n .sensitiveMisuse

/-- CSAVE variant 0, clear: allowed for ECB to CTR under a D0 key; a context with a window is refused (R139, R163). The engine makes the
image after every earlier operation on the context (R126). -/
def execCsaveClear (core : Fin 192) (c : Fin 4) (ga : Fin 32) (s : State) : Host.Outcome State Fault Refusal :=
  .next (s.issue core (fun s =>
    s.onCtx core c (fun x =>
      let a := (s.getG core ga).toNat
      if 4 < mwMode x.mode ∨ x.usage ≠ chars 'D' '0' ∨ x.extents.isEmpty = false then s.ctxRefused core c
      else if s.engRange core .write a 128 = false then s.exc core .access
      else if s.engFull core then s
      else s.queueOp core (.save c a false x.phase x.issued))))

/-- CSAVE variant 1, wrapped (R139, R164). -/
def execCsaveWrapped (core : Fin 192) (c : Fin 4) (ga : Fin 32) (s : State) : Host.Outcome State Fault Refusal :=
  .next (s.issue core (fun s =>
    s.onCtx core c (fun x =>
      let a := (s.getG core ga).toNat
      if x.extents.isEmpty = false then s.ctxRefused core c
      else if s.engRange core .write a 160 = false then s.exc core .access
      else if s.engFull core then s
      else s.queueOp core (.save c a true x.phase x.issued))))

/-- What a wrapped image is bound to: the running tenant, the program identifier and the core (R139; their encoding is the model's, log entry
65). -/
def State.imageBound (s : State) (n : Nat) : Bytes :=
  natToLe 1 (s.runTenant n) ++ natToLe 2 (((s.coreEntry n).map (·.prog)).getD 0) ++ natToLe 1 n

/-- CLOAD variant 0, clear: the checks of R148 on the named key and the image's mode word, then those of the image (R139,
R164, R165). The image is read and checked at issue, since later instructions need the state that it holds; the engine puts it in place
after every earlier operation on the context (R126; log entry 65). -/
def execCloadClear (core : Fin 192) (c : Fin 4) (k : Fin 16) (ga : Fin 32) (s : State) : Host.Outcome State Fault Refusal :=
  s.kWait core [k.val] (
  .next (s.issue core (fun s =>
    let a := (s.getG core ga).toNat
    if s.engRange core .read a 128 = false then (s.dropCtx core c).exc core .access
    else if s.engFull core then s
    else
      let r := s.loadBytes core a 128
      match r.2.cinitCheck core k (leAt r.1 0 8) with
      | .inl x => (r.2.dropCtx core c).exc core x
      | .inr v =>
        match clearLoad r.1 v with
        | none => r.2.ctxRefused core c
        | some x => r.2.queueOp core (.load c x))))

/-- CLOAD variant 1, wrapped: an image that opens under the core's context key, bound to this tenant, program and core, and whose contents
this core wrote since its last reset (R139). -/
def execCloadWrapped (core : Fin 192) (c : Fin 4) (ga : Fin 32) (s : State) : Host.Outcome State Fault Refusal :=
  .next (s.issue core (fun s =>
    let a := (s.getG core ga).toNat
    if s.engRange core .read a 160 = false then (s.dropCtx core c).exc core .access
    else if s.engFull core then s
    else
      let r := s.loadBytes core a 160
      let b := gcmOpen (s.core core).ctxKey (r.1.take 12) (s.imageBound core) (slice r.1 12 132) (r.1.drop 144)
      match b.bind (fun b => (s.core core).images.find? (fun w => w.bytes == b)) with
      | none => r.2.ctxRefused core c
      | some w => r.2.queueOp core (.load c w.ctx)))

/-- An engine fault (R158): nothing is written, later operations on the context are discarded, it is zeroised and its
window zero-filled, and the core takes ILLEGAL at the next boundary, with a cause word that names the fault. -/
def State.engFault (s : State) (n c : Nat) (f : EngFault) : State :=
  let s1 := (s.dropCtx n c).pendCause n .illegal (Config.engineCause (match f with | .ctrWrap => 0 | .ccmLength => 1))
  match f with
  | .ctrWrap => s1.inc (Reg.CLU_ENG_CNT_CTR_WRAP (n / 8) (n % 8))
  | .ccmLength => s1

/-- EARLY_RELEASE set where an early CRUN has written plaintext (R138). -/
def State.released (s : State) (n : Nat) (early : Bool) (out : Bytes) : State :=
  if early ∧ out ≠ [] then s.modCore n (fun k => { k with early := true }) else s

/-- A context image written by the engine (R139, R164): clear, or wrapped under the core's context key, of contents that the spec does not
lay out, which the core remembers. -/
def State.saveImage (s : State) (n a : Nat) (wrapped : Bool) (x : Ctx) : State :=
  if wrapped then
    let (b, s1) := s.freshBytes 144
    let sealed := gcmSeal (s.core n).ctxKey (b.take 12) (s.imageBound n) (b.drop 12)
    (s1.modCore n (fun k => { k with images := ⟨b.drop 12, x⟩ :: k.images })).storeLocal n a (b.take 12 ++ sealed.1 ++ sealed.2)
  else s.storeLocal n a x.clearImage

/-- The effect of the oldest engine operation of a core. -/
def State.runOp (s : State) (n : Nat) (o : EngOp) : State :=
  match o with
  | .civ c v a len =>
    match (s.ctx n c).civ v (memRead (s.core n).mem a len) with
    | .inl f => s.engFault n c f
    | .inr x => s.modCtx n c (fun old => { x with phase := old.phase, issued := old.issued, extents := old.extents })
  | .crun c dst src len final early _ =>
    match (s.ctx n c).crun (memRead (s.core n).mem src len) final with
    | .inl f => s.engFault n c f
    | .inr (out, x) =>
      let b := (s.ctx n c).blocks len final
      (((s.modCtx n c (fun old => { x with phase := old.phase, issued := old.issued, extents := old.extents })).storeLocal n dst out).addTo
        (Reg.CLU_ENG_BLK_BLOCKS (n / 8) (n % 8)) b).released n early out
  | .tag c a _ =>
    let t := (s.ctx n c).tag
    (s.modCtx n c (fun x => { x with written := x.written + t.length })).storeLocal n a t
  | .save c a wrapped ph len => s.saveImage n a wrapped { s.ctx n c with phase := ph, issued := len, extents := [] }
  | .load c x => s.modCore n (fun k => { k with mem := zeroExtents k.mem (tabGet Ctx.empty k.ctx c).extents, ctx := tabSet Ctx.empty k.ctx c x })

/-- What a twin mismatch leaves of an engine operation (R145): the blocks compared before it stay written, and how many
they are is open; the rest is discarded and the context is zeroised. -/
def State.opMismatch (s : State) (n : Nat) (o : EngOp) : State :=
  let (v, s1) := s.fresh
  let s2 := match o with
    | .crun c dst src len final early _ =>
      (match (s1.ctx n c).crun (memRead (s1.core n).mem src len) final with
        | .inl _ => s1
        | .inr (out, _) =>
          let bs := (s1.ctx n c).bs
          let part := out.take (v.toNat % (out.length / bs + 1) * bs)
          (s1.storeLocal n dst part).released n early part)
    | _ => s1
  (s2.twinDiscard n (.ofC o.ctx)).pendException n .twinMismatch

/-- Whether an engine operation still waits: an HMAC for the core's earlier hash requests (R170), a wrapped image for the context key, drawn
once the core's DRBG instance is ready (R139, R301). -/
def State.opWaits (s : State) (n : Nat) (o : EngOp) : Bool :=
  match o with
  | .crun _ _ _ _ _ _ (some i) => (s.core n).hreqs.any (fun r => decide (r.slot < i))
  | .save _ _ true _ _ => (s.core n).ctxKey.isEmpty
  | _ => false

/-- ENGINE_OPERATION_DONE: the oldest queued operation of a core's engine ends and writes its results, faults, or is
found to mismatch (R126, R145, R158). -/
def execEngineOperationDone (core : Fin 192) (mismatch : Bool) (s : State) : Host.Outcome State Fault Refusal :=
  match (s.core core).eng with
  | [] => .next s
  | o :: rest =>
    if s.opWaits core o then .next s
    else
    let s1 := s.modCore core (fun c => { c with eng := rest })
    .next ((if mismatch then s1.opMismatch core o else s1.runOp core o).wake core)

/-- Whether PRF_DRAIN shows a cluster drained with DONE at 1: requested, with no command running or staged in it
(PRF_DRAIN). -/
def State.drainDone (s : State) (c : Nat) : Bool :=
  s.bit Reg.PRF_DRAIN_REQ && decide (s.rd Reg.PRF_DRAIN_CLUSTER = c)
    && s.prf.entries.all (fun e => match e.core? with | some n => decide (n / 8 ≠ c) | none => true)
    && (List.range 8).all (fun i => (s.core (8 * c + i)).run.isNone)

/-- ENGINE_KAT_START: a write of CLU_ENG_KAT with START, on an idle core of a drained cluster (R166). -/
def execEngineKatStart (core : Fin 192) (modes : BitVec 13) (inject : Bool) (s : State) : Host.Outcome State Fault Refusal :=
  let c := core.val / 8
  let n := core.val % 8
  let s0 := (s.wr (Reg.CLU_ENG_KAT_MODES c n) modes.toNat).wr (Reg.CLU_ENG_KAT_INJECT c n) (b2n inject)
  if s.bit (Reg.CLU_ENG_KAT_START c n) then .next s
  else if (s.core core).run.isSome ∨ s.drainDone c = false then .next s0
  else
    .next (((((s0.wr (Reg.CLU_ENG_KAT_START c n) 1).wr (Reg.CLU_ENG_KAT_DONE c n) 0).wr (Reg.CLU_ENG_KAT_PASS c n) 0).wr
      (Reg.CLU_ENG_KAT_INJ_SEEN c n) 0).wr (Reg.CLU_ENG_KAT_FAILED c n) 0)

/-- ENGINE_KAT_DONE: a run ends with the modes whose vectors failed and whether the comparator reported the forced
mismatch (R166, R167). -/
def execEngineKatDone (core : Fin 192) (failed : BitVec 13) (injSeen : Bool) (s : State) : Host.Outcome State Fault Refusal :=
  let c := core.val / 8
  let n := core.val % 8
  if s.bit (Reg.CLU_ENG_KAT_START c n) = false then .next s
  else
    let modes := s.rd (Reg.CLU_ENG_KAT_MODES c n)
    let inj := s.bit (Reg.CLU_ENG_KAT_INJECT c n)
    let f := failed.toNat &&& modes
    let seen := inj && injSeen
    let pass := decide (f = 0) && (!inj || seen)
    let s1 := ((((s.wr (Reg.CLU_ENG_KAT_START c n) 0).wr (Reg.CLU_ENG_KAT_DONE c n) 1).wr (Reg.CLU_ENG_KAT_PASS c n) (b2n pass)).wr
      (Reg.CLU_ENG_KAT_INJ_SEEN c n) (b2n seen)).wr (Reg.CLU_ENG_KAT_FAILED c n) f
    .next (if pass then s1.emit .engineKatPassed none core core modes (b2n inj)
      else s1.emit .engineKatFailed none core core f (b2n seen))

end Sys2Proof.Machine
end

