-- ==== Sys2Proof/Machine/OtpOps.lean ====
section
/-! DEFINITION. The OTP array: areas and their locks, reading a word and programming bits of one (R386, R398, R399). -/

namespace Sys2Proof.Machine

/-- Whether the life-cycle state lets a word be programmed through LCD_OTP_CMD (R399): never words 0 to 2; the reset map and the
stage gaps in MAKER and INTEGRATOR; the thermometer in any state but SCRAPPED; digests and identifier in MAKER; a word of
no named area as the thermometer (log entry 46). -/
def State.otpWritable (s : State) (w : Nat) : Bool :=
  let dead := decide (s.lc = .scrapped) || decide (s.lc = .lost)
  if w < 3 ∨ dead then false
  else match Config.otpArea w with
    | 1 => decide (s.lc = .maker) || decide (s.lc = .integrator)
    | 4 => decide (s.lc = .maker)
    | _ => true

/-- The contents that the places of which are not given, taken anew from the words after one of an area has changed. -/
def Otp.refresh (o : Otp) (w bits : Nat) : Otp :=
  match Config.otpArea w with
  | 1 => { o with
      resetMap := some (Config.otpFuse 0 o.words)
      gaps := (List.range 9).foldl (fun (g : Table Nat) i => tabSet 0 g i (Config.otpFuse (i + 1) o.words % 65536)) []
      powerCap := Config.otpFuse 10 o.words % 32 }
  | 2 => { o with thermometer := o.thermometer ||| bits }
  | 3 => { o with thermometer := o.thermometer ||| bits * 2 ^ 64 }
  | 4 => { o with
      keys := tabSet [] o.keys 0 (fitTo 32 (Config.otpDigest 0 o.words)), rootHash := fitTo 32 (Config.otpDigest 3 o.words) }
  | _ => o

/-- Bits of an OTP word set. -/
def State.otpWrite (s : State) (w bits : Nat) : State :=
  let o := { s.otp with words := tabMod 0 s.otp.words w (fun v => v ||| bits) }
  { s with otp := if w < 3 then o else o.refresh w bits }

/-- A word as LCD_OTP_CMD.READ loads it: words 0 to 2 hold the life-cycle copies; a word whose contents the spec places nowhere
reads an open value (R398). -/
def State.otpRead (s : State) (w : Nat) : Nat × State :=
  if w < 3 then (tabGet 0 s.otp.words w % 2 ^ 32, s)
  else match Config.otpArea w with
    | 2 => (s.otp.thermometer % 2 ^ 64, s)
    | 3 => (s.otp.thermometer / 2 ^ 64 % 2 ^ 64, s)
    | 4 => ((Config.freeValue s.free).toNat, { s with free := s.free + 1 })
    | _ => (tabGet 0 s.otp.words w, s)

/-- The number of 1 bits of a word. -/
def bitCount (v : Nat) : Nat := ((List.range 64).filter (fun i => bitAt v i)).length

/-- The bits of a life-cycle group in one copy (R398). -/
def lcGroupMask (g : Nat) : Nat := 255 * 2 ^ (8 * g)

/-- A life-cycle group programmed up to pulse `k`: pulse p programs bit p / 3 of copy p mod 3 (R405). -/
def State.lcPulses (s : State) (g k : Nat) : State :=
  (List.range k).foldl (fun s p => s.otpWrite (p % 3) (2 ^ (8 * g + p / 3))) s

end Sys2Proof.Machine
end

