-- ==== Sys2Proof/Machine/Rings.lean ====
section
/-! DEFINITION. The commands on rings and interrupt vectors (chapter 2), and the Proofer's commands that need no table:
cancel, time-outs, tokens, dispatch, spill (chapter 3). -/

namespace Sys2Proof.Machine

/-- Whether a host packet on a port is accepted while the device window is open (R311, R329). -/
def State.hostIn (s : State) (n : Nat) : Bool := (s.port n).accepts && s.winOpen

/-- The difference of two 16-bit counters (R24). -/
def diff16 (a b : Nat) : Nat := (a + 65536 - b % 65536) % 65536

/-- Slots of a ring. -/
def ringSize (log2 : Nat) : Nat := 2 ^ log2

/-- DW_SQ_STAT.ENABLED: ENABLE with no error and no ring reset. -/
def Sq.running (r : Sq) : Bool := r.enable && !r.error && !r.resetting

/-- A doorbell event with its arguments (R498): the ring index, the port and the value written. -/
def State.ringEvent (s : State) (ev : Ev) (n t q v : Nat) : State := s.emit ev (some t) (srcPort n) q n v

/-- SQ_DOORBELL: a write of DW_SQ_DB by the table of R27; on a closed page, or in a reset of the
tenant, it is dropped (R21, R229). -/
def execSqDoorbell (port : Fin 4) (t : Fin 64) (q : Fin 16) (tail : BitVec 16) (s : State) : Host.Outcome State Fault Refusal :=
  if s.hostIn port = false then .next s
  else
    let s := s.accept port
    let r := s.sq t q
    let v := tail.toNat
    if s.pageOpen t = false ∨ r.running = false ∨ r.cur ≠ port.val ∨ s.tenantResetting t then
      .next (s.ringEvent .doorbellDropped port t q v)
    else if ringSize r.log2 < diff16 v r.head ∨ diff16 v r.head < diff16 r.tail r.head then
      .next ((s.modSq t q (fun r => { r with error := true })).ringEvent .doorbellInvalid port t q v)
    else .next (s.modSq t q (fun r => { r with tail := v }))

/-- CQ_DOORBELL: a write of DW_CQ_DB advances HEAD; one that moves it backwards or past TAIL is ignored and logged
(R27, R498). -/
def execCqDoorbell (port : Fin 4) (t : Fin 64) (q : Fin 16) (head : BitVec 16) (s : State) : Host.Outcome State Fault Refusal :=
  if s.hostIn port = false then .next s
  else
    let s := s.accept port
    let r := s.cq t q
    let v := head.toNat
    if s.pageOpen t = false then .next (s.ringEvent .doorbellDropped port t q v)
    else if diff16 r.tail r.head < diff16 v r.head then .next (s.ringEvent .cqHeadInvalid port t q v)
    else .next (s.modCq t q (fun r => { r with head := v }))

/-- Every command of a ring not yet dispatched completed with a status (R28, R229). -/
def State.endUndispatched (s : State) (p : Entry → Bool) (st : Status) : State :=
  (s.prf.entries.filter (fun e => p e && e.inStore)).foldl (fun s e => s.finish e.id st 0) s

/-- SQ_RING_RESET: a write of DW_SQ_CTL.RESET runs steps 1 and 2 of R28: fetching stops, doorbells are dropped, and
commands not dispatched complete ABORTED. -/
def execSqRingReset (t : Fin 64) (q : Fin 16) (s : State) : Host.Outcome State Fault Refusal :=
  if s.pageOpen t = false ∨ (s.sq t q).resetting then .next s
  else
    let s1 := s.modSq t q (fun r => { r with resetting := true })
    .next (s1.endUndispatched (fun e => e.tenant == t.val && e.ring == q.val) .aborted)

/-- Whether a ring has a completion entry that its port has not yet written (R325). -/
def State.entryUnwritten (s : State) (t q : Nat) : Bool :=
  (List.range 4).any (fun n => (s.port n).entries.any (fun c => c.tenant == t && c.ring == q))

/-- Whether a port holds a write or a message of a tenant's ring that is not acknowledged (R311). -/
def Port.ringUnacked (p : Port) (t q : Nat) : Bool :=
  (p.retry ++ p.qPrf ++ p.qCore ++ p.fenced).any (fun k => k.owner.ofRing == some (t, q) && decide (k.kind ≠ .mrd))
/-- Whether a port holds a write or a message of a tenant that is not acknowledged (R311). -/
def Port.tenantUnacked (p : Port) (t : Nat) : Bool :=
  (p.retry ++ p.qPrf ++ p.qCore ++ p.fenced).any (fun k => k.owner.ofRing.map (·.1) == some t && decide (k.kind ≠ .mrd))

/-- Whether a completion ring may return to its bound port: no submission ring that names it stays on the alternate (R326). -/
def State.cqReturns (s : State) (t c : Nat) : Bool :=
  (List.range 16).all (fun k => decide ((s.sq t k).cq ≠ c) || !(s.sq t k).onAlt)

/-- RING_RESET_DONE: step 4 of R28 once no read is outstanding and every command has been released; the ring returns to
its bound port if that port is ACTIVE (R326), once what it wrote on its alternate is acknowledged, so that its later
completion entries are not seen before its earlier ones (R45). A base descriptor whose extension has not been fetched is
dropped without a completion: the spec does not say whether it counts as fetched (log entry 24). -/
def execRingResetDone (t : Fin 64) (q : Fin 16) (s : State) : Host.Outcome State Fault Refusal :=
  let r := s.sq t q
  let back := s.portActive r.port
  if r.resetting = false ∨ r.fetch.isSome ∨ s.prf.entries.any (fun e => e.tenant == t.val && e.ring == q.val)
      ∨ (r.held ∧ s.entryUnwritten t q)
      ∨ (r.onAlt ∧ back ∧ (s.entryUnwritten t q ∨ (s.port r.altPort).ringUnacked t q)) then .next s
  else
    let s1 := s.modSq t q (fun r => { r with head := 0, tail := 0, error := false, enable := false, resetting := false
                                             carry := none, openMsg := none
                                             onAlt := if back then false else r.onAlt
                                             held := if back then false else r.held })
    .next (if back ∧ s1.cqReturns t r.cq then s1.modCq t r.cq (fun c => { c with onAlt := false }) else s1)

/-- Whether the MPU of a port, and of the alternate, covers a ring area for its tenant (R420). -/
def State.areaCovered (s : State) (port : Nat) (alt : Option Nat) (t base len : Nat) (write : Bool) : Bool :=
  s.oneRegionCovers (4 + port) t base len write
    && (match alt with | none => true | some a => s.oneRegionCovers (4 + a) t base len write)

/-- The completion ring that a submission ring names. -/
def State.cqOf (s : State) (t q : Nat) : Cq := s.cq t (s.sq t q).cq

/-- SQ_ENABLE: a write of DW_SQ_CTL.ENABLE. Setting it is refused where the completion ring's binding differs (R23) or
no MPU region covers the ring area (R420); a write while RESET reads 1 is ignored (R28). -/
def execSqEnable (t : Fin 64) (q : Fin 16) (enable : Bool) (s : State) : Host.Outcome State Fault Refusal :=
  let r := s.sq t q
  let c := s.cqOf t q
  if s.pageOpen t = false ∨ r.resetting then .next s
  else if enable = false then .next (s.modSq t q (fun r => { r with enable := false }))
  else if c.port ≠ r.port ∨ c.altValid ≠ r.altValid ∨ (r.altValid ∧ c.altPort ≠ r.altPort) then .next s
  else if s.areaCovered r.port (if r.altValid then some r.altPort else none) t (r.base * 4096) (ringSize r.log2 * 64) false
      = false then
    .next (s.emit .ringAreaRefused none (srcPort r.port) t (joined q 1) r.port)
  else .next (s.modSq t q (fun r => { r with enable := true }))

/-- CQ_RING_RESET: a write of DW_CQ_CFG.RESET, ignored while a submission ring that names it is enabled or has a command
outstanding (R25). -/
def execCqRingReset (t : Fin 64) (q : Fin 16) (s : State) : Host.Outcome State Fault Refusal :=
  let busy := (List.range 16).any (fun k =>
    (s.sq t k).cq == q.val && ((s.sq t k).enable || s.prf.entries.any (fun e => e.tenant == t.val && e.ring == k)
      || s.entryUnwritten t k))
  .next (if s.pageOpen t = false ∨ busy then s
    else s.modCq t q (fun c => { c with head := 0, tail := 0, phase := true }))

/-- Whether a vector's message is due (R44). -/
def Iv.due (v : Iv) (now : Nat) : Bool :=
  v.enable && !v.mask && decide (0 < v.p)
    && (decide (max 1 v.count ≤ v.p) || (decide (v.timer ≠ 0) && decide (v.t0 + v.timer * 256 ≤ now)))

/-- The message of a vector sent when it is due: on the port of the last counted entry, once every entry counted on
another port is acknowledged, and if the port's MPU permits it (R44, R320, R421). -/
def State.sendMessage (s : State) (t v : Nat) : State :=
  let i := s.iv t v
  let n := ((i.counted.getLast?).map (·.port)).getD (s.sq t 0).cur
  let o : Owner := match (i.counted.getLast?).map (·.ring) with | some none => .s0 | some (some q) => .ring t q 0 | none => .ring t 0 0
  if i.due s.now = false ∨ s.pair.st = .gaveUp ∨ i.refused = some n
      ∨ i.counted.any (fun c => c.port ≠ n && (s.port c.port).unacked c.pkt) then s
  else
    let x := tenantAccess t .write
    match s.mpuFirst (4 + n) .host x (i.addr * 4) 4 with
    | some f => (s.mpuReport (4 + n) x f).modIv t v (fun i => { i with refused := some n })
    | none =>
      let s1 := s.modIv t v (fun i => { i with p := 0, pending := false, counted := [], refused := none })
      let (k, s2) := s1.mkPkt .msg false (i.addr * 4) 4 (natToLe 4 i.data) o none
      s2.enqueue n .prf k

/-- IV_CTRL_WRITE: a 1 written to PENDING clears P first; then MASK, ENABLE, COUNT and TIMER take effect, and the
message is sent if it is due (R44). -/
def execIvCtrlWrite (t : Fin 64) (v : Fin 16) (value : BitVec 64) (s : State) : Host.Outcome State Fault Refusal :=
  if s.pageOpen t = false then .next s
  else
    let x := value.toNat
    let s1 := s.modIv t v (fun i =>
      let i1 := if bitAt x 35 then { i with p := 0, pending := false, counted := [], refused := none } else i
      { i1 with timer := bitsAt x 44 16, count := bitsAt x 36 8, mask := bitAt x 34, enable := bitAt x 33
                data := bitsAt x 0 32 })
    .next (s1.sendMessage t v)

/-- COALESCE_TIMER_EXPIRY: device time has reached T0 + TIMER, so the message is due (R44). -/
def execCoalesceTimerExpiry (t : Fin 64) (v : Fin 16) (s : State) : Host.Outcome State Fault Refusal :=
  .next (s.sendMessage t v)

/-- INTERRUPT_MESSAGE_SEND: the port writes DATA to ADDR once the conditions of R44 and R320 hold. -/
def execInterruptMessageSend (t : Fin 64) (v : Fin 16) (s : State) : Host.Outcome State Fault Refusal :=
  .next (s.sendMessage t v)

/-- A written entry counted on its vector (R44): P, T0 at the first, PENDING. -/
def State.countVector (s : State) (t v n pkt : Nat) (ring : Option Nat) : State :=
  if (s.iv t v).enable then
    s.modIv t v (fun i => { i with p := i.p + 1, t0 := if i.p = 0 then s.now else i.t0, pending := true
                                   counted := i.counted ++ [⟨n, pkt, ring⟩] })
  else s

/-- Whether a port has sent every HPUT packet of a command (R322). -/
def Port.hputsSent (p : Port) (entry : Nat) : Bool :=
  (p.qCore ++ p.fenced).all (fun k => match k.owner with | .ring _ _ e => decide (e ≠ entry) | _ => true)

/-- Whether an entry's write waits for nothing: its HPUT packets have been sent, its ring is not held, and the MPU has not
refused it since a region last committed (R322, R421). -/
def State.entryReady (s : State) (p : Port) (c : CplEntry) : Bool :=
  p.hputsSent c.entry && !(s.sq c.tenant c.ring).held && !c.refused

/-- The entry that a port writes next: the oldest that is ready, behind no other of its completion ring (R322). -/
def State.nextEntry (s : State) (p : Port) : Option CplEntry :=
  p.entries.find? (fun c => s.entryReady p c
    && (p.entries.takeWhile (fun d => decide (d ≠ c))).all (fun d => !(d.tenant == c.tenant && d.cq == c.cq)))

/-- COMPLETION_ENTRY_WRITE: the port's oldest completion entry whose HPUT packets have been sent is written as one
32-byte packet with RO clear, if the MPU permits it, and counted on its vector. A refused write waits, and releases into
its ring with it, until a region of the MPU commits; other rings go on (R37, R38, R39, R322, R421, R44). -/
def execCompletionEntryWrite (port : Fin 4) (s : State) : Host.Outcome State Fault Refusal :=
  match s.nextEntry (s.port port) with
  | none => .next s
  | some c =>
    if s.pair.st = .gaveUp then .next s
    else
      let cq := s.cq c.tenant c.cq
      let a := cq.base * 4096 + c.slot % ringSize cq.log2 * 32
      let x := tenantAccess c.tenant .write
      match s.mpuFirst (4 + port) .host x a 32 with
      | some f =>
        .next ((s.mpuReport (4 + port) x f).modPort port (fun p => { p with
          entries := p.entries.map (fun (d : CplEntry) => if d = c then { d with refused := true } else d) }))
      | none =>
        let s1 := s.modPort port (fun p => { p with entries := p.entries.erase c })
        let (k, s2) := s1.mkPkt .mwr false a 32 c.bytes (.ring c.tenant c.ring c.entry) none
        let s3 := s2.enqueue port .prf k
        let s4 := if c.notify then s3.countVector c.tenant cq.vector port k.id (some c.ring) else s3
        .next (if c.notify then s4.sendMessage c.tenant cq.vector else s4)

/-- CANCEL: a cancel for a tag of a ring takes effect when the Proofer enters it (R41, R67). Its own completion is the
entry's that DESCRIPTOR_ARRIVAL makes. -/
def execCancel (t : Fin 64) (ring : Fin 16) (tag : BitVec 64) (s : State) : Host.Outcome State Fault Refusal :=
  .next (s.cancelAll t ring tag.toNat).2

/-- OPERAND_TIMEOUT_EXPIRY: with a covered bit still clear when the operand time-out has passed, the command completes
and is recorded (R53, R66). -/
def execOperandTimeoutExpiry (entry : Nat) (s : State) : Host.Outcome State Fault Refusal :=
  match s.entry? entry with
  | none => .next s
  | some e =>
    if e.inStore ∧ s.operandsLate e then
      let s1 := s.modEntry entry (fun e => { e with timedOut := true })
      let e1 := { e with timedOut := true }
      match s1.decided e1 with
      | none => .next s1
      | some st =>
        let s2 := s1.applyDecided e1 st
        .next (if st = .operandTimeout ∨ st = .entropyUnavailable then
          s2.emit .operandTimeout (some e.tenant) (Config.blockSource 0) e.tenant e.prog (255 - s.readyMask e)
        else s2)
    else .next s

/-- NOT_BEFORE_REACHED: device time has reached an entry's not-before time, and TIME is set (R60). -/
def execNotBeforeReached (entry : Nat) (s : State) : Host.Outcome State Fault Refusal :=
  .next (match s.entry? entry with
    | none => s
    | some e => if e.inStore ∧ e.notBefore ≤ s.now then s.modEntry entry (fun e => { e with time := true }) else s)

/-- DEADLINE_REACHED: an entry not dispatched at its deadline completes DEADLINE_MISSED, unless an earlier row of R66
holds (R61). -/
def execDeadlineReached (entry : Nat) (s : State) : Host.Outcome State Fault Refusal :=
  .next (match s.entry? entry with
    | none => s
    | some e =>
      if e.inStore ∧ e.deadline ≠ 0 ∧ e.deadline ≤ s.now then
        match s.decided e with
        | some st => s.applyDecided e st
        | none => s
      else s)

/-- TOKEN_REFILL: at a Proofer quantum every bucket gains RATE up to BURST whole tokens (R63). -/
def execTokenRefill (s0 : State) : Host.Outcome State Fault Refusal :=
  let s := (s0.prf.levels.foldl (fun s e => s.writeLevels e.1 e.2) s0).modPrf (fun p => { p with levels := [] })
  .next ((List.range 64).foldl (fun s t =>
    let b := min (s.rd (Reg.PRF_T_SHARE_BURST t) * 65536) (tabGet 0 s.prf.bucket t + s.rd (Reg.PRF_T_RATE_RATE t))
    s.modPrf (fun p => { p with bucket := tabSet 0 p.bucket t b })) s)

/-- TOKEN_GRANT: the tenant's head entry takes TOKEN by a guaranteed grant, or the tenant is the next one of the surplus
round and is visited (R63). A tenant with no head entry has its deficit set to 0. -/
def execTokenGrant (t : Fin 64) (s : State) : Host.Outcome State Fault Refusal :=
  match s.headEntry t with
  | none => .next (s.modPrf (fun p => { p with deficit := tabSet 0 p.deficit t 0 }))
  | some e =>
    if 65536 ≤ tabGet 0 s.prf.bucket t then
      .next (((s.giveToken e.id).modPrf (fun p => { p with bucket := tabMod 0 p.bucket t (· - 65536) })).settleDeficit t)
    else if s.nextSurplus = some t.val then
      let s1 := s.modPrf (fun p => { p with deficit := tabMod 0 p.deficit t (· + s.rd (Reg.PRF_T_SHARE_WEIGHT t))
                                            lastVisit := t.val })
      .next (State.surplusVisit t s.prf.entries.length s1)
    else .next s

/-- Whether the dispatch stage may place an entry now: dispatch enabled, service on (R335), all bits set, the tenant below its core cap, and
no ready entry whose TOKEN was set earlier could be placed (R65). -/
def State.mayDispatch (s : State) (e : Entry) : Bool :=
  s.bit Reg.PRF_CTL_DISPATCH_EN && s.pair.service && s.ready e
    && decide (s.tenantLoad e.tenant < s.rd (Reg.PRF_T_PLACE_CORE_CAP e.tenant))
    && s.prf.entries.all (fun a => !(s.ready a && decide (a.tokenAt < e.tokenAt)
        && decide (s.tenantLoad a.tenant < s.rd (Reg.PRF_T_PLACE_CORE_CAP a.tenant)) && (s.coreChoice a).isSome))

/-- DISPATCH: the outcome of an entry at the dispatch stage by the order of R66; a ready entry is placed on the core
that R65 chooses, and its wait is counted. -/
def execDispatch (entry : Nat) (s : State) : Host.Outcome State Fault Refusal :=
  match s.entry? entry with
  | none => .next s
  | some e =>
    if e.inStore = false then .next s
    else
      match s.decided e with
      | some st => .next (s.applyDecided e st)
      | none =>
        if s.mayDispatch e then
          match s.coreChoice e with
          | none => .next s
          | some c =>
            let s1 := s.modEntry entry (fun e => { e with phase := .staged c, term := s.termLoad e })
            let s2 := s1.modFlow e.tenant e.flow (fun f => { f with lastCore := some c })
            let s3 := s2.inc (Reg.PRF_CORE_RUN_COUNT c)
            .next (s3.satInc (Reg.PRF_T_WAITH_COUNT e.tenant (waitBin ((s.now - e.created) / 256))))
        else .next s

/-- The entry that spilling takes first: the latest not-before time, then the lowest priority, then the newest (R70). -/
def spillFirst (l : List Entry) : Option Entry :=
  l.foldl (fun (b : Option Entry) e =>
    match b with
    | none => some e
    | some x =>
      if x.notBefore < e.notBefore ∨ (x.notBefore = e.notBefore ∧
          (e.prio < x.prio ∨ (e.prio = x.prio ∧ x.id < e.id))) then some e else some x) none

/-- Room in the spill area: four entries per line, none while the store is not OPEN (R70). -/
def State.spillRoom (s : State) : Nat :=
  (if s.store.st = .opened then s.rd Reg.PRF_SPILL_AREA_LINES * 4 else 0) - s.spilledCells

/-- The places of the spill area that entries hold. -/
def State.usedPlaces (s : State) : List Nat := s.prf.entries.flatMap (fun e => if e.spilled then e.places else [])

/-- The lowest free places of the spill area (log entry 56). -/
def State.freePlaces (s : State) (n : Nat) : List Nat :=
  let used := s.usedPlaces
  ((List.range (used.length + n)).filter (fun p => !used.contains p)).take n

/-- The 256 bytes of a line of the spill area: four 64-byte entries, whose layout the spec does not give (R70). -/
def State.spillLine (s : State) (line : Nat) : Bytes :=
  (List.range 4).flatMap (fun k =>
    match s.prf.entries.find? (fun e => e.spilled && e.places.contains (4 * line + k)) with
    | some e => fitTo 64 (Config.spillImage e.id (4 * line + k))
    | none => zeros 64)

/-- One entry spilled (R70): KEYS and TCTX cleared and its key pins released; the other bits, the sequence number and the
creation time stay. That it gives up its reference to a terminal entry too is the model's choice (log entry 56). -/
def State.spillEntry (s : State) (e : Entry) : State :=
  let at_ := s.freePlaces e.cells
  (((s.unpinEntry e).modEntry e.id (fun e => { e with spilled := true, places := at_, keys := e.handles.all (·.isNone)
                                                      tctxOk := !e.tctx })).addTo (Reg.PRF_CNT_COUNT 7) e.cells).settleDeficit e.tenant

/-- Entries spilled until occupancy is at LOW or the area is full (R70). -/
def State.spillSome : Nat → State → State
  | 0, s => s
  | fuel + 1, s =>
    if s.onChip ≤ s.rd Reg.PRF_SPILL_CFG_LOW then s
    else
      match spillFirst (s.prf.entries.filter (fun e => e.inStore && !e.spilled)) with
      | none => s
      | some e =>
        if s.spillRoom < e.cells then
          if s.bit Reg.PRF_STAT_SPILL_FULL then s
          else (s.wr Reg.PRF_STAT_SPILL_FULL 1).emit .spillAreaFull none (Config.blockSource 0) s.spilledCells
            (s.rd Reg.PRF_SPILL_AREA_LINES) 0
        else State.spillSome fuel (s.spillEntry e)

/-- The lines of the spill area that hold a spilled entry of a list (R70). -/
def State.linesOf (s : State) (ids : List Nat) : List Nat :=
  ((s.prf.entries.filter (fun e => e.spilled && ids.contains e.id)).flatMap (fun e => e.places.map (· / 4))).eraseDups
/-- The lines of the spill area that hold an entry of a list, written once each (R70). -/
def State.writeSpilled (s : State) (ids : List Nat) : State :=
  (s.linesOf ids).foldl (fun s n => (s.lineWrite (s.rd Reg.PRF_SPILL_AREA_BASE + n) (s.spillLine n)).2) s

/-- SPILL: occupancy above HIGH makes the Proofer spill undispatched entries until LOW, four to a line of the sealed store
(R70, R73). An area of no lines, which disables spilling, is never full: fetching goes on above HIGH, and the on-chip store
is not bounded there (log entry 56). Spilling waits for the paths of the lines that it writes. -/
def execSpill (s : State) : Host.Outcome State Fault Refusal :=
  if s.spillHigh < s.onChip ∧ s.rd Reg.PRF_SPILL_AREA_LINES ≠ 0 then
    let s1 := s.emit .spillStarted none (Config.blockSource 0) s.onChip s.spilledCells 0
    let on := (s.prf.entries.filter (fun e => !e.spilled)).map (·.id)
    let s2 := State.spillSome s.prf.entries.length s1
    let wants (s : State) : List Want := (s2.linesOf on).map (fun n => ⟨s.rd Reg.PRF_SPILL_AREA_BASE + n, false, true, 0⟩)
    if (s.wantLines (wants s)).1 = false then .next (s.wantLines (wants s)).2
    else
      let s3 := ((s2.wantLines (wants s2)).2).writeSpilled on
      .next (s3.emit .spillEnded none (Config.blockSource 0) s3.onChip s3.spilledCells 0)
  else .next s

/-- PRF_HCLR: every PRF_T_WAITH counter is cleared; the bit reads 0 again when that is done. -/
def execPrfHclr (s : State) : Host.Outcome State Fault Refusal :=
  .next { s with regs := regResetRange s.regs 0x50012000 0x50013000 }

/-- CLUSTER_DRAIN_REQUEST: PRF_DRAIN.REQ removes the named cluster from dispatch or returns it; CLUSTER is ignored while
REQ is 1 (PRF_DRAIN, R463). -/
def execClusterDrainRequest (cluster : Fin 24) (req : Bool) (s : State) : Host.Outcome State Fault Refusal :=
  let c := if s.bit Reg.PRF_DRAIN_REQ then s.rd Reg.PRF_DRAIN_CLUSTER else cluster.val
  let s1 := (s.wr Reg.PRF_DRAIN_CLUSTER c).wr Reg.PRF_DRAIN_REQ (b2n req)
  let d := s1.prf.drained
  let d1 := if req then (if d.contains c then d else c :: d) else d.filter (· ≠ c)
  .next (s1.modPrf (fun p => { p with drained := d1 }))

end Sys2Proof.Machine
end

