-- ==== Sys2Proof/Machine/MbOps.lean ====
section
/-! DEFINITION. Requests to S0 and their answers: the mailbox slots (R221 to R224, R226) and the frames of the custodian
serial port (R213, R214). -/

namespace Sys2Proof.Machine

/-- A mailbox or boot access at a port's link DMA engine: S without tenant (R412). -/
def mailAccess (k : AccKind) : MpuAccess := ⟨.s, none, k⟩

/-- The end of a request (R224): RESULT, DONE, BUSY, and the vector where IRQ is 1. `pkt` names the last packet of the
response. -/
def State.mailEnd (s : State) (k : Nat) (r : MbResult) (pkt : Nat) : State :=
  let b := s.slot k
  let s1 := (s.modSlot k (fun b => { b with
    result := r.code, done := true, busy := false, held := false, bytes := [], ending := none })).modKeys (fun x => { x with mbTurn := k })
  if b.irq ∧ k < 64 then (s1.countVector k b.vector b.port pkt none).sendMessage k b.vector else s1

/-- The bytes of a response before they are cut (R222). -/
def responseBytes (request : Bytes) (r : MbResult) (body : Bytes) : Bytes :=
  fitTo 2 request ++ natToLe 2 r.code ++ natToLe 4 body.length ++ fitTo 8 (request.drop 8) ++ body

/-- A response written through the port of the GO write, strongly ordered, and the request ended (R224). It ends when
the port has written its last packet. A buffer that the port's MPU refuses, or that lies behind a failed port, gives
DMA_ERROR. -/
def State.respond (s : State) (k : Nat) (r : MbResult) (body : Bytes) : State :=
  let b := s.slot k
  let out := (responseBytes b.bytes r body).take b.rspMax
  if s.bit (Reg.LNK_STAT_FAILED b.port) then s.mailEnd k .dmaError 0
  else
    match s.mpuFirst (4 + b.port) .host (mailAccess .write) (b.rsp * 8) out.length with
    | some f => (s.mpuReport (4 + b.port) (mailAccess .write) f).mailEnd k .dmaError 0
    | none =>
      let s1 := s.hostWrite b.port .s0 false (b.rsp * 8) out .s0
      let last := s1.host.nextPkt - 1
      if (s1.port b.port).queued last then s1.modSlot k (fun b => { b with held := true, ending := some (r, last) })
      else s1.mailEnd k r last

/-- The requests whose responses a port has now written ended; where the port has failed before it could, with DMA_ERROR
(R224). -/
def State.mailSettle (s : State) (n : Nat) : State :=
  s.keys.mb.foldl (fun s e =>
    let b := s.slot e.1
    match b.ending with
    | none => s
    | some (r, pkt) =>
      if b.port ≠ n then s
      else if (s.port n).queued pkt then
        if s.bit (Reg.LNK_STAT_FAILED n) then
          (s.modPort n (fun p => { p with qS0 := p.qS0.filter (fun (k : Pkt) => decide (k.kind ≠ .mwr)) })).mailEnd e.1 .dmaError 0
        else s
      else s.mailEnd e.1 r pkt) s

/-- The response to a request that changed a mirrored item (R197, R244): under MIRROR 1 it waits until its epoch is
acknowledged, like a completion with MSTATE. -/
def State.respondMirrored (s : State) (k t : Nat) (body : Bytes) : State :=
  if (s.tenant t).policy.mirror = 1 then
    (s.modSlot k (fun b => { b with held := true })).modKeys (fun x => { x with held := x.held ++ [⟨k, s.pair.epoch, 0, body⟩] })
  else s.respond k .ok body

/-- The held responses whose epoch is acknowledged written (R351). -/
def State.releaseHeld (s : State) : State :=
  let due := s.keys.held.filter (fun h => decide (h.epoch ≤ s.pair.acked))
  due.foldl (fun s h => s.respond h.slot .ok h.body)
    (s.modKeys (fun x => { x with held := x.held.filter (fun h => !decide (h.epoch ≤ s.pair.acked)) }))

/-- Operations accepted only in a tenant slot (R198, R223, R244). -/
def opTenant (op : Nat) : Bool :=
  [0x03, 0x05, 0x10, 0x11, 0x12, 0x13, 0x30, 0x31, 0x32].contains op || (decide (0x20 ≤ op) && decide (op ≤ 0x2D))
/-- Operations accepted only in the device slot (R190, R269, R388, R402, R419, R454, R465). -/
def opDevice (op : Nat) : Bool :=
  [0x07, 0x14, 0x40, 0x41, 0x42, 0x43, 0x44, 0x60, 0x61, 0x62, 0x70, 0x90, 0x91, 0x92, 0x93, 0xA0].contains op
/-- Operations accepted in any slot (R223, R355, R438). -/
def opAny (op : Nat) : Bool := [0x01, 0x02, 0x04, 0x50, 0x80, 0x81].contains op
/-- Whether the unit has an operation: those of Scale are unknown on parts without it (R455). -/
def State.opKnown (s : State) (op : Nat) : Bool :=
  (opTenant op || opDevice op || opAny op) && !(decide (0x90 ≤ op) && decide (op ≤ 0x93) && !s.otp.part.hasScale)

/-- Operations refused under AUDIT policy 1 and 2 (R226). -/
def opAudited (op : Nat) : Bool :=
  [0x02, 0x03, 0x10, 0x11].contains op
    || (decide (0x20 ≤ op) && decide (op ≤ 0x2D) && decide (op ≠ 0x27) && decide (op ≠ 0x28) && decide (op ≠ 0x2D))

/-- Ceremony kinds that change a mirrored item (R346). -/
def kindMirrored (kind : Nat) : Bool := [0x03, 0x04, 0x10, 0x11, 0x12, 0x13, 0x14, 0x15, 0x18].contains kind
/-- Operations that change a mirrored item of the unit (R198, R335, R346): a unit without service refuses these. -/
def opMirrored (op : Nat) (body : Bytes) : Bool :=
  [0x03, 0x10, 0x11, 0x20, 0x21, 0x23, 0x24, 0x25, 0x26, 0x29, 0x30, 0x31].contains op
    || (decide (op = 0x02) && kindMirrored (byteAt body 5))

/-- Scope of a ceremony kind (R207): true device, false tenant; none for an unlisted kind. -/
def kindDevice (kind : Nat) : Option Bool :=
  if 1 ≤ kind ∧ kind ≤ 9 then some true else if 0x10 ≤ kind ∧ kind ≤ 0x18 then some false else none

/-- Whether a ceremony or component names what its slot does not permit (R223). -/
def ceremonyScope (k : Nat) (body : Bytes) : Bool :=
  match kindDevice (byteAt body 5) with
  | some true => decide (k < 64)
  | some false => decide (byteAt body 6 ≠ k)
  | none => false

/-- What refuses a request before its operation runs (R223, R224, R226, R229, R335, R407; the order is log entry 30). -/
def State.gate (s : State) (k op : Nat) (body : Bytes) : Option MbResult :=
  let t := s.tenant k
  if s.opKnown op = false then some .unknownOp
  else if (opDevice op ∧ k < 64) ∨ (opTenant op ∧ k = 64) ∨ (op = 0x02 ∧ ceremonyScope k body) then some .scope
  else if k < 64 ∧ t.exist = false then some .noTenant
  else if s.life.wiped ∧ op ≠ 0x60 ∧ op ≠ 0x62 then some .wrongState
  else if k < 64 ∧ s.tenantResetting k ∧ op ≠ 0x12 then some .resetting
  else if s.pair.service = false ∧ opMirrored op body then some .notActive
  else if k < 64 ∧ t.policy.audit ≠ 0 ∧ s.bit Reg.GRD_STICKY_AUDIT_LOST ∧ opAudited op then some .auditUnavailable
  else none

/-- Whether a slot's request has arrived and waits for S0. -/
def State.mailReady (s : State) (k : Nat) : Bool :=
  let b := s.slot k
  b.busy && !b.held && decide (b.reads = 0)

/-- Whether a slot is the next that S0 serves: no slot with a request stands between the one answered last and it (R224). -/
def State.mailTurn (s : State) (k : Nat) : Bool :=
  (((List.range 65).map (fun i => (s.keys.mbTurn + 1 + i) % 65)).takeWhile (fun j => decide (j ≠ k))).all (fun j => !s.mailReady j)

/-- The request of a slot served, if it has arrived and is one that `p` accepts by OP and body (R222, R224). A producer of
a mirrored change waits while the journal is full (R349). -/
def State.serve (s : State) (k : Nat) (p : Nat → Bytes → Bool) (f : Bytes → State → State) : State :=
  let b := s.slot k
  if s.mailReady k = false ∨ s.mailTurn k = false then s
  else if b.failed then s.respond k .dmaError []
  else
    let op := leAt b.bytes 0 2
    let body := b.bytes.drop 16
    if p op body = false then s
    else if leAt b.bytes 2 2 ≠ 0 ∨ leAt b.bytes 4 4 ≠ body.length then s.respond k .badFormat []
    else
      match s.gate k op body with
      | some r => s.respond k r []
      | none => if s.journalFull ∧ opMirrored op body then s else f body s

/-- A request of one OP in a slot served. -/
def State.serveOp (s : State) (k op : Nat) (f : Bytes → State → State) : State := s.serve k (fun o _ => o == op) f

/-- ACK or NAK of a frame of the terminal (R214). -/
def State.cspReply (s : State) (fr : CspFrame) (ok : Bool) : State :=
  s.modCsp (fun c => c.give (cspFrame (if ok then 6 else 7) fr.seq (natToLe 1 fr.seq)))

/-- The answer to a request of a slot, or of the serial port (source 65) as a result frame (R214, R215). -/
def State.answer (s : State) (src : Nat) (r : MbResult) (body : Bytes) : State :=
  if src < 65 then s.respond src r body
  else if s.keys.csp.terminal.isSome then s.cspSend 0x83 (natToLe 2 r.code ++ body)
  else s

/-- The head frame of the serial port served, if it is good, of the given type and in a session: it is answered with ACK
and refreshes the session (R213, R214). -/
def State.cspTake (s : State) (type : Nat) (p : Bytes → Bool) (f : Bytes → State → State) : State :=
  match s.keys.csp.frames with
  | [] => s
  | fr :: rest =>
    if fr.good ∧ fr.type = type ∧ s.keys.csp.terminal.isSome ∧ p fr.data then
      f fr.data ((s.modCsp (fun c => { c with frames := rest, lastFrame := s.now })).cspReply fr true)
    else s

/-- A request of a slot or of the serial port: OP in a slot, frame type at the port. A frame that would change a mirrored
item is refused as a mailbox request is. -/
def State.take (s : State) (src op type : Nat) (p : Bytes → Bool) (f : Bytes → State → State) : State :=
  if src < 65 then s.serve src (fun o b => o == op && p b) f
  else
    s.cspTake type (fun b => p b && !(s.journalFull && opMirrored op b)) (fun b s =>
      if s.life.wiped then s.answer src .wrongState []
      else if s.pair.service = false ∧ opMirrored op b then s.answer src .notActive []
      else f b s)

/-- An event of keys and ceremonies, its tenant 0xFF for none (R216). -/
def State.keyEvent (s : State) (ev : Ev) (t a b : Nat) : State :=
  s.emit ev (if t = 0xFF then none else some t) srcS0 t a b

end Sys2Proof.Machine
end

