-- ==== Sys2Proof/Machine/Signer.lean ====
section
/-! DEFINITION. The attestation signer of S0: leaf reservation and signing (R182 to R185). -/

namespace Sys2Proof.Machine

/-- The MRAM word for a limit: L in [40:0] and the CRC-16 over bytes 0 to 5 in [63:48] (R184). -/
def xmssWord (l : Nat) : Nat :=
  let v := l % 2 ^ 41
  v + crc16 (natToLe 6 v) * 2 ^ 48

/-- The limit that an MRAM word holds, none where its CRC fails (R184): the CRC of a word that a new key set to 0 fails too. -/
def xmssWordLimit (w : Nat) : Option Nat :=
  if crc16 (natToLe 6 (w % 2 ^ 48)) = w / 2 ^ 48 then some (w % 2 ^ 41) else none

/-- The largest limit among the words whose CRC is correct, 0 where there is none (R184). -/
def xmssLargest (ws : Table Nat) : Nat :=
  (List.range 16).foldl (fun m i => max m ((xmssWordLimit (tabGet 0 ws i)).getD 0)) 0

/-- The greatest number of leaves of the attestation key (R185). -/
def attLeaves : Nat := 2 ^ 40

/-- One leaf taken by the rules of R183 and R185: none when the key is exhausted. A leaf at or above the limit first
moves the durable limit on by 1,024 and records it; fewer than 2^24 leaves left are recorded once. -/
def State.takeLeaf (s : State) : Option Nat × State :=
  let g := s.signer
  if attLeaves ≤ g.next then
    (none, s.emit .xmssExhausted none srcS0 (Config.keyNumber 0) 0 0)
  else
    let s1 :=
      if g.limit ≤ g.next then
        let l := g.limit + 1024
        ({ s with signer := { g with limit := l, words := tabSet 0 g.words (l / 1024 % 16) (xmssWord l) } }).emit
          .xmssBlockReserved none srcS0 (Config.keyNumber 0) (hiWord l) (loWord l)
      else s
    let left := attLeaves - (g.next + 1)
    let s2 := { s1 with signer := { s1.signer with next := g.next + 1 } }
    let s3 :=
      if left < 2 ^ 24 ∧ g.lowDone = false then
        ({ s2 with signer := { s2.signer with lowDone := true } }).emit .xmssIndexLow none srcS0
          (Config.keyNumber 0) (hiWord left) (loWord left)
      else s2
    (some g.next, s3)

/-- Whether the signer can serve a request now: it holds a key and is not rebuilding its state (R182). -/
def State.signerReady (s : State) : Bool := s.signer.present && !s.signer.rebuilding

/-- The attestation signature of a message with one leaf (R182). -/
def State.signWith (s : State) (leaf : Nat) (msg : Bytes) : Bytes := fitTo 5605 (Config.xmssSign 0 s.signer.seeds leaf msg)
/-- The attestation public key (R182). -/
def State.attestKey (s : State) : Bytes := fitTo 68 (Config.xmssPublic 0 s.signer.seeds)
/-- The attestation seeds zeroised (R187). -/
def Signer.zeroised (g : Signer) : Signer := { g with present := false, seeds := [] }

/-- A request queued at the signer (R182: requests wait until it is done). -/
def State.signQueue (s : State) (r : SignReq) : State :=
  { s with signer := { s.signer with waiting := s.signer.waiting ++ [r] } }

end Sys2Proof.Machine
end

