-- ==== Sys2Proof/Machine/Recorder.lean ====
section
/-! DEFINITION. The event recorder (chapter 19): entry, chain, rate limits, flushing, seals and archiving. -/

namespace Sys2Proof.Machine

/-- Bytes 0 to 27 of a record with the valid marker 0xA5 (R425). -/
def LogRec.head (r : LogRec) : Bytes :=
  natToLe 8 r.time ++ natToLe 2 (r.code % 4096 + r.sev * 4096) ++ natToLe 1 r.tenant ++ natToLe 2 r.source
    ++ natToLe 2 r.num ++ [0xA5#8] ++ natToLe 4 r.a0 ++ natToLe 4 r.a1 ++ natToLe 4 r.a2

/-- The 32 bytes of a record (R425). -/
def LogRec.bytes (r : LogRec) : Bytes := r.head ++ natToLe 4 r.chain

/-- The chain value of a record after a previous chain value (R427). -/
def chainNext (prev : Nat) (r : LogRec) : Nat := leToNat (shake256 4 (natToLe 4 prev ++ r.head))

/-- The previous chain value of a unit's first record (R429). -/
def chainGenesis (uid : Nat) : Nat := leToNat (shake256 4 (ascii "DQ EVR GENESIS" ++ natToLe 8 uid))

/-- The codes of the records that the recorder writes itself into the 64 kept entries (R430). -/
def ownCode (c : Nat) : Bool :=
  c == Ev.suppressed.code || c == Ev.lost.code || c == Ev.seal.code || c == Ev.clear.code
    || c == Ev.recorderMediaFault.code

/-- Ordinary records in the buffer (R430). -/
def Recorder.ordinary (e : Recorder) : Nat := (e.buf.filter (fun r => !ownCode r.code)).length

/-- The bucket level of a code in 1/256 token; 64 tokens where nothing changed it (R436). -/
def Recorder.level (e : Recorder) (code : Nat) : Nat := tabGet (64 * 256) e.buckets code

/-- Good segments of the ring (EVR_STAT.GOOD). -/
def Recorder.good (e : Recorder) : Nat :=
  ((List.range 32).filter (fun i => !(tabGet Segment.empty e.ring i).bad)).length

/-- The next record with its number, time and chain value (R427). -/
def State.newRec (s : State) (code sev tenant source a0 a1 a2 : Nat) : LogRec :=
  let r : LogRec := ⟨s.evr.next, s.now, code, sev, tenant, source, a0, a1, a2, 0⟩
  { r with chain := chainNext (s.evr.chain.getD (chainGenesis s.otp.uid)) r }

/-- A record entered into the buffer: number, time, chain, and the count of EVR_CNT(0) (R427). -/
def State.enterRec (s : State) (code sev tenant source a0 a1 a2 : Nat) : State :=
  let r := s.newRec code sev tenant source a0 a1 a2
  ({ s with evr := { s.evr with buf := s.evr.buf ++ [r], next := s.evr.next + 1, chain := some r.chain,
                                sinceSeal := s.evr.sinceSeal + 1 } }).inc (Reg.EVR_CNT_COUNT 0)

/-- A record of the recorder's own, into the kept entries while one is free (R430). -/
def State.enterOwn (s : State) (ev : Ev) (a0 a1 a2 : Nat) : State :=
  if s.evr.buf.length < 2048 then s.enterRec ev.code ev.severity.val 0xFF srcRecorder a0 a1 a2 else s

/-- The SUPPRESSED summary of a code, when it has a count and a kept entry is free (R436). -/
def State.suppSummary (s : State) (code : Nat) : State :=
  let c := tabGet (0, 0) s.evr.supp code
  if c.1 = 0 ∨ 2048 ≤ s.evr.buf.length then s
  else
    let s1 := s.enterOwn .suppressed code c.1 (bitsAt c.2 24 32)
    { s1 with evr := { s1.evr with supp := tabSet (0, 0) s1.evr.supp code (0, 0) } }

/-- The LOST summary of a code (R436). -/
def State.lostSummary (s : State) (code : Nat) : State :=
  let c := tabGet (0, 0) s.evr.lost code
  if c.1 = 0 ∨ 2048 ≤ s.evr.buf.length then s
  else
    let s1 := s.enterOwn .lost code c.1 0
    { s1 with evr := { s1.evr with lost := tabSet (0, 0) s1.evr.lost code (0, 0) } }

/-- The SUPPRESSED summaries that a flush writes, in ascending code (R436). -/
def State.flushSummaries (s : State) : State := (s.evr.supp.map (·.1)).foldl State.suppSummary s

/-- The LOST summaries, once 64 ordinary entries are free (R436). -/
def State.lostSummaries (s : State) : State :=
  if s.evr.ordinary + 64 ≤ 1984 then (s.evr.lost.map (·.1)).foldl State.lostSummary s else s

/-- A flush started: the summaries due enter first; a flush already running is widened (R434, R436). In buffer-only
operation nothing is written (R440). -/
def State.startFlush (s : State) (upTo : Option Nat) (powerFail : Bool) : State :=
  if s.evr.volatileOnly then s
  else
    let s1 := s.flushSummaries
    let last := upTo.getD (s1.evr.next - 1)
    let f : Flush :=
      match s1.evr.flush with
      | none => ⟨last, powerFail, s1.now⟩
      | some f => ⟨max f.upTo last, f.powerFail || powerFail, f.start⟩
    ({ s1 with evr := { s1.evr with flush := some f } })

/-- The message that a seal signs: unit identifier, number, chain value and device time (R437). -/
def sealMessage (uid num chain time : Nat) : Bytes :=
  natToLe 8 uid ++ natToLe 8 num ++ natToLe 4 chain ++ natToLe 8 time

/-- A SEAL record, its request to the attestation signer and its slot (R437). Status 0 when the signer serves it at
once, 1 when it waits, 2 when the key is exhausted. -/
def State.writeSeal (s : State) : State :=
  if 2048 ≤ s.evr.buf.length then s
  else
    let slot := s.evr.sealCount % 8
    if s.signerReady then
      match s.takeLeaf with
      | (none, s1) =>
        let s2 := s1.enterOwn .seal s1.evr.next (slot + 2 * 256) 0
        { s2 with evr := { s2.evr with sinceSeal := 0 } }
      | (some leaf, s1) =>
        let s2 := s1.enterOwn .seal s1.evr.next slot leaf
        let c := s2.evr.chain.getD 0
        let num := s2.evr.next - 1
        let sg := s2.signWith leaf (sealMessage s2.otp.uid num c s2.now)
        { s2 with evr := { s2.evr with seals := (SealSlot.mk num c s2.now (some sg) :: s2.evr.seals).take 8,
                                       sealCount := s2.evr.sealCount + 1, sinceSeal := 0 } }
    else
      let s2 := s.enterOwn .seal s.evr.next (slot + 256) 0
      let c := s2.evr.chain.getD 0
      let num := s2.evr.next - 1
      let s3 := { s2 with evr := { s2.evr with seals := (SealSlot.mk num c s2.now none :: s2.evr.seals).take 8,
                                               sealCount := s2.evr.sealCount + 1, sinceSeal := 0 } }
      s3.signQueue ⟨num, sealMessage s3.otp.uid num c s3.now⟩

/-- What follows the entry of a record: the flush that its severity, the fill of the buffer or PFAIL_N starts (R434,
R435), and the SEAL due after every 4,096 records (R437). -/
def State.afterEntry (s : State) (sev : Nat) : State :=
  let s1 := if 3 ≤ sev then s.startFlush (some (s.evr.next - 1)) false else s
  let s2 := if 1536 ≤ s1.evr.buf.length ∨ s1.pins.pfailN = false then s1.startFlush none false else s1
  if 4096 ≤ s2.evr.sinceSeal then s2.writeSeal else s2

/-- An event counted for its code instead of being stored (R436). -/
def countFirst (t : Table (Nat × Nat)) (code time : Nat) : Table (Nat × Nat) :=
  tabMod (0, 0) t code (fun c => if c.1 = 0 then (1, time) else (c.1 + 1, c.2))

/-- An event entered: suppressed on an empty bucket, counted as lost when the ordinary entries are full, else stored
with one token taken (R430, R436). -/
def State.enterEvent (s : State) (e : Event) : State :=
  let code := e.ev.code
  let sev := e.ev.severity.val
  if ownCode code then (s.enterOwn e.ev e.a0 e.a1 e.a2).afterEntry sev
  else if s.evr.level code < 256 then
    ({ s with evr := { s.evr with supp := countFirst s.evr.supp code s.now } }).inc (Reg.EVR_CNT_COUNT 1)
  else if 1984 ≤ s.evr.ordinary then
    ({ s with evr := { s.evr with lost := countFirst s.evr.lost code s.now } }).inc (Reg.EVR_CNT_COUNT 2)
  else
    let s0 := s.suppSummary code
    let s1 := { s0 with evr := { s0.evr with buckets := tabSet (64 * 256) s0.evr.buckets code (s0.evr.level code - 256) } }
    (s1.enterRec code sev (e.tenant.getD 0xFF) e.source e.a0 e.a1 e.a2).afterEntry sev

/-- The event of the earliest cycle, and among those of one cycle the one of the lowest source (R427). -/
def nextEvent (l : List Event) : Option Event :=
  l.foldl (fun b e =>
    match b with
    | none => some e
    | some x => if e.cyc < x.cyc ∨ (e.cyc = x.cyc ∧ e.source < x.source) then some e else some x) none

/-- EVENT_ENTRY: the next reported event enters the recorder (R427, R430, R436). -/
def execEventEntry (s : State) : Host.Outcome State Fault Refusal :=
  match nextEvent s.evr.inbox with
  | none => .next s
  | some e => .next (({ s with evr := { s.evr with inbox := s.evr.inbox.erase e } }).enterEvent e)

/-- The flush interval: EVR_FLUSH_INT, 1 s where it reads 0. -/
def State.flushInterval (s : State) : Nat :=
  if s.rd Reg.EVR_FLUSH_INT_INTERVAL = 0 then s.secRaw 1 else s.rd Reg.EVR_FLUSH_INT_INTERVAL

/-- FLUSH_INTERVAL_EXPIRY: the interval since the end of the last flush has passed (R434). -/
def execFlushIntervalExpiry (s : State) : Host.Outcome State Fault Refusal :=
  .next (if s.evr.lastFlush + s.flushInterval ≤ s.now then s.startFlush none false else s)

/-- EVR_FLUSH: EVR_CTL.FLUSH reads 1 until the whole-buffer flush is done (R434). -/
def execEvrFlush (s : State) : Host.Outcome State Fault Refusal :=
  .next ((s.wr Reg.EVR_CTL_FLUSH 1).startFlush none false)

/-- The segment that takes the next record: the FILLING one, else the first FREE good one after the newest full one in
ring order (R431). -/
def Recorder.fillSeg (e : Recorder) : Option Nat :=
  let seg i := tabGet Segment.empty e.ring i
  match (List.range 32).find? (fun i => decide ((seg i).st = .filling) && !(seg i).bad) with
  | some i => some i
  | none =>
    let newest := (List.range 32).foldl (fun (b : Nat × Nat) i =>
      let top := ((seg i).recs.getLast?.map (·.num + 1)).getD 0
      if b.2 < top then (i + 1, top) else b) (0, 0)
    ((List.range 32).map (fun k => (newest.1 + k) % 32)).find?
      (fun i => decide ((seg i).st = .free) && !(seg i).bad)

/-- One record into a segment; a segment of 512 records is FULL (R431). -/
def segAdd (g : Segment) (r : LogRec) : Segment :=
  let recs := g.recs ++ [r]
  { g with recs := recs, st := if 512 ≤ recs.length then .full else .filling }

/-- One buffered record written to the ring; `bad` says that its read-back failed twice (R432, R440). The record stays
in the buffer where the ring has no room. -/
def State.writeRec (bad : Bool) (s : State) (r : LogRec) : State :=
  match s.evr.fillSeg with
  | none => s
  | some i =>
    let g := tabGet Segment.empty s.evr.ring i
    if bad then
      let s1 := { s with evr := { s.evr with ring := tabSet Segment.empty s.evr.ring i { g with bad := true, st := .full } } }
      let s2 := s1.wr Reg.GRD_STICKY_SEG_BAD (s1.rd Reg.GRD_STICKY_SEG_BAD ||| 2 ^ i)
      match s2.evr.fillSeg with
      | none =>
        let bads := 32 - s2.evr.good
        if s2.evr.good = 0 then
          let s3 := { s2 with evr := { s2.evr with volatileOnly := true, flush := none } }
          (s3.wr Reg.GRD_STICKY_AUDIT_LOST 1).emit .auditLost none srcRecorder bads 0 0
        else s2
      | some j =>
        let f := s2.newRec Ev.recorderMediaFault.code Ev.recorderMediaFault.severity.val 0xFF srcRecorder i g.recs.length
          s2.evr.good
        let h := segAdd (segAdd (tabGet Segment.empty s2.evr.ring j) r) f
        ({ s2 with evr := { s2.evr with ring := tabSet Segment.empty s2.evr.ring j h,
                                        buf := s2.evr.buf.filter (fun x => decide (x.num ≠ r.num)),
                                        next := s2.evr.next + 1, chain := some f.chain,
                                        sinceSeal := s2.evr.sinceSeal + 1 } }).inc (Reg.EVR_CNT_COUNT 0)
    else
      { s with evr := { s.evr with ring := tabSet Segment.empty s.evr.ring i (segAdd g r),
                                   buf := s.evr.buf.filter (fun x => decide (x.num ≠ r.num)) } }

/-- FLUSH_DONE: every record that the flush covers is written in number order; `faults` are the numbers whose
read-back failed twice (R434, R435, R440). -/
def execFlushDone (faults : List Nat) (s : State) : Host.Outcome State Fault Refusal :=
  match s.evr.flush with
  | none => .next s
  | some f =>
    let rs := s.evr.buf.filter (fun r => decide (r.num ≤ f.upTo))
    let s1 := rs.foldl (fun s r => if s.evr.volatileOnly then s else State.writeRec (faults.contains r.num) s r) s
    let written := s.evr.buf.length - s1.evr.buf.length
    let s2 := { s1 with evr := { s1.evr with flush := none, lastFlush := s1.now } }
    let s3 := ((s2.wr Reg.EVR_CTL_FLUSH 0).inc (Reg.EVR_CNT_COUNT 3)).lostSummaries
    .next (if f.powerFail then s3.emit .powerFailFlush none srcRecorder written (s3.rawUs (s3.now - f.start)) 0 else s3)

/-- Whether the sealed store is OPEN (R267). -/
def State.storeOpen (s : State) : Bool := decide (s.store.st = .opened)

/-- FULL segments of the ring, oldest first. -/
def Recorder.fullSegs (e : Recorder) : List (Nat × Segment) :=
  (e.ring.filter (fun g => decide (g.2.st = .full) && !g.2.bad)).mergeSort
    (fun a b => decide ((a.2.recs.head?.map (·.num)).getD 0 ≤ (b.2.recs.head?.map (·.num)).getD 0))

/-- The anchor of a segment's last record, kept in the newest of 16 slots (R429). -/
def anchorAdd (l : List (Nat × Nat)) (g : Segment) : List (Nat × Nat) :=
  match g.recs.getLast? with
  | none => l
  | some r => ((r.num, r.chain) :: l).take 16

/-- Lines that one archived segment takes: 64 and one for each seal signature (R433). -/
def ArchSegment.lines (a : ArchSegment) : Nat := 64 + a.sigs.length

/-- ARCHIVE_SEGMENT: the oldest FULL segment goes to the archive area and becomes FREE; with no line free or the store
not OPEN archiving stops and is recorded once (R433, R429). -/
def execArchiveSegment (s : State) : Host.Outcome State Fault Refusal :=
  let full := s.evr.fullSegs
  let held := (full.map (fun g => g.2.recs.length)).foldl (· + ·) 0
  match full with
  | [] => .next s
  | (i, g) :: _ =>
    if held < 8192 then .next s
    else
      let sigs := s.evr.seals.filterMap (fun z =>
        if g.recs.any (fun r => r.num == z.num) then z.sig.map (fun b => (z.num, b)) else none)
      let a : ArchSegment := ⟨s.evr.archNext, g.recs, sigs⟩
      let used := (s.evr.archive.map ArchSegment.lines).foldl (· + ·) 0
      let lines := s.rd Reg.EVR_ARCH_LINES
      let cause := if s.storeOpen = false then 2 else if lines < used + a.lines then 1 else 0
      if cause ≠ 0 then
        .next (if s.evr.archBlocked then s
          else ({ s with evr := { s.evr with archBlocked := true } }).emit .archiveBlocked none srcRecorder cause full.length 0)
      else
        .next (({ s with evr := { s.evr with
          archive := s.evr.archive ++ [a], archNext := (s.evr.archNext + a.lines) % lines,
          anchors := anchorAdd s.evr.anchors g,
          ring := tabSet Segment.empty s.evr.ring i Segment.empty, archBlocked := false } }).inc (Reg.EVR_CNT_COUNT 4))

/-- SEAL_SIGNATURE_ARRIVED: the signature of the oldest SEAL that waits is made with the next leaf and fills its slot
(R437). -/
def execSealSignatureArrived (s : State) : Host.Outcome State Fault Refusal :=
  if s.signerReady = false then .next s
  else
    match s.signer.waiting with
    | [] => .next s
    | r :: rest =>
      let s1 := { s with signer := { s.signer with waiting := rest } }
      match s1.takeLeaf with
      | (some leaf, s2) =>
        let sg := s2.signWith leaf r.msg
        let seals := s2.evr.seals.map (fun z => if z.num = r.num then { z with sig := some sg } else z)
        .next { s2 with evr := { s2.evr with seals := seals } }
      | (none, s2) => .next s2

/-- BUCKET_REFILL: at a tick every code's bucket gains RATE up to BURST, and a code whose bucket holds a token again
has its summary written (R436). Only a code with a listed bucket or a written limit can differ from its fill, so only those are visited. -/
def execBucketRefill (s : State) : Host.Outcome State Fault Refusal :=
  let listed := s.evr.buckets.map (·.1)
  let limited := (s.regs.filterMap (fun k =>
    let a := k.1 / 64
    if 0x500C4000 ≤ a ∧ a < 0x500C8000 then some ((a - 0x500C4000) / 4) else none)).eraseDups
  let codes := listed ++ limited.filter (fun c => !listed.contains c)
  .next (codes.foldl (fun s c =>
    let burst := s.rd (Reg.EVR_LIMIT_BURST c)
    let lvl := min (burst * 256) (s.evr.level c + s.rd (Reg.EVR_LIMIT_RATE c))
    let s1 := { s with evr := { s.evr with buckets := tabSet (64 * 256) s.evr.buckets c lvl } }
    if 256 ≤ lvl then s1.suppSummary c else s1) s)

/-- EVR_LIMIT_WRITE: RATE and BURST of a code are set; the bucket keeps its level, clipped to the new BURST (R436). -/
def execEvrLimitWrite (code : Fin 4096) (rate burst : BitVec 16) (s : State) : Host.Outcome State Fault Refusal :=
  let s1 := (s.wr (Reg.EVR_LIMIT_RATE code) rate.toNat).wr (Reg.EVR_LIMIT_BURST code) burst.toNat
  let b := tabSet (64 * 256) s1.evr.buckets code (min (s1.evr.level code) (burst.toNat * 256))
  .next { s1 with evr := { s1.evr with buckets := b } }

end Sys2Proof.Machine
end

