-- ==== Sys2Proof/Machine/ScaleOps.lean ====
section
/-! DEFINITION. Scale, the sealed transaction meter: counting, persists, statements, starts (R442 to R456). -/

namespace Sys2Proof.Machine

/-- Scale changed by a function. -/
def State.modScale (s : State) (f : Scale → Scale) : State := { s with scale := f s.scale }
/-- Whether the part has Scale (R1, R455). -/
def State.hasScale (s : State) : Bool := s.otp.part.hasScale
/-- An event of Scale. -/
def State.scaleEmit (s : State) (ev : Ev) (a b c : Nat) : State := s.emit ev none srcScale a b c

/-- A release reported: counter (tenant, class) advances by 1 (R445); discarded on a part without Scale (R455). -/
def State.scaleCount (s : State) (t cls : Nat) : State :=
  if s.hasScale then s.modScale (fun c => { c with counts := tabMod 0 c.counts (t * 32 + cls) (fun n => (n + 1) % 2 ^ 64) }) else s

/-- The Scale cores reset alone: the counter array and the partition keep their contents, and the next statement carries RESTART
(R443, R460). -/
def State.scaleCoresReset (s : State) : State :=
  s.modScale (fun c => { c with up := false, restart := true, lastRestart := s.now })

/-- An access of Scale's firmware under its MPU (R412, R443): whether it is permitted, and the state after it. Where the firmware
accesses is a free value (log entry 63); a refusal is reported, resets the Scale cores alone and records SCALE_FAULT. -/
def State.scaleAccess (s : State) : Bool × State :=
  let (v, s1) := s.fresh
  let x : MpuAccess := ⟨.u, none, if bitAt v.toNat 32 then .write else .read⟩
  match s1.mpuFirst 10 .supervisor x (v.toNat % 2 ^ 32) 1 with
  | none => (true, s1)
  | some f => (false, ((s1.mpuReport 10 x f).scaleEmit .scaleFault (loWord f.addr) f.cause.val 0).scaleCoresReset)

/-- Work of Scale's firmware that its own access precedes (R443). -/
def State.scaleWork (s : State) (f : State → State) : State := if s.scaleAccess.1 then f s.scaleAccess.2 else s.scaleAccess.2

/-- The highest persist number of the two banks. -/
def Scale.lastNum (c : Scale) : Nat := max c.bankA.num c.bankB.num

/-- The counters written to a bank: 0 A, 1 B. -/
def Scale.writeBank (c : Scale) (b : Nat) : Scale :=
  let k : ScaleBank := ⟨c.lastNum + 1, c.counts, false⟩
  if b = 0 then { c with bankA := k } else { c with bankB := k }

/-- Whether a bank is marked bad. -/
def Scale.bad (c : Scale) (b : Nat) : Bool := if b = 0 then c.bankA.bad else c.bankB.bad
/-- A bank marked bad. -/
def Scale.markBad (c : Scale) (b : Nat) : Scale :=
  if b = 0 then { c with bankA := { c.bankA with bad := true } } else { c with bankB := { c.bankB with bad := true } }

/-- The bank that a persist writes: the banks alternate, a bad one is passed over (R446, R447). -/
def Scale.nextBank (c : Scale) : Option Nat :=
  let b := if c.bankA.num ≤ c.bankB.num then 0 else 1
  if c.bad b = false then some b else if c.bad (1 - b) = false then some (1 - b) else none

/-- A persist of the array (R446): a bank whose write fails read-back twice is marked bad and the other bank takes it
(R447). -/
def State.scalePersist (s : State) (fails : Bool) : State :=
  let s0 := s.modScale (fun c => { c with lastPersist := s.now })
  match s.scale.nextBank with
  | none => s0
  | some b =>
    if fails then
      let s1 := s0.modScale (fun c => c.markBad b)
      let left := b2n (!s1.scale.bankA.bad) + b2n (!s1.scale.bankB.bad)
      let s2 := s1.scaleEmit .scalePersistFault b (s1.scale.lastNum + 1) left
      match s2.scale.nextBank with
      | none => s2
      | some b2 => s2.modScale (fun c => c.writeBank b2)
    else s0.modScale (fun c => c.writeBank b)

/-- SCALE_PERSIST: 10 s after the last persist the array is written to the next bank and verified (R446, R447), unless Scale's MPU
refuses its firmware's access (R443). -/
def execScalePersist (fails : Bool) (s : State) : Host.Outcome State Fault Refusal :=
  .next (if s.hasScale ∧ s.scale.up ∧ s.scale.lastPersist + s.secRaw 10 ≤ s.now then s.scaleWork (fun s => s.scalePersist fails) else s)

/-- The digest of the running Scale firmware (R448). -/
def Scale.digest (c : Scale) : Bytes :=
  match c.romfw, c.pkg with
  | false, some p => shake256 32 p
  | _, _ => fitTo 32 Config.scaleRomDigest

/-- Leaves of Scale's key (R449). -/
def scaleLeaves : Nat := 2 ^ 20

/-- A leaf of Scale's key by the rules of R183 (R449, R450): 2^20 once the index is exhausted, with its event. -/
def State.scaleLeaf (s : State) : Nat × State :=
  let c := s.scale
  if scaleLeaves ≤ c.next ∨ c.present = false then (scaleLeaves, s.scaleEmit .scaleExhausted c.sgen 0 0)
  else
    let left := scaleLeaves - (c.next + 1)
    let s1 := s.modScale (fun c => { c with next := c.next + 1, limit := if c.limit ≤ c.next then c.limit + 1024 else c.limit })
    if left < 4096 ∧ c.lowDone = false then (c.next, (s1.modScale (fun c => { c with lowDone := true })).scaleEmit .scaleIndexLow left 0 0)
    else (c.next, s1)

/-- The trust state and entries of the time base that an interval compares (R448). -/
def State.scaleMark (s : State) : Nat × Nat × Nat := (s.rd (Reg.TIM_CNT_COUNT 3), s.rd (Reg.TIM_CNT_COUNT 4), s.time.state.val)

/-- FLAGS of a statement (R448): `cut` and `update` are bits 4 and 5. -/
def State.scaleFlags (s : State) (cut update : Bool) : Nat :=
  let c := s.scale
  let m := s.scaleMark
  let hold := decide (m.1 ≠ c.mark.1) || decide (c.mark.2.2 = Trust.holdover.val)
  let untr := decide (m.2.1 ≠ c.mark.2.1) || decide (c.mark.2.2 = Trust.untrusted.val)
  b2n hold + 2 * b2n untr + 4 * b2n c.restart + 8 * b2n c.romfw + 16 * b2n cut + 32 * b2n update
    + 64 * b2n (c.bankA.bad || c.bankB.bad)

/-- The first 16,512 bytes of a statement (R448). -/
def Scale.body (c : Scale) (num flags uid now leaf : Nat) : Bytes :=
  natToLe 4 0x54534C53 ++ natToLe 1 1 ++ natToLe 1 flags ++ zeros 2 ++ natToLe 8 num ++ natToLe 8 uid ++ natToLe 4 c.sgen ++ zeros 4
    ++ c.digest ++ natToLe 8 c.start ++ natToLe 8 now ++ natToLe 8 c.lastRestart ++ natToLe 8 leaf ++ zeros 32
    ++ (List.range 2048).flatMap (fun i => natToLe 8 (tabGet 0 c.counts i))

/-- A statement issued (R448): numbered, signed with one leaf, kept with the one before, persisted and recorded. -/
def State.scaleStatement (s : State) (cut update : Bool) : State :=
  let flags := s.scaleFlags cut update
  let (leaf, s1) := s.scaleLeaf
  let num := s.scale.stmtNum + 1
  let body := s.scale.body num flags s.otp.uid s.now leaf
  let sig := if leaf = scaleLeaves then zeros 2820 else fitTo 2820 (Config.xmssSign 1 s.scale.seeds leaf body)
  let s2 := s1.modScale (fun c => { c with
    stmtNum := num, stmts := (body ++ sig) :: c.stmts.take 1, restart := false, start := s.now, mark := s.scaleMark })
  (s2.scalePersist false).scaleEmit .scaleStatement num leaf flags

/-- SCALE_INTERVAL_EXPIRY: INTERVAL seconds of device time have passed since the last statement (R448); a statement is issued unless
Scale's MPU refuses its firmware's access (R443). -/
def execScaleIntervalExpiry (s : State) : Host.Outcome State Fault Refusal :=
  .next (if s.hasScale ∧ s.scale.up ∧ s.scale.start + s.secRaw s.scale.interval ≤ s.now then
    s.scaleWork (fun s => s.scaleStatement false false) else s)

/-- Why a package is refused (R451): 1 no key, 2 format, 3 signature; 0 where it is good, for a seal generation. -/
def State.scalePkgFault (s : State) (p : Bytes) (sgen : Nat) : Nat :=
  let n := leAt p 16 4
  let key := tabGet [] s.otp.keys 2
  if key.isEmpty then 1
  else if leAt p 0 4 ≠ 0x50554C53 ∨ leAt p 4 2 ≠ 1 ∨ leAt p 6 2 ≠ 0 ∨ leAt p 8 4 ≠ sgen ∨ leAt p 12 4 < 60 ∨ 86400 < leAt p 12 4
      ∨ n % 4 ≠ 0 ∨ n = 0 ∨ 196608 < n ∨ allZero (slice p 20 44) = false ∨ p.length ≠ 64 + n + 2820 then 2
  else if Config.xmssVerifyDigest key (p.take (64 + n)) (p.drop (64 + n)) then 0 else 3

/-- Scale's public key (R449). -/
def Scale.publicKey (c : Scale) : Bytes := fitTo 68 (Config.xmssPublic 1 c.seeds)
/-- A new signing key of Scale from its random bytes: all its leaves unused (R449). -/
def State.scaleNewKey (s : State) (seeds : Bytes) : State :=
  s.modScale (fun c => { c with hadKey := true, present := true, seeds := seeds, next := 0, limit := 0, lowDone := false })

/-- The regions that Scale's firmware commits in its MPU, which it alone writes (R412). -/
def State.scaleRegions (s : State) : State :=
  (List.range 8).foldl (fun s r =>
    let g := Config.scaleRegion (if s.scale.romfw then 0 else s.scale.sgen) r
    ((s.wr (mpuBase 10 r) g.1).wr (mpuLimit 10 r) g.2.1).commitRegion 10 r g.2.2) s

/-- SCALE_START: a start of Scale after a reset of its cores (R446, R449, R452): the stored package is checked, a key is
generated at the first start in INTEGRATOR or after its seeds were zeroised, and the firmware sets its MPU. A start that generates a
key waits for Scale's DRBG instance (R301). -/
def execScaleStart (s : State) : Host.Outcome State Fault Refusal :=
  let draw := if s.scale.present ∨ (s.scale.hadKey = false ∧ s.lc ≠ .integrator) then some ([], s) else s.drbgBytes 195 96
  if s.hasScale = false ∨ s.scale.up then .next s
  else
  match draw with
  | none => .next s
  | some (seeds, s) =>
    let s1 := match s.scale.pkg with
      | none =>
        let s1 := s.modScale (fun c => { c with romfw := true, interval := 3600 })
        if s.scale.sgen = 0 then s1 else s1.scaleEmit .scaleImageInvalid s.scale.sgen 0 0
      | some p =>
        if s.scalePkgFault p s.scale.sgen = 0 then s.modScale (fun c => { c with romfw := false, interval := leAt p 12 4 })
        else (s.modScale (fun c => { c with romfw := true, interval := 3600 })).scaleEmit .scaleImageInvalid s.scale.sgen 0 0
    let s2 :=
      if s1.scale.present then s1.modScale (fun c => { c with next := c.limit })
      else if s1.scale.hadKey = false then (if s1.lc = .integrator then s1.scaleNewKey seeds else s1)
      else (s1.scaleNewKey seeds).scaleEmit .scaleKeyNew s1.scale.sgen 0 0
    .next (s2.modScale (fun c => { c with up := true, start := s2.now, mark := s2.scaleMark })).scaleRegions

/-- The counters that an L1 reset restores (R446): those of the valid bank with the highest persist number. -/
def Scale.restored (c : Scale) : Table Nat := if c.bankA.num ≤ c.bankB.num then c.bankB.counts else c.bankA.counts

/-- What an L1 reset does to Scale (R444, R446, R448): its cores wait for their start and SCL_STMT reads zero (R6). -/
def State.scaleReset (s : State) : State :=
  s.scaleCoresReset.modScale (fun c => { c with counts := c.restored, stmts := [] })

/-- SCALE_UPDATE's effect (R451): the result, true where the package is installed. -/
def State.scaleUpdate (s : State) (p : Bytes) : Bool × State :=
  let f := s.scalePkgFault p (s.scale.sgen + 1)
  if f ≠ 0 then (false, s.scaleEmit .scaleUpdateRefused f 0 0)
  else
    let s1 := s.scaleStatement false true
    let s2 := s1.modScale (fun c => { c with sgen := c.sgen + 1, pkg := some p, romfw := false, interval := leAt p 12 4 })
    (true, s2.scaleEmit .scaleUpdated s2.scale.sgen (leAt p 16 4) (leAt p 12 4))

/-- The wipe of R453: key seeds and leaf limit zeroised. -/
def State.scaleWipe (s : State) : State := s.modScale (fun c => { c with present := false, seeds := [], next := 0, limit := 0 })

end Sys2Proof.Machine
end

