-- ==== Sys2Proof/Machine/Mailbox.lean ====
section
/-! DEFINITION. Mailbox operations that are neither ceremonies nor key management: challenges, routes, tenant information,
Scale, health, pair status, link windows (R202, R212, R223, R244, R355, R419, R454, R465). -/

namespace Sys2Proof.Machine

/-- An operation with an empty body: BAD_FORMAT where it is not empty. -/
def State.emptyBody (s : State) (k : Nat) (b : Bytes) (t : State) : State :=
  if b.isEmpty then t else s.respond k .badFormat []

/-- UNKNOWN_OP: a request whose OP is not listed (R224, R455). -/
def execUnknownOp (slot : Fin 65) (s : State) : Host.Outcome State Fault Refusal :=
  .next (s.serve slot (fun op _ => !s.opKnown op) (fun _ s => s.respond slot .unknownOp []))

/-- GET_CHALLENGE: 32 random bytes, valid for CHAL_LIFE (R202). While S0's instance gives no bytes the request waits. -/
def execGetChallenge (slot : Fin 65) (s : State) : Host.Outcome State Fault Refusal :=
  .next (s.serveOp slot 0x01 (fun b s => s.emptyBody slot b (match s.newChallenge with
    | some (c, s1) => s1.respond slot .ok c
    | none => s)))

/-- CHALLENGE_EXPIRY: challenges past CHAL_LIFE are no longer outstanding (R202). -/
def execChallengeExpiry (s : State) : Host.Outcome State Fault Refusal :=
  .next (s.modKeys (fun k => { k with chals := k.chals.filter (fun c => decide (s.now < c.until_)) }))

/-- Whether an authorised state of a tenant holds now (R212): 0 KEYMGMT, 1 EXPORT. -/
def State.authorised (s : State) (t i : Nat) : Bool :=
  let x := s.tenant t
  match (if i = 0 then x.keymgmt else x.export_) with
  | some u => decide (s.now < u) && s.timeGood
  | none => false

/-- AUTH_STATE_EXPIRY: the durations of a tenant's authorised states have ended (R212, cause 1). -/
def execAuthStateExpiry (t : Fin 64) (s : State) : Host.Outcome State Fault Refusal :=
  let x := s.tenant t
  let past (u : Option Nat) : Bool := match u with | some n => decide (n ≤ s.now) | none => false
  .next (s.endAuth t (b2n (past x.keymgmt) + 2 * b2n (past x.export_)) 1)

/-- A route block (R244): table, digits and profile index; none where it breaks the rule. -/
def routeBlock (b : Bytes) : Option (Bool × List Nat × Nat) :=
  let n := byteAt b 0
  let ds := nibbles (slice b 2 10)
  if b.length = 16 ∧ n ≤ 19 ∧ byteAt b 1 ≤ 1 ∧ (byteAt b 1 = 1 ∨ 4 ≤ n) ∧ (ds.take n).all (fun d => decide (d ≤ 9))
      ∧ (ds.drop n).all (· == 15) then
    some (byteAt b 1 == 1, ds.take n, leAt b 12 4)
  else none

/-- The blocks of the shadow that a change of a prefix touches (R245). -/
def routeBlocks (t : Nat) (d : List Nat) : List Nat := [prefixBlock t d, filterBlock (filterRoot d)].eraseDups

/-- ROUTE_SET: inserts a prefix or replaces its profile index (R244, R245). It needs KEYMGMT, and the store OPEN for its shadow
(R267; log entry 35). -/
def execRouteSet (slot : Fin 65) (s : State) : Host.Outcome State Fault Refusal :=
  .next (s.serveOp slot 0x30 (fun b s =>
    if s.authorised slot 0 = false then s.respond slot .notAuthorised []
    else
      match routeBlock b with
      | none => s.respond slot .badFormat []
      | some (tcam, d, p) =>
        let l := routeBlocks slot d
        if s.store.st ≠ .opened then s.respond slot .storeState []
        else if (s.wantLines (s.shadowWants l)).1 = false then (s.wantLines (s.shadowWants l)).2
        else
          match ((s.wantLines (s.shadowWants l)).2).sieveInsert slot tcam d p with
          | (0, s1) => ((s1.writeShadow l).mirror ⟨4, 1, slot, 0, b⟩).respondMirrored slot slot []
          | (_, _) => s.respond slot .tableFull []))

/-- ROUTE_DELETE: removes a prefix (R244, R245). It needs KEYMGMT. -/
def execRouteDelete (slot : Fin 65) (s : State) : Host.Outcome State Fault Refusal :=
  .next (s.serveOp slot 0x31 (fun b s =>
    if s.authorised slot 0 = false then s.respond slot .notAuthorised []
    else
      match routeBlock b with
      | none => s.respond slot .badFormat []
      | some (tcam, d, _) =>
        let l := routeBlocks slot d
        if s.store.st ≠ .opened then s.respond slot .storeState []
        else if (s.wantLines (s.shadowWants l)).1 = false then (s.wantLines (s.shadowWants l)).2
        else
          match ((s.wantLines (s.shadowWants l)).2).sieveDelete slot tcam d with
          | (0, s1) => ((s1.writeShadow l).mirror ⟨4, 2, slot, 0, b⟩).respondMirrored slot slot []
          | (_, _) => s.respond slot .notFound []))

/-- ROUTE_LOOKUP: the route of a PAN operand (R244, R241): profile index in bytes 0 to 3, length in 4, table in 5
(log entry 32). -/
def execRouteLookup (slot : Fin 65) (s : State) : Host.Outcome State Fault Refusal :=
  .next (s.serveOp slot 0x32 (fun b s =>
    match panDigits b with
    | none => s.respond slot .badFormat []
    | some d =>
      if s.lookupHeld slot d then s
      else
        match sieveLookup s.tab slot d with
        | none => s.respond slot .notFound []
        | some (p, n, w) => s.respond slot .ok (natToLe 4 p ++ natToLe 1 n ++ natToLe 1 w ++ zeros 2)))

/-- The R225 block of a tenant's policies. -/
def Policy.bytes (p : Policy) : Bytes :=
  natToLe 1 p.mirror ++ natToLe 1 p.audit ++ natToLe 1 p.learn ++ natToLe 1 p.evict ++ natToLe 1 p.vector ++ natToLe 1 p.move
    ++ zeros 2 ++ natToLe 4 p.idle ++ zeros 4

/-- TENANT_INFO: the service-level and policy blocks and 8 status bytes, whose contents are not given (R223). -/
def execTenantInfo (slot : Fin 65) (s : State) : Host.Outcome State Fault Refusal :=
  .next (s.serveOp slot 0x13 (fun b s => s.emptyBody slot b (
    let (st, s1) := s.freshBytes 8
    s1.respond slot .ok (fitTo 48 (s.tenant slot).block ++ (s.tenant slot).policy.bytes ++ st))))

/-- An operation that S0 relays to Scale (R454): it waits while the Scale cores have not started. -/
def State.serveScale (s : State) (slot op : Nat) (f : Bytes → State → State) : State :=
  if s.hasScale ∧ s.scale.up = false then s else s.serveOp slot op f

/-- SCALE_READ: the last statement, or the one before (R454). A statement that was never issued gives NOT_FOUND
(log entry 33). -/
def execScaleRead (slot : Fin 65) (s : State) : Host.Outcome State Fault Refusal :=
  .next (s.serveScale slot 0x90 (fun b s =>
    if b.length ≠ 1 ∨ 1 < byteAt b 0 then s.respond slot .badFormat []
    else
      match s.scale.stmts[byteAt b 0]? with
      | none => s.respond slot .notFound []
      | some st => s.respond slot .ok st))

/-- SCALE_CUT: an immediate statement, at most one in 60 s (R448, R454). -/
def execScaleCut (slot : Fin 65) (s : State) : Host.Outcome State Fault Refusal :=
  .next (s.serveScale slot 0x91 (fun b s => s.emptyBody slot b (
    let soon := match s.scale.lastCut with | some t => decide (s.now < t + s.secRaw 60) | none => false
    if soon then s.respond slot .busy []
    else
      let s1 := (s.modScale (fun c => { c with lastCut := some s.now })).scaleStatement true false
      s1.respond slot .ok (natToLe 8 s1.scale.stmtNum))))

/-- SCALE_UPDATE: a package checked and installed, or refused with SCALE_REFUSED (R451, R454). -/
def execScaleUpdate (slot : Fin 65) (s : State) : Host.Outcome State Fault Refusal :=
  .next (s.serveScale slot 0x92 (fun b s =>
    match s.scaleUpdate b with
    | (true, s1) => s1.respond slot .ok []
    | (false, s1) => s1.respond slot .scaleRefused []))

/-- A statement signed with the attestation key, followed by its signature (R182, R183): none where the key is exhausted. -/
def State.attest (s : State) (msg : Bytes) : Option Bytes × State :=
  match s.takeLeaf with
  | (some leaf, s1) => (some (msg ++ s1.signWith leaf msg), s1)
  | (none, s1) => (none, s1)

/-- SCALE_KEY: Scale's public key and its attestation statement (R449, R454). It waits while the signer rebuilds its state;
without a key to sign with it gives WRONG_STATE (log entry 33). -/
def execScaleKey (slot : Fin 65) (s : State) : Host.Outcome State Fault Refusal :=
  .next (s.serveScale slot 0x93 (fun b s => s.emptyBody slot b (
    if s.signer.rebuilding then s
    else if s.signer.present = false then s.respond slot .wrongState []
    else
      let pk := s.scale.publicKey
      match s.attest (Config.scaleKeyStatement s.otp.uid s.scale.sgen s.scale.digest pk) with
      | (some st, s1) => s1.respond slot .ok (pk ++ st)
      | (none, s1) => s1.respond slot .wrongState [])))

/-- Clusters under test, as a mask. -/
def Ras.testing (r : Ras) : Nat := r.tests.foldl (fun m t => m ||| 2 ^ t.cluster) 0

/-- HEALTH_STATUS: masks of clusters in service, retired and under test, and the rotations completed (R465). -/
def execHealthStatus (slot : Fin 65) (s : State) : Host.Outcome State Fault Refusal :=
  .next (s.serveOp slot 0xA0 (fun b s => s.emptyBody slot b (s.respond slot .ok
    (natToLe 4 s.ras.inService ++ natToLe 4 s.ras.retired ++ natToLe 4 s.ras.testing
      ++ natToLe 4 (s.rd Reg.RAS_ROT_STAT_ROTATIONS)))))

/-- PAIR_STATUS: pair state, horizon, open epoch and takeovers, 8 bytes each (R355). -/
def execPairStatus (slot : Fin 65) (s : State) : Host.Outcome State Fault Refusal :=
  .next (s.serveOp slot 0x50 (fun b s => s.emptyBody slot b (s.respond slot .ok
    (natToLe 8 s.pair.st.val ++ natToLe 8 s.pair.horizon ++ natToLe 8 s.pair.epoch ++ natToLe 8 s.pair.takeovers))))

/-- Whether the MPU of a port refuses any part of an enabled ring's area to its tenant on the ring's port or alternate
(R419). -/
def State.ringRefused (s : State) (n : Nat) : Bool :=
  let bad (port : Nat) (altValid : Bool) (alt t base len : Nat) (w : AccKind) : Bool :=
    (decide (port = n) || (altValid && decide (alt = n))) && (s.mpuFirst (4 + n) .host (tenantAccess t w) base len).isSome
  (List.range 1024).any (fun i =>
    let r := s.sq (i / 16) (i % 16)
    let c := s.cq (i / 16) (i % 16)
    (r.enable && bad r.port r.altValid r.altPort (i / 16) (r.base * 4096) (ringSize r.log2 * 64) .read)
      || (c.enable && bad c.port c.altValid c.altPort (i / 16) (c.base * 4096) (ringSize c.log2 * 32) .write))

/-- Whether the store engine's MPU refuses any part of an extent while the store is OPEN (R419). -/
def State.extentRefused (s : State) : Bool :=
  s.storeOpen && (List.range 16).any (fun e =>
    let a := s.rd (Reg.SST_EXT_HOST_ADDR e) * 4096
    let n := s.rd (Reg.SST_EXT_MAP_PAGES e) * 4096
    s.hostRefused 8 ⟨.u, none, .read⟩ a n || s.hostRefused 8 ⟨.u, none, .write⟩ a n)

/-- Whether an engine still has a transfer issued before packet `m` (R419): 0 to 3 a port, 4 the store. -/
def State.issuedBefore (s : State) (target m : Nat) : Bool :=
  (List.range 4).any (fun n =>
    let p := s.port n
    let mine (o : Owner) : Bool := if target = 4 then o == .store else decide (n = target) && o != .store && o != .none
    p.reads.any (fun r => mine r.owner && decide (r.pkt < m))
      || (p.retry ++ p.qPrf ++ p.qCore ++ p.qStore ++ p.qS0).any (fun k => mine k.owner && decide (k.id < m)))

/-- Whether a DMA_WINDOW body keeps its rows (R419). -/
def windowFormat (b : Bytes) : Bool :=
  let t := byteAt b 0
  let f := byteAt b 2
  decide (b.length = 24) && decide (t ≤ 4) && decide (byteAt b 1 < (if t = 4 then 8 else 16)) && decide (f < 16)
    && decide (byteAt b 3 < 64) && (decide (byteAt b 3 = 0) || !(bitAt f 3 || decide (t = 4))) && decide (byteAt b 4 ≤ 2)
    && allZero (slice b 5 3) && decide (leAt b 8 8 % 64 = 0) && decide ((leAt b 16 8 + 1) % 64 = 0) && (decide (t ≠ 4) || bitAt f 3)

/-- The region of a DMA_WINDOW body committed: PRIV U, X 0, CACHE NC (R419). -/
def State.windowCommit (s : State) (b : Bytes) : State :=
  let m := 4 + byteAt b 0
  let r := byteAt b 1
  let f := byteAt b 2
  let attr := f % 8 + 64 * b2n (bitAt f 3) + 256 * byteAt b 3 + 65536 * byteAt b 4
  ((s.wr (mpuBase m r) (leAt b 8 8 / 64)).wr (mpuLimit m r) (leAt b 16 8 / 64)).commitWindow m r (BitVec.ofNat 64 attr)

/-- DMA_WINDOW: a link DMA or sealed-store region set from the host (R419). The response waits until the transfers that the
engine issued under the old configuration have ended; served again, the command then writes it. -/
def execDmaWindow (slot : Fin 65) (s : State) : Host.Outcome State Fault Refusal :=
  .next (s.serveOp slot 0x70 (fun b s =>
    let t := byteAt b 0
    let finish (s : State) : State :=
      ((s.modSlot slot (fun x => { x with mark := none })).emit .dmaWindowSet none srcS0 (joined t (byteAt b 1))
        (hiWord (leAt b 8 8)) (hiWord (leAt b 16 8))).respond slot .ok []
    match (s.slot slot).mark with
    | some m => if s.issuedBefore t m then s else finish s
    | none =>
      if windowFormat b = false then s.respond slot .badFormat []
      else
        let s1 := s.windowCommit b
        if (if t = 4 then s1.extentRefused else s1.ringRefused t) then s.respond slot .inUse []
        else
          let m := s1.host.nextPkt
          if s1.issuedBefore t m then s1.modSlot slot (fun x => { x with mark := some m }) else finish s1))

end Sys2Proof.Machine
end

