-- ==== Sys2Proof/Machine/Pkcs8.lean ====
section
/-! DEFINITION. PKCS#8 private keys as RFC 5958 and RFC 8410 define them, limited to what R7 lists: version 1, unencrypted, RSA, the
three curves and Ed25519 (R200; log entry 64). The standards' text is outside the spec: PRESUMED. -/

namespace Sys2Proof

/-- A DER length. -/
def derLen (n : Nat) : Bytes :=
  if n < 128 then [BitVec.ofNat 8 n]
  else if n < 256 then [0x81#8, BitVec.ofNat 8 n]
  else 0x82#8 :: natToBe 2 n
/-- A DER element of a tag. -/
def derTlv (tag : Byte) (b : Bytes) : Bytes := tag :: derLen b.length ++ b
/-- A DER integer. -/
def derInt (v : Nat) : Bytes := derTlv 2#8 (natToBe (Nat.log2 v / 8 + 1 + (if v ≠ 0 ∧ Nat.log2 v % 8 = 7 then 1 else 0)) v)

/-- The first DER element of a string: tag, contents and the rest; none where the length is not in its shortest form or passes the
end. -/
def derRead (b : Bytes) : Option (Byte × Bytes × Bytes) :=
  match b with
  | tag :: l :: r =>
    let k := l.toNat - 128
    let n := if l.toNat < 128 then l.toNat else beToNat (r.take k)
    let body := if l.toNat < 128 then r else r.drop k
    let shortest := decide (l.toNat < 128) || (decide (1 ≤ k ∧ k ≤ 3) && decide (128 ≤ n) && decide (256 ^ (k - 1) ≤ n))
    if shortest ∧ n ≤ body.length then some (tag, body.take n, body.drop n) else none
  | _ => none

/-- The contents of a string that is one element of a tag. -/
def derOnly (tag : Byte) (b : Bytes) : Option Bytes :=
  match derRead b with
  | some (t, c, []) => if t = tag then some c else none
  | _ => none

/-- The value of a DER integer that is not negative; none where it is not in its shortest form. -/
def derNat (b : Bytes) : Option Nat :=
  match b with
  | [] => none
  | h :: r => if 128 ≤ h.toNat ∨ (h = 0#8 ∧ (r.head?.map (fun x => decide (x.toNat < 128))).getD false) then none else some (beToNat b)

/-- The integers that follow one another to the end of a string. -/
def derInts : Nat → Bytes → Option (List Nat)
  | 0, _ => none
  | f + 1, b =>
    if b = [] then some []
    else
      match derRead b with
      | some (t, c, r) => if t = 2#8 then (derNat c).bind (fun v => (derInts f r).map (fun l => v :: l)) else none
      | none => none

/-- The contents of an algorithm identifier: object identifier and parameters. -/
def derAlg (alg : Nat) : Bytes :=
  let ec := derTlv 6#8 [0x2A#8, 0x86#8, 0x48#8, 0xCE#8, 0x3D#8, 0x02#8, 0x01#8]
  match alg with
  | 1 => derTlv 6#8 [0x2A#8, 0x86#8, 0x48#8, 0x86#8, 0xF7#8, 0x0D#8, 0x01#8, 0x01#8, 0x01#8] ++ [5#8, 0#8]
  | 2 => ec ++ derTlv 6#8 [0x2A#8, 0x86#8, 0x48#8, 0xCE#8, 0x3D#8, 0x03#8, 0x01#8, 0x07#8]
  | 3 => ec ++ derTlv 6#8 [0x2B#8, 0x81#8, 0x04#8, 0x00#8, 0x22#8]
  | 4 => ec ++ derTlv 6#8 [0x2B#8, 0x81#8, 0x04#8, 0x00#8, 0x23#8]
  | _ => derTlv 6#8 [0x2B#8, 0x65#8, 0x70#8]

/-- An RSA key of the eight numbers of its structure after the version, as an image holds it: two-prime, e = 65,537, a modulus
of a length that R168 lists. -/
def rsaOfNumbers (l : List Nat) : Option RsaKey :=
  match l with
  | [n, e, _, p, q, dp, dq, qi] =>
    let bits := Nat.log2 n + 1
    if e = 65537 ∧ (bits = 2048 ∨ bits = 3072 ∨ bits = 4096) ∧ p < 2 ^ (bits / 2) ∧ q < 2 ^ (bits / 2) ∧ dp < 2 ^ (bits / 2)
        ∧ dq < 2 ^ (bits / 2) ∧ qi < 2 ^ (bits / 2) then some ⟨p, q, dp, dq, qi, n, bits⟩
    else none
  | _ => none

/-- The image body of an RSA key: p, q, dP, dQ, qInv and n, big-endian (R178; log entry 6). -/
def rsaBody (k : RsaKey) : Bytes :=
  let h := k.bits / 16
  natToBe h k.p ++ natToBe h k.q ++ natToBe h k.dp ++ natToBe h k.dq ++ natToBe h k.qi ++ natToBe (k.bits / 8) k.n
/-- The RSA key of an image body. -/
def rsaOfBody (bits : Nat) (body : Bytes) : RsaKey :=
  let h := bits / 16
  let f (i : Nat) : Nat := beToNat (slice body (i * h) h)
  ⟨f 0, f 1, f 2, f 3, f 4, beToNat (body.drop (5 * h)), bits⟩

/-- The body of a key of an algorithm from the octets of its private-key field (RFC 8017, RFC 5915, RFC 8410): modulus bits and
image body. -/
def privateBody (alg : Nat) (b : Bytes) : Option (Nat × Bytes) :=
  match alg with
  | 1 =>
    match (derOnly 0x30#8 b).bind (derInts 10) with
    | some (0 :: l) => (rsaOfNumbers l).map (fun k => (k.bits, rsaBody k))
    | _ => none
  | 5 => (derOnly 4#8 b).bind (fun c => if c.length = 32 then some (0, c) else none)
  | a =>
    match curveOf a, (derOnly 0x30#8 b).bind derRead with
    | some c, some (2#8, [1#8], r) =>
      match derRead r with
      | some (4#8, d, _) => if d.length = c.size ∧ 0 < beToNat d ∧ beToNat d < c.n then some (0, d) else none
      | _ => none
    | _, _ => none

/-- The private key of a PKCS#8 structure: algorithm 1 to 5 as R178 numbers them, RSA modulus bits, image body; none where it is not
one that R7 lists (R200). -/
def pkcs8Read (b : Bytes) : Option (Nat × Nat × Bytes) :=
  match (derOnly 0x30#8 b).bind derRead with
  | some (2#8, [0#8], r) =>
    match derRead r with
    | some (0x30#8, a, r2) =>
      match [1, 2, 3, 4, 5].find? (fun i => derAlg i == a), derRead r2 with
      | some alg, some (4#8, c, _) => (privateBody alg c).map (fun x => (alg, x.1, x.2))
      | _, _ => none
    | _ => none
  | _ => none

/-- The PKCS#8 structure of a private key: no attributes, a curve's key without its optional fields (log entry 64). -/
def pkcs8Write (alg bits : Nat) (body : Bytes) : Bytes :=
  let k := rsaOfBody bits body
  let inner := match alg with
    | 1 => derTlv 0x30#8 (([0, k.n, 65537, k.d, k.p, k.q, k.dp, k.dq, k.qi].map derInt).flatten)
    | 5 => derTlv 4#8 body
    | _ => derTlv 0x30#8 (derInt 1 ++ derTlv 4#8 body)
  derTlv 0x30#8 (derInt 0 ++ derTlv 0x30#8 (derAlg alg) ++ derTlv 4#8 inner)

end Sys2Proof
end

