-- ==== Sys2Proof/Machine/UnitOps.lean ====
section
/-! DEFINITION. The cluster units' shared operations: private-key images, operands of a request, the functions of R168
(R168 to R180). -/

namespace Sys2Proof.Machine

/-- Bytes of an image's body by algorithm and modulus length (R178). -/
def imageBodyLen (alg bits : Nat) : Nat :=
  match alg with
  | 1 => 5 * (bits / 16) + bits / 8
  | 2 => 32 | 3 => 48 | 4 => 66 | 5 => 32 | 6 => 64 | 7 => 64 | _ => 32

/-- The image key of a master key and tenant (R178). -/
def imageKey (mk : Bytes) (tenant : Nat) : Bytes := shake256 32 (mk ++ natToLe 1 tenant ++ ascii "DQ MAU IMAGE")

/-- The clear contents of an image (R178). -/
structure KeyImage where
  /-- algorithm, 1 to 9 -/ alg : Nat
  /-- tenant -/ tenant : Nat
  /-- exportability -/ exportCh : Nat
  /-- usage -/ usage : Nat
  /-- mode of use -/ mode : Nat
  /-- RSA modulus length in bits, else 0 -/ bits : Nat
  /-- body -/ body : Bytes
deriving DecidableEq, Repr

/-- The header of an image (R178). -/
def KeyImage.head (i : KeyImage) (gen : Nat) (nonce : Bytes) : Bytes :=
  natToLe 4 0x314B494D ++ natToLe 1 i.alg ++ natToLe 1 i.tenant ++ natToLe 1 gen ++ natToLe 1 i.exportCh ++ natToLe 2 i.usage
    ++ natToLe 1 i.mode ++ [0#8] ++ natToLe 2 i.bits ++ natToLe 2 i.body.length ++ fitTo 12 nonce ++ zeros 4

/-- An image under a master key (R178). -/
def KeyImage.seal (i : KeyImage) (mk : Bytes) (gen : Nat) (nonce : Bytes) : Bytes :=
  let h := i.head gen nonce
  let c := gcmSeal (imageKey mk i.tenant) (fitTo 12 nonce) h i.body
  h ++ c.1 ++ c.2

/-- The length of an image from its header. -/
def imageLen (head : Bytes) : Nat := 32 + leAt head 14 2 + 16

/-- An image opened for a tenant (R178): none where it is refused with STATUS 3. -/
def State.imageOpen (s : State) (tenant : Nat) (b : Bytes) : Option KeyImage :=
  let alg := byteAt b 4
  let bits := leAt b 12 2
  let n := leAt b 14 2
  let reserved := decide (byteAt b 6 < 4) && decide (byteAt b 11 = 0) && allZero (slice b 28 4)
    && (if alg = 1 then decide (bits = 2048 ∨ bits = 3072 ∨ bits = 4096) else decide (bits = 0))
  if leAt b 0 4 ≠ 0x314B494D ∨ alg = 0 ∨ 9 < alg ∨ reserved = false ∨ byteAt b 5 ≠ tenant ∨ b.length ≠ 32 + n + 16
      ∨ n ≠ imageBodyLen alg bits then none
  else
    match s.master tenant (byteAt b 6) with
    | none => none
    | some m =>
      if m.kind ≠ 2 then none
      else
        (gcmOpen (imageKey m.key tenant) (slice b 16 12) (b.take 32) (slice b 32 n) (b.drop (32 + n))).map (fun body =>
          ⟨alg, tenant, byteAt b 7, leAt b 8 2, byteAt b 10, bits, body⟩)

/-- The public key of an image, laid out as R174 says. -/
def KeyImage.publicKey (i : KeyImage) : Bytes :=
  match i.alg with
  | 1 => natToBe 4 65537 ++ natToBe (i.bits / 8) (rsaOfBody i.bits i.body).n
  | 5 => edPublic i.body
  | 6 => fitTo 1184 (Config.mlkemPublic 6 i.body)
  | 7 => fitTo 1568 (Config.mlkemPublic 7 i.body)
  | 8 => fitTo 1952 (Config.mldsaPublic 8 i.body)
  | 9 => fitTo 2592 (Config.mldsaPublic 9 i.body)
  | a =>
    match curveOf a with
    | none => []
    | some c => match c.mul (beToNat i.body) (some c.g) with | none => [] | some q => c.encode q

/-- How a request ends (R174, R175). -/
inductive UnitRes where
  /-- an exception at the next boundary -/
  | exc (x : Exc)
  /-- a STATUS other than 0 -/
  | status (n : Nat)
  /-- success: output, public key written at KEY, and the key for kd or, of a supervisor, for guard storage -/
  | good (out : Bytes) (pub : Option Bytes) (key : Option Bytes)
  /-- a check of R171 failed -/
  | failed
deriving DecidableEq, Repr

/-- Fields of a request block (R174). -/
def UnitReq.in0Len (r : UnitReq) : Nat := leAt r.block 4 4
/-- IN0. -/
def UnitReq.in0 (r : UnitReq) : Nat := leAt r.block 8 8
/-- IN1_LEN. -/
def UnitReq.in1Len (r : UnitReq) : Nat := leAt r.block 16 4
/-- OUT_LEN. -/
def UnitReq.outLen (r : UnitReq) : Nat := leAt r.block 20 4
/-- IN1. -/
def UnitReq.in1 (r : UnitReq) : Nat := leAt r.block 24 8
/-- OUT. -/
def UnitReq.out (r : UnitReq) : Nat := leAt r.block 32 8
/-- KEY. -/
def UnitReq.key (r : UnitReq) : Nat := leAt r.block 40 8
/-- ATTR. -/
def UnitReq.attr (r : UnitReq) : Nat := leAt r.block 48 8
/-- PARAM. -/
def UnitReq.param (r : UnitReq) : Nat := leAt r.block 56 8
/-- The algorithm of PARAM. -/
def UnitReq.alg (r : UnitReq) : Nat := r.param % 256
/-- RSA padding by PSS. -/
def UnitReq.pss (r : UnitReq) : Bool := bitAt r.param 8
/-- SHA-512 digests. -/
def UnitReq.h512 (r : UnitReq) : Bool := bitAt r.param 9
/-- The guard key index of a supervisor request (R181). -/
def UnitReq.guardKey (r : UnitReq) : Nat := bitsAt r.param 24 8

/-- Whether a range lies where a requester's addresses may point: a core's data area, as its MPU permits at U, or shared memory for
requester 8 (R175, R181, R412). -/
def State.unitRange (s : State) (c req : Nat) (kind : AccKind) (a len : Nat) : Bool :=
  if req = 8 then decide (a + len ≤ 0x80000) else inData a len && s.coreMpu (c * 8 + req) kind a len

/-- Bytes of a requester's memory. -/
def State.unitRead (s : State) (c req a len : Nat) : Bytes :=
  if req = 8 then memRead (s.cluster c).shared a len else memRead (s.core (c * 8 + req)).mem a len

/-- Bytes written to a requester's memory. -/
def State.unitWrite (s : State) (c req a : Nat) (b : Bytes) : State :=
  if req = 8 then s.modCluster c (fun k => { k with shared := memWrite k.shared a b })
  else s.modCore (c * 8 + req) (fun k => { k with mem := memWrite k.mem a b })

/-- Which operands a MAU function uses: IN0, IN1, KEY read, KEY written, OUT (R174). -/
def unitUses (func : Nat) : Bool × Bool × Bool × Bool × Bool :=
  match func with
  | 0x001 | 0x008 | 0x00C | 0x014 => (true, false, true, false, true)
  | 0x002 | 0x009 | 0x00D | 0x015 => (true, true, true, false, false)
  | 0x003 => (true, false, true, false, false)
  | 0x00A | 0x011 => (true, true, true, false, false)
  | 0x010 => (false, true, true, false, true)
  | 0x018 => (false, false, false, true, true)
  | 0x019 => (false, false, true, false, true)
  | 0x01C => (true, true, true, false, false)
  | _ => (true, false, false, false, true)

/-- The length of a public key by algorithm; RSA from its modulus length. -/
def publicLen (alg bits : Nat) : Nat :=
  match alg with
  | 1 => 4 + bits / 8 | 2 => 65 | 3 => 97 | 4 => 133 | 5 => 32 | 6 => 1184 | 7 => 1568 | 8 => 1952 | _ => 2592

/-- Usage and modes of use of a function on an image (R179). -/
def imageUse (func : Nat) : Option (Nat × List Nat) :=
  match func with
  | 0x001 | 0x008 | 0x00C | 0x014 => some (chars 'S' '0', modeList ['S', 'N'])
  | 0x003 => some (chars 'D' '1', modeList ['D', 'N'])
  | 0x00A => some (chars 'K' '3', modeList ['X', 'N'])
  | 0x011 => some (chars 'K' '3', modeList ['D', 'N'])
  | _ => none

/-- Usage and modes that KEYGEN may give a key, those that R179 lists for a function. -/
def keygenUse (usage mode : Nat) : Bool :=
  (usage == chars 'S' '0' && (modeList ['S', 'N']).contains mode) || (usage == chars 'D' '1' && (modeList ['D', 'N']).contains mode)
    || (usage == chars 'K' '3' && (modeList ['X', 'D', 'N']).contains mode)

/-- Whether an algorithm fits a function (R174, R178). -/
def algFits (func alg : Nat) : Bool :=
  match func with
  | 0x001 | 0x002 | 0x003 => decide (alg = 1)
  | 0x008 | 0x009 | 0x00A => decide (2 ≤ alg ∧ alg ≤ 4)
  | 0x00C | 0x00D => decide (alg = 5)
  | 0x010 | 0x011 => decide (alg = 6 ∨ alg = 7)
  | 0x014 | 0x015 => decide (alg = 8 ∨ alg = 9)
  | _ => decide (1 ≤ alg ∧ alg ≤ 9)

/-- A scalar of a curve from random bytes, in 1 to n - 1. -/
def scalarFrom (alg : Nat) (c : Curve) (rnd : Bytes) : Nat := Config.curveScalar alg rnd % (c.n - 1) + 1

/-- A fresh image key body of an algorithm from random bytes (R168, R178): RSA of 2,048 bits, since no field gives a
length (log entry 11). -/
def freshBody (alg : Nat) (rnd : Bytes) : Bytes :=
  match alg with
  | 1 => let p := Config.rsaPrimes 2048 rnd; rsaBody (RsaKey.ofPrimes (p.1 % 2 ^ 1024) (p.2 % 2 ^ 1024) 2048)
  | 5 => rnd.take 32
  | 6 => rnd.take 64
  | 7 => rnd.take 64
  | 8 => rnd.take 32
  | 9 => rnd.take 32
  | a => match curveOf a with | none => [] | some c => natToBe c.size (scalarFrom a c rnd)

/-- The key length that ATTR's algorithm needs: HMAC keys take 32 bytes (log entry 11). -/
def attrLen (attr : Nat) : Nat := if attr % 256 = 6 then 32 else algLen (attr % 256)
/-- Whether a decoded key of a length is one of ATTR's algorithm: 16, 24 or 32 bytes for HMAC (R119, R180). -/
def attrFits (attr len : Nat) : Bool := if attr % 256 = 6 then [16, 24, 32].contains len else len == algLen (attr % 256)

/-- The key that a shared secret gives for ATTR (R180). -/
def derivedSecret (attr : Nat) (secret ctx : Bytes) : Bytes := shake256 (attrLen attr) (secret ++ ctx)

/-- Whether ATTR is a word A with a known ALG and TENANT and GEN zero (R174). -/
def attrOk (attr : Nat) : Bool := decide (1 ≤ attr % 256 ∧ attr % 256 ≤ 6) && decide (bitsAt attr 56 8 = 0)

/-- The digest length that PARAM names. -/
def UnitReq.digestLen (r : UnitReq) : Nat := if r.h512 then 64 else 32

/-- The pairwise test of a new key (R171): sign and verify, or encapsulate and decapsulate. The test's message is the model's (log entry
66). -/
def pairwiseOk (i : KeyImage) (rnd : Bytes) : Bool :=
  match i.alg with
  | 1 => (rsaOfBody i.bits i.body).check (beToNat (padV15 false (zeros 32) (i.bits / 8)))
  | 5 => edVerify i.publicKey [] (edSign i.body [])
  | 6 => let e := Config.mlkemEncaps 6 i.publicKey (zeros 32); Config.mlkemDecaps 6 i.body e.2 == e.1
  | 7 => let e := Config.mlkemEncaps 7 i.publicKey (zeros 32); Config.mlkemDecaps 7 i.body e.2 == e.1
  | 8 => Config.mldsaVerify 8 i.publicKey [] (Config.mldsaSign 8 i.body (zeros 32) [])
  | 9 => Config.mldsaVerify 9 i.publicKey [] (Config.mldsaSign 9 i.body (zeros 32) [])
  | a => match curveOf a with | none => false | some c => (c.signed (beToNat i.body) (scalarFrom a c rnd) (zeros 32)).2

/-- The function of R168 on its operands: inputs, the image or public key, random bytes, with the checks of R171 that values decide;
those of the unit's own hardware are the operand of MAU_OPERATION_DONE. -/
def UnitReq.run (r : UnitReq) (in0 in1 : Bytes) (img : Option KeyImage) (pub rnd : Bytes) : UnitRes :=
  let body := (img.map (·.body)).getD []
  let alg := (img.map (·.alg)).getD r.alg
  match r.func with
  | 0x001 =>
    match img with
    | none => .status 3
    | some i =>
      if in0.length ≠ r.digestLen then .status 2
      else
        let k := rsaOfBody i.bits i.body
        let m := beToNat (k.encode r.pss r.h512 in0 (rnd.take r.digestLen))
        if k.check m then .good (natToBe (i.bits / 8) (k.run m)) none none else .failed
  | 0x002 =>
    let n := beToNat (pub.drop 4)
    let bits := (pub.length - 4) * 8
    if in0.length ≠ r.digestLen ∨ (bits ≠ 2048 ∧ bits ≠ 3072 ∧ bits ≠ 4096) ∨ beToNat (pub.take 4) ≠ 65537 ∨ in1.length ≠ bits / 8
      then .status 2
    else if n ≤ beToNat in1 then .status 2
    else if rsaVerify n 65537 bits r.pss r.h512 in0 in1 then .good [] none none else .status 1
  | 0x003 =>
    match img with
    | none => .status 3
    | some i =>
      let k := rsaOfBody i.bits i.body
      let c := beToNat in0
      if i.bits = 4096 ∨ in0.length ≠ i.bits / 8 ∨ k.n ≤ c then .status 2
      else if k.check c = false then .failed
      else
        match oaepDecode (natToBe (i.bits / 8) (k.run c)) with
        | none => .status 2
        | some m => if attrFits r.attr m.length then .good [] none (some m) else .status 2
  | 0x008 =>
    match curveOf alg with
    | none => .status 2
    | some c =>
      if in0.length ≠ r.digestLen then .status 2
      else
        let g := c.signed (beToNat body) (scalarFrom alg c rnd) in0
        if g.2 then .good g.1 none none else .failed
  | 0x009 =>
    match curveOf r.alg with
    | none => .status 2
    | some c =>
      match c.decode pub with
      | none => .status 2
      | some q =>
        if in0.length ≠ r.digestLen ∨ in1.length ≠ 2 * c.size then .status 2
        else if c.verify q in0 in1 then .good [] none none else .status 1
  | 0x00A =>
    match curveOf alg with
    | none => .status 2
    | some c =>
      match c.decode in0 with
      | none => .status 2
      | some q =>
        if 64 < in1.length then .status 2
        else
          match c.mul (beToNat body) (some q) with
          | none => .failed
          | some p => if c.onCurve p then .good [] none (some (derivedSecret r.attr (natToBe c.size p.1) in1)) else .failed
  | 0x00C =>
    let sig := edSign body in0
    if edVerify (edPublic body) in0 sig then .good sig none none else .failed
  | 0x00D =>
    if in1.length ≠ 64 ∨ (edDecode pub).isNone then .status 2
    else if edVerify pub in0 in1 then .good [] none none else .status 1
  | 0x010 =>
    if Config.mlkemKeyOk r.alg pub = false ∨ 64 < in1.length then .status 2
    else
      let e := Config.mlkemEncaps r.alg pub (rnd.take 32)
      .good (fitTo (if r.alg = 6 then 1088 else 1568) e.2) none (some (derivedSecret r.attr (fitTo 32 e.1) in1))
  | 0x011 =>
    if in0.length ≠ (if alg = 6 then 1088 else 1568) ∨ 64 < in1.length then .status 2
    else if Config.mlkemKeyOk alg ((img.map KeyImage.publicKey).getD []) = false then .failed
    else .good [] none (some (derivedSecret r.attr (fitTo 32 (Config.mlkemDecaps alg body in0)) in1))
  | 0x014 =>
    let sig := fitTo (if alg = 8 then 3309 else 4627) (Config.mldsaSign alg body (rnd.take 32) in0)
    if Config.mldsaVerify alg ((img.map KeyImage.publicKey).getD []) in0 sig then .good sig none none else .failed
  | 0x015 =>
    if in1.length ≠ (if r.alg = 8 then 3309 else 4627) then .status 2
    else if Config.mldsaVerify r.alg pub in0 in1 then .good [] none none else .status 1
  | 0x019 => match img with | none => .status 3 | some i => .good i.publicKey none none
  | 0x01C =>
    if in1.length ≠ 2820 then .status 2
    else if Config.xmssVerify pub in0 in1 then .good [] none none else .status 1
  | _ => .status 2

/-- Random bytes that a function draws (R176): secret of a signature, encapsulation, key generation. -/
def drawLen (func : Nat) : Nat :=
  match func with | 0x008 => 64 | 0x010 => 32 | 0x014 => 32 | 0x018 => 76 | _ => 0

end Sys2Proof.Machine
end

