-- ==== Sys2Proof/Machine/CerOps.lean ====
section
/-! DEFINITION. Ceremonies as one shared operation: format, challenge, time, window, signers, signatures, digest
(R204 to R207). -/

namespace Sys2Proof.Machine

/-- A ceremony request whose format is good (R205). -/
structure Cer where
  /-- kind -/ kind : Nat
  /-- tenant, or 0xFF -/ tenant : Nat
  /-- challenge -/ challenge : Bytes
  /-- NOT_BEFORE and NOT_AFTER -/ window : Nat × Nat
  /-- digest of the parameter block -/ digest : Bytes
  /-- signer identifiers -/ signers : Nat × Nat
  /-- the 128-byte body -/ body : Bytes
  /-- the parameter block -/ param : Bytes
  /-- signer blocks: algorithm, key, signature -/ blocks : (Nat × Bytes × Bytes) × (Nat × Bytes × Bytes)
deriving DecidableEq, Repr

/-- How the kind-specific part of a ceremony ends. -/
inductive CerOut where
  /-- refused by check 8 of R206 -/
  | refused (r : MbResult)
  /-- refused, with an event of its own beside CEREMONY_REFUSED -/
  | refusedIn (r : MbResult) (ev : Ev) (a0 a1 : Nat)
  /-- accepted and answered -/
  | done (body : Bytes) (s : State)
  /-- accepted; the answer comes with a later event -/
  | later (s : State)
  /-- accepted; the request is held, or answered, by the part itself -/
  | moved (s : State)
  /-- S0 waits for random bytes: the request stays as it is -/
  | wait
deriving DecidableEq, Repr

/-- The format check of R206, order 1. -/
def ceremonyFormat (uid : Nat) (b : Bytes) : Option Cer :=
  let n := leAt b 100 4
  let kind := byteAt b 5
  let t := byteAt b 6
  let scope := match kindDevice kind with | some true => decide (t = 0xFF) | some false => decide (t < 64) | none => false
  if b.length < 128 ∨ leAt b 0 4 ≠ 0x51454344 ∨ byteAt b 4 ≠ 1 ∨ scope = false ∨ byteAt b 7 ≠ 0 ∨ leAt b 8 8 ≠ uid
      ∨ 8192 < n ∨ allZero (slice b 104 24) = false ∨ b.length < 128 + n then none
  else
    match signerBlock (b.drop (128 + n)) with
    | none => none
    | some (a1, k1, g1, rest) =>
      match signerBlock rest with
      | some (a2, k2, g2, []) =>
        some ⟨kind, t, slice b 16 32, (leAt b 48 8, leAt b 56 8), slice b 64 32, (leAt b 96 2, leAt b 98 2), b.take 128,
          slice b 128 n, ((a1, k1, g1), (a2, k2, g2))⟩
      | _ => none

/-- Custodians of a tenant that hold ADMIN. -/
def State.custodianAdmins (s : State) (t : Nat) : List Credential :=
  if s.keys.root.isNone then [] else (s.tenant t).custodians.filter (fun c => bitAt c.roles roleAdmin)

/-- The role bit that a kind needs (R207): AUDIT for CLEAR_RECORDER, COMP for LOAD_MASTER_KEY, AUTH for AUTHORISE_STATE,
else ADMIN. -/
def kindRole (kind : Nat) : Nat :=
  if kind = 0x05 ∨ kind = 0x12 then roleOne else if kind = 0x16 then roleTwo else roleAdmin

/-- Check 5 of R206 for one signer: registered, of the request's scope, with the role, its key matching. -/
def State.signerOk (s : State) (c : Cer) (id : Nat) (blk : Nat × Bytes × Bytes) : Bool :=
  match s.cred? id with
  | none => false
  | some cr =>
    cr.isKey blk.1 blk.2.1 &&
      (if c.tenant = 0xFF then custodianOf id == none && bitAt cr.roles (kindRole c.kind)
       else (custodianOf id == some c.tenant && bitAt cr.roles (kindRole c.kind))
         || (decide (c.kind = 0x10) && custodianOf id == none && bitAt cr.roles roleAdmin
              && decide ((s.custodianAdmins c.tenant).length < 2)))

/-- Checks 3 to 7 of R206: the first that fails. -/
def State.ceremonyFault (s : State) (c : Cer) : Option MbResult :=
  let b1 := c.blocks.1
  let b2 := c.blocks.2
  if s.timeGood = false then some .timeUntrusted
  else if s.now < c.window.1 ∨ c.window.2 ≤ s.now ∨ s.secRaw s.keys.policy.maxWin < c.window.2 - c.window.1 then some .outsideWindow
  else if c.signers.1 = c.signers.2 ∨ s.signerOk c c.signers.1 b1 = false ∨ s.signerOk c c.signers.2 b2 = false then some .badSigner
  else if credVerify b1.1 b1.2.1 b1.2.2 c.body = false ∨ credVerify b2.1 b2.2.1 b2.2.2 c.body = false then some .badSignature
  else if shake256 32 c.param ≠ c.digest then some .badFormat
  else none

/-- The tenant that a record of a request names: none for a number that is no tenant's. -/
def cerTenant (t : Nat) : Nat := if t < 64 then t else 0xFF

/-- Whether a request is of a kind, or so malformed that it names none and any kind's row answers it. -/
def cerIs (kind : Nat) (extra : Bytes → Bool) (b : Bytes) : Bool :=
  decide (b.length < 7) || (kindDevice (byteAt b 5)).isNone || (decide (byteAt b 5 = kind) && extra b)

/-- A ceremony served: from a slot (0 to 64) or the serial port (65), checked in the order of R206, recorded, answered. -/
def State.ceremony (s : State) (src kind : Nat) (extra : Bytes → Bool) (f : Cer → State → CerOut) : State :=
  s.take src 0x02 3 (cerIs kind extra) (fun b s1 =>
    let t := cerTenant (if b.length < 7 then 0xFF else byteAt b 6)
    let refuse (s : State) (r : MbResult) : State := (s.keyEvent .ceremonyRefused t (byteAt b 5) r.code).answer src r []
    match ceremonyFormat s.otp.uid b with
    | none => refuse s1 .badFormat
    | some c =>
      match s1.useChallenge c.challenge with
      | none => refuse s1 .badChallenge
      | some s2 =>
        match s2.ceremonyFault c with
        | some r => refuse s2 r
        | none =>
          match f c (s2.keyEvent .ceremonyAccepted t c.kind (joined c.signers.1 c.signers.2)) with
          | .refused r => refuse s2 r
          | .refusedIn r ev a0 a1 => refuse (s2.emit ev none srcS0 a0 a1 0) r
          | .done body s3 => s3.answer src .ok body
          | .later s3 => if src < 65 then s3.modSlot src (fun x => { x with held := true }) else s3
          | .moved s3 => s3
          | .wait => s)

/-- A ceremony of a kind that one row serves whole. -/
def State.ceremonyOf (s : State) (src kind : Nat) (f : Cer → State → CerOut) : State := s.ceremony src kind (fun _ => true) f

/-- The current generations of a tenant as part 6 of a TENANT record (R348). -/
def State.currentBytes (s : State) (t : Nat) : Bytes :=
  (List.range 3).flatMap (fun k => natToLe 1 ((s.currentGen t k).getD 0xFF)) ++ zeros 5

/-- A tenant's current generation of a kind set, and mirrored (R192, R348). -/
def State.setCurrent (s : State) (t kind : Nat) (g : Option Nat) : State :=
  let s1 := s.modTenant t (fun x => { x with current := tabSet none x.current kind g })
  s1.mirror ⟨1, 6, t, 0, s1.currentBytes t⟩

/-- A master-key slot filled or emptied, with its mirrored change: the key wrapped under the pair key by the guard bridge
(R191, R348). -/
def State.setMaster (s : State) (t g : Nat) (m : Option MasterKey) : State :=
  let s1 := ((s.modTenant t (fun x => { x with masters := tabSet none x.masters g m })).wr (Reg.TBL_KH_CFG_GENOCC t)
    (setBits (s.rd (Reg.TBL_KH_CFG_GENOCC t)) g 1 (b2n m.isSome))).noteHandles t
  match m with
  | none => s1.mirror ⟨2, 2, t, g, []⟩
  | some k =>
    match s1.keys.pair with
    | none => s1.mirror ⟨2, 1, t, g, []⟩
    | some pk =>
      let (nonce, s2) := s1.freshBytes 12
      let head := natToLe 1 2 ++ natToLe 1 1 ++ natToLe 1 t ++ zeros 1 ++ natToLe 4 68 ++ natToLe 8 g
      let w := gcmSeal (shake256 32 (pk ++ ascii "DQ PAIR MK WRAP")) nonce head (fitTo 32 k.key)
      s2.mirror ⟨2, 1, t, g, natToLe 1 k.kind ++ zeros 7 ++ nonce ++ w.1 ++ w.2⟩

end Sys2Proof.Machine
end

