-- ==== Sys2Proof/Machine/Ceremonies.lean ====
section
/-! DEFINITION. The ceremonies of the key hierarchy, component entry, ABORT and CANCEL_STATE (R189, R190, R193, R207 to
R212). -/

namespace Sys2Proof.Machine

/-- A COMMISSION request whose format is good (R190, check 1): the two officers, challenge, key and signature. -/
def commissionFormat (uid : Nat) (b : Bytes) : Option (List (Nat × Nat × Bytes)) :=
  let off (a : Nat) : Nat × Nat × Bytes := (leAt b a 2, byteAt b (a + 2), slice b (a + 4) 32)
  let o1 := off 48
  let o2 := off 84
  let good (o : Nat × Nat × Bytes) : Bool := decide (1 ≤ o.1 ∧ o.1 ≤ 16) && (decide (o.2.1 = 1) || decide (o.2.1 = 2))
  if b.length = 3020 ∧ leAt b 0 4 = 0x4D4F4344 ∧ byteAt b 4 = 1 ∧ allZero (slice b 5 3) ∧ leAt b 8 8 = uid ∧ byteAt b 51 = 0
      ∧ byteAt b 87 = 0 ∧ allZero (slice b 120 8) ∧ allZero (slice b 129 3) ∧ good o1 ∧ good o2 ∧ o1.1 ≠ o2.1 then some [o1, o2]
  else none

/-- Steps 1 to 6 of R189: root key, transport keys and attestation seeds, empty registries, the two ADMIN officers. The marker
is set and cleared within the step. -/
def State.commission (s : State) (offs : List (Nat × Nat × Bytes)) (rnd : Bytes) : State :=
  let p := Config.rsaPrimes 3072 (slice rnd 96 96)
  let rsa := rsaBody (RsaKey.ofPrimes (p.1 % 2 ^ 1536) (p.2 % 2 ^ 1536) 3072)
  let s1 := s.modKeys (fun k => { k with
    root := some (rnd.take 32)
    transport := (slice rnd 32 64, rsa)
    marker := false
    officers := offs.map (fun (o : Nat × Nat × Bytes) => ⟨o.1, 1, o.2.1, o.2.2, s.now⟩) })
  let s2 := (List.range 64).foldl (fun s t => s.modTenant t (fun x => { x with custodians := [] })) s1
  let s3 := (s2.wr Reg.GRD_STAT_TRIP_ACTIVE 0).wr Reg.GRD_STAT_POR_LOST 0
  { s3 with
    signer := { s3.signer with present := true, seeds := slice rnd 192 96, next := 0, limit := 0, words := [], lowDone := false }
    pins := { s3.pins with tamperN := true } }

/-- COMMISSION: the integrator's signed request installs the level 1 keys (R189, R190). -/
def execCommission (slot : Fin 65) (s : State) : Host.Outcome State Fault Refusal :=
  .next (s.serveOp slot 0x07 (fun b s1 =>
    let refuse (s : State) (r : MbResult) : State := (s.keyEvent .ceremonyRefused 0xFF 0 r.code).respond slot r []
    match commissionFormat s.otp.uid b with
    | none => refuse s1 .badFormat
    | some offs =>
      match s1.useChallenge (slice b 16 32) with
      | none => refuse s1 .badChallenge
      | some s2 =>
        let d := tabGet [] s.otp.keys 1
        if (s.lc ≠ .integrator ∧ s.lc ≠ .fielded) ∨ s.keys.root.isSome then refuse s2 .wrongState
        else if byteAt b 128 ≠ 1 ∨ d = [] ∨ shake256 32 (slice b 132 68) ≠ d then refuse s2 .badSigner
        else if Config.xmssVerify (slice b 132 68) (b.take 128) (b.drop 200) = false then refuse s2 .badSignature
        else
          match s2.drbgBytes 192 288 with
          | none => s
          | some (rnd, s3) =>
            ((s3.commission offs rnd).emit .commissioned none srcS0 (joined (leAt b 48 2) (leAt b 84 2)) 0 0).respond slot .ok []))

/-- A credential of a REGISTER parameter block, its identifier in the range that `range` gives (R208). -/
def credBlock (b : Bytes) (now : Nat) (range : Nat → Bool) : Option Credential :=
  let alg := byteAt b 3
  if b.length = 40 ∧ range (leAt b 0 2) ∧ byteAt b 2 < 8 ∧ (alg = 1 ∨ alg = 2) ∧ allZero (slice b 4 4) then
    some ⟨leAt b 0 2, byteAt b 2, alg, slice b 8 32, now⟩
  else none

/-- REGISTER_OFFICER (R203, R208). -/
def execRegisterOfficer (src : Fin 66) (s : State) : Host.Outcome State Fault Refusal :=
  .next (s.ceremonyOf src 0x01 (fun c s =>
    match credBlock c.param s.now (fun i => decide (1 ≤ i ∧ i ≤ 16)) with
    | none => .refused .badFormat
    | some cr =>
      if s.keys.officers.any (fun x => x.id == cr.id) then .refused .notEmpty
      else .done [] ((s.modKeys (fun k => { k with officers := k.officers ++ [cr] })).keyEvent .credentialChanged 0xFF cr.id 1)))

/-- REGISTER_CUSTODIAN (R203, R208), mirrored (R346). -/
def execRegisterCustodian (src : Fin 66) (s : State) : Host.Outcome State Fault Refusal :=
  .next (s.ceremonyOf src 0x10 (fun c s =>
    match credBlock c.param s.now (fun i => custodianOf i == some c.tenant) with
    | none => .refused .badFormat
    | some cr =>
      if (s.tenant c.tenant).exist = false then .refused .noTenant
      else if (s.tenant c.tenant).custodians.any (fun x => x.id == cr.id) then .refused .notEmpty
      else
        let s1 := s.modTenant c.tenant (fun x => { x with custodians := x.custodians ++ [cr] })
        let body := natToLe 2 cr.id ++ natToLe 1 cr.roles ++ natToLe 1 cr.alg ++ zeros 4 ++ natToLe 8 cr.time ++ cr.digest
        .done [] ((s1.mirror ⟨1, 3, c.tenant, cr.id, body⟩).keyEvent .credentialChanged c.tenant cr.id 1)))

/-- Open ceremonies that a credential signed or submitted to, abandoned at its revocation (R209). -/
def State.revokeOpens (s : State) (id : Nat) : State :=
  s.abandonIf (fun o => o.signers.1 == id || o.signers.2 == id || o.parts.any (fun p => p.submitter == id)) 4

/-- ADMIN credentials of a list other than one. -/
def adminsBut (l : List Credential) (id : Nat) : Nat := (l.filter (fun c => c.id ≠ id && bitAt c.roles roleAdmin)).length

/-- REVOKE_OFFICER (R203, R208). -/
def execRevokeOfficer (src : Fin 66) (s : State) : Host.Outcome State Fault Refusal :=
  .next (s.ceremonyOf src 0x02 (fun c s =>
    let id := leAt c.param 0 2
    if c.param.length ≠ 8 ∨ allZero (c.param.drop 2) = false then .refused .badFormat
    else if s.keys.officers.any (fun x => x.id == id) = false then .refused .notFound
    else if adminsBut s.keys.officers id < 2 then .refused .lastOfficers
    else
      .done [] (((s.modKeys (fun k => { k with officers := k.officers.filter (fun x => x.id ≠ id) })).revokeOpens id).keyEvent
        .credentialChanged 0xFF id 2)))

/-- REVOKE_CUSTODIAN (R203, R208), mirrored (R346). -/
def execRevokeCustodian (src : Fin 66) (s : State) : Host.Outcome State Fault Refusal :=
  .next (s.ceremonyOf src 0x11 (fun c s =>
    let id := leAt c.param 0 2
    let x := s.tenant c.tenant
    if c.param.length ≠ 8 ∨ allZero (c.param.drop 2) = false then .refused .badFormat
    else if x.custodians.any (fun k => k.id == id) = false then .refused .notFound
    else if (List.range 4).any (fun g => (s.master c.tenant g).isSome) ∧ adminsBut x.custodians id < 2 then .refused .lastOfficers
    else
      let s1 := s.modTenant c.tenant (fun x => { x with custodians := x.custodians.filter (fun k => k.id ≠ id) })
      .done [] (((s1.mirror ⟨1, 4, c.tenant, id, []⟩).revokeOpens id).keyEvent .credentialChanged c.tenant id 2)))

/-- DEVICE_POLICY (R207, R208). -/
def execDevicePolicy (src : Fin 66) (s : State) : Host.Outcome State Fault Refusal :=
  .next (s.ceremonyOf src 0x09 (fun c s =>
    let p := c.param
    let f (i : Nat) := leAt p (4 * i) 4
    let inside (v lo hi : Nat) : Bool := decide (lo ≤ v ∧ v ≤ hi)
    if p.length = 16 ∧ inside (f 0) 10 3600 ∧ inside (f 1) 60 86400 ∧ inside (f 2) 60 86400 ∧ byteAt p 12 ≤ 1
        ∧ allZero (p.drop 13) then
      let s1 := s.modKeys (fun k => { k with policy := ⟨f 0, f 1, f 2, byteAt p 12 == 1⟩ })
      .done [] (s1.wr Reg.CSP_CTL_EN (byteAt p 12))
    else .refused .badFormat))

/-- Records of a tenant's generation deleted by S1, while the store is OPEN (R193): the lines of the tenant's handles that
hold one. -/
def State.dropRecords (s : State) (t : Nat) (g : Option Nat) : Nat × State :=
  let base := s.rd (Reg.TBL_KH_BASE_BASE t)
  let lines := (s.store.tree.lines.map (·.1)).filter (fun i => decide (base ≤ i) && decide (i < base + 0x800000))
  let handles := (lines.flatMap (fun i => [2 * (i - base), 2 * (i - base) + 1])).filter (fun h => decide (h < s.handleLimit t))
  handles.foldl (fun a h =>
    match a.2.recordGet t h with
    | .good r =>
      if holdsRecord r && (match g with | some n => decide (recordGen r = n) | none => true) then
        match a.2.recordPut t h (zeros 128) with
        | (true, s1) => (a.1 + 1, s1.invalidateHandle t h)
        | (false, _) => a
      else a
    | _ => a) (0, s)

/-- Records of retired generations deleted by S1 in the background, while the store is OPEN (R193): those of a generation marked at
its retirement, and those that an image opened later brings back for an empty slot. -/
def State.purgeRetired (s : State) (t : Nat) : State :=
  if s.store.st ≠ .opened then s
  else
    let gens := (List.range 4).filter (fun g => (s.tenant t).purge.contains g || (s.master t g).isNone)
    (gens.foldl (fun s g => (s.dropRecords t (some g)).2) s).modTenant t (fun x => { x with purge := [] })

/-- A generation marked for S1's deletion of its records, which begins at once if the store is OPEN (R193). -/
def State.markRetired (s : State) (t g : Nat) : State :=
  ((s.invalidateGen t g).modTenant t (fun x => { x with purge := g :: x.purge })).purgeRetired t

/-- RETIRE_GENERATION (R193, R208). S1 deletes the records of the generation; while the store is not OPEN they wait for that. -/
def execRetireGeneration (src : Fin 66) (s : State) : Host.Outcome State Fault Refusal :=
  .next (s.ceremonyOf src 0x13 (fun c s =>
    let t := c.tenant
    let g := byteAt c.param 0
    if c.param.length ≠ 8 ∨ 3 < g ∨ 1 < byteAt c.param 1 ∨ allZero (c.param.drop 2) = false then .refused .badFormat
    else
      match s.master t g with
      | none => .refused .notFound
      | some m =>
        let n := tabGet 0 (s.tenant t).records g
        let moving : Bool := match (s.tenant t).migrate with | some x => x.src == g || x.dst == g | none => false
        if s.currentGen t m.kind = some g then .refused .currentGen
        else if moving ∨ (n ≠ 0 ∧ byteAt c.param 1 = 0) then .refused .inUse
        else .done [] (((s.setMaster t g none).markRetired t g).keyEvent .generationRetired t g n)))

/-- SET_CURRENT_GENERATION (R192, R208). -/
def execSetCurrentGeneration (src : Fin 66) (s : State) : Host.Outcome State Fault Refusal :=
  .next (s.ceremonyOf src 0x14 (fun c s =>
    let kind := byteAt c.param 0
    let g := byteAt c.param 1
    if c.param.length ≠ 8 ∨ 2 < kind ∨ (3 < g ∧ g ≠ 0xFF) ∨ allZero (c.param.drop 2) = false then .refused .badFormat
    else if g = 0xFF then .done [] (s.setCurrent c.tenant kind none)
    else
      match s.master c.tenant g with
      | none => .refused .notFound
      | some m => if m.kind ≠ kind then .refused .kindMismatch else .done [] (s.setCurrent c.tenant kind (some g))))

/-- REGISTER_PROGRAM_KEY (R207, R208), mirrored (R346). -/
def execRegisterProgramKey (src : Fin 66) (s : State) : Host.Outcome State Fault Refusal :=
  .next (s.ceremonyOf src 0x15 (fun c s =>
    let p := c.param
    let alg := byteAt p 0
    let n := leAt p 4 4
    if (alg ≠ 1 ∧ alg ≠ 2) ∨ allZero (slice p 1 3) = false ∨ n ≠ (if alg = 1 then 68 else 1952) ∨ p.length ≠ 8 + n then
      .refused .badFormat
    else if (s.tenant c.tenant).exist = false then .refused .noTenant
    else
      let key := p.drop 8
      .done [] ((s.modTenant c.tenant (fun x => { x with progKeys := tabSet [] x.progKeys alg key })).mirror
        ⟨1, 5, c.tenant, alg, natToLe 4 n ++ key⟩)))

/-- AUTHORISE_STATE enters KEYMGMT and EXPORT for a duration (R212). -/
def execAuthoriseState (src : Fin 66) (s : State) : Host.Outcome State Fault Refusal :=
  .next (s.ceremonyOf src 0x16 (fun c s =>
    let m := byteAt c.param 0
    let d := leAt c.param 4 4
    if c.param.length ≠ 8 ∨ 3 < m ∨ allZero (slice c.param 1 3) = false ∨ d = 0 ∨ s.keys.policy.maxAuth < d then .refused .badFormat
    else
      let u := some (s.now + s.secRaw d)
      .done [] ((s.modTenant c.tenant (fun x => { x with
        keymgmt := if bitAt m 0 then u else x.keymgmt, export_ := if bitAt m 1 then u else x.export_ })).keyEvent
        .authStateEntered c.tenant m d)))

/-- LOAD_MASTER_KEY opens a load that awaits its components in a staging buffer (R209, R210). -/
def execLoadMasterKey (src : Fin 66) (s : State) : Host.Outcome State Fault Refusal :=
  .next (s.ceremonyOf src 0x12 (fun c s =>
    let p := c.param
    let m := byteAt p 2
    if p.length ≠ 16 ∨ 3 < byteAt p 0 ∨ 2 < byteAt p 1 ∨ (m ≠ 2 ∧ m ≠ 3) ∨ 1 < byteAt p 3 ∨ allZero (p.drop 9) = false then
      .refused .badFormat
    else if (s.tenant c.tenant).exist = false then .refused .noTenant
    else if (s.master c.tenant (byteAt p 0)).isSome then .refused .notEmpty
    else if 4 ≤ s.keys.opens.length ∨ s.keys.opens.any (fun o => o.tenant == c.tenant) then .refused .busy
    else
      let o : OpenLoad := ⟨c.tenant, byteAt p 0, byteAt p 1, m, byteAt p 3 == 1, slice p 4 5, shake256 32 c.body, c.signers,
        c.window.2, [], decide (src.val = 65)⟩
      .done [] (s.modKeys (fun k => { k with opens := k.opens ++ [o] }))))

/-- The master-key length of a kind. -/
def masterLen (kind : Nat) : Nat := if kind = 2 then 32 else 24

/-- A component deciphered as its method says (R211): none where a tag, a decoding or the zero padding fails. -/
def State.componentOf (s : State) (kind : Nat) (b ct : Bytes) : Option Bytes :=
  let n := masterLen kind
  let padded (x : Bytes) : Option Bytes := if allZero (x.drop n) then some (x.take n) else none
  match byteAt b 6 with
  | 1 =>
    let secret := fitTo 32 (Config.mlkemDecaps 7 s.keys.transport.1 (ct.take 1568))
    let key := shake256 32 (secret ++ b.take 56)
    (gcmOpen key (zeros 12) (b.take 56) (slice ct 1568 32) (ct.drop 1600)).bind padded
  | 2 =>
    let k := rsaOfBody 3072 s.keys.transport.2
    (oaepDecode (natToBe 384 (k.run (beToNat ct)))).bind (fun m => if m.length = n then some m else none)
  | _ => padded ct

/-- Components combined (R211). -/
def combine (l : List Component) (n : Nat) : Bytes := l.foldl (fun a c => xorB a c.value) (zeros n)

/-- Whether a TDES key has two equal 8-byte parts, parity bits ignored (R211). -/
def weakTdes (k : Bytes) : Bool :=
  let parts := (chunks 8 k).map (fun p => p.map (fun b => b &&& 0xFE#8))
  decide (parts.eraseDups.length < parts.length)

/-- The last component's arrival: the combined key is refused, or written to its slot (R211). -/
def State.loadMaster (s : State) (src : Nat) (o : OpenLoad) : State :=
  let key := combine o.parts (masterLen o.kind)
  let kcv := fitTo 5 (keyCheck (masterAlg o.kind) key)
  if o.kind ≠ 2 ∧ weakTdes key then (s.abandon o 8).answer src .weakKey []
  else if allZero o.expect = false ∧ o.expect ≠ kcv then (s.abandon o 9).answer src .resultKcv []
  else
    let s1 := (s.modKeys (fun k => { k with opens := k.opens.erase o })).setMaster o.tenant o.slot (some ⟨o.kind, key⟩)
    let s2 := if o.current then s1.setCurrent o.tenant o.kind (some o.slot) else s1
    (s2.keyEvent .masterKeyLoaded o.tenant (joined o.slot o.kind) (leToNat kcv)).answer src .ok kcv

/-- COMPONENT: a component message checked into the staging buffer; the last one loads the key (R211). A message for no open
ceremony gives ABANDONED (log entry 34). -/
def execComponent (src : Fin 66) (s : State) : Host.Outcome State Fault Refusal :=
  .next (s.take src 0x03 4 (fun _ => true) (fun b s =>
    let method := byteAt b 6
    let n := leAt b 42 2
    let msg := b.take (56 + n)
    let len := if method = 1 then 1616 else if method = 2 then 384 else 32
    let no (r : MbResult) : State := s.answer src r []
    match signerBlock (b.drop (56 + n)) with
    | some (alg, pk, sig, []) =>
      if leAt b 0 4 ≠ 0x504D4344 ∨ byteAt b 4 ≠ 1 ∨ method = 0 ∨ 3 < method ∨ byteAt b 7 ≠ 0 ∨ n ≠ len ∨ allZero (slice b 44 4) = false
          ∨ allZero (slice b 53 3) = false then no .badFormat
      else
        match s.keys.opens.find? (fun o => o.digest == slice b 8 32) with
        | none => no .abandoned
        | some o =>
          let id := leAt b 40 2
          if src.val < 64 ∧ o.tenant ≠ src.val then no .scope
          else if method = 3 ∧ (src.val ≠ 65 ∨ o.csp = false) then no .wrongState
          else if byteAt b 5 = 0 ∨ o.count < byteAt b 5 then no .badFormat
          else
            let known : Bool := match s.cred? id with
              | some cr => custodianOf id == some o.tenant && bitAt cr.roles roleOne && cr.isKey alg pk
              | none => false
            if known = false ∨ o.parts.any (fun p => p.submitter == id) then no .badSigner
            else if credVerify alg pk sig msg = false then no .badSignature
            else if o.parts.any (fun p => p.index == byteAt b 5) then no .badFormat
            else
              match s.componentOf o.kind b (slice b 56 n) with
              | none => no .badFormat
              | some v =>
                if fitTo 5 (keyCheck (masterAlg o.kind) v) ≠ slice b 48 5 then no .componentKcv
                else
                  let o2 : OpenLoad := { o with parts := o.parts ++ [⟨byteAt b 5, id, v⟩] }
                  let s1 := s.modKeys (fun k => { k with opens := k.opens.map (fun x => if x = o then o2 else x) })
                  if o2.parts.length < o.count then s1.answer src .ok [] else s1.loadMaster src o2
    | _ => no .badFormat))

/-- ABORT: a signer of an open ceremony abandons it (R209, R223). A digest of no open ceremony gives NOT_FOUND
(log entry 34). -/
def execAbort (slot : Fin 65) (s : State) : Host.Outcome State Fault Refusal :=
  .next (s.serveOp slot 0x04 (fun b s =>
    let no (r : MbResult) : State := s.respond slot r []
    match signerBlock (b.drop 32) with
    | some (alg, pk, sig, []) =>
      match s.keys.opens.find? (fun o => o.digest == b.take 32) with
      | none => no .notFound
      | some o =>
        let is (id : Nat) : Bool := match s.cred? id with | some cr => cr.isKey alg pk | none => false
        if slot.val < 64 ∧ o.tenant ≠ slot.val then no .scope
        else if is o.signers.1 = false ∧ is o.signers.2 = false then no .badSigner
        else if credVerify alg pk sig (b.take 32) = false then no .badSignature
        else (s.abandonOne o 2).respond slot .ok []
    | _ => no .badFormat))

/-- CANCEL_STATE: an AUTH custodian ends authorised states of its tenant (R212, R223). -/
def execCancelState (slot : Fin 65) (s : State) : Host.Outcome State Fault Refusal :=
  .next (s.serveOp slot 0x05 (fun b s =>
    let no (r : MbResult) : State := s.respond slot r []
    match signerBlock (b.drop 8) with
    | some (alg, pk, sig, []) =>
      if 3 < byteAt b 0 ∨ allZero (slice b 1 7) = false then no .badFormat
      else if s.keys.root.isNone ∨ (s.tenant slot).custodians.any (fun c => bitAt c.roles roleTwo && c.isKey alg pk) = false then
        no .badSigner
      else if credVerify alg pk sig (b.take 8) = false then no .badSignature
      else (s.endAuth slot (byteAt b 0) 2).respond slot .ok []
    | _ => no .badFormat))

/-- CEREMONY_NOT_AFTER_EXPIRY: open ceremonies that have reached NOT_AFTER are abandoned (R209); one of the serial port's
session returns ABANDONED there. -/
def execCeremonyNotAfterExpiry (s : State) : Host.Outcome State Fault Refusal :=
  let due (o : OpenLoad) : Bool := decide (o.notAfter ≤ s.now)
  .next (s.abandonIf due 1)

end Sys2Proof.Machine
end

