-- ==== Sys2Proof/Machine/DebugOps.lean ====
section
/-! DEFINITION. The debug session's shared operations (R408, R409). -/

namespace Sys2Proof.Machine

/-- The life cycle and debug port changed by a function. -/
def State.modLife (s : State) (f : LifeDbg → LifeDbg) : State := { s with life := f s.life }

/-- DEBUG_SESSION: scope and tenant; 1 opened, 2 ended; the cause, whose numbers are not given (R411). -/
def State.debugEvent (s : State) (d : Debug) (what cause : Nat) : State :=
  s.emit .debugSession none srcS0 (joined d.scope d.tenant) what (Config.causeNumber 0x305 cause)

/-- A MAINT session's host ports taken out of ACTIVE, or returned to training (R409). -/
def State.maintPorts (s : State) (ports : Nat) (out : Bool) : State :=
  (List.range 4).foldl (fun s n =>
    if bitAt ports n = false then s
    else if out then s.modPort n (fun p => p.leave .disabled 4 s.now)
    else if s.bit (Reg.LNK_CTL_EN n) then s.modPort n (fun p => { p with st := .detect })
    else s) s

/-- The open session ended: cores halted under TRACE go on, MAINT ports return to training (R409). Causes: 1 the register,
2 NOT_AFTER, 3 untrusted time, 4 a reset, 5 a move, 6 a tenant reset, 7 a new token. -/
def State.endDebug (s : State) (cause : Nat) : State :=
  match s.life.session with
  | none => s
  | some d =>
    let s1 := (s.modLife (fun l => { l with session := none })).maintPorts d.ports false
    let s2 : State := { s1 with cores := tabMap Core.reset (fun (_ : Nat) (k : Core) => { k with halted := false }) s1.cores }
    (s2.debugEvent d 2 cause).laneCheck

/-- The session ended if it is a TRACE session of a tenant (R409). -/
def State.endTrace (s : State) (t : Nat) : State :=
  match s.life.session with
  | some d => if d.scope = 2 ∧ d.tenant = t then s.endDebug 6 else s
  | none => s

end Sys2Proof.Machine
end

