-- ==== Sys2Proof/Machine/Entries.lean ====
section
/-! DEFINITION. Descriptors fetched and entered, and completions released (R22 to R43, R49 to R69). -/

namespace Sys2Proof.Machine

/-- Slots of a ring that the next read may ask for: covered, at most eight, not past the ring's end or a 4 KiB boundary
(R49, R316). -/
def Sq.fetchable (r : Sq) : Nat :=
  let n := ringSize r.log2
  min (min 8 (diff16 r.tail r.head)) (min (n - r.head % n) (64 - r.head % 64))

/-- Whether a ring's newest member stands in a flow that fills its reorder window (R58). -/
def State.windowFull (s : State) (t q : Nat) : Bool :=
  s.prf.entries.any (fun e => e.member && e.tenant == t && e.ring == q
    && decide (s.rd Reg.PRF_ORDWIN_WIN ≤ (s.prf.entries.filter (fun x => x.sameSeq e)).length)
    && s.prf.entries.all (fun x => !(x.sameSeq e && decide (e.id < x.id))))

/-- Whether the Proofer may fetch from a ring but for its tenant's quota (R27, R49, R58, R72, R229, R325, R335). -/
def State.wouldFetch (s : State) (t q : Nat) : Bool :=
  let r := s.sq t q
  s.bit Reg.PRF_CTL_FETCH_EN && s.pageOpen t && r.running && !r.held && r.fetch.isNone && decide (0 < r.fetchable)
    && !s.tenantResetting t && decide (s.pair.st ≠ .gaveUp)
    && !(s.bit Reg.PRF_STAT_SPILL_FULL && decide (s.spillHigh < s.onChip)) && !s.windowFull t q

/-- Whether the Proofer may fetch from a ring now (R49, R72). -/
def State.mayFetch (s : State) (t q : Nat) : Bool :=
  s.wouldFetch t q && decide (s.tenantCells t < s.rd (Reg.PRF_T_QUOTA_ENTRIES t))

/-- The quota pauses noted at a fetch: of each tenant with a ring that would be fetched, and of each noted one (R72, R73). -/
def State.noteQuotas (s : State) : State :=
  ((List.range 64).filter (fun t => s.prf.paused.contains t || (List.range 16).any (fun q => s.wouldFetch t q))).foldl
    State.noteQuota s

/-- DESCRIPTOR_FETCH: a read of up to eight covered slots of the next fetchable ring in round robin (R49). A range that the
port's MPU refuses stops the ring with ERROR (R421). -/
def execDescriptorFetch (s : State) : Host.Outcome State Fault Refusal :=
  let s := s.noteQuotas
  match ((List.range 1024).map (fun k => (s.prf.rr + 1 + k) % 1024)).find? (fun i => s.mayFetch (i / 16) (i % 16)) with
  | none => .next s
  | some i =>
    let (t, q) := (i / 16, i % 16)
    let r := s.sq t q
    let n := r.fetchable
    let a := r.base * 4096 + r.head % ringSize r.log2 * 64
    let x := tenantAccess t .read
    let s1 := s.modPrf (fun p => { p with rr := i })
    match s1.mpuFirst (4 + r.cur) .host x a (64 * n) with
    | some f => .next ((s1.mpuReport (4 + r.cur) x f).modSq t q (fun r => { r with error := true }))
    | none =>
      .next ((s1.modSq t q (fun r => { r with fetch := some ⟨n, none, false⟩ })).hostRead r.cur .prf a (64 * n) (.ring t q 0)
        (.descriptors t q))

/-- A descriptor as its fields say (R30 to R35), in either format. -/
structure Desc where
  /-- PROG -/ prog : Nat
  /-- flow identifier -/ flow : Nat
  /-- MODE bits -/ mode : Nat
  /-- PRIO -/ prio : Nat
  /-- SOE -/ soe : Bool
  /-- TCTX -/ tctx : Bool
  /-- CTRL -/ ctrl : Bool
  /-- NOTIFY -/ notify : Bool
  /-- FENCE -/ fence : Bool
  /-- SEG bits -/ seg : Nat
  /-- INLINE -/ inline : Bool
  /-- EXT -/ ext : Bool
  /-- user tag -/ tag : Nat
  /-- input address -/ inAddr : Nat
  /-- input length -/ inLen : Nat
  /-- output maximum length -/ outMax : Nat
  /-- output address -/ outAddr : Nat
  /-- handles, where VALID -/ handles : List (Option Nat)
  /-- argument -/ arg : Nat
  /-- the extension's 64 bytes, zeros without one -/ more : Bytes
deriving DecidableEq, Repr

/-- A handle word (R30). -/
def handleWord (w : Nat) : Option Nat := if bitAt w 31 then some (w % 2 ^ 24) else none

/-- The fields of a D3 descriptor and its extension. -/
def descD3 (b ext : Bytes) : Desc :=
  let c := leAt b 0 4
  let f := leAt b 4 4
  ⟨c / 65536, f % 2 ^ 20, bitsAt f 20 2, bitsAt f 23 3, bitAt f 22, bitAt c 11, bitAt c 10, bitAt c 9, bitAt c 8, bitsAt c 6 2,
   bitAt c 5, bitAt c 4, leAt b 8 8, leAt b 16 8, leAt b 24 3, leAt b 28 3, leAt b 32 8,
   (List.range 4).map (fun i => handleWord (leAt b (40 + 4 * i) 4)), leAt b 56 8, ext⟩

/-- The fields of a D2 descriptor on ring q (R35). -/
def descD2 (b : Bytes) (q : Nat) : Desc :=
  let c := leAt b 0 4
  ⟨c / 65536, 0xFFFF0 + q, 1, 0, false, false, false, bitAt c 9, false, 0, false, false, leAt b 4 4, leAt b 8 8, leAt b 16 2,
   leAt b 18 2, leAt b 8 8, [handleWord (leAt b 20 4), handleWord (leAt b 24 4), none, none], leAt b 28 4, zeros 64⟩

/-- Whether a reserved field of a D3 descriptor is non-zero (R30 to R33, R40). -/
def reservedD3 (b ext : Bytes) (d : Desc) : Bool :=
  let c := leAt b 0 4
  let plain := decide (bitsAt c 12 4 ≠ 0) || decide (leAt b 4 4 / 2 ^ 26 ≠ 0) || decide (byteAt b 27 ≠ 0) || decide (byteAt b 31 ≠ 0)
    || (List.range 4).any (fun i => decide (bitsAt (leAt b (40 + 4 * i) 4) 24 7 ≠ 0))
    || (d.ext && (decide (leAt ext 24 4 / 64 ≠ 0) || decide (leAt ext 28 4 ≠ 0)))
  let ctrl := decide (d.prog ≠ 1) || decide (c % 65536 / 16 ≠ 0x40 + 0x20 * b2n d.notify) || decide (leAt b 4 4 ≠ 0)
    || decide (leAt b 16 4 / 16 ≠ 0) || allZero (slice b 20 36) == false
  if d.ctrl then plain || ctrl else plain

/-- Whether a reserved bit of a D2 descriptor is non-zero (R35). -/
def reservedD2 (b : Bytes) : Bool :=
  let c := leAt b 0 4
  decide (bitsAt c 10 6 ≠ 0) || decide (bitsAt c 4 5 ≠ 0) || decide (bitsAt (leAt b 20 4) 24 7 ≠ 0)
    || decide (bitsAt (leAt b 24 4) 24 7 ≠ 0)

/-- Inline bytes of an extension. -/
def Desc.inlineLen (d : Desc) : Nat := leAt d.more 24 4 % 64

/-- The image that a tenant has loaded for a program (R112). -/
def State.loadedImage (s : State) (t prog : Nat) : Option Image := (tabGet none s.progs.loaded (t * 65536 + prog)).bind s.image?

/-- The checks of R34 that a descriptor fails by itself, lowest first: the segment rules are apart. -/
def State.descFault (s : State) (t : Nat) (d2 : Bool) (b : Bytes) (d : Desc) : Option Nat :=
  let img := s.loadedImage t d.prog
  let checks : List (Nat × Bool) :=
    [(1, byteAt b 0 % 16 ≠ (if d2 then 2 else 3)),
     (2, if d2 then reservedD2 b else reservedD3 b d.more d),
     (3, d.ext && decide (32 < d.inlineLen)),
     (4, ((d.inline || d.tctx) && !d.ext) || (d.inline && (decide (d.inAddr ≠ 0) || decide (d.inLen ≠ 0)))
          || (!d.inline && d.ext && decide (d.inlineLen ≠ 0)) || decide (d.mode = 3)),
     (5, !d.ctrl && img.isNone),
     (7, !d2 && decide (0xFFFF0 ≤ d.flow)),
     (8, d2 && (match img with | some i => !i.d2 | none => false))]
  (checks.find? (fun c => c.2)).map (·.1)

/-- The words that later segments of a message repeat: PROG, flow word and tag (R42). -/
def segKey (b : Bytes) : Bytes := slice b 2 14

/-- An entry for a descriptor, as it stands at creation (R50, R52); a cancel's own user tag is its argument (R37, R40). -/
def State.newEntry (s : State) (t q slot : Nat) (d2 : Bool) (b : Bytes) (d : Desc) : Entry :=
  let img := (s.loadedImage t d.prog).getD Image.none
  let nb := if d.ext then leAt d.more 0 8 else 0
  let dl := if d.ext then leAt d.more 8 8 else 0
  { id := s.prf.nextId, tenant := t, ring := q, slot := slot, prog := d.prog, d2 := d2, flow := d.flow
    mode := if d.mode = 1 then .ordered else if d.mode = 2 then .atomic else .relaxed
    prio := d.prio, soe := d.soe, fence := d.fence, notify := d.notify, tctx := d.tctx
    tag := if d.ctrl ∧ d.prog = 1 then d.arg else d.tag
    inputs := if d.inline then [] else [(d.inAddr, d.inLen)]
    inline := if d.inline then some (slice d.more 32 d.inlineLen) else none
    outAddr := d.outAddr, outMax := d.outMax, handles := d.handles, arg := d.arg, notBefore := nb, deadline := dl
    ctxKey := leAt d.more 16 8, first := segKey b, descr := b ++ (if d.ext then d.more else []), segs := 1, msgOpen := decide (d.seg = 1), cells := if d.ext then 2 else 1
    seqNo := 0, keys := d.handles.all (·.isNone), tctxOk := !d.tctx, time := decide (nb = 0) || decide (nb ≤ s.now), token := false
    tokenAt := 0, segsOk := decide (d.seg ≠ 1), needRand := img.rand, resolved := [], image := img.id, route := none
    opStart := s.now, created := s.now, timedOut := false, cancelled := false, cancelLate := false, phase := .waiting
    spilled := false, places := [], status := .ok, pstatus := 0, outLen := 0, early := false, sync := decide ((s.tenant t).policy.mirror = 1), mstate := false, epoch := 0, ctrl := false
    noScale := false, cls := img.cls, term := none }

/-- Flow contexts on chip (R51). -/
def State.flowsOnChip (s : State) : Nat := (s.prf.flows.filter (fun e => e.2.stored.isNone)).length
/-- Whether a flow has no command in the store. -/
def State.flowIdle (s : State) (k : Nat) : Bool := s.prf.entries.all (fun e => decide (flowKey e.tenant e.flow ≠ k))

/-- A flow context as its line of the sealed store (R51); the layout is the model's choice (log entry 57). -/
def Flow.bytes (k : Nat) (f : Flow) : Bytes :=
  fitTo 256 (natToLe 8 k ++ natToLe 4 f.next ++ natToLe 4 f.oldest ++ natToLe 2 (f.lastCore.getD 0xFFFF))
/-- The flow context that a line holds for a key. -/
def flowOfBytes (k : Nat) (b : Bytes) : Flow :=
  if leAt b 0 8 = k ∧ leAt b 8 4 ≠ 0 then
    ⟨leAt b 8 4, leAt b 12 4, [], if leAt b 16 2 = 0xFFFF then none else some (leAt b 16 2), none⟩
  else Flow.fresh

/-- The lowest line of the Proofer's flow contexts that none holds. -/
def State.freeFlowLine (s : State) : Nat :=
  let used := s.prf.flows.filterMap (fun e => e.2.stored)
  (((List.range (used.length + 1)).map (· + Config.flowBase)).find? (fun n => !used.contains n)).getD Config.flowBase

/-- An idle flow context taken off the chip (R51): that of a flow without a sequence is discarded, another written to the
sealed store, where that is OPEN and its line can be written. The answer is false while the line's path is awaited. -/
def State.flowOut (s : State) (k : Nat) : Bool × State :=
  let f := tabGet Flow.fresh s.prf.flows k
  if f.next = 1 then (true, s.modPrf (fun p => { p with flows := tabErase p.flows k }))
  else
    let n := s.freeFlowLine
    let q := s.wantLines [⟨n, false, true, 0⟩]
    if q.1 = false then q
    else
      let w := q.2.lineWrite n (f.bytes k)
      (true, if w.1 then w.2.modPrf (fun p => { p with flows := tabSet Flow.fresh p.flows k { f with stoppedBy := [], stored := some n } })
        else q.2)

/-- Room made for a flow's context where 65,536 others are on chip: the first idle one, by key, goes (R51; log entry 57). The
answer is false while its line is awaited. -/
def State.flowRoom (s : State) (k : Nat) : Bool × State :=
  if s.flowsOnChip < 65536 ∨ s.prf.flows.any (fun e => decide (e.1 = k) && e.2.stored.isNone) then (true, s)
  else
    match s.prf.flows.find? (fun e => e.2.stored.isNone && s.flowIdle e.1) with
    | none => (true, s)
    | some e => s.flowOut e.1

/-- A stored flow context read back, or lost with its line, in which case the flow has no context (R51, R278). -/
def State.flowBack (s : State) (k : Nat) (r : ReadResult) : State :=
  let f := match r with | .good d => flowOfBytes k d | _ => Flow.fresh
  s.modPrf (fun p => { p with flows := tabSet Flow.fresh p.flows k f })

/-- A flow context that a command needs brought on chip: its line is asked for, or taken where it has been read. -/
def State.wantFlow (s : State) (k : Nat) : State :=
  if (tabGet Flow.fresh s.prf.flows k).stored.isNone then s
  else
    let ask (s : State) : State :=
      let (num, s1) := s.lineFetch ((tabGet Flow.fresh s.prf.flows k).stored.getD 0)
      s1.modPrf (fun p => { p with flowReads := p.flowReads ++ [(num, k)] })
    let s0 := if s.prf.flowReads.any (fun r => decide (r.2 = k)) then s else ask s
    match s0.prf.flowReads.find? (fun r => decide (r.2 = k)) with
    | none => s0
    | some r =>
      match s0.storeRead? r.1 with
      | none => (s0.modPrf (fun p => { p with flowReads := p.flowReads.erase r })).flowBack k .lost
      | some x =>
        if x.res = .waiting then s0
        else ((s0.modPrf (fun p => { p with flowReads := p.flowReads.erase r })).dropRead r.1).flowBack k x.res

/-- The flow identifiers of the descriptors in fetched slots; a slot after a base descriptor with EXT is its extension. -/
def slotFlows (d2 : Bool) (q : Nat) : Bool → List Bytes → List Nat
  | _, [] => []
  | true, _ :: r => slotFlows d2 q false r
  | false, b :: r =>
    if d2 then (0xFFFF0 + q) :: slotFlows d2 q false r
    else (leAt b 4 4 % 2 ^ 20) :: slotFlows d2 q (bitAt (byteAt b 0) 4) r

/-- The flow contexts of fetched slots brought on chip, and room made for them (R51): whether that is done, and the state. -/
def State.wantFlows (s : State) (t q : Nat) (slots : List Bytes) : Bool × State :=
  let r := s.sq t q
  let base := match r.carry with | some b => [leAt b 4 4 % 2 ^ 20] | none => []
  (base ++ slotFlows r.d2 q r.carry.isSome slots).eraseDups.foldl (fun (a : Bool × State) f =>
    let room := a.2.flowRoom (flowKey t f)
    (a.1 && room.1, room.2.wantFlow (flowKey t f))) (true, s)

/-- Whether a flow context of a ring's tenant is still being read back. -/
def State.flowsWait (s : State) (t : Nat) : Bool := s.prf.flowReads.any (fun r => decide (r.2 / 2 ^ 20 = t))

/-- An entry added to the store. -/
def State.addEntry (s : State) (e : Entry) : State :=
  s.modPrf (fun p => { p with entries := p.entries ++ [e], nextId := p.nextId + 1 })

/-- A descriptor that fails a check of R34: it completes DESCRIPTOR_INVALID, outside every flow's sequence. -/
def State.enterInvalid (s : State) (e : Entry) (ps : Nat) : State :=
  s.addEntry { e with mode := .relaxed, phase := .ended, status := .descriptorInvalid, pstatus := ps, noScale := true
                      msgOpen := false, fence := false }

/-- The sequence number after another: from 2^32 − 1 to 1 (R55). -/
def seqAfter (n : Nat) : Nat := if 2 ^ 32 - 1 ≤ n then 1 else n + 1

/-- The next sequence number of a flow given to a member (R55), noted as a mirrored change (R346). -/
def State.takeSeq (s : State) (e : Entry) : Nat × State :=
  if e.mode = .relaxed then (0, s)
  else
    let n := (s.flow e.tenant e.flow).next
    let m := seqAfter n
    (n, (s.modFlow e.tenant e.flow (fun f => { f with next := m })).mirror ⟨6, 0, e.tenant, e.flow, natToLe 4 m ++ zeros 4⟩)

/-- Whether the AUDIT policy refuses a tenant's descriptors now (R226). -/
def State.auditRefuses (s : State) (t : Nat) : Bool := s.bit Reg.GRD_STICKY_AUDIT_LOST && decide ((s.tenant t).policy.audit = 2)

/-- The outcome that completes a good descriptor at entry, if any (R28, R60, R62, R226, R229). -/
def State.entryOutcome (s : State) (e : Entry) : Option Status :=
  if s.tenantResetting e.tenant then some .tenantReset
  else if (s.sq e.tenant e.ring).resetting then some .aborted
  else if s.auditRefuses e.tenant then some .auditUnavailable
  else if e.deadline ≠ 0 ∧ e.deadline ≤ e.notBefore then some .deadlineMissed
  else if s.time.state = .untrusted ∧ (e.notBefore ≠ 0 ∨ e.deadline ≠ 0) then some .timeUntrusted
  else none

/-- A good descriptor entered: sequence number, outcomes at entry, operand resolution (R50, R53, R55). -/
def State.enterCommand (s : State) (e0 : Entry) : State :=
  let (n, s1) := s.takeSeq e0
  let e := { e0 with seqNo := n }
  let s2 := s1.addEntry e
  let s3 := if e.msgOpen then s2.modSq e.tenant e.ring (fun r => { r with openMsg := some e.id }) else s2
  match s3.entryOutcome e with
  | some st => s3.finish e.id st 0
  | none =>
    -- a member entered while its flow is stopped, before the failing command's release (R59)
    if s3.stoppedFor e then s3.applyDecided e ((s3.decided e).getD .flowAborted)
    else (s3.resolveKeys e.id).resolveTerm e.id

/-- A cancel entered (R40, R41): it acts at once and its own completion waits for nothing. -/
def State.enterCancel (s : State) (e : Entry) (b : Bytes) : State :=
  let (n, s1) := s.cancelAll e.tenant (leAt b 16 4 % 16) (leAt b 8 8)
  s1.addEntry { e with mode := .relaxed, ctrl := true, noScale := true, phase := .ended, status := .ok
                       pstatus := min 0xFFFF n, inputs := [], outMax := 0, handles := [] }

/-- The open message of a ring, if its entry still waits for segments. -/
def State.openMessage (s : State) (t q : Nat) : Option Entry := ((s.sq t q).openMsg).bind s.entry?

/-- A message failed by a segment or by a new first segment: like a descriptor that failed R34's checks, it is not reported to
Scale (R43, R69). -/
def State.failMessage (s : State) (id ps : Nat) : State :=
  (s.modEntry id (fun e => { e with noScale := true })).finish id .descriptorInvalid ps

/-- A middle or last segment (R42, R43). Which segment's NOTIFY and FENCE hold for a message the spec does not say: the model
takes the first one's (log entry 56). Under AUDIT 2 a segment is a descriptor that completes by itself (R226). -/
def State.enterSegment (s : State) (t q slot : Nat) (b : Bytes) (d : Desc) : State :=
  let own := s.descFault t false b d
  match (if s.auditRefuses t ∧ own = none then none else s.openMessage t q) with
  | none =>
    let e := s.newEntry t q slot false b d
    if s.auditRefuses t ∧ own = none then s.addEntry { e with mode := .relaxed, phase := .ended, status := .auditUnavailable, msgOpen := false, fence := false }
    else s.enterInvalid e (min 6 (own.getD 6))
  | some m =>
    let total := m.inLen + d.inLen
    let bad6 := m.first ≠ segKey b ∨ d.ext ∨ d.outAddr ≠ 0 ∨ d.outMax ≠ 0 ∨ allZero (slice b 40 24) = false ∨ 64 ≤ m.segs
    let faults := (match own with | some n => [n] | none => []) ++ (if bad6 then [6] else []) ++ (if 16777215 < total then [3] else [])
    let s1 := s.modEntry m.id (fun e => { e with slot := slot, segs := e.segs + 1 })
    match faults with
    | [] =>
      let s2 := s1.modEntry m.id (fun e => { e with inputs := e.inputs ++ [(d.inAddr, d.inLen)], cells := e.cells + 1 })
      if d.seg = 3 then
        (s2.modEntry m.id (fun e => { e with segsOk := true, msgOpen := false })).modSq t q (fun r => { r with openMsg := none })
      else s2
    | f :: rest => s1.failMessage m.id (rest.foldl min f)

/-- One whole descriptor entered (R34, R43, R50): every one completes NOT_ACTIVE while the unit has no service (R335). -/
def State.enterDesc (s : State) (t q slot : Nat) (d2 : Bool) (b ext : Bytes) : State :=
  let d := if d2 then descD2 b q else descD3 b ext
  let e := s.newEntry t q slot d2 b d
  let s0 := s.inc (Reg.PRF_CNT_COUNT 0)
  if s.pair.service = false then
    let good := (s.descFault t d2 b d).isNone && !d.ctrl && decide (d.seg ≤ 1)
    let (n, s1) := if good then s0.takeSeq e else (0, s0)
    s1.addEntry { e with mode := if good then e.mode else .relaxed, seqNo := n, phase := .ended, status := .notActive, msgOpen := false
                         noScale := !good, fence := false }
  else if d.ctrl then
    match s.descFault t d2 b d with
    | some ps => s0.enterInvalid e ps
    | none => s0.enterCancel e b
  else if d.seg = 2 ∨ d.seg = 3 then s0.enterSegment t q slot b d
  else
    let clash := if d.seg = 1 then s.openMessage t q else none
    let s1 := match clash with
      | some m => s0.failMessage m.id 6
      | none => s0
    match s.descFault t d2 b d, clash with
    | some ps, some _ => s1.enterInvalid { e with id := s1.prf.nextId } (min ps 6)
    | some ps, none => s1.enterInvalid e ps
    | none, some _ => s1.enterInvalid e 6
    | none, none => s1.enterCommand e

/-- One fetched slot: HEAD advances; a base descriptor with EXT waits for its extension (R22, R30). -/
def State.enterSlot (s : State) (t q : Nat) (b : Bytes) : State :=
  let r := s.sq t q
  let slot := r.head % ringSize r.log2
  let s1 := s.modSq t q (fun r => { r with head := (r.head + 1) % 65536, carry := none })
  match r.carry with
  | some base => s1.enterDesc t q ((slot + ringSize r.log2 - 1) % ringSize r.log2) false base b
  | none =>
    if r.d2 then s1.enterDesc t q slot true b []
    else if bitAt (byteAt b 0) 4 then s1.modSq t q (fun r => { r with carry := some b })
    else s1.enterDesc t q slot false b (zeros 64)

/-- DESCRIPTOR_ARRIVAL: the bytes of a ring's descriptor read have arrived: each slot is entered in order, and a tenant that
reaches its quota is paused (R49, R50, R72). It waits while the journal is full (R349), and until every flow context that
lies in the sealed store has been read back (R51). -/
def execDescriptorArrival (t : Fin 64) (q : Fin 16) (s : State) : Host.Outcome State Fault Refusal :=
  match (s.sq t q).fetch with
  | none => .next s
  | some f =>
    match f.data with
    | none => .next s
    | some data =>
      if s.journalFull then .next s
      else
        let slots := chunks 64 (fitTo (64 * f.slots) data)
        let s0 := s.wantFlows t q slots
        if s0.1 = false ∨ s0.2.flowsWait t then .next s0.2
        else
          let s1 := s0.2.modSq t q (fun r => { r with fetch := none })
          .next ((slots.foldl (fun s b => s.enterSlot t q b) s1).noteQuota t)

/-- Whether the mirror hold of R68 applies to a command: it changed mirrored state and its tenant mirrors synchronously. -/
def State.mirrorHold (_s : State) (e : Entry) : Bool := e.mstate && e.sync

/-- Whether an ended command may be released (R39, R57, R68, R325, R335). -/
def State.mayRelease (s : State) (e : Entry) : Bool :=
  let c := s.cqOf e.tenant e.ring
  decide (e.phase = .ended) && decide (s.pair.st ≠ .gaveUp)
    && (e.ctrl || (s.prf.entries.all (fun a => !(a.sameSeq e && decide (a.id < e.id)))
        && (!s.mirrorHold e || decide (e.epoch ≤ s.pair.acked))))
    && c.enable && decide (diff16 c.tail c.head < ringSize c.log2) && !(s.sq e.tenant e.ring).held
    && !s.cqRefused e.tenant (s.sq e.tenant e.ring).cq

/-- The 32 bytes of a completion entry (R37). -/
def State.completion (s : State) (e : Entry) : Bytes :=
  let c := s.cqOf e.tenant e.ring
  let w := e.outLen % 2 ^ 24 + 2 ^ 24 * (b2n c.phase + 2 * b2n e.cancelLate + 4 * b2n e.early + 8 * b2n e.mstate
    + 16 * b2n (s.mirrorHold e) + 32 * b2n (decide (s.time.state ≠ .trusted)))
  let ep := if e.mstate then e.epoch else s.pair.epoch
  let tail := ep % 2 ^ 24 + 2 ^ 24 * (s.store.openNum % 4096) + 2 ^ 36 * ((if e.member then e.seqNo else 0) % 4096)
    + 2 ^ 48 * (e.slot % 4096) + 2 ^ 60 * e.ring
  natToLe 8 e.tag ++ natToLe 2 e.status.code ++ natToLe 2 e.pstatus ++ natToLe 4 w ++ natToLe 8 s.now ++ natToLe 8 tail

/-- The counts of a release (PRF_CNT). -/
def State.countRelease (s : State) (e : Entry) : State :=
  let s1 := s.inc (Reg.PRF_CNT_COUNT 1)
  let s2 := if e.cancelLate then s1.inc (Reg.PRF_CNT_COUNT 3) else s1
  match e.status with
  | .cancelled => s2.inc (Reg.PRF_CNT_COUNT 2)
  | .deadlineMissed => s2.inc (Reg.PRF_CNT_COUNT 4)
  | .operandTimeout => s2.inc (Reg.PRF_CNT_COUNT 5)
  | .entropyUnavailable => s2.inc (Reg.PRF_CNT_COUNT 5)
  | .flowAborted => s2.inc (Reg.PRF_CNT_COUNT 6)
  | _ => s2

/-- COMPLETION_RELEASE: an ended command whose conditions hold is released (R68, R69): its completion entry is handed to the
port, the flow's stop that it caused ends, Scale counts it and the entry leaves the store. -/
def execCompletionRelease (entry : Nat) (s : State) : Host.Outcome State Fault Refusal :=
  match s.entry? entry with
  | none => .next s
  | some e =>
    if s.mayRelease e = false then .next s
    else
      let q := (s.sq e.tenant e.ring).cq
      let c := s.cq e.tenant q
      let bytes := s.completion e
      let s1 := s.modPort (s.cq e.tenant q).cur (fun p => { p with
        entries := p.entries ++ [⟨e.tenant, e.ring, q, c.tail, e.id, bytes, e.notify, false⟩] })
      let s2 := s1.modCq e.tenant q (fun c => { c with
        tail := (c.tail + 1) % 65536, phase := if (c.tail + 1) % ringSize c.log2 = 0 then !c.phase else c.phase })
      let s3 := (s2.unpinEntry e).modFlow e.tenant e.flow (fun f => { f with
        stoppedBy := f.stoppedBy.filter (fun n => !(e.member && n == e.seqNo)), oldest := if e.member then seqAfter e.seqNo else f.oldest })
      let s4 := (s3.modPrf (fun p => { p with entries := p.entries.filter (fun x => x.id ≠ e.id) })).countRelease e
      let s5 := if e.noScale then s4 else s4.scaleCount e.tenant e.cls
      .next ((s5.noteQuota e.tenant).retryWaits).freeImages

end Sys2Proof.Machine
end

