-- ==== Sys2Proof/Machine/Tenants.lean ====
section
/-! DEFINITION. Tenants: creation, change, deletion, policies, programs and the tenant reset (R109 to R114, R218 to R233,
R388). -/

namespace Sys2Proof.Machine

/-- Whether a service-level block lies in the ranges of R218. -/
def levelsFormat (p : Bytes) : Bool :=
  let bind (q : Nat) : Bool :=
    let b := byteAt p (24 + q)
    decide (b < 32) && decide (b % 4 ≠ b / 4 % 4)
  decide (p.length = 48) && decide (byteAt p 0 < 64) && decide (byteAt p 1 < 2) && allZero (slice p 2 2)
    && decide (leAt p 4 4 ≤ 200000000) && decide (leAt p 8 2 ≠ 0) && decide (1 ≤ byteAt p 11 ∧ byteAt p 11 ≤ 192)
    && decide (leAt p 12 3 ≠ 0) && decide (byteAt p 15 = 0) && decide (leAt p 16 3 ≠ 0) && decide (byteAt p 19 = 0)
    && allZero (slice p 20 4) && (List.range 16).all bind && allZero (slice p 40 8)

/-- A tenant's new levels held until the next quantum, where they take effect (R219). -/
def State.stageLevels (s : State) (t : Nat) (p : Bytes) : State :=
  s.modPrf (fun x => { x with levels := x.levels.filter (fun e => e.1 ≠ t) ++ [(t, p)] })

/-- Binding of a ring index in a block: PORT, ALT_PORT, ALT_VALID (R218). -/
def bindingOf (p : Bytes) (q : Nat) : Nat × Nat × Bool :=
  let b := byteAt p (24 + q)
  (b % 4, b / 4 % 4, bitAt b 4)

/-- Whether both rings of an index are disabled (R219). -/
def State.ringsIdle (s : State) (t q : Nat) : Bool := !(s.sq t q).enable && !(s.cq t q).enable

/-- The bindings of the idle rings written (R219). -/
def State.writeBindings (s : State) (t : Nat) (p : Bytes) : State :=
  (List.range 16).foldl (fun s q =>
    let b := bindingOf p q
    if s.ringsIdle t q = false then s
    else (s.modSq t q (fun r => { r with port := b.1, altPort := b.2.1, altValid := b.2.2 })).modCq t q
      (fun c => { c with port := b.1, altPort := b.2.1, altValid := b.2.2 })) s

/-- TBL_T_POL written from a tenant's policies (R226). -/
def State.writeTblPolicy (s : State) (t : Nat) : State :=
  let p := (s.tenant t).policy
  ((s.wr (Reg.TBL_T_POL_LEARN t) p.learn).wr (Reg.TBL_T_POL_EVICT t) p.evict).wr (Reg.TBL_T_POL_MOVE_EVENT t) p.move

/-- Every register of a tenant's pages at its reset value but for the ring bindings (R21, R219, R229). -/
def State.resetPages (s : State) (t : Nat) : State :=
  let s1 := (List.range 16).foldl (fun s q =>
    ((s.modSq t q (fun r => { Sq.reset with port := r.port, altPort := r.altPort, altValid := r.altValid })).modCq t q
      (fun c => { Cq.reset with port := c.port, altPort := c.altPort, altValid := c.altValid })).modIv t q (fun _ => Iv.reset)) s
  s1

/-- A tenant created from a block whose checks hold (R219, R235). -/
def State.createTenant (s : State) (t : Nat) (p : Bytes) : State :=
  let s1 := (s.modTenant t (fun _ => { Tenant.absent with exist := true, block := p })).writeLevels t p
  let s2 := (((s1.resetPages t).writeBindings t p).modPrf (fun x => { x with bucket := tabSet 0 x.bucket t 0 })).writeTblPolicy t
  (((s2.wr (Reg.TBL_KH_BASE_BASE t) (Config.handleBase t)).wr (Reg.TBL_KH_CFG_LIMIT t) (Config.handleTop t)).wr
    (Reg.TBL_KH_CFG_RBASE t) (Config.routeBase t)).noteHandles t

/-- A tenant's block replaced (R219). -/
def State.updateTenant (s : State) (t : Nat) (p : Bytes) : State :=
  ((s.modTenant t (fun x => { x with block := p })).stageLevels t p).writeBindings t p

/-- CREATE_TENANT: ceremony 0x03 with UPDATE clear (R218, R219). -/
def execCreateTenant (src : Fin 66) (s : State) : Host.Outcome State Fault Refusal :=
  .next (s.ceremony src 0x03 (fun b => !bitAt (byteAt b 129) 0) (fun c s =>
    let p := c.param
    let t := byteAt p 0
    if levelsFormat p = false then .refused .badFormat
    else if (s.tenant t).deleting then .refused .busy
    else if (s.tenant t).exist then .refused .wrongState
    else
      let s1 := s.createTenant t p
      .done [] (((s1.mirror ⟨1, 1, t, 0, p⟩).mirror ⟨1, 2, t, 0, Policy.default.bytes⟩).emit .tenantCreated (some t) srcS0 t
        (leAt p 4 4) (leAt p 12 3))))

/-- UPDATE_TENANT: ceremony 0x03 with UPDATE set (R218, R219). A ring of the tenant that is enabled gives IN_USE, and nothing
changes; a tenant whose deletion has begun is absent (R21). -/
def execUpdateTenant (src : Fin 66) (s : State) : Host.Outcome State Fault Refusal :=
  .next (s.ceremony src 0x03 (fun b => bitAt (byteAt b 129) 0) (fun c s =>
    let p := c.param
    let t := byteAt p 0
    if levelsFormat p = false then .refused .badFormat
    else if (s.tenant t).exist = false ∨ (s.tenant t).deleting then .refused .wrongState
    else if (List.range 16).any (fun q => !s.ringsIdle t q) then .refused .inUse
    else .done [] (((s.updateTenant t p).mirror ⟨1, 1, t, 0, p⟩).emit .tenantUpdated (some t) srcS0 t (leAt p 4 4) (leAt p 12 3))))

/-- TENANT_POLICY: ceremony 0x18 (R225, R226), mirrored. -/
def execTenantPolicy (src : Fin 66) (s : State) : Host.Outcome State Fault Refusal :=
  .next (s.ceremonyOf src 0x18 (fun c s =>
    let p := c.param
    let t := c.tenant
    if p.length ≠ 16 ∨ 1 < byteAt p 0 ∨ 2 < byteAt p 1 ∨ 1 < byteAt p 2 ∨ 1 < byteAt p 3 ∨ 15 < byteAt p 4 ∨ 1 < byteAt p 5
        ∨ allZero (slice p 6 2) = false ∨ leAt p 8 4 < 10 ∨ 10000 < leAt p 8 4 ∨ allZero (slice p 12 4) = false then
      .refused .badFormat
    else if (s.tenant t).exist = false then .refused .noTenant
    else
      let pol : Policy := ⟨byteAt p 0, byteAt p 1, byteAt p 2, byteAt p 3, byteAt p 4, byteAt p 5, leAt p 8 4⟩
      let s1 := (s.modTenant t (fun x => { x with policy := pol })).writeTblPolicy t |>.noteHandles t
      .done [] ((s1.mirror ⟨1, 2, t, 0, p⟩).emit .tenantPolicySet (some t) srcS0 t (leAt p 0 4) (leAt p 8 4))))

/-- A tenant reset changed. -/
def State.modReset (s : State) (t : Nat) (f : TenReset → TenReset) : State :=
  s.modKeys (fun k => { k with resets := k.resets.map (fun r => if r.tenant = t then f r else r) })

/-- Step 2 of R229: staged commands leave their cores, running ones receive an idle request. -/
def State.idleTenant (s : State) (t : Nat) : State :=
  s.prf.entries.foldl (fun s e =>
    if e.tenant ≠ t then s
    else
      match e.phase with
      | .staged _ => s.finish e.id .tenantReset 0
      | .running c =>
        (s.modCore c (fun k => { k with idleReq := some .tenantReset })).modReset t (fun r =>
          { r with asked := r.asked ++ [(c, e.id, s.now)] })
      | _ => s) s

/-- A tenant reset started, or joined where one is in progress (R228): steps 1 and 2 of R229 and the completion of what is
not dispatched. Cause: 1 mailbox, 2 deletion, 3 source. -/
def State.beginTenantReset (s : State) (t cause : Nat) (slots : List Nat) : State :=
  if s.tenantResetting t then
    s.modReset t (fun r => { r with reg := r.reg || decide (cause = 3), deletion := r.deletion || decide (cause = 2)
                                    slots := r.slots ++ slots })
  else
    let v := s.iv t (s.tenant t).policy.vector
    let r : TenReset := ⟨t, decide (cause = 3), decide (cause = 2), v.addr, v.data, v.enable, (s.tenant t).policy.idle, [], 0, 0, slots⟩
    let s1 := (s.modKeys (fun k => { k with resets := k.resets ++ [r] })).emit .tenantResetStarted (some t) srcS0 t cause 0
    let s2 := ((s1.abandonIf (fun o => o.tenant == t) 5).endAuth t 3 3).endTrace t
    (s2.idleTenant t).endUndispatched (fun e => e.tenant == t) .tenantReset

/-- TENANT_RESET: OP 0x12 in a tenant's slot (R223, R228). -/
def execTenantReset (slot : Fin 65) (s : State) : Host.Outcome State Fault Refusal :=
  .next (s.serveOp slot 0x12 (fun b s => s.emptyBody slot b
    ((s.modSlot slot (fun x => { x with held := true })).beginTenantReset slot 1 [slot.val])))

/-- TENANT_RESET_DEV: OP 0x14 in the device slot; it waits while BUSY is 1 (R388). -/
def execTenantResetDev (slot : Fin 65) (s : State) : Host.Outcome State Fault Refusal :=
  .next (s.serveOp slot 0x14 (fun b s =>
    let t := byteAt b 0
    if b.length ≠ 8 ∨ allZero (b.drop 1) = false then s.respond slot .badFormat []
    else if 64 ≤ t ∨ (s.tenant t).exist = false then s.respond slot .noTenant []
    else if s.keys.resets.any (fun r => r.reg) then s
    else ((s.modSlot slot (fun x => { x with held := true })).wr Reg.SYS_TEN_RST_TENANT t).beginTenantReset t 3 [slot.val]))

/-- TENANT_RESET_REQUEST: a write of 1 to SYS_TEN_RST.REQ with a tenant in TENANT; ignored while BUSY is 1 (R388). -/
def execTenantResetRequest (t : Fin 64) (s : State) : Host.Outcome State Fault Refusal :=
  .next (if s.keys.resets.any (fun r => r.reg) then s else (s.wr Reg.SYS_TEN_RST_TENANT t).beginTenantReset t 3 [])

/-- Host writes of a command that its port has not sent, discarded (R229). -/
def State.dropUnsent (s : State) (entry : Nat) : State :=
  let keep (k : Pkt) : Bool := !(decide (k.kind = .mwr) && (match k.owner with | .ring _ _ e => decide (e = entry) | _ => false))
  (List.range 4).foldl (fun s n => s.modPort n (fun p => { p with qCore := p.qCore.filter keep, fenced := p.fenced.filter keep })) s

/-- TENANT_RESET_IDLE_TIMEOUT: a core not idle IDLE_TMO after its request is reset alone, and its command completes
TENANT_RESET (R229). -/
def execTenantResetIdleTimeout (core : Fin 192) (s : State) : Host.Outcome State Fault Refusal :=
  let due (r : TenReset) (a : Nat × Nat × Nat) : Bool :=
    decide (a.1 = core) && decide ((s.core core).run = some a.2.1) && decide (a.2.2 + s.usRaw r.idle ≤ s.now)
  match s.keys.resets.find? (fun r => r.asked.any (due r)) with
  | none => .next s
  | some r =>
    let id := ((s.core core).run).getD 0
    let s1 := (s.dropUnsent id).finish id .tenantReset 0
    .next ((s1.coreReset core 2).modReset r.tenant (fun r => { r with alone := r.alone + 1, asked := r.asked.filter (fun a => a.1 ≠ core) })).freeImages

/-- PRF_T_ registers of a tenant at their reset values, its bucket and deficit empty (R220). -/
def State.clearLevels (s : State) (t : Nat) : State :=
  let r := regResetRange (regResetRange s.regs (0x50011000 + t * 0x40) (0x50011040 + t * 0x40)) (0x50012000 + t * 0x40) (0x50012040 + t * 0x40)
  ({ s with regs := r } : State).modPrf (fun x => { x with
    bucket := tabSet 0 x.bucket t 0, deficit := tabSet 0 x.deficit t 0, levels := x.levels.filter (fun e => e.1 ≠ t) })

/-- Programs loaded by a tenant: their numbers. -/
def State.programsOf (s : State) (t : Nat) : List Nat :=
  s.progs.loaded.filterMap (fun e => if e.1 / 65536 = t ∧ e.2.isSome then some (e.1 % 65536) else none)

/-- A program unloaded (R114, R116). -/
def State.unloadProgram (s : State) (t prog : Nat) : State :=
  match s.loadedImage t prog with
  | none => s
  | some i =>
    ({ s with progs := { s.progs with loaded := tabSet none s.progs.loaded (t * 65536 + prog) none } }.freeImages).emit
      .programUnloaded (some t) srcS0 t prog i.pver

/-- What R220 zeroises at once when a deletion's reset has ended. -/
def State.dropTenant (s : State) (t : Nat) : State :=
  let s1 := (s.programsOf t).foldl (fun s p => s.unloadProgram t p) s
  let s2 := ((s1.clearLevels t).wr (Reg.TBL_KH_CFG_GENOCC t) 0).noteHandles t
  (s2.modTenant t (fun x => { Tenant.absent with deleting := true, records := x.records })).mirror ⟨1, 7, t, 0, []⟩

/-- A tenant's flow contexts: stopped states cleared, and each written to the sealed store (R229): whether no line is awaited any
more, and the state. One that cannot be written stays on chip. -/
def State.storeFlows (s : State) (t : Nat) : Bool × State :=
  let mine := (s.prf.flows.filter (fun e => decide (e.1 / 2 ^ 20 = t) && e.2.stored.isNone)).map (·.1)
  mine.foldl (fun (a : Bool × State) k => let w := a.2.flowOut k; (a.1 && w.1, w.2)) (true, s.modPrf (fun p => { p with
    flows := tabMap Flow.fresh (fun (k : Nat) (f : Flow) => if k / 2 ^ 20 = t then { f with stoppedBy := [] } else f) p.flows }))

/-- Step 4 of R229 but for the flow contexts, with the flush of every DIRTY terminal entry before a reset of L3 (R253). -/
def State.resetTenantTables (s : State) (t : Nat) : State :=
  let s1 := ((s.flushTerms.purgeTerms t).invalidateTenant t).modPrf (fun p =>
    { p with bucket := tabSet 0 p.bucket t 0, paused := p.paused.filter (· ≠ t) })
  s1.resetPages t

/-- The message of step 5 of R229, on the bound port of ring 0; a refused one is tried again at each commit of a region of the
port's MPU (R421). -/
def State.resetMessage (s : State) (r : TenReset) : State :=
  if r.enable then s.sendDone ⟨r.tenant, (s.sq r.tenant 0).port, r.addr, r.data⟩ else s

/-- Whether step 3 of R229 has ended: no read of a ring outstanding, every command released, every completion written, and those
that left on another port than the message's acknowledged, so that the message is not seen before them (R45). -/
def State.tenantDrained (s : State) (t : Nat) : Bool :=
  s.prf.entries.all (fun e => e.tenant != t)
    && (List.range 16).all (fun q => (s.sq t q).fetch.isNone && !s.entryUnwritten t q)
    && (List.range 4).all (fun n => n == (s.sq t 0).port || !(s.port n).tenantUnacked t)

/-- TENANT_RESET_FINISH: steps 4 and 5 of R229 once every command of the tenant has been released; then a deletion goes
on (R220). Step 4 waits for the lines of the sealed store that it writes. -/
def execTenantResetFinish (t : Fin 64) (s : State) : Host.Outcome State Fault Refusal :=
  match s.keys.resets.find? (fun r => r.tenant == t.val) with
  | none => .next s
  | some r =>
    let w := s.wantLines (s.purgeWants t)
    if s.tenantDrained t = false then .next s
    else if w.1 = false then .next w.2
    else if (w.2.storeFlows t).1 = false then .next (w.2.storeFlows t).2
    else
      let s1 := (((w.2.storeFlows t).2).resetTenantTables t).resetMessage r
      let s2 := s1.modKeys (fun k => { k with resets := k.resets.filter (fun x => x.tenant ≠ t.val) })
      let body := natToLe 4 r.done ++ natToLe 4 r.alone
      let s3 := r.slots.foldl (fun s k => s.answer k .ok body) s2
      let s4 := s3.emit .tenantResetDone (some t) srcS0 t r.done r.alone
      .next (if r.deletion then s4.dropTenant t else s4)

/-- DELETE_TENANT: ceremony 0x04 starts the tenant reset that R220 begins with; the request waits for its response. -/
def execDeleteTenant (src : Fin 66) (s : State) : Host.Outcome State Fault Refusal :=
  .next (s.ceremonyOf src 0x04 (fun c s =>
    let t := byteAt c.param 0
    if c.param.length ≠ 1 ∨ 64 ≤ t then .refused .badFormat
    else if (s.tenant t).deleting then .refused .busy
    else if (s.tenant t).exist = false then .refused .noTenant
    else .later ((s.modTenant t (fun x => { x with deleting := true })).beginTenantReset t 2 [src.val])))

/-- The written lines of the spill table. -/
def State.spillLines (s : State) : List (Nat × Line) :=
  let base := s.rd Reg.TBL_TT_SPILL_BASE
  s.store.tree.lines.filter (fun e => decide (base ≤ e.1) && decide (e.1 < base + s.rd Reg.TBL_TT_SPILL_LINES))

/-- A tenant's entries of the spill table and of the overflow area deleted, with any left on chip (R220). -/
def State.dropSpilled (s : State) (t : Nat) : State :=
  let s0 := s.modTab (fun b => { b with spilled := b.spilled.filter (fun x => x.tenant ≠ t), terms := b.terms.filter (fun x => x.tenant ≠ t) })
  s.spillLines.foldl (fun s e =>
    let d := fitTo 256 e.2.data
    let mine := (List.range 8).filter (fun i =>
      match termOfBytes (slice d (32 * i) 32) with | some x => x.tenant == t | none => false)
    if mine.isEmpty then s
    else
      let w := s.lineWrite e.1 (mine.foldl (fun d i => patch d (32 * i) (zeros 32)) d)
      if w.1 then w.2.wr Reg.TBL_TT_OCC_SPILLED (s.rd Reg.TBL_TT_OCC_SPILLED - mine.length) else s) s0

/-- The written lines of a tenant's records. -/
def State.recordLines (s : State) (t : Nat) : List Nat :=
  let base := s.rd (Reg.TBL_KH_BASE_BASE t)
  (s.store.tree.lines.map (·.1)).filter (fun i => decide (base ≤ i) && decide (i < base + 0x800000))

/-- TENANT_DELETE_DONE: S1 has deleted the tenant's records and spilled entries (R220). It waits while the store is CLOSED, and
for the lines. -/
def execTenantDeleteDone (t : Fin 64) (s : State) : Host.Outcome State Fault Refusal :=
  let x := s.tenant t
  let w := s.wantLines ((s.recordLines t ++ s.spillLines.map (·.1)).map (fun i => ⟨i, true, true, 0⟩))
  .next (if x.deleting = false ∨ x.exist ∨ s.tenantResetting t ∨ s.store.st = .closed then s
    else if w.1 = false then w.2
    else
      let r := w.2.dropRecords t none
      ((r.2.dropSpilled t).modTenant t (fun _ => Tenant.absent)).emit .tenantDeleted (some t) srcS1 t r.1 0)

/-- Offsets of a package: constants, signature, end (R109). -/
def packageEnds (p : Bytes) : Nat × Nat × Nat :=
  let c := (128 + leAt p 20 4 + 63) / 64 * 64
  let g := (c + leAt p 24 4 + 7) / 8 * 8
  (c, g, g + (if byteAt p 30 = 1 then 2820 else 3309))

/-- Check 1 of R112. -/
def packageFields (p : Bytes) : Bool :=
  let n := byteAt p 28
  decide (leAt p 0 4 = 0x31505A56 ∧ leAt p 4 2 = 1 ∧ byteAt p 14 < 32 ∧ byteAt p 15 < 8) && allZero (slice p 31 33)
    && (List.range 16).all (fun i => if i < n then decide (byteAt p (67 + 4 * i) < 16) else allZero (slice p (64 + 4 * i) 4))

/-- Check 2 of R112. -/
def packageLengths (p : Bytes) : Bool :=
  decide (128 ≤ p.length ∧ 1 ≤ leAt p 16 4 ∧ leAt p 16 4 ≤ 2 ^ 28 ∧ leAt p 20 4 % 4 = 0 ∧ 4 ≤ leAt p 20 4 ∧ leAt p 20 4 ≤ 32768)
    && decide (leAt p 24 4 ≤ 65536 ∧ byteAt p 28 ≤ 16 ∧ (byteAt p 30 = 1 ∨ byteAt p 30 = 2)) && decide ((packageEnds p).2.2 = p.length)

/-- The key that R111 names for a package. -/
def State.packageKey (s : State) (t : Nat) (p : Bytes) : Bytes :=
  if leAt p 6 2 < 0x8000 then Config.ahnileProgramKey else tabGet [] (s.tenant t).progKeys (byteAt p 30)

/-- The reason for which a package is refused, if any (R112). Check 7 is made of every package, and before the signature is checked
under the key; a package of Ahnile's with SIGALG 2, which R111 excludes, is given reason 3, though row 3 names PROG and TENANT only
(log entry 56). -/
def State.packageFault (s : State) (t : Nat) (p : Bytes) : Option Nat :=
  let prog := leAt p 6 2
  let own := leAt p 12 2
  let g := (packageEnds p).2.1
  let key := s.packageKey t p
  if packageFields p = false then some 1
  else if packageLengths p = false then some 2
  else if (if prog < 0x8000 then own ≠ 0xFFFF ∨ byteAt p 30 ≠ 1 else own ≠ t) then some 3
  else if tabGet [] (s.tenant t).progKeys (byteAt p 30) = [] then some 7
  else if (if byteAt p 30 = 1 then Config.xmssVerify key (p.take g) (p.drop g) else Config.mldsaVerify 8 key (p.take g) (p.drop g)) = false
    then some 4
  else if leAt p 8 4 < tabGet 0 s.progs.floors (t * 65536 + prog) then some 5
  else if 1024 ≤ (s.programsOf t).length ∧ (s.loadedImage t prog).isNone then some 6
  else none

/-- The image of a good package (R109, R110). -/
def imageOf (id t line : Nat) (p : Bytes) : Image where
  id := id
  tenant := t
  prog := leAt p 6 2
  pver := leAt p 8 4
  cls := byteAt p 14
  rand := bitAt (byteAt p 15) 0
  tctx := bitAt (byteAt p 15) 1
  d2 := bitAt (byteAt p 15) 2
  budget := leAt p 16 4
  code := slice p 128 (leAt p 20 4)
  consts := slice p (packageEnds p).1 (leAt p 24 4)
  usage := (List.range (byteAt p 28)).map (fun i => ⟨leAt p (64 + 4 * i) 2, byteAt p (66 + 4 * i), byteAt p (67 + 4 * i) % 16⟩)
  must := byteAt p 29 % 16
  may := byteAt p 29 / 16
  package := p
  line := line

/-- The data lines that a package of n bytes takes. -/
def imageLines (n : Nat) : Nat := (n + 255) / 256
/-- The first of the data lines that S0 gives a new image: after every image that is held (R115; log entry 57). -/
def State.imageLine (s : State) : Nat :=
  s.progs.images.foldl (fun n i => max n (i.line + imageLines i.package.length)) Config.imageBase

/-- The lines that a package is written to. -/
def State.imageWants (s : State) (p : Bytes) : List Want := (List.range (imageLines p.length)).map (fun k => ⟨s.imageLine + k, false, true, 0⟩)

/-- A good package written to the sealed store and loaded, its floor raised (R113 to R115): whether its lines could be written.
Commands that are not dispatched go over to the new image (R114 sentence 1; sentence 4 is read as speaking of an unload: log entry
56). -/
def State.loadProgram (s : State) (t : Nat) (p : Bytes) : Bool × State :=
  let k := t * 65536 + leAt p 6 2
  let l := s.imageLine
  let w := (List.range (imageLines p.length)).foldl (fun (r : Bool × State) i =>
    if r.1 then r.2.lineWrite (l + i) (slice p (256 * i) 256) else r) (true, s)
  if w.1 = false then w
  else
    let i := imageOf s.progs.next t l p
    let old := (tabGet none s.progs.loaded k).getD 0
    let s1 : State := { w.2 with progs := { w.2.progs with
      images := w.2.progs.images ++ [i]
      loaded := tabSet none w.2.progs.loaded k (some i.id)
      floors := tabSet 0 w.2.progs.floors k (max (leAt p 8 4) (tabGet 0 w.2.progs.floors k))
      next := i.id + 1 } }
    (true, (s1.modPrf (fun x => { x with entries := x.entries.map (fun e =>
      if e.inStore ∧ e.tenant = t ∧ e.prog = i.prog ∧ e.image = old ∧ old ≠ 0 then { e with image := i.id, needRand := i.rand, cls := i.cls }
      else e) })).freeImages)

/-- PROGRAM_LOAD: OP 0x10, a package checked and loaded (R112 to R115), mirrored. It waits for the paths of its lines; a store that
is not OPEN gives STORE_STATE (R267; log entry 35). -/
def execProgramLoad (slot : Fin 65) (s : State) : Host.Outcome State Fault Refusal :=
  .next (s.serveOp slot 0x10 (fun b s =>
    let prog := leAt b 6 2
    match s.packageFault slot b with
    | some n => (s.emit .programLoadRefused (some slot) srcS0 slot prog n).respond slot .programRefused (natToLe 1 n)
    | none =>
      let w := s.wantLines (s.imageWants b)
      if s.store.st ≠ .opened then s.respond slot .storeState []
      else if w.1 = false then w.2
      else
        match w.2.loadProgram slot b with
        | (false, _) => s.respond slot .blockIntegrity []
        | (true, s') =>
          let s1 := s'.mirror ⟨7, 1, slot, prog, natToLe 4 (leAt b 8 4) ++ natToLe 4 b.length ++ b⟩
          (s1.emit .programLoaded (some slot) srcS0 slot prog (leAt b 8 4)).respond slot .ok []))

/-- PROGRAM_UNLOAD: OP 0x11 (R114), mirrored. -/
def execProgramUnload (slot : Fin 65) (s : State) : Host.Outcome State Fault Refusal :=
  .next (s.serveOp slot 0x11 (fun b s =>
    let prog := leAt b 0 2
    if b.length ≠ 2 then s.respond slot .badFormat []
    else if (s.loadedImage slot prog).isNone then s.respond slot .notFound []
    else ((s.unloadProgram slot prog).mirror ⟨7, 2, slot, prog, []⟩).respond slot .ok []))

end Sys2Proof.Machine
end

