-- ==== Sys2Proof/Machine/TimeOps.lean ====
section
/-! DEFINITION. The time base: advance, pulses, trust states, restart (R285 to R292). -/

namespace Sys2Proof.Machine

/-- The time base changed by a function. -/
def State.modTime (s : State) (f : TimeBase → TimeBase) : State := { s with time := f s.time }

/-- C in 40.24 fixed point: the mean of the accepted intervals, or the declared period in time-base cycles (R287). -/
def State.c24 (s : State) : Nat :=
  match s.time.ivals with
  | [] => s.periodNs * 2 ^ 22
  | l => l.foldl (· + ·) 0 * 2 ^ 24 / l.length

/-- Whether 16 accepted intervals have followed the last restart of discipline (R287). -/
def TimeBase.disciplined (t : TimeBase) : Bool := decide (16 ≤ t.ivals.length)

/-- The fraction of device time (R286). -/
def TimeBase.frac (t : TimeBase) : Nat := t.now % 2 ^ 24

/-- Device time and its remainder after `n` cycles at a rate: 2^24 / C per cycle; in TRUSTED the fraction stops at
0xFF_FFFF (R287, R289). -/
def TimeBase.run' (t : TimeBase) (c24 n : Nat) : TimeBase :=
  let total := t.acc + n * 2 ^ 48
  let units := total / c24
  if t.state = .trusted ∧ 0xFFFFFF ≤ t.frac + units then
    { t with now := t.now - t.frac + 0xFFFFFF, acc := 0, cyc := t.cyc + n, trefLeft := t.trefLeft - n }
  else
    { t with now := t.now + units, acc := total % c24, cyc := t.cyc + n, trefLeft := t.trefLeft - n }

/-- Bit rates of CSP_CTL.BAUD (R213). -/
def cspRate (baud : Nat) : Nat := 115200 * 2 ^ baud

/-- Bytes that leave the serial port's transmit FIFO in `n` cycles of 250 MHz: ten bit times each (R213). -/
def Csp.drain (c : Csp) (rate n : Nat) : Csp :=
  let acc := c.txAcc + n * rate
  let all := c.tx ++ c.pend
  let k := min all.length (acc / 2500000000)
  { c with tx := (all.drop k).take 64, pend := (all.drop k).drop 64, out := c.out ++ all.take k
           txAcc := if all.length ≤ k then 0 else acc - k * 2500000000 }

/-- The serial port as time passes, while it is enabled. -/
def State.cspDrain (s : State) (n : Nat) : State :=
  if s.bit Reg.CSP_CTL_EN then
    { s with keys := { s.keys with csp := s.keys.csp.drain (cspRate (s.rd Reg.CSP_CTL_BAUD)) n } }
  else s

/-- `n` cycles of the time-base clock: device time, and the guard timer at its nominal 32,768 Hz. -/
def State.advance (s : State) (n : Nat) : State :=
  let g := s.time.guardAcc + n * 32768
  let s1 := s.modTime (fun t => { t.run' (max 1 s.c24) n with guardAcc := g % 250000000 })
  (s1.cspDrain n).addTo Reg.GRD_TIMER_COUNT (g / 250000000)

/-- The declared period in time-base cycles. -/
def State.periodCyc (s : State) : Nat := s.periodNs / 4

/-- W in time-base cycles: TIM_WINDOW parts per million of the declared period, at least 2 (R288). -/
def State.winCyc (s : State) : Nat := max 2 (s.periodNs * s.rd Reg.TIM_WINDOW_PPM / 1000000 / 4)

/-- W_h: W plus the oscillator bound times the time spent in HOLDOVER, capped at a quarter of the period (R290). -/
def State.winHold (s : State) : Nat :=
  let ppm := if s.time.disciplined then 2 else 50
  min (s.periodCyc / 4) (s.winCyc + (s.time.cyc - s.time.holdCyc) * ppm / 1000000)

/-- The expected edge: the last tick edge plus C cycles (R288). -/
def State.expectedEdge (s : State) : Nat := s.time.lastEdge + s.c24 / 2 ^ 24

/-- Cycles to the nearest synthetic tick edge (R289, R290). -/
def State.edgeDistance (s : State) : Nat :=
  let f := s.time.frac
  min f (2 ^ 24 - f) * s.c24 / 2 ^ 48

/-- Whether TREF_OUT is driven (R294): in TRUSTED, and in HOLDOVER where OUT_HOLD is 1. -/
def State.trefDriven (s : State) : Bool :=
  s.bit Reg.TIM_CTL_OUT_EN &&
    (match s.time.state with | .trusted => true | .holdover => s.bit Reg.TIM_CTL_OUT_HOLD | .untrusted => false)

/-- TREF_OUT held low where it is no longer driven (R294). -/
def State.trefSettle (s : State) : State := if s.trefDriven then s else s.modTime (fun t => { t with trefLeft := 0 })

/-- Entry into HOLDOVER with its cause (R290, R304): 1 rejected, 2 missing, 3 restart, 4 period change. -/
def State.enterHoldover (s : State) (cause : Nat) : State :=
  let left := s.time.state = .trusted
  (((s.modTime (fun t => { t with state := .holdover, run := 0, runU := 0, holdCyc := t.cyc
                                  holdNow := if left then t.now else t.holdNow })).trefSettle).inc (Reg.TIM_CNT_COUNT 3)).emit
    .timeHoldover none (Config.blockSource 2) cause 0 0

/-- Entry into UNTRUSTED with its cause (R290, R304): 1 holdover expired, 2 restart. The intervals counted so far no
longer discipline the time base (R287). -/
def State.enterUntrusted (s : State) (cause : Nat) : State :=
  (((s.modTime (fun t => { t with state := .untrusted, ivals := [] })).trefSettle).inc (Reg.TIM_CNT_COUNT 4)).emit
    .timeUntrusted none (Config.blockSource 2) cause 0 0

/-- Alignment at an accepted pulse (R289): the synthetic edge ahead takes device time to the next tick; one behind
leaves the count. The pulses inside a run of UNTRUSTED do not align (the example of chapter 12; log entry 53). -/
def State.align (s : State) : State :=
  s.modTime (fun t =>
    let ahead := 2 ^ 23 ≤ t.frac
    { t with now := if ahead then t.now - t.frac + 2 ^ 24 else t.now, acc := if ahead then 0 else t.acc
             lastEdge := t.cyc, lastTime := if ahead then t.now - t.frac + 2 ^ 24 else t.now })

/-- An accepted pulse's interval joins the mean where it is one tick (R287). -/
def TimeBase.addInterval (t : TimeBase) (c24 : Nat) : TimeBase :=
  match t.lastAcc with
  | none => { t with lastAcc := some t.cyc }
  | some a =>
    let iv := t.cyc - a
    let oneTick := c24 ≤ 2 * iv * 2 ^ 24 ∧ 2 * iv * 2 ^ 24 < 3 * c24
    { t with lastAcc := some t.cyc, ivals := if oneTick then (iv :: t.ivals).take 16 else t.ivals }

/-- The return to TRUSTED at the last pulse of a run (R290, R289). -/
def State.relock (s : State) : State :=
  let prev := s.time.state.val
  let before := s.time.now
  let run := s.time.run
  let s1 := (s.modTime (fun t => { t with state := .trusted })).align
  let s2 := (s1.modTime (fun t => { t with run := 0, runU := 0 })).inc (Reg.TIM_CNT_COUNT 5)
  s2.emit .timeTrusted none (Config.blockSource 2) prev (s2.time.now - before) run

/-- A pulse in HOLDOVER or UNTRUSTED: the run goes on or is broken, and the Nth pulse of a run relocks (R290). -/
def State.pulseUntrusted (s : State) : State :=
  let t := s.time
  let n := max 1 (s.rd Reg.TIM_RELOCK_COUNT)
  let iv := t.cyc - t.lastPulse
  let ivOk := decide (s.periodCyc ≤ iv + s.winCyc) && decide (iv ≤ s.periodCyc + s.winCyc)
  let runU := if ivOk ∧ t.runU ≠ 0 then t.runU + 1 else 1
  match t.state with
  | .holdover =>
    if s.edgeDistance ≤ s.winHold then
      let s1 := (s.modTime (fun t => { t.addInterval s.c24 with run := t.run + 1, runU := runU, lastPulse := t.cyc })).inc
        (Reg.TIM_CNT_COUNT 0)
      if n ≤ s1.time.run then s1.relock else s1.align
    else s.modTime (fun t => { t with run := 0, runU := runU, lastPulse := t.cyc })
  | _ =>
    let goes := ivOk && t.run != 0
    let s1 := s.modTime (fun t =>
      let t1 := if goes then t else { t with ivals := [], lastAcc := none }
      { t1.addInterval s.c24 with run := if goes then t.run + 1 else 1, runU := runU, lastPulse := t.cyc
                                  lastTime := t.now })
    let s2 := s1.inc (Reg.TIM_CNT_COUNT 0)
    if n ≤ s2.time.run ∧ n ≤ s2.time.runU then s2.relock else s2

/-- Cycles since the last synthetic tick edge (R289, R290). -/
def State.edgePast (s : State) : Nat := s.time.frac * s.c24 / 2 ^ 48

/-- Cycles since the last synthetic edge whose window W_h has passed (R290). `late` as in `State.pulseMissing`. -/
def State.edgeDue (s : State) (late : Nat) : Nat :=
  if s.winHold + late ≤ s.edgePast then s.edgePast else s.edgePast + s.c24 / 2 ^ 24

/-- A pulse declared missing where one is due (R288, R290). In TRUSTED, at the expected edge plus W, the tick count advances
and the fraction resumes from the expected edge; in HOLDOVER no pulse has come by a synthetic edge plus W_h, and in UNTRUSTED
none by the run's last pulse plus the declared period plus W: the run is broken. `late`: 1 for a pulse that comes after that moment, 0 for
the moment itself. -/
def State.pulseMissing (s : State) (late : Nat) : State :=
  let t := s.time
  match t.state with
  | .trusted =>
    let e := s.expectedEdge
    let w := s.winCyc
    if e + w + late ≤ t.cyc then
      let c24 := max 1 s.c24
      let s1 := (s.modTime (fun t => { t with
        now := t.now - t.frac + 2 ^ 24 + w * 2 ^ 48 / c24, lastEdge := e, acc := 0, cyc := e + w })).inc (Reg.TIM_CNT_COUNT 2)
      (s1.enterHoldover 2).modTime (fun u => { u.run' c24 (t.cyc - (e + w)) with trefLeft := u.trefLeft })
    else s
  | .holdover =>
    let x := s.edgeDue late
    if t.lastEdge + s.winHold + x < t.cyc then
      (s.modTime (fun t => { t with run := 0, runU := 0, lastEdge := t.cyc - x })).inc (Reg.TIM_CNT_COUNT 2)
    else s
  | .untrusted =>
    if t.run ≠ 0 ∧ t.lastPulse + s.periodCyc + s.winCyc + late ≤ t.cyc then
      (s.modTime (fun t => { t with run := 0, runU := 0, ivals := [], lastAcc := none })).inc (Reg.TIM_CNT_COUNT 2)
    else s

/-- A rising edge on TREF_IN at the time base's cycle (R288, R290): a pulse that was due and has not come is missing first. -/
def State.pulse (s0 : State) : State :=
  let s := s0.pulseMissing 1
  match s.time.state with
  | .trusted =>
    let e := s.expectedEdge
    if s.time.cyc + s.winCyc < e then
      let iv := s.time.cyc - s.time.lastEdge
      let s1 := (s.inc (Reg.TIM_CNT_COUNT 1)).emit .timePulseRejected none (Config.blockSource 2) iv s.winCyc 0
      (s1.modTime (fun t => { t with lastPulse := t.cyc })).enterHoldover 1
    else
      let s1 := (s.modTime (fun t => { t.addInterval s.c24 with lastPulse := t.cyc })).inc (Reg.TIM_CNT_COUNT 0)
      s1.align
  | _ => s.pulseUntrusted

/-- Whether H has elapsed since entry into HOLDOVER, on the internal oscillator (R290). -/
def State.holdoverOver (s : State) : Bool :=
  decide (s.time.state = .holdover)
    && decide (s.rd Reg.TIM_HOLDOVER_SECONDS * 250000000 ≤ s.time.cyc - s.time.holdCyc)

/-- The smallest number of periods that covers `ns` nanoseconds. -/
def ceilDiv (ns p : Nat) : Nat := (ns + (p - 1)) / max 1 p

/-- The restart of the time base after a reset that reaches it (R291): the tick count from the last save and the guard
timer, the state by the uncertainty u, or the unit's tick advanced by a second and GAP set where the guard timer was
lost. -/
def State.timeRestart (s : State) (guardLost : Bool) : State :=
  let t := s.time
  let saved := t.saves.headD (0, 0)
  let p := t.mramPeriod
  let s0 := (s.wr Reg.TIM_PERIOD_PERIOD_NS p)
  if guardLost then
    let add := ceilDiv 1000000000 p
    let s1 := s0.modTime (fun t => { t with now := (saved.1 + add) * 2 ^ 24, acc := 0, ivals := [], lastAcc := none
                                            run := 0, runU := 0, gap := true, mramWallValid := false, state := .trusted
                                            pend := none, edgeDone := saved.1 + add, peer := none, diffRun := 0, eqRun := 0
                                            lastTime := 0, saveSec := (saved.1 + add) * p / 1000000000
                                            holdNow := (saved.1 + add) * 2 ^ 24, holdCyc := t.cyc })
    (s1.emit .timeRestarted none (Config.blockSource 2) add 0 2).enterUntrusted 2
  else
    let eNs := (s.rd Reg.GRD_TIMER_COUNT + 2 ^ 48 - saved.2) % 2 ^ 48 * 1000000000 / 32768
    let u := eNs * 200 / 1000000 + 61000
    let add := ceilDiv (eNs + u) p
    let s1 := s0.modTime (fun t => { t with now := (saved.1 + add) * 2 ^ 24, acc := 0, ivals := [], lastAcc := none
                                            run := 0, runU := 0, state := .untrusted
                                            pend := none, edgeDone := saved.1 + add, peer := none, diffRun := 0, eqRun := 0
                                            lastTime := 0, saveSec := (saved.1 + add) * p / 1000000000
                                            holdNow := saved.1 * 2 ^ 24 })
    let s2 := s1.emit .timeRestarted none (Config.blockSource 2) add (u / 1000) 1
    if u < p / 4 then
      -- H counts from the saved edge: the cycle count moves on by the estimate (R291)
      let s3 := s2.enterHoldover 3
      s3.modTime (fun t => { t with cyc := t.cyc + eNs / 4 })
    else s2.enterUntrusted 2

end Sys2Proof.Machine
end

