-- ==== Sys2Proof/Machine/Store.lean ====
section
/-! DEFINITION. The sealed store's operations: format, open, checkpoints, rekey (R258, R259, R267 to R282). -/

namespace Sys2Proof.Machine

/-- Bytes of the store space for N lines (R258). -/
def storeSpace (n : Nat) : Nat := (272 * n + 256 * nodeTotal n + 4095) / 4096 * 4096

/-- A store body (R269): N, record address, number, extents as host address, offset and length; none where its format
fails. -/
def storeBody (b : Bytes) : Option (Nat × Nat × Nat × List (Nat × Nat × Nat)) :=
  let e := leAt b 20 4
  if b.length < 24 ∨ e = 0 ∨ 16 < e ∨ b.length ≠ 24 + 24 * e ∨ leAt b 8 8 % 64 ≠ 0 then none
  else some (leAt b 0 8, leAt b 8 8, leAt b 16 4,
    (List.range e).map (fun i => (leAt b (24 + 24 * i) 8, leAt b (32 + 24 * i) 8, leAt b (40 + 24 * i) 8)))

/-- Extents in the order of their offsets that follow one another without gap or overlap up to an end (R259). -/
def extentsFrom : List (Nat × Nat × Nat) → Nat → Nat → Bool
  | [], at_, fin => decide (at_ = fin)
  | (_, off, len) :: r, at_, fin => decide (off = at_) && decide (len ≠ 0) && extentsFrom r (at_ + len) fin

/-- Whether extents keep R259 for N lines, and N keeps R258. -/
def State.extentsGood (s : State) (n : Nat) (l : List (Nat × Nat × Nat)) : Bool :=
  decide (n % 8192 = 0 ∧ 8192 ≤ n ∧ n ≤ 2 ^ 33)
    && l.all (fun e => decide (e.1 % 4096 = 0 ∧ e.2.1 % 4096 = 0 ∧ e.2.2 % 4096 = 0))
    && extentsFrom (l.mergeSort (fun a b => decide (a.2.1 ≤ b.2.1))) 0 (storeSpace n)
    && l.all (fun e => (s.mpuFirst 8 .host ⟨.u, none, .read⟩ e.1 e.2.2).isNone && (s.mpuFirst 8 .host ⟨.u, none, .write⟩ e.1 e.2.2).isNone)

/-- Extents and the record address written to their registers. -/
def State.writeExtents (s : State) (addr : Nat) (l : List (Nat × Nat × Nat)) : State :=
  (List.range 16).foldl (fun s e =>
    let x := l.getD e (0, 0, 0)
    ((s.wr (Reg.SST_EXT_HOST_ADDR e) (x.1 / 4096)).wr (Reg.SST_EXT_MAP_START e) (x.2.1 / 4096)).wr (Reg.SST_EXT_MAP_PAGES e) (x.2.2 / 4096))
    (s.wr Reg.SST_CKPT_ADDR_ADDR (addr / 64))

/-- What S0 and S1 hold in the store beside the tree, taken from an image: the overflow area of terminal entries, the archive,
the program images and the shadow of the Sieve, which the Sieve is loaded from (R115, R251, R255, R276). Images that commands
still run are kept. -/
def State.storeClients (s : State) (overflow : List Term) (arch : List ArchSegment × List Image × Table (Option Nat))
    (shadow : List Prefix_ × Table Nat) : State :=
  let s1 := s.modTab (fun t => { t with
    spilled := overflow, shadow := shadow.1, shadowFilter := shadow.2, prefixes := shadow.1, filter := shadow.2 })
  ({ s1 with
      evr := { s1.evr with archive := arch.1, archNext := if arch.1.isEmpty then 0 else s1.evr.archNext }
      progs := { s1.progs with
        images := arch.2.1 ++ s1.progs.images.filter (fun i => !arch.2.1.any (fun j => j.id == i.id)), loaded := arch.2.2 } } : State).freeImages

/-- STORE_FORMAT: OP 0x40, accepted only in UNFORMATTED (R270). Without a device root key it gives WRONG_STATE
(log entry 37). -/
def execStoreFormat (slot : Fin 65) (s : State) : Host.Outcome State Fault Refusal :=
  .next (s.serveOp slot 0x40 (fun b s =>
    match storeBody b with
    | none => s.respond slot .badFormat []
    | some (n, addr, num, exts) =>
      if num ≠ 0 then s.respond slot .badFormat []
      else if s.store.st ≠ .unformatted then s.respond slot .storeState []
      else if s.keys.root.isNone then s.respond slot .wrongState []
      else if s.extentsGood n exts = false then s.respond slot .extentInvalid []
      else
        let s1 := (s.writeExtents addr exts).modStore (fun r =>
          { Store.reset with st := .opened, n := n, high := 1, openNum := 1, gen := (1, 1), lastCut := s.now, lastCutCyc := s.time.cyc
                             nextRead := r.nextRead })
        let s2 := s1.storeClients [] ([], [], []) ([], [])
        (s2.emit .storeFormatted none srcStore (hiWord n) (loWord n) 0).respond slot .ok []))

/-- The level-5 nodes of an image, as the engine read them, checked against a record's root counters (R271). -/
def State.imageGood (s : State) (r : Root) (nodes : Bytes) : Bool :=
  (List.range (nodeCount r.n 5)).all (fun j =>
    let ver := (r.tree.node (nodePos r.n 5 j)).ver
    let b := slice nodes (256 * j) 256
    let g := leAt b 224 2
    decide (ver = 0) || ((decide (g = r.gen) || decide (g = r.old)) && decide (slice b 0 226 = (r.tree.nodeHead r.n 5 j).take 226)
      && (slice b 240 16 == nodeMac (s.treeKey g) 5 j g ver (b.take 240))))

/-- Records of a tenant counted anew by generation (R271, R193). -/
def State.recount (s : State) (t : Nat) : State :=
  let base := s.rd (Reg.TBL_KH_BASE_BASE t)
  let lines := s.store.tree.lines.filter (fun e => decide (base ≤ e.1) && decide (e.1 < base + 0x800000))
  let recs := (lines.flatMap (fun e => let d := fitTo 256 e.2.data; [d.take 128, d.drop 128])).filter holdsRecord
  let n (g : Nat) : Nat := (recs.filter (fun r => decide (recordGen r = g))).length
  s.modTenant t (fun x => { x with
    records := (List.range 4).foldl (fun m g => tabSet 0 m g (n g)) []
    migrate := x.migrate.map (fun (m : Migration) => { m with moved := 0, at_ := 0 }) })

/-- The record that STORE_OPEN names: DURABLE_A, DURABLE_B, or LIVE while it is FLUSHED (R271). -/
def Store.named (r : Store) (num : Nat) : Option (Root × Bool) :=
  if num = 0xFFFFFFFF then (if r.flushed then r.live.map (fun x => (x, true)) else none)
  else
    match [r.durA, r.durB].findSome? (fun d => d.bind (fun (x : Root) => if x.num = num then some x else none)) with
    | some x => some (x, false)
    | none => none

/-- Steps 1 to 5 of R271 for a record: the first and last lost number, and the state. -/
def State.openImage (s : State) (x : Root) (live : Bool) : Nat × Nat × State :=
  let h := s.store.high
  let s1 := s.modStore (fun r => { r with
    st := .opened, n := x.n, tree := x.tree, dirty := [], cache := [], live := some x, flushed := false
    pend := if live then r.pend else none
    high := h + 1, openNum := h + 1, gen := (x.gen, x.old), ptr := x.ptr
    mramRekey := if x.gen = x.old then none else some (x.old, x.gen, x.ptr)
    wantCut := false, lastCut := s.now, lastCutCyc := s.time.cyc, poison := [], poisonAt := [] })
  let s3 := s1.storeClients x.overflow (x.arch, x.images, x.loaded) x.shadow
  let s4 := (List.range 64).foldl (fun s t =>
    if (s.tenant t).exist then (if live then s else s.recount t).purgeRetired t else s) s3
  let lost : Nat × Nat := if live ∨ h ≤ x.num then (0, 0) else (x.num + 1, h)
  (lost.1, lost.2, s4.emit .storeOpened none srcStore x.num lost.1 lost.2)

/-- STORE_OPEN: OP 0x41, accepted only in CLOSED for a durable checkpoint or a flushed LIVE (R271). `nodes` is what the
engine read of the image's level-5 nodes, one after another. -/
def execStoreOpen (slot : Fin 65) (nodes : Bytes) (s : State) : Host.Outcome State Fault Refusal :=
  .next (s.serveOp slot 0x41 (fun b s =>
    match storeBody b with
    | none => s.respond slot .badFormat []
    | some (n, addr, num, exts) =>
      if s.store.st ≠ .closed then s.respond slot .storeState []
      else
        match s.store.named num with
        | none => s.respond slot .notDurable []
        | some (x, live) =>
          if s.extentsGood n exts = false ∨ n ≠ x.n then s.respond slot .extentInvalid []
          else if s.imageGood x nodes = false then s.respond slot .imageInvalid []
          else
            let (first, last, s1) := (s.writeExtents addr exts).openImage x live
            s1.respond slot .ok (natToLe 4 x.num ++ natToLe 4 first ++ natToLe 4 last ++ natToLe 4 s1.store.openNum)))

/-- A cut asked for: only while OPEN with nothing PENDING (R272). -/
def State.askCut (s : State) : State :=
  if s.store.st = .opened ∧ s.store.pend.isNone then s.modStore (fun r => { r with wantCut := true }) else s

/-- STORE_CHECKPOINT: OP 0x42 asks for a cut and returns its number (R269, R272). -/
def execStoreCheckpoint (slot : Fin 65) (s : State) : Host.Outcome State Fault Refusal :=
  .next (s.serveOp slot 0x42 (fun b s =>
    if b.isEmpty = false then s.respond slot .badFormat []
    else if s.store.st ≠ .opened then s.respond slot .storeState []
    else if s.store.pend.isSome then s.respond slot .cutPending []
    else s.askCut.respond slot .ok (natToLe 4 s.store.openNum)))

/-- The number of a root record; 0 where there is none. -/
def rootNum (r : Option Root) : Nat := (r.map (·.num)).getD 0

/-- The PENDING checkpoint moved to the older durable slot, if it has the acknowledged number (R275). -/
def State.storeAck (s : State) (num : Nat) : Bool × State :=
  match s.store.pend with
  | none => (false, s)
  | some x =>
    if x.num ≠ num then (false, s)
    else
      let intoA := decide (rootNum s.store.durA ≤ rootNum s.store.durB)
      let dropped := if intoA then rootNum s.store.durA else rootNum s.store.durB
      let s1 := s.modStore (fun r => { r with
        pend := none, durA := if intoA then some x else r.durA, durB := if intoA then r.durB else some x })
      (true, (s1.wr Reg.SST_DURABLE_ACK_NUMBER num).emit .checkpointDurable none srcStore num dropped 0)

/-- STORE_DURABLE_ACK: OP 0x43, accepted in OPEN and CLOSED (R275). -/
def execStoreDurableAck (slot : Fin 65) (s : State) : Host.Outcome State Fault Refusal :=
  .next (s.serveOp slot 0x43 (fun b s =>
    if b.length ≠ 4 then s.respond slot .badFormat []
    else if s.store.st = .unformatted then s.respond slot .storeState []
    else
      let r := s.storeAck (leAt b 0 4)
      if r.1 then r.2.respond slot .ok [] else s.respond slot .notDurable []))

/-- STORE_STATUS: OP 0x44. Each value is given in 4 bytes (log entry 38). -/
def execStoreStatus (slot : Fin 65) (s : State) : Host.Outcome State Fault Refusal :=
  .next (s.serveOp slot 0x44 (fun b s => s.emptyBody slot b (
    let r := s.store
    s.respond slot .ok (([r.st.val, rootNum r.live, rootNum r.pend, rootNum r.durA, rootNum r.durB, r.openNum]).flatMap (natToLe 4)))))

/-- Time since the last cut, as raw device time: by the internal oscillator while device time is untrusted (R272). -/
def State.sinceCut (s : State) : Nat :=
  if s.time.state = .untrusted then (s.time.cyc - s.store.lastCutCyc) * 2 ^ 24 / max 1 s.periodCyc else s.now - s.store.lastCut

/-- CHECKPOINT_INTERVAL_EXPIRY: INTERVAL has passed since the last cut (R272). -/
def execCheckpointIntervalExpiry (s : State) : Host.Outcome State Fault Refusal :=
  let i := s.rd Reg.SST_CKPT_CFG_INTERVAL
  .next (if i ≠ 0 ∧ i ≤ s.sinceCut then s.askCut else s)

/-- SST_CUT: a write of SST_CTL.CUT (R272). -/
def execSstCut (s : State) : Host.Outcome State Fault Refusal := .next s.askCut

/-- The checkpoint record written to host memory, after every store write before it (R272). -/
def State.writeCheckpoint (s : State) (x : Root) : State :=
  let a := s.rd Reg.SST_CKPT_ADDR_ADDR * 64
  match s.mpuFirst 8 .host ⟨.u, none, .write⟩ a 64 with
  | some f => s.mpuReport 8 ⟨.u, none, .write⟩ f
  | none => s.hostWrite s.storePort .store false a x.bytes .store

/-- CHECKPOINT_CUT_START: a cut runs in the order of R272, once the lines of the spill table that it writes are at hand and no
access waits at a lock. -/
def execCheckpointCutStart (s0 : State) : Host.Outcome State Fault Refusal :=
  .next (if s0.store.wantCut = false ∨ s0.store.st ≠ .opened ∨ s0.store.pend.isSome then s0
    else if (s0.wantLines s0.flushWants).1 = false ∨ s0.store.lock.isEmpty = false then (s0.wantLines s0.flushWants).2
    else
      let s := (s0.wantLines s0.flushWants).2
      let num := s.store.openNum
      let s1 := s.modStore (fun r => { r with openNum := num + 1, high := num + 1, wantCut := false, lastCut := s.now, lastCutCyc := s.time.cyc })
      let w := s1.flushTerms.writeNodes
      let x := w.2.rootOf num
      ((w.2.modStore (fun r => { r with pend := some x })).writeCheckpoint x).emit .checkpointCut none srcStore num w.1 0)

/-- SST_REKEY: a write of SST_CTL.REKEY starts a rekey of an open store; ignored while one runs (R279). -/
def execSstRekey (s : State) : Host.Outcome State Fault Refusal :=
  .next (if s.store.st = .opened ∧ s.store.rekeying = false then s.beginRekey 1 else s)

/-- One position of the rekey walk: a node still under the old generation is moved and written; a level-5 node stays in guard
SRAM (R264, R280). -/
def State.rekeyNode (s : State) (p : Nat) : State :=
  let (k, j) := nodeAt s.store.n p
  let g := s.store.gen.1
  let s1 :=
    if k = 0 then s.moveBlock j g
    else s.modStore (fun r =>
      let t : Tree := ⟨r.tree.lines, tabMod Node.zero r.tree.nodes p (fun (nd : Node) => { nd with gen := g })⟩
      Store.touch { r with tree := t } p)
  if k < 5 then s1.writeNode p else s1

/-- What a position of the rekey walk needs of the host: the written lines of a counter block, and the path from the node up
(R280). -/
def State.rekeyWants (s : State) (p : Nat) : List Want :=
  let (k, j) := nodeAt s.store.n p
  if k = 0 then (List.range 32).map (fun c => ⟨32 * j + c, decide ((s.store.tree.line (32 * j + c)).ver ≠ 0), true, 0⟩)
  else [⟨j * 32 ^ (k + 1), false, true, k⟩]

/-- The end of a rekey: the pointer has reached T and every write has been accepted (R280, R282). -/
def State.endRekey (s : State) : State :=
  if s.store.ptr < nodeTotal s.store.n ∨ s.storePending then s
  else (s.modStore (fun r => { r with gen := (r.gen.1, r.gen.1), mramRekey := none })).emit .rekeyDone none srcStore
    s.store.gen.1 s.store.rewritten 0

/-- REKEY_POSITION: the pointer's position is moved and the pointer advances. At every 4,096th position the walk waits until the
port has accepted the writes so far, and the pointer goes to MRAM; at T the old generation is forgotten (R280, R282). A node
already under the new generation, or one that is poisoned, is passed over. -/
def execRekeyPosition (s : State) : Host.Outcome State Fault Refusal :=
  let p := s.store.ptr
  let x := nodeAt s.store.n p
  .next (if s.store.st ≠ .opened ∨ s.store.rekeying = false then s
    else if nodeTotal s.store.n ≤ p then s.endRekey
    else if p % 4096 = 0 ∧ p ≠ 0 ∧ s.storePending then s
    else
      let s0 := if p % 4096 = 0 then s.modStore (fun r => { r with mramRekey := some (r.gen.2, r.gen.1, p) }) else s
      if (s0.store.tree.node p).gen = s0.store.gen.1 ∨ s0.pathPoisoned (x.2 * 32 ^ (x.1 + 1)) then
        (s0.modStore (fun r => { r with ptr := p + 1 })).endRekey
      else
        let w := s0.wantLines (s0.rekeyWants p)
        if w.1 = false then w.2
        else (((w.2.rekeyNode p).inc (Reg.SST_CNT_COUNT 4)).modStore (fun r => { r with
          ptr := p + 1, rewritten := r.rewritten + 1 })).endRekey)

/-- The store flushed before a software service reset: every dirty node and the level-5 nodes written, LIVE marked FLUSHED
(R268). -/
def State.flushStore (s : State) : State :=
  if s.store.st ≠ .opened then s
  else
    let s1 := s.flushTerms.writeNodes.2
    s1.modStore (fun r => { r with live := some (s1.rootOf r.openNum), flushed := true })

/-- The store after a reset of L2 or L1 (R267, R268): an open one is CLOSED, and LIVE is usable only if it was flushed. A
rekey goes on from its MRAM record (R282). -/
def State.closeStore (s : State) (flushed : Bool) : State :=
  s.modStore (fun r => { r with
    st := if r.st = .opened then .closed else r.st
    flushed := flushed && r.flushed, openNum := 0, dirty := [], cache := [], wantCut := false, poison := [], poisonAt := []
    reads := [], checks := [], lock := [], ptr := (r.mramRekey.map (fun m => m.2.2)).getD r.ptr })

/-- The guard store area zeroised: a tamper trip or the wipe on the way to RETURNED (R267, R283). -/
def State.loseStore (s : State) : State :=
  (s.modStore (fun r => { Store.reset with nextRead := r.nextRead })).storeClients [] ([], [], []) ([], [])

end Sys2Proof.Machine
end

