-- ==== Sys2Proof/Machine/PairOps.lean ====
section
/-! DEFINITION. The pair's shared operations: service, messages of the Starter, change records and their application
(R332 to R354). -/

namespace Sys2Proof.Machine

/-- PAIR_PRI as the strap gave it (R331). -/
def State.primary (s : State) : Bool := s.sys.straps.2.2
/-- Whether the ACTIVE_N net is low: driven by this unit, or by the partner while its claim alone is asserted (R331, R332). -/
def State.activeLow (s : State) : Bool := s.pins.activeDrive || (s.pins.peerClaim && !s.pair.claim)
/-- Whether both lines of the interlock are free (R333, R339). -/
def State.linesFree (s : State) : Bool := !s.pins.peerClaim && !s.activeLow
/-- LINK_TMO as a device-time interval (STR_CFG). -/
def State.linkTmo (s : State) : Nat := s.usRaw (s.rd Reg.STR_CFG_LINK_TMO)

/-- Eligibility (R334). A unit that R339 withholds is not eligible. -/
def State.pairEligible (s : State) : Bool :=
  s.bit Reg.STR_CTL_CLAIM_EN && (decide (s.pair.st = .unpaired) || decide (s.pair.st = .standby)) && !s.pair.barred
    && s.pair.incoming.all (fun e => e.fin.isNone) && s.sys.prep.isNone && s.sys.deferred.isNone
    && decide (s.sys.releasing = 0) && !s.life.wiped
    && s.ras.queue.all (fun q => decide (q.2 ≠ .boot)) && s.ras.tests.all (fun t => decide (t.cause ≠ .boot))

/-- The claim lines as the unit drives them (R332). -/
def State.setClaimLines (s : State) : State :=
  let on := s.pair.claim && !s.pins.peerClaim
  { s with pins := { s.pins with claimOut := s.pair.claim, activeDrive := on }
           pair := { s.pair with service := on, had := s.pair.had || on } }

/-- The count c of the rollback thermometer: one more than its highest set bit (R394). -/
def svnCount (m : Nat) : Nat := if m = 0 then 0 else Nat.log2 m + 1

/-- What follows when service opens: NOSERVICE is cleared, BOOT_BACKOFF is recorded where attempts were delayed (R381), and
firmware whose image has COMMIT_SVN programs the thermometer up to SVN - 1 (R394). -/
def State.openService (s : State) : State :=
  let n := s.rd Reg.SYS_RST_CNT_NOSERVICE
  let s1 := s.wr Reg.SYS_RST_CNT_NOSERVICE 0
  let s2 := if 16 ≤ n then s1.emit .bootBackoff none srcReset n 0 0 else s1
  let svn := leAt s.sys.running 6 2
  let c := svnCount s.otp.thermometer
  if bitAt (leAt s.sys.running 16 4) 0 ∧ c < svn then
    ({ s2 with otp := { s2.otp with thermometer := s2.otp.thermometer ||| (2 ^ svn - 1) } }).emit .svnAdvanced none srcReset c svn 0
  else s2

/-- The claim lines driven, and what follows where service opens (R332, R381, R394). -/
def State.driveClaim (s : State) : State :=
  let s1 := s.setClaimLines
  if s1.pair.service ∧ s.pair.service = false then s1.openService else s1

/-- What the ports drop when service is lost: completion entries, interrupt messages and HPUT packets not yet sent
(R335). -/
def Port.dropUnsent (p : Port) : Port :=
  let keep (k : Pkt) : Bool := match k.owner with | .ring _ _ _ => decide (k.kind = .mrd) | _ => true
  { p with entries := [], qPrf := p.qPrf.filter keep, qCore := p.qCore.filter keep, fenced := p.fenced.filter keep }

/-- Service lost (R335): every core with a command receives an idle request, the ports drop what they have not sent, and the
unit is in GAVE_UP. -/
def State.serviceLost (s : State) : State :=
  let s1 := s.prf.entries.foldl (fun s e =>
    match e.phase with
    | .running c => s.modCore c (fun k => { k with idleReq := some (k.idleReq.getD .aborted) })
    | _ => s) s
  let s2 := (List.range 4).foldl (fun s n => s.modPort n Port.dropUnsent) s1
  s2.modPair (fun p => { p with st := .gaveUp, arb := none })

/-- The unit gives up (R337): claim released, LAST_ACTIVE cleared, service lost if it was on, recorded. -/
def State.giveUp (s : State) : State :=
  let st := s.pair.st
  let s1 := (s.modPair (fun p => { p with claim := false, lastActive := false })).driveClaim.serviceLost
  (s1.inc (Reg.STR_CNT_COUNT 1)).emit .pairGaveUp none srcS1 (s.rd Reg.STR_DIAG_COND) st.val 0

/-- The last epoch that a unit reports: applied as standby, or opened as active (R339). -/
def State.lastEpoch (s : State) : Nat :=
  match s.pair.st with
  | .seedingIn => s.pair.acked
  | .standby => s.pair.acked
  | .desync => s.pair.acked
  | _ => if s.pair.barred then s.pair.last else s.pair.epoch

/-- A message handed to the Starter, in clear as the unit forms it (R342). -/
def State.strSend (s : State) (type : Nat) (data : Bytes) : State :=
  s.modPair (fun p => { p with sent := p.sent ++ [⟨type, p.counters.1, data⟩], counters := (p.counters.1 + 1, p.counters.2) })

/-- The session key from the pair key and both session values, the primary's first (R345, log entry 40). -/
def State.setSessionKey (s : State) : State :=
  match s.keys.pair, s.pair.session with
  | some k, some (own, some peer) =>
    let vals := if s.primary then own ++ peer else peer ++ own
    s.modPair (fun p => { p with key := some (shake256 32 (k ++ vals ++ ascii "DQ PAIR SESSION")) })
  | _, _ => s

/-- The session ended: the Starter retrains (R345). -/
def State.endSession (s : State) : State := s.modPair (fun p => { p with session := none, key := none, peer := none })

/-- The payload of a sealed message of the partner, if its tag holds (R342). -/
def State.strOpen (s : State) (type seq counter : Nat) (data : Bytes) : Option Bytes :=
  match s.pair.key with
  | none => none
  | some k =>
    let n := data.length - 16
    let head := natToLe 2 seq ++ natToLe 1 type ++ zeros 1 ++ natToLe 4 n ++ natToLe 8 counter
    let dir := if s.primary then 2 else 1
    gcmOpen k (natToLe 1 dir ++ zeros 3 ++ natToLe 8 counter) head (data.take n) (data.drop n)

/-- A sealed message received: dropped without a session key; a failed tag ends the session; else its effect (R345). -/
def State.strMessage (s : State) (type seq counter : Nat) (data : Bytes) (f : Bytes → State → State) : State :=
  if s.bit Reg.STR_CTL_STARTER_EN = false ∨ s.pair.key.isNone then s
  else
    match s.strOpen type seq counter data with
    | none => s.endSession
    | some b => f b (s.modPair (fun p => { p with heard := s.now, counters := (p.counters.1, counter + 1) }))

/-- The tick count and state sent to the partner at a tick edge (R295). -/
def State.starterTick (s : State) : State :=
  if s.pair.key.isSome ∧ s.bit Reg.STR_CTL_STARTER_EN then
    s.strSend 0x31 (natToLe 8 s.tick ++ natToLe 1 s.time.state.val ++ zeros 7)
  else s

/-- The bytes of a change record (R348). -/
def Change.bytes (c : Change) : Bytes :=
  natToLe 1 c.kind ++ natToLe 1 c.part ++ natToLe 1 c.tenant ++ zeros 1 ++ natToLe 4 c.body.length ++ natToLe 8 c.key ++ c.body

/-- The first change record of a byte string, and the rest; none where it is not whole. -/
def takeChange (b : Bytes) : Option (Change × Bytes) :=
  let n := leAt b 4 4
  if b.length < 16 + n then none
  else some (⟨byteAt b 0, byteAt b 1, byteAt b 2, leAt b 8 8, slice b 16 n⟩, b.drop (16 + n))

/-- The whole records at the start of a byte string, and what is left. -/
def takeChanges : Nat → Bytes → List Change × Bytes
  | 0, b => ([], b)
  | fuel + 1, b =>
    match takeChange b with
    | none => ([], b)
    | some (c, r) =>
      let x := takeChanges fuel r
      (c :: x.1, x.2)

/-- The records of a byte string, and what is left of it. -/
def changesOf (b : Bytes) : List Change × Bytes := takeChanges b.length b

/-- The policies of an R225 block. -/
def policyOf (p : Bytes) : Policy :=
  ⟨byteAt p 0, byteAt p 1, byteAt p 2, byteAt p 3, byteAt p 4, byteAt p 5, leAt p 8 4⟩

/-- A TENANT record applied (R348): none for an unknown part or a body of the wrong length. -/
def State.applyTenant (s : State) (c : Change) : Option State :=
  let t := c.tenant
  let b := c.body
  let len (n : Nat) : Bool := decide (b.length = n)
  match c.part with
  | 1 => if len 48 then some (if (s.tenant t).exist then s.updateTenant t b else s.createTenant t b) else none
  | 2 => if len 16 then some ((s.modTenant t (fun x => { x with policy := policyOf b })).writeTblPolicy t) else none
  | 3 =>
    if len 48 then
      let cr : Credential := ⟨leAt b 0 2, byteAt b 2, byteAt b 3, slice b 16 32, leAt b 8 8⟩
      some (s.modTenant t (fun x => { x with custodians := x.custodians.filter (fun k => k.id ≠ cr.id) ++ [cr] }))
    else none
  | 4 => if len 0 then some (s.modTenant t (fun x => { x with custodians := x.custodians.filter (fun k => k.id ≠ c.key) })) else none
  | 5 =>
    if b.length = 4 + leAt b 0 4 then some (s.modTenant t (fun x => { x with progKeys := tabSet [] x.progKeys c.key (b.drop 4) })) else none
  | 6 =>
    if len 8 then
      let g (k : Nat) : Option Nat := if byteAt b k < 4 then some (byteAt b k) else none
      some (s.modTenant t (fun x => { x with
        current := (List.range 3).foldl (fun m k => tabSet none m k (g k)) x.current }))
    else none
  | 7 => if len 0 then some (s.dropTenant t) else none
  | _ => none

/-- The key that wraps mirrored master keys (R348). -/
def wrapKey (pairKey : Bytes) : Bytes := shake256 32 (pairKey ++ ascii "DQ PAIR MK WRAP")

/-- A MASTER_KEY record applied (R348). -/
def State.applyMaster (s : State) (c : Change) : Option State :=
  let put (m : Option MasterKey) : State :=
    ((s.modTenant c.tenant (fun x => { x with masters := tabSet none x.masters c.key m })).wr (Reg.TBL_KH_CFG_GENOCC c.tenant)
      (setBits (s.rd (Reg.TBL_KH_CFG_GENOCC c.tenant)) c.key 1 (b2n m.isSome))).noteHandles c.tenant
  match c.part with
  | 1 =>
    match s.keys.pair with
    | none => none
    | some pk =>
      if c.body.length ≠ 68 then none
      else
        match gcmOpen (wrapKey pk) (slice c.body 8 12) (c.bytes.take 16) (slice c.body 20 32) (slice c.body 52 16) with
        | none => none
        | some k => some ((put (some ⟨byteAt c.body 0, k.take (masterLen (byteAt c.body 0))⟩)).invalidateGen c.tenant c.key)
  | 2 => if c.body.isEmpty then some ((put none).markRetired c.tenant c.key) else none
  | _ => none

/-- A SIEVE record applied (R348). -/
def State.applyRoute (s : State) (c : Change) : Option State :=
  match routeBlock c.body, c.part with
  | some (tcam, d, p), 1 => some (s.sieveInsert c.tenant tcam d p).2
  | some (tcam, d, _), 2 => some (s.sieveDelete c.tenant tcam d).2
  | _, _ => none

/-- A TERMINAL record applied through the bucket stage (R347, R348). -/
def State.applyTerm (s : State) (c : Change) : Option State :=
  match termOfBytes c.body with
  | none => none
  | some x =>
    if c.body.length ≠ 32 then none
    else
      match s.term? c.tenant c.key with
      | some old => some (s.modTerm c.tenant c.key (fun _ => { x with dirty := true, refs := old.refs }))
      | none =>
        let w := (s.spillDrop c.tenant c.key).placeTerm { x with dirty := true }
        some (if w.1 then w.2 else (s.spillPut x).2)

/-- A PROGRAM record applied (R348). Whether the standby records it the spec does not say: the model records an unload and no load
(log entry 56). -/
def State.applyProgram (s : State) (c : Change) : Option State :=
  let k := c.tenant * 65536 + c.key
  let floor (s : State) : State := { s with progs := { s.progs with floors := tabSet 0 s.progs.floors k (leAt c.body 0 4) } }
  match c.part with
  | 1 => if c.body.length = 8 + leAt c.body 4 4 then some (floor (s.loadProgram c.tenant (c.body.drop 8)).2) else none
  | 2 => if c.body.isEmpty then some (s.unloadProgram c.tenant c.key) else none
  | 3 => if c.body.length = 8 then some (floor s) else none
  | _ => none

/-- A change record applied by the kind of its item (R346 to R348). -/
def State.applyKind (s : State) (c : Change) : Option State :=
  match c.kind with
  | 1 => s.applyTenant c
  | 2 => s.applyMaster c
  | 3 =>
    if c.part = 1 ∧ c.body.length = 128 then some ((s.recordPut c.tenant c.key c.body).2.invalidateHandle c.tenant c.key)
    else if c.part = 2 ∧ c.body.isEmpty then some ((s.recordPut c.tenant c.key (zeros 128)).2.invalidateHandle c.tenant c.key)
    else none
  | 4 => s.applyRoute c
  | 5 => s.applyTerm c
  | 6 =>
    if c.body.length = 8 then some (s.modPair (fun p => { p with flows := tabSet 0 p.flows (flowKey c.tenant c.key) (leAt c.body 0 4) }))
    else none
  | 7 => s.applyProgram c
  | _ => none

/-- A change record applied; it forms no change of this unit's own. -/
def State.applyChange (s : State) (c : Change) : Option State :=
  if 64 ≤ c.tenant then none
  else (s.applyKind c).map (fun s1 => s1.modPair (fun p => { s.pair with flows := p.flows }))

/-- Change records applied in order; none where one is not a good record. -/
def State.applyChanges (s : State) (l : List Change) : Option State :=
  l.foldl (fun r c => r.bind (fun s => s.applyChange c)) (some s)

/-- A route block (R244). -/
def routeBytes (x : Prefix_) : Bytes :=
  natToLe 1 x.digits.length ++ natToLe 1 (b2n x.tcam)
    ++ packNibbles (x.digits ++ List.replicate (20 - x.digits.length) 15) ++ natToLe 4 x.profile

/-- A master key's change record, wrapped with a fresh nonce (R348). -/
def State.masterChange (s : State) (t g : Nat) (m : MasterKey) : Change × State :=
  let (nonce, s1) := s.freshBytes 12
  let head := natToLe 1 2 ++ natToLe 1 1 ++ natToLe 1 t ++ zeros 1 ++ natToLe 4 68 ++ natToLe 8 g
  let w := gcmSeal (wrapKey (s.keys.pair.getD [])) nonce head (fitTo 32 m.key)
  (⟨2, 1, t, g, natToLe 1 m.kind ++ zeros 7 ++ nonce ++ w.1 ++ w.2⟩, s1)

/-- The records of a tenant's configuration, keys and programs for seeding (R346, R353). -/
def State.seedTenant (s : State) (t : Nat) : List Change × State :=
  let x := s.tenant t
  if x.exist = false then ([], s)
  else
    let cust := x.custodians.map (fun cr => (⟨1, 3, t, cr.id,
      natToLe 2 cr.id ++ natToLe 1 cr.roles ++ natToLe 1 cr.alg ++ zeros 4 ++ natToLe 8 cr.time ++ cr.digest⟩ : Change))
    let keys := x.progKeys.map (fun (e : Nat × Bytes) => (⟨1, 5, t, e.1, natToLe 4 e.2.length ++ e.2⟩ : Change))
    let progs := (s.programsOf t).filterMap (fun p => (s.loadedImage t p).map (fun (i : Image) =>
      (⟨7, 1, t, p, natToLe 4 (tabGet 0 s.progs.floors (t * 65536 + p)) ++ natToLe 4 i.package.length ++ i.package⟩ : Change)))
    let floors := (s.progs.floors.filter (fun e => decide (e.1 / 65536 = t) && (s.loadedImage t (e.1 % 65536)).isNone)).map
      (fun (e : Nat × Nat) => (⟨7, 3, t, e.1 % 65536, natToLe 4 e.2 ++ zeros 4⟩ : Change))
    let ms := (List.range 4).foldl (fun (r : List Change × State) g =>
      match s.master t g with
      | none => r
      | some m => let w := r.2.masterChange t g m; (r.1 ++ [w.1], w.2)) ([], s)
    let base := s.rd (Reg.TBL_KH_BASE_BASE t)
    let recs := (s.store.tree.lines.filter (fun e => decide (base ≤ e.1) && decide (e.1 < base + 0x800000))).flatMap (fun e =>
      let d := fitTo 256 e.2.data
      [(2 * (e.1 - base), d.take 128), (2 * (e.1 - base) + 1, d.drop 128)].filterMap (fun (p : Nat × Bytes) =>
        if holdsRecord p.2 ∧ p.1 < s.handleLimit t then some (⟨3, 1, t, p.1, p.2⟩ : Change) else none))
    ([⟨1, 1, t, 0, x.block⟩, ⟨1, 2, t, 0, x.policy.bytes⟩] ++ cust ++ keys ++ [⟨1, 6, t, 0, s.currentBytes t⟩] ++ ms.1 ++ progs ++ floors
      ++ (if s.store.st = .opened then recs else []), ms.2)

/-- Terminal entries wherever they are held: on chip, in the spill table, in the overflow area. -/
def State.allTerms (s : State) : List Term :=
  let base := s.rd Reg.TBL_TT_SPILL_BASE
  let n := s.rd Reg.TBL_TT_SPILL_LINES
  let lines := if s.store.st = .opened then s.store.tree.lines.filter (fun e => decide (base ≤ e.1) && decide (e.1 < base + n)) else []
  let off := lines.flatMap (fun e => (List.range 8).filterMap (fun i => termOfBytes (slice (fitTo 256 e.2.data) (32 * i) 32)))
  let on (x : Term) : Bool := s.tab.terms.any (fun y => y.tenant == x.tenant && y.id == x.id)
  s.tab.terms ++ (off ++ s.tab.spilled).filter (fun x => !on x)

/-- Every mirrored item as a change record (R346, R353). -/
def State.seedItems (s : State) : List Change × State :=
  let ts := (List.range 64).foldl (fun (r : List Change × State) t => let w := r.2.seedTenant t; (r.1 ++ w.1, w.2)) ([], s)
  let routes := s.tab.prefixes.map (fun (x : Prefix_) => (⟨4, 1, x.tenant, 0, routeBytes x⟩ : Change))
  let terms := s.allTerms.map (fun (x : Term) => (⟨5, 0, x.tenant, x.id, x.bytes⟩ : Change))
  let flows := (s.prf.flows.filter (fun e => decide (e.2.next ≠ 1))).map (fun (e : Nat × Flow) =>
    (⟨6, 0, e.1 / 2 ^ 20, e.1 % 2 ^ 20, natToLe 4 e.2.next ++ zeros 4⟩ : Change))
  (ts.1 ++ routes ++ terms ++ flows, ts.2)

/-- Whether the unit sends its epochs to a partner (R349). -/
def PairSt.mirrors : PairSt → Bool
  | .seedingOut => true | .protected_ => true | _ => false

/-- The messages of a closed epoch (R344, R349). -/
def State.sendEpoch (s : State) (num : Nat) (l : List Change) : State :=
  let b := l.flatMap Change.bytes
  let s1 := (chunks 8176 b).foldl (fun s p => s.strSend 0x10 (natToLe 8 num ++ natToLe 4 p.length ++ zeros 4 ++ p)) s
  s1.strSend 0x11 (natToLe 8 num ++ natToLe 4 l.length ++ zeros 4 ++ shake256 32 b)

/-- The open epoch closed and the next one opened: sent to the partner, or acknowledged by the unit itself (R349, R352). -/
def State.closeEpoch (s : State) : State :=
  let p := s.pair
  let next (q : Pair) : Pair := { q with epoch := p.epoch + 1, oldest := none, recs := [] }
  if p.st.mirrors then
    let n := (p.recs.map (fun c => 16 + c.body.length)).foldl (· + ·) 0
    ((s.sendEpoch p.epoch p.recs).modPair (fun q => next { q with journal := q.journal ++ [⟨p.epoch, n⟩] })).inc (Reg.STR_CNT_COUNT 3)
  else (s.modPair (fun q => next { q with acked := p.epoch })).releaseHeld

/-- Every unacknowledged epoch acknowledged by the unit itself, which then forms no records (R352). -/
def State.selfAck (s : State) : State :=
  (s.modPair (fun p => { p with acked := p.epoch - 1, journal := [], recs := [] })).releaseHeld

/-- The standby loses the mirror (R350): cause 1 Starter lost, 2 epoch order, 3 digest. -/
def State.desync (s : State) (cause : Nat) : State :=
  (s.modPair (fun p => { p with st := .desync, incoming := [] })).emit .pairDesync none srcS1 cause 0 0

/-- A unit becomes a standby that is being seeded (R338, R339, R353). -/
def State.enterSeeding (s : State) : State :=
  if s.pair.st = .seedingIn then s
  else if s.pair.st = .unpaired ∧ s.keys.pair.isSome ∧ s.pair.service = false then
    s.modPair (fun p => { p with st := .seedingIn, waiting := false, items := 0, seedPart := [], seedEnd := none, incoming := []
                                 synced := false, flows := [] })
  else s

/-- The standby answers SEED_END once every item is applied, and is then seeded (R353). -/
def State.seedAnswer (s : State) : State :=
  match s.pair.seedEnd with
  | none => s
  | some n =>
    if s.pair.items < n then s
    else (s.modPair (fun p => { p with st := .standby, barred := false, seedEnd := none, seedPart := [] })).strSend 0x22 (natToLe 8 s.pair.items)

/-- What R339 decides from a last epoch that the partner reports to a waiting unit. -/
def State.partnerReports (s : State) (last : Nat) : State :=
  if s.pair.waiting = false then s
  else if s.lastEpoch < last then s.modPair (fun p => { p with waiting := false })
  else s.modPair (fun p => { p with waiting := false, barred := false, st := .standby, acked := p.last })

/-- The own IDENT of the exchange, sent once a pairing ceremony is accepted and the Starter is up (R341). It waits for S0's random
bytes (R301). -/
def State.sendIdent (s : State) : State :=
  if s.pair.pairing.isNone ∨ s.pair.session.isNone ∨ s.pair.ident.isSome then s
  else
    match s.drbgBytes 192 96 with
    | none => s
    | some (rnd, s1) =>
      let seed := rnd.drop 32
      let msg := natToLe 8 s.otp.uid ++ natToLe 1 (b2n s.primary) ++ zeros 7 ++ rnd.take 32
        ++ s.attestKey ++ fitTo 1568 (Config.mlkemPublic 7 seed)
      match s1.attest msg with
      | (none, _) => s
      | (some m, s2) =>
        let b := msg ++ fitTo 5605 (m.drop msg.length)
        (s2.modPair (fun p => { p with ident := some (rnd.take 32, seed, shake256 32 b) })).strSend 0x02 b

/-- Whether a partner's IDENT passes the checks of R341 against the ceremony. -/
def State.identGood (s : State) (p : Pairing) (b : Bytes) : Bool :=
  decide (b.length = 7289) && decide (leAt b 0 8 = p.uid) && decide (byteAt b 8 = b2n (!s.primary)) && allZero (slice b 9 7)
    && decide (shake256 32 (slice b 48 68) = p.digest) && Config.xmssVerify (slice b 48 68) (b.take 1684) (b.drop 1684)

/-- The exchange fails: the ceremony ends with PAIR_IDENTITY (R341, R359). -/
def State.pairFails (s : State) (p : Pairing) : State :=
  (s.modPair (fun q => { q with pairing := none, ident := none, peerIdent := none })).answer p.src .pairIdentity []

/-- The pair key from the shared secret and both IDENT digests, the primary's first (R341, log entry 40). -/
def State.pairKeyOf (s : State) (secret own peer : Bytes) : Bytes :=
  shake256 32 (secret ++ (if s.primary then own ++ peer else peer ++ own) ++ ascii "DQ PAIR KEY")

/-- The pair key established (R341, R338, R340): the ceremony's response is written, the session key follows. -/
def State.establish (s : State) (p : Pairing) (key : Bytes) : State :=
  let s1 := (s.modKeys (fun k => { k with pair := some key })).modPair (fun q => { q with
    pairing := none, ident := none, peerIdent := none, partner := p.uid
    st := if q.st = .unpaired ∧ q.service then .alone else q.st })
  (s1.setSessionKey.emit .pairKeyEstablished none srcS0 (hiWord p.uid) (loWord p.uid) 0).answer p.src .ok []

/-- The exchange as far as it can go: own IDENT; then, on the primary with the partner's IDENT, KEYX (R341). -/
def State.pairStep (s0 : State) : State :=
  let s := s0.sendIdent
  match s.pair.pairing, s.pair.ident, s.pair.peerIdent with
  | some p, some (_, _, own), some b =>
    if s.identGood p b = false then s.pairFails p
    else if s.primary = false then s
    else
      match s.drbgBytes 192 32 with
      | none => s
      | some (rnd, s1) =>
        let (secret, ct) := Config.mlkemEncaps 7 (slice b 116 1568) rnd
        let msg := natToLe 8 s.otp.uid ++ slice b 16 32 ++ fitTo 1568 ct
        match s1.attest msg with
        | (none, _) => s
        | (some m, s2) =>
          (s2.strSend 0x03 (msg ++ fitTo 5605 (m.drop msg.length))).establish p (s.pairKeyOf secret own (shake256 32 b))
  | _, _, _ => s

/-- The pair after a reset of L2 or wider (R337, R339): the claim is released, sessions and records are lost, and a paired
unit starts by what it sees on the lines. -/
def State.pairRestart (s : State) : State :=
  let last := s.lastEpoch
  let s1 := s.modPair (fun p => { Pair.reset with
    lastActive := p.lastActive, partner := p.partner, counters := (0, 0), sent := p.sent, epoch := p.epoch, last := last
    horizon := p.horizon, takeovers := p.takeovers, discarded := p.discarded, items := 0, since := s.now })
  let s2 := s1.driveClaim
  let s3 := s2.modPair (fun p => { p with had := false, arb := if s2.linesFree then some s.now else none })
  if s.keys.pair.isNone then s3
  else s3.modPair (fun p => { p with barred := true, waiting := s2.linesFree && p.lastActive })

end Sys2Proof.Machine
end

