-- ==== Sys2Proof/Machine/ResetOps.lean ====
section
/-! DEFINITION. The reset controller's shared operations: levels and sources, preparation, deferral, and what a reset of
L1 or L2 leaves (R376 to R379, R386, R389, R390, R428). -/

namespace Sys2Proof.Machine

/-- The reset controller changed by a function. -/
def State.modSys (s : State) (f : Sys → Sys) : State := { s with sys := f s.sys }

/-- The default level of a source (R378). -/
def mapDefault (i : Nat) : Nat := [0, 1, 1, 1, 1, 1, 1, 1, 2, 2, 3, 4, 1, 1].getD i 1

/-- Whether a source's row permits a level (R378). -/
def mapPermits (i v : Nat) : Bool :=
  decide (v = mapDefault i) || ((decide (i = 3) || decide (i = 9) || decide (i = 12)) && (decide (v = 1) || decide (v = 2)))

/-- The level that a source's field of the OTP map gives: a field of 0 or a value that the row does not permit takes the
default (R378). -/
def mapLevel (m i : Nat) : Nat :=
  let v := m / 8 ^ i % 8
  if mapPermits i v ∧ v ≠ 0 then v else mapDefault i

/-- Whether the fuses are loaded: stage 2 waits for the load (R383). -/
def State.fusesLoaded (s : State) : Bool := decide (2 ≤ s.sys.stage) && decide (s.sys.stage ≤ 8)

/-- The effective level of a source; before the fuses are loaded every source but VGUARD POR acts at L1 (R378). -/
def State.sourceLevel (s : State) (i : Nat) : Nat :=
  if s.fusesLoaded then mapLevel (s.otp.resetMap.getD 0) i else if i = 0 then 0 else 1

/-- SYS_RST_MAP (R378). -/
def State.resetMapValue (s : State) : Nat :=
  (List.range 14).foldl (fun v i => v + s.sourceLevel i * 8 ^ i) 0

/-- The gap of a stage that the table gives (R383). -/
def gapDefault (i : Nat) : Nat := [256, 512, 128, 256, 256, 128, 256, 64, 1024].getD i 256

/-- The effective gap of a stage: from stage 2 onward OTP gives it, between the default and 16 times the default (R383). -/
def State.gapOf (s : State) (i : Nat) : Nat :=
  let d := gapDefault i
  if i < 2 then d else max d (min (tabGet 0 s.otp.gaps i) (16 * d))

/-- A number of reference-clock cycles in cycles of the 250 MHz time base, rounded up: 10 ns each at 100 MHz, 6.4 ns at
156.25 MHz (R382). -/
def State.refCycles (s : State) (n : Nat) : Nat := if s.sys.straps.2.1 = 2 then (n * 8 + 4) / 5 else (n * 5 + 1) / 2

/-- The effective power cap: 0 and values above 24 act as 24 (R475). -/
def State.powerCap (s : State) : Nat :=
  let c := s.rd Reg.SYS_PWR_CAP_CAP
  if c = 0 ∨ 24 < c then 24 else c

/-- Clusters that are not retired, in order. -/
def State.goodClusters (s : State) : List Nat := (List.range 24).filter (fun c => !bitAt s.ras.retired c)
/-- The clusters that the cap keeps in service (R475). -/
def State.keptClusters (s : State) : List Nat := s.goodClusters.take s.powerCap

/-- Whether an address is a register of Scale's MPU, which only a reset of L1 reaches (R444). -/
def scaleMpuReg (a : Nat) : Bool :=
  decide (a = 0x500D0050) || (decide (0x500D01A0 ≤ a) && decide (a < 0x500D01B0))
    || (decide (0x500D3800 ≤ a) && decide (a < 0x500D3C00))

/-- Register blocks that a reset of L2 reaches: Proofer, link packet layers without LNKn_CTL and LNKn_STAT, Starter and
pair, sealed store, tables, entropy, recorder, MPUs but Scale's, clusters, and SYS_WDOG (R376; log entry 42). -/
def l2Reaches (a : Nat) : Bool :=
  let b := a / 0x10000
  let port := decide (0x5002 ≤ b) && decide (b ≤ 0x5005) && decide (8 < a % 0x10000)
  (decide (0x2000 ≤ b) && decide (b < 0x2600)) || decide (b = 0x5001) || port || decide (b = 0x5006) || decide (b = 0x5007)
    || decide (b = 0x5008) || decide (b = 0x5009) || decide (b = 0x500C)
    || (decide (b = 0x500D) && !scaleMpuReg a) || (decide (0x50000090 ≤ a) && decide (a < 0x500000B0))

/-- Registers that a reset of L1 leaves: the guard domain's, SYS_RST_CAUSE, SYS_RST_CNT and SYS_STRAP (chapter 16). -/
def l1Keeps (a : Nat) : Bool :=
  decide (a / 0x10000 = 0x500B) || decide (a = 0x50000008) || decide (a = 0x50000018) || decide (a = 0x50000028)

/-- The register file after a reset of a level. -/
def regsAfter (level : Nat) (r : RegFile) : RegFile :=
  r.filter (fun e => if level = 1 then l1Keeps (e.1 / 64) else !l2Reaches (e.1 / 64))

/-- The newest valid record or anchor in MRAM: its number and chain value (R428, R429). -/
def Recorder.newest (e : Recorder) : Option (Nat × Nat) :=
  let recs : List (Nat × Nat) := e.ring.foldl (fun (l : List (Nat × Nat)) (g : Nat × Segment) =>
    l ++ g.2.recs.map (fun (r : LogRec) => (r.num, r.chain))) []
  (recs ++ e.anchors).foldl (fun m x => match m with
    | none => some x
    | some y => if y.1 < x.1 then some x else some y) none

/-- The recorder after a reset: at L1 it resumes from the newest record or anchor in MRAM (R428, R429); at L2, whose
preparation flushed the buffer, the numbers go on (log entry 43). -/
def Recorder.restart (e : Recorder) (level : Nat) : Recorder :=
  let base := { e with
    buf := [], buckets := [], supp := [], lost := [], flush := none, archBlocked := false, sinceSeal := 0
    chain := e.newest.map (fun x => x.2) }
  if level = 1 then { base with inbox := [], next := match e.newest with | none => 0 | some x => x.1 + 2049 } else base

/-- A port after an L2 reset: the packet layer is reset, the training state kept (R312, R384). -/
def Port.layerReset (p : Port) : Port :=
  { Port.reset with
    st := p.st, gen := p.gen, width := p.width, target := p.target, prev := p.prev, leftAt := p.leftAt
    trigger := p.trigger, sent := p.sent, quiet := true, awaitPeer := decide (p.st = .active), flits := p.flits }

/-- The ports after a reset: at L1 reset whole; at L2 an ACTIVE port sends SEQ_RESET (R312). -/
def State.resetPorts (s : State) (level : Nat) : State :=
  (List.range 4).foldl (fun s n =>
    if level = 1 then s.modPort n (fun p => { Port.reset with sent := p.sent })
    else
      let s1 := if s.portActive n then s.sendMgt n 0x06 0 else s
      s1.modPort n Port.layerReset) s

/-- Tenants after a reset: authorised states have ended, to be recorded when S0 next runs (R212); the rest is kept (log
entry 41). -/
def State.resetAuth (s : State) : State :=
  let l : List (Nat × Nat) := (List.range 64).filterMap (fun t =>
    let x := s.tenant t
    let m := b2n x.keymgmt.isSome + 2 * b2n x.export_.isSome
    if m = 0 then none else some (t, m))
  let s1 := l.foldl (fun s e => s.modTenant e.1 (fun x => { x with keymgmt := none, export_ := none })) s
  s1.modKeys (fun k => { k with ended := k.ended ++ l })

/-- Keys, mailbox and serial port after a reset that reaches S0 (R190, R202, R212, R213, R231, R390). Open ceremonies stay in
their staging buffers until S0 runs and abandons them (R209). -/
def State.resetKeys (s : State) (level : Nat) : State :=
  s.resetAuth.modKeys (fun k => { k with
    chals := [], mb := [], resets := [], held := []
    csp := if level = 1 then { Csp.reset with out := k.csp.out, given := k.csp.given }
      else { k.csp with asm := [], frames := [], terminal := none, sent := [], seq := 0 } })

/-- The life cycle after a reset that reaches S0: the session ends, a move stops where it stood, with its marker (R407, R409). -/
def State.resetLife (s : State) : State :=
  (s.endDebug 4).modLife (fun l => { LifeDbg.reset with marker := l.marker, tdo := l.tdo })

/-- Outputs from the start of a reset (R389). -/
def State.resetPins (s : State) (level : Nat) : State :=
  { s with pins := { s.pins with
      claimOut := false, activeDrive := false, resetOutN := false
      pmAlertN := if level = 1 then true else s.pins.pmAlertN } }

/-- What a reset keeps of the plain memories: MRAM (R10, R390). -/
def rawKept (m : Table (Option Byte)) : Table (Option Byte) := tabDrop (fun a => decide (0x20000000 ≤ a)) m

/-- The reset controller after a reset: release starts at stage 0 or at stage 3 (R383, R384). -/
def State.resetSys (s : State) (level : Nat) : State :=
  s.modSys (fun y =>
    if level = 1 then
      { Sys.reset with
        stage := 15, stageAt := s.time.cyc, straps := y.straps, good := 0, asserted := y.asserted, rejected := y.rejected
        served := if y.straps.1 = 1 then 1 else 0, salt := y.salt, raw := rawKept y.raw }
    else
      { y with
        stage := 2, stageAt := s.time.cyc, clusters := 0, releasing := 2, prep := none, pulse := false, deferred := none
        block := none, raw := rawKept y.raw, wdog := [], window := false, reads := 0, image := [], failed := false, backoff := none
        phase := if y.phase = .launched then .launched else .waiting })

/-- What a reset of L1 or L2 leaves of every block (R376, R390). -/
def State.resetBlocks (s : State) (level : Nat) (flushed : Bool) : State :=
  let s1 := ((s.closeStore flushed).resetKeys level).resetPorts level
  let s2 : State := { s1 with
    regs := regsAfter level s1.regs
    ent := if level = 1 then { Entropy.reset with release := s1.now }
      else { Entropy.reset with counter := s1.ent.counter, release := s1.now }
    mpu := if level = 1 then [] else s1.mpu.filter (fun e => decide (e.1 / 32 = 10))
    evr := s1.evr.restart level
    signer := { s1.signer with
      rebuilding := s1.signer.present, next := xmssLargest s1.signer.words, limit := xmssLargest s1.signer.words, given := [] }
    host := { HostSide.reset with port := s1.host.port, nextPkt := s1.host.nextPkt }
    prf := { Proofer.reset with nextId := s1.prf.nextId, flows := s1.prf.flows.filter (fun e => e.2.stored.isSome) }
    cores := []
    clus := []
    ras := { Ras.reset with retired := s1.ras.retired }
    tab := Tables.reset }
  let s3 := if level = 1 then
      ((s2.scaleReset.wr Reg.SYS_PWR_CAP_CAP s2.otp.powerCap).wr Reg.TIM_WALL0_WALL0 s2.time.mramWall0)
    else s2
  (((s3.resetPins level).resetSys level).freeImages.pairRestart).resetLife

/-- A reset takes effect at a level: the controller notes its sources and counts it, and every block that it reaches is
reset (R376, R378). `flushed`: the store was flushed for it (R268). -/
def State.applyReset (s : State) (level sources : Nat) (deferred cut flushed : Bool) : State :=
  let s1 := s.resetBlocks level flushed
  let s2 := ((s1.wr Reg.SYS_RST_CAUSE_SOURCES sources).wr Reg.SYS_RST_CAUSE_LEVEL level).wr Reg.SYS_RST_CAUSE_DEFERRED (b2n deferred)
  let s3 := if cut then s2.wr Reg.SYS_RST_CAUSE_PREP_CUT 1 else s2
  if level = 1 then (s3.inc Reg.SYS_RST_CNT_L1).satInc Reg.SYS_RST_CNT_NOSERVICE else s3.inc Reg.SYS_RST_CNT_L2

/-- Preparation of an L2 reset begins (R377): the claim is released (R337), the tables write their DIRTY entries where
their lines are at hand (RESET_PREP_DONE goes on with the others), and the recorder is flushed. The store's flush of a software
service reset is the last step (RESET_PREP_DONE). -/
def State.beginPrep (s : State) (sources : Nat) : State :=
  let s1 :=
    if s.pair.claim then
      let s1 := (s.modPair (fun p => { p with claim := false, lastActive := false })).driveClaim
      if s.pair.service then s1.serviceLost else s1
    else s
  let w := s1.wantLines s1.flushWants
  let s2 := (if w.1 then w.2.flushTerms else w.2).startFlush none false
  s2.modSys (fun y => { y with prep := some ⟨2, sources, s2.now, s2.time.cyc, false⟩ })

/-- A request that takes effect now, against what is in preparation or release (R379). -/
def State.startReset (s : State) (level sources : Nat) (deferred : Bool) : State :=
  match s.sys.prep with
  | some p =>
    if level = 1 then s.applyReset 1 (p.sources ||| sources) deferred true false
    else s.modSys (fun y => { y with prep := some { p with sources := p.sources ||| sources } })
  | none =>
    if s.sys.releasing ≠ 0 ∧ s.sys.releasing ≤ level then
      s.wr Reg.SYS_RST_CAUSE_SOURCES (s.rd Reg.SYS_RST_CAUSE_SOURCES ||| sources)
    else if level = 1 then s.applyReset 1 sources deferred false false
    else s.beginPrep sources

/-- Whether resets wait: a write pulse or a life-cycle group runs (R386, R406). -/
def State.holdsResets (s : State) : Bool :=
  s.sys.pulse || (match s.life.move with | some m => m.busy | none => false)

/-- A reset source fires at its effective level (R378); during a pulse or a life-cycle group it waits (R386, R406). -/
def State.fireReset (s : State) (source : Nat) : State :=
  let l := s.sourceLevel source
  if s.holdsResets then
    s.modSys (fun y => { y with deferred := some (match y.deferred with
      | none => ⟨l, 2 ^ source, s.now, s.time.cyc, false⟩
      | some p => { p with level := min p.level l, sources := p.sources ||| 2 ^ source }) })
  else s.startReset l (2 ^ source) false

/-- A reset that waited for the end of a pulse or group proceeds (R386, R406). -/
def State.releaseDeferred (s : State) : State :=
  match s.sys.deferred with
  | none => s
  | some p => (s.modSys (fun y => { y with deferred := none })).startReset p.level p.sources true

/-- Power removed during a write pulse or a life-cycle group: the word, or the group, may be left torn (R386, R407). How far
it came is open. -/
def State.tear (s : State) : State :=
  let v := (Config.freeValue s.free).toNat
  let s1 : State := { s with free := s.free + 1 }
  match s.life.move, s.life.prog with
  | some m, _ => if m.busy then s1.lcPulses m.group (v % 25) else s
  | none, some (w, bits) => s1.otpWrite w (bits &&& v)
  | none, none => s

/-- A reset that removes power: never deferred (R386). SYS_RST_CAUSE and SYS_RST_CNT take their reset values (chapter 16). -/
def State.powerReset (s : State) (level source : Nat) : State :=
  let s1 := s.tear.resetBlocks 1 false
  let s2 := (s1.wr Reg.SYS_RST_CNT_L1 0).wr Reg.SYS_RST_CNT_L2 0
  let s3 := ((s2.wr Reg.SYS_RST_CNT_NOSERVICE 0).wr Reg.SYS_RST_CAUSE_CLK_DOMAIN 0).wr Reg.SYS_RST_CAUSE_PREP_CUT 0
  ((s3.wr Reg.SYS_RST_CAUSE_DEFERRED 0).wr Reg.SYS_RST_CAUSE_SOURCES (2 ^ source)).wr Reg.SYS_RST_CAUSE_LEVEL level

/-- Guard SRAM cleared: root key, pair key, transport keys, attestation seeds, master keys, staging buffers and the
sealed-store area (R363). -/
def State.clearGuard (s : State) : State :=
  let s1 := (List.range 64).foldl (fun s t =>
    if (s.tenant t).masters.isEmpty then s else (s.modTenant t (fun x => { x with masters := [], current := [] })).wr (Reg.TBL_KH_CFG_GENOCC t) 0 |>.noteHandles t) s
  let s2 := s1.modKeys (fun k => { k with root := none, transport := ([], []), bus := [], pair := none })
  { s2 with signer := s2.signer.zeroised }.loseStore

end Sys2Proof.Machine
end

