-- ==== Sys2Proof/Machine/BootOps.lean ====
section
/-! DEFINITION. The boot: image checks, measurement, launch, what firmware does when it starts, and the wipe that a life-cycle
marker repeats (R189, R212, R391 to R397, R405, R407, R439). -/

namespace Sys2Proof.Machine

/-- Step 3 of R405: guard SRAM cleared; every MRAM partition but the recorder ring, the life-cycle area and the Scale
partition; the key cache; the store's root records. Scale zeroises its seeds (R453). -/
def State.wipe (s : State) : State :=
  let s1 := s.clearGuard.scaleWipe
  let s2 := s1.modKeys (fun k => { k with
    marker := false, officers := [], policy := Keys.reset.policy, tenants := [], opens := [], ended := [] })
  let s3 := s2.modTab (fun b => { b with cache := [], shadow := [], shadowFilter := [] })
  let s4 : State := { s3 with
    signer := { s3.signer with words := [], next := 0, limit := 0 }
    progs := { s3.progs with loaded := [], floors := [] }
    ras := { s3.ras with retired := 0 }
    pair := { s3.pair with lastActive := false, epoch := 0, acked := 0, horizon := 0, partner := 0 }
    time := { s3.time with saves := [], mramWall0 := 0, mramWallValid := false, mramPeriod := 1000000 }
    scale := { s3.scale with pkg := none } }
  s4.freeImages

/-- Steps 2 to 5 of R439: segments and archive lines at or below LAST freed with their anchors, BAD segments tested where
RETEST is set (`good`: those that pass), the CLEAR record entered and flushed. -/
def State.clearLog (s : State) (last a b : Nat) (good : List Nat) : State :=
  let full (g : Segment) : Bool := !g.recs.isEmpty && g.recs.all (fun r => decide (r.num ≤ last))
  let old : List (Nat × Segment) := s.evr.ring.filter (fun (g : Nat × Segment) => full g.2)
  let s1 : State := old.foldl (fun (s : State) (g : Nat × Segment) => { s with evr := { s.evr with
    anchors := anchorAdd s.evr.anchors g.2, ring := tabSet Segment.empty s.evr.ring g.1 { Segment.empty with bad := g.2.bad } } }) s
  let s2 : State := { s1 with evr := { s1.evr with archive := s1.evr.archive.filter (fun x => !x.recs.all (fun r => decide (r.num ≤ last))) } }
  let s3 := good.foldl (fun (s : State) (g : Nat) =>
    { s with evr := { s.evr with ring := tabMod Segment.empty s.evr.ring g (fun x => { x with bad := false }) }
             regs := regSet s.regs Reg.GRD_STICKY_SEG_BAD (setBits (s.rd Reg.GRD_STICKY_SEG_BAD) g 1 0) }) s2
  let restored := !good.isEmpty && s3.bit Reg.GRD_STICKY_AUDIT_LOST
  let s4 := s3.enterOwn .clear (joined a b) (hiWord last) (loWord last)
  let s5 := if restored then
      let s5 : State := { s4.wr Reg.GRD_STICKY_AUDIT_LOST 0 with evr := { s4.evr with volatileOnly := false } }
      s5.enterOwn .auditRestored s5.evr.good 0 0
    else s4
  let s6 : State := { s5 with evr := { s5.evr with intent := none } }
  s6.startFlush none false

/-- Fixed contents that S0 writes again when firmware starts: service levels and bindings of every tenant, its table
policies and handle ranges, and the Sieve from S1's shadow (log entry 41). -/
def State.restoreTenants (s : State) : State :=
  let s1 := (List.range 64).foldl (fun s t =>
    let x := s.tenant t
    if x.exist = false then s.modTab (fun b => { b with shadowKh := tabSet [] b.shadowKh t [] })
    else
      let s1 := (((s.writeLevels t x.block).writeBindings t x.block).writeTblPolicy t).wr (Reg.TBL_KH_BASE_BASE t) (Config.handleBase t)
      let occ := (List.range 4).foldl (fun v g => setBits v g 1 (b2n (s.master t g).isSome)) 0
      ((s1.wr (Reg.TBL_KH_CFG_LIMIT t) (Config.handleTop t)).wr (Reg.TBL_KH_CFG_RBASE t) (Config.routeBase t)).wr
        (Reg.TBL_KH_CFG_GENOCC t) occ |>.noteHandles t) s
  if s1.store.st = .opened then s1.modTab (fun b => { b with prefixes := b.shadow, filter := b.shadowFilter }) else s1

/-- The events that firmware writes at its first start after a reset (R371, R374, R375, R397). -/
def State.bootEvents (s : State) : State :=
  let src := s.rd Reg.SYS_RST_CAUSE_SOURCES
  let s1 := s.emit .resetRecorded none srcReset src (s.rd Reg.SYS_RST_CAUSE_LEVEL) (s.rd Reg.SYS_RST_CNT_L1)
  let s2 := if bitAt src 13 then s1.emit .clockLoss none srcReset (s.rd Reg.SYS_RST_CAUSE_CLK_DOMAIN) (s.rd Reg.SYS_CLK_LOSSES) 0 else s1
  let s3 := s2.sys.rejected.foldl (fun s r => s.emit .bootImageRejected none srcReset r.1 r.2 0) s2
  let s4 := s3.guard.warns.foldl (fun s w => s.emit .guardWarning none srcGuard w.1 w.2.1 w.2.2) s3
  let t := s4.rd Reg.GRD_TREC_TIME_TIMER
  let s5 := if s4.guard.trip then s4.emit .tamperTrip none srcGuard (s4.rd Reg.GRD_TREC_CAUSE) (hiWord t) (loWord t) else s4
  let s6 := match s5.guard.passes with
    | some n => s5.emit .zeroiseVerifyFail none srcGuard n 0 0
    | none => s5
  let s7 := if s6.guard.porLost then s6.emit .guardPorLost none srcGuard 0 0 0 else s6
  { s7 with guard := { s7.guard with warns := [], trip := false, passes := none, porLost := false }
            sys := { s7.sys with rejected := [] } }

/-- Firmware starts: S1 writes TBL_TT_SALT from MRAM (chapter 10); events, ends and abandonments that a reset caused, the commissioning marker (R189), the life-cycle marker
(R407), a deletion whose tenant reset the reset superseded (R231; log entry 61), a clear left unfinished (R439; no segment is tested again), the signer's words (R184), and the boot tests of R464 after
a reset of L1. -/
def State.firmwareStart (s : State) (l1 : Bool) : State :=
  let s0 : State := if s.keys.marker then
      let s0 := s.modKeys (fun k => { k with root := none, transport := ([], []), marker := false })
      { s0 with signer := s0.signer.zeroised }
    else s
  let s1 := (s0.wr Reg.TBL_TT_SALT_SALT s0.sys.salt).bootEvents
  let s2 := s1.keys.ended.foldl (fun s e => s.emit .authStateEnded (some e.1) srcS0 e.1 e.2 4) s1
  let s3 := (s2.modKeys (fun k => { k with ended := [] })).abandonIf (fun _ => true) 6
  let bad := (List.range 16).filter (fun i => (xmssWordLimit (tabGet 0 s3.signer.words i)).isNone)
  let s4 := bad.foldl (fun s i => s.emit .xmssSlotInvalid none srcS0 i (hiWord (tabGet 0 s.signer.words i)) (loWord (tabGet 0 s.signer.words i))) s3
  let s45 := ((List.range 64).filter (fun t => (s4.tenant t).deleting && (s4.tenant t).exist)).foldl State.dropTenant s4
  let s5 := (if s4.keys.policy.cspEn then s45.wr Reg.CSP_CTL_EN 1 else s45).restoreTenants
  let s6 := match s5.life.marker with
    | none => s5
    | some t => (s5.wipe.modLife (fun l => { l with wiped := true })).emit .lcWipeRepeated none srcS0 t 0 0
  let s7 := match s6.evr.intent with
    | none => s6
    | some i => s6.clearLog i.last i.officerA i.officerB []
  let s8 := if l1 then s7.modRas (fun r => { r with
      queue := ((List.range 24).filter (fun c => bitAt r.inService c)).map (fun (c : Nat) => (c, TestCause.boot)) }) else s7
  s8.modSys (fun y => { y with window := true })

/-- The first check that an image fails: 1 FORMAT, 2 KEY, 3 SIGNATURE, 4 ROLLBACK; 0 none (R391, R392, R394, R396). The signature
needs a cluster in service. -/
def State.imageFault (s : State) (b : Bytes) : Nat :=
  let len := leAt b 8 4
  let entry := leAt b 12 4
  if leAt b 0 4 ≠ 0x31474D49 ∨ leAt b 4 2 ≠ 1 ∨ 128 < leAt b 6 2 ∨ len % 4 ≠ 0 ∨ len < 4 ∨ 1572864 < len ∨ len ≤ entry ∨ entry % 4 ≠ 0
      ∨ 1 < leAt b 16 4 ∨ allZero (slice b 20 4) = false ∨ allZero (slice b 92 36) = false ∨ b.length ≠ 128 + len + 2820 then 1
  else if shake256 32 (slice b 24 68) ≠ s.otp.rootHash then 2
  else if s.ras.inService = 0 ∨ Config.xmssVerify (slice b 24 68) (b.take (128 + len)) (b.drop (128 + len)) = false then 3
  else if leAt b 6 2 < svnCount s.otp.thermometer then 4
  else 0

/-- SYS_MEAS(0) to (4) written, with LOCK, where they are not locked (R395). -/
def State.measure (s : State) (b : Bytes) : State :=
  if 2 ^ 63 ≤ s.rd (Reg.SYS_MEAS_VALUE 4) then s
  else
    let d := shake256 32 b
    let s1 := (List.range 4).foldl (fun s i => s.wr (Reg.SYS_MEAS_VALUE i) (leAt d (8 * i) 8)) s
    s1.wr (Reg.SYS_MEAS_VALUE 4) (2 ^ 63 + s.sys.copy * 2 ^ 16 + s.sys.source * 2 ^ 8 + leAt b 6 2)

/-- The image copied and the firmware launched (R391 step 7, R393). -/
def State.launch (s : State) (b : Bytes) : State :=
  let s1 := (s.measure b).modSys (fun y => { y with
    phase := .launched, result := 0, running := b, image := [], reads := 0, failed := false, backoff := none })
  s1.firmwareStart true

/-- Whether attempts are delayed (R381). -/
def State.backingOff (s : State) : Bool := decide (16 ≤ s.rd Reg.SYS_RST_CNT_NOSERVICE)

/-- A flash copy's read begun (R391 step 2). -/
def State.beginFlash (s : State) (copy : Nat) : State :=
  s.modSys (fun y => { y with phase := .loading, source := 0, copy := copy, flashAt := s.time.cyc, backoff := none })

/-- An attempt that failed (R391, R396): it is noted for BOOT_IMAGE_REJECTED; copy B follows copy A, and after copy B the boot
mailbox opens on every port. -/
def State.bootFails (s : State) (code : Nat) : State :=
  let y := s.sys
  let s1 := s.modSys (fun y => { y with
    phase := .failed, result := code, image := [], reads := 0, failed := false, backoff := none
    rejected := y.rejected ++ [(joined y.source y.copy, code)] })
  if y.source ≠ 0 ∨ code = 5 then s1
  else if y.copy = 0 then s1.beginFlash 1
  else s1.modSys (fun y => { y with served := 15, source := 2 })

/-- A state in which the boot ROM launches nothing (R400). -/
def State.dead (s : State) : Bool := decide (s.lc = .scrapped) || decide (s.lc = .lost)

/-- The boot ROM after stage 8 (R391 steps 1 and 2): the flash is read, after 1 s where attempts are delayed; else the boot
mailbox waits for GO; BOOT_SRC 0b11 fails with SOURCE outside MAKER. -/
def State.beginBoot (s : State) : State :=
  if s.dead then s
  else if s.sys.straps.1 = 0 then
    if s.backingOff then s.modSys (fun y => { y with source := 0, backoff := some (s.time.cyc + 250000000) }) else s.beginFlash 0
  else if s.sys.straps.1 = 3 then
    if s.lc = .maker then s else (s.modSys (fun y => { y with source := 3, copy := 2 })).bootFails 5
  else s.modSys (fun y => { y with source := y.straps.1, copy := 2 })

/-- The relaunch after an L2 reset: the image in supervisor SRAM is checked against SYS_MEAS; a mismatch escalates to L1
(R395, R396), as a software chip reset does (log entry 44). -/
def State.relaunch (s : State) : State :=
  let d := shake256 32 s.sys.running
  if (List.range 4).all (fun i => decide (s.rd (Reg.SYS_MEAS_VALUE i) = leAt d (8 * i) 8)) then
    (s.modSys (fun y => { y with result := 0 })).firmwareStart false
  else
    (s.modSys (fun y => { y with
      phase := .failed, result := 8, rejected := y.rejected ++ [(joined y.source y.copy, 8)] })).fireReset 7

/-- The reads of a host image issued on a port, each up to 512 bytes; one that the port's MPU refuses fails the attempt
(R319, R391, R393). -/
def State.readImage (s : State) : State :=
  let n := s.sys.port
  let a := s.sys.addr * 4096
  let l := splitRange 512 (s.sys.len + 1) a s.sys.len
  match s.mpuFirst (4 + n) .host ⟨.s, none, .read⟩ a s.sys.len with
  | some f => (s.mpuReport (4 + n) ⟨.s, none, .read⟩ f).modSys (fun y => { y with failed := true, reads := 0 })
  | none =>
    let s1 := s.modSys (fun y => { y with reads := l.length, image := zeros y.len, failed := false })
    (l.foldl (fun s r => s.hostRead n .s0 r.1 r.2 .s0 (.boot (r.1 - a))) s1).pump n

end Sys2Proof.Machine
end

