-- ==== Sys2Proof/Machine/Csp.lean ====
section
/-! DEFINITION. The commands of the custodian serial port (R213, R214). -/

namespace Sys2Proof.Machine

/-- Whether the port carries traffic: CSP_CTL.EN (R213). -/
def State.cspOn (s : State) : Bool := s.bit Reg.CSP_CTL_EN

/-- CSP_BYTE_RECEIVED: a byte on CSP_RX enters the 64-byte receive FIFO; a full FIFO sets OVERRUN and a stop-bit error sets
FRAMING (R213, CSP_STAT). -/
def execCspByteReceived (byte : BitVec 8) (stopOk : Bool) (s : State) : Host.Outcome State Fault Refusal :=
  .next (if s.cspOn = false then s
    else if stopOk = false then s.wr Reg.CSP_STAT_FRAMING 1
    else if 64 ≤ s.keys.csp.rx.length then s.wr Reg.CSP_STAT_OVERRUN 1
    else s.modCsp (fun c => { c with rx := c.rx ++ [byte] }))

/-- A frame whose bytes are complete, as S0 assembled it: its CRC is checked (R214). -/
def frameOf (b : Bytes) : CspFrame :=
  let n := leAt b 3 2
  ⟨leAt b (5 + n) 2 == crc16 (slice b 1 (4 + n)), byteAt b 1, byteAt b 2, slice b 5 n⟩

/-- A byte given to S0's frame assembler (R214): it hunts for 0x7E, drops a frame longer than 20,480 bytes as if its CRC had
failed, and counts good frames. -/
def State.cspAssemble (s : State) (b : Byte) : State :=
  let a := s.keys.csp.asm ++ [b]
  if a.length = 1 ∧ b ≠ 0x7E#8 then s
  else if a.length = 5 ∧ 20480 < leAt a 3 2 then
    s.modCsp (fun c => { c with asm := [], frames := c.frames ++ [⟨false, 0, 0, []⟩] })
  else if 5 ≤ a.length ∧ a.length = 7 + leAt a 3 2 then
    let f := frameOf a
    let s1 := s.modCsp (fun c => { c with asm := [], frames := c.frames ++ [f] })
    if f.good then s1.inc Reg.CSP_CNT_FRAMES else s1
  else s.modCsp (fun c => { c with asm := a })

/-- CSP_RX_READ: a read of CSP_RX with VALID 1 removes the byte, which S0 gives to its frame assembler (R213, R214). -/
def execCspRxRead (s : State) : Host.Outcome State Fault Refusal :=
  match s.keys.csp.rx with
  | [] => .next s
  | b :: rest => .next ((s.modCsp (fun c => { c with rx := rest })).cspAssemble b)

/-- CSP_TX_WRITE: a byte queued for sending, or dropped where the 64-byte FIFO is full (CSP_TX). -/
def execCspTxWrite (byte : BitVec 8) (s : State) : Host.Outcome State Fault Refusal :=
  .next (if 64 ≤ s.keys.csp.tx.length then s else s.modCsp (fun c => { c with tx := c.tx ++ [byte] }))

/-- CSP_FLUSH: a write of CSP_CTL.FLUSH empties both FIFOs. -/
def execCspFlush (s : State) : Host.Outcome State Fault Refusal :=
  .next (s.modCsp (fun c => ({ c with rx := [], tx := [], txAcc := 0 } : Csp).fill))

/-- The end of the open session (R213, R209): ceremonies that arrived on it are abandoned. Causes: 1 PRESENT, 2 ATTN, 3 no
frame for 120 s. -/
def State.cspEnd (s : State) (cause : Nat) : State :=
  match s.keys.csp.terminal with
  | none => s.wr Reg.CSP_STAT_SESSION 0
  | some t =>
    let s1 := (s.modCsp (fun c => { c with terminal := none, sent := [] })).abandonIf (fun o => o.csp) 7
    (s1.wr Reg.CSP_STAT_SESSION 0).emit .cspSession none srcS0 2
      (loWord t) (Config.causeNumber 0xB0D cause)

/-- CSP_HELLO: a HELLO frame while PRESENT is 1 opens a session (R213). -/
def execCspHello (s : State) : Host.Outcome State Fault Refusal :=
  match s.keys.csp.frames with
  | [] => .next s
  | f :: rest =>
    if f.good = false ∨ f.type ≠ 1 ∨ f.data.length ≠ 8 ∨ s.pins.cspPresent = false then .next s
    else
      let t := leToNat f.data
      let s1 := (s.modCsp (fun c => { c with frames := rest, terminal := some t, lastFrame := s.now })).cspReply f true
      .next (if s.keys.csp.terminal.isSome then s1
        else ((s1.wr Reg.CSP_STAT_SESSION 1).inc Reg.CSP_CNT_SESSIONS).emit .cspSession none srcS0 1 (loWord t)
          (Config.causeNumber 0xB0D 0))

/-- CSP_CHALLENGE_REQUEST: an empty challenge request is answered with a challenge (R202, R214). -/
def execCspChallengeRequest (s : State) : Host.Outcome State Fault Refusal :=
  .next (s.cspTake 2 (fun b => b.isEmpty) (fun _ s1 =>
    match s1.newChallenge with
    | some (c, s2) => s2.cspSend 0x82 c
    | none => s))

/-- CSP_ABORT: an ABORT frame abandons the session's ceremony (R209, R214), which returns ABANDONED. -/
def execCspAbort (s : State) : Host.Outcome State Fault Refusal :=
  .next (s.cspTake 5 (fun b => b.isEmpty) (fun _ s1 =>
    s1.abandonIf (fun o => o.csp) 2))

/-- A head frame that answers one of S0's frames, by its type: the frame sent leaves the list. -/
def State.cspAnswered (s : State) (type : Nat) : State :=
  match s.keys.csp.frames with
  | [] => s
  | f :: rest =>
    if f.good ∧ f.type = type ∧ f.data.length = 1 then
      s.modCsp (fun c => { c with frames := rest, lastFrame := s.now, sent := c.sent.filter (fun x => x.seq ≠ byteAt f.data 0) })
    else s

/-- CSP_ACK: an ACK frame confirms a sent frame (R214). -/
def execCspAck (s : State) : Host.Outcome State Fault Refusal := .next (s.cspAnswered 6)

/-- CSP_NAK: a NAK frame rejects a sent frame: it is answered, so it is not sent again (R214). -/
def execCspNak (s : State) : Host.Outcome State Fault Refusal := .next (s.cspAnswered 7)

/-- Whether a good frame is one that no row of R214 lets S0 serve now. -/
def State.cspUnserved (s : State) (f : CspFrame) : Bool :=
  let n := f.data.length
  if f.type = 1 then decide (n ≠ 8) || !s.pins.cspPresent
  else if f.type = 6 ∨ f.type = 7 then decide (n ≠ 1)
  else s.keys.csp.terminal.isNone || !(decide (f.type = 3) || decide (f.type = 4) || ((decide (f.type = 2) || decide (f.type = 5)) && decide (n = 0)))

/-- CSP_BAD_FRAME: a frame with a bad CRC or too long a length is dropped and counted; the assembler hunts for 0x7E. A good
frame that S0 cannot serve is answered with NAK (R214; log entry 31). -/
def execCspBadFrame (s : State) : Host.Outcome State Fault Refusal :=
  match s.keys.csp.frames with
  | [] => .next s
  | f :: rest =>
    if f.good = false then .next ((s.modCsp (fun c => { c with frames := rest })).satInc Reg.CSP_CNT_CRC_ERR)
    else if s.cspUnserved f then
      let s1 := s.modCsp (fun c => { c with frames := rest })
      .next (if f.type = 6 ∨ f.type = 7 then s1 else s1.cspReply f false)
    else .next s

/-- CSP_RESEND_TIMEOUT: 500 ms without an answer resend the oldest frame, up to three times; then S0 gives it up (R214). -/
def execCspResendTimeout (s : State) : Host.Outcome State Fault Refusal :=
  match s.keys.csp.sent with
  | [] => .next s
  | f :: rest =>
    if s.now < f.at_ + s.msRaw 500 then .next s
    else if 3 ≤ f.tries then .next (s.modCsp (fun c => { c with sent := rest }))
    else .next (s.modCsp (fun c => { c.give f.bytes with sent := rest ++ [{ f with tries := f.tries + 1, at_ := s.now }] }))

/-- CSP_SESSION_TIMEOUT: S0 ends a session after 120 s without a frame (R213). -/
def execCspSessionTimeout (s : State) : Host.Outcome State Fault Refusal :=
  .next (if s.keys.csp.terminal.isSome ∧ s.keys.csp.lastFrame + s.secRaw 120 ≤ s.now then s.cspEnd 3 else s)

/-- CSP_PRESENT_FALL: PRESENT follows CSP_PRESENT_N; its fall ends the session in hardware (R213, CSP_STAT). -/
def execCspPresentFall (present : Bool) (s : State) : Host.Outcome State Fault Refusal :=
  let s1 := ({ s with pins := { s.pins with cspPresent := present } }).wr Reg.CSP_STAT_PRESENT (b2n present)
  .next (if present then s1 else s1.cspEnd 1)

/-- CSP_ATTN: ATTN follows CSP_ATTN_N; driven low it ends the session in hardware (R213, CSP_STAT). -/
def execCspAttn (low : Bool) (s : State) : Host.Outcome State Fault Refusal :=
  let s1 := ({ s with pins := { s.pins with cspAttnN := !low } }).wr Reg.CSP_STAT_ATTN (b2n low)
  .next (if low then s1.cspEnd 2 else s1)

end Sys2Proof.Machine
end

