-- ==== Sys2Proof/Machine/Reset.lean ====
section
/-! DEFINITION. Commands of the reset controller and of the boot: sources, preparation, deferral, staged release, block
resets, watchdogs, the boot mailbox's GO and the image checks (R377 to R397, R473). -/

namespace Sys2Proof.Machine

/-- SOFTWARE_SERVICE_RESET: SYS_CTL.SVC_RST written with KEY 0x5A (source 8). -/
def execSoftwareServiceReset (key : BitVec 8) (s : State) : Host.Outcome State Fault Refusal :=
  .next (if key.toNat = 0x5A then s.fireReset 8 else s)

/-- SOFTWARE_CHIP_RESET: SYS_CTL.CHIP_RST written with KEY 0x5A (source 7). -/
def execSoftwareChipReset (key : BitVec 8) (s : State) : Host.Outcome State Fault Refusal :=
  .next (if key.toNat = 0x5A then s.fireReset 7 else s)

/-- DEBUG_RESET_REQUEST: source 12; the debug master has it in MAKER, INTEGRATOR and RETURNED alone (R408). -/
def execDebugResetRequest (s : State) : Host.Outcome State Fault Refusal :=
  .next (if s.lc = .maker ∨ s.lc = .integrator ∨ s.lc = .returned then s.fireReset 12 else s)

/-- THERMAL_TRIP: source 5 (R477). -/
def execThermalTrip (s : State) : Host.Outcome State Fault Refusal := .next (s.fireReset 5)

/-- HOT_RESET_RECEIVED: a HOT_RESET acts while the port is ACTIVE and HOT_RST_EN is 1 (R310), as source 9. -/
def execHotResetReceived (port : Fin 4) (s : State) : Host.Outcome State Fault Refusal :=
  .next (if s.portActive port ∧ s.bit (Reg.LNK_CTL_HOT_RST_EN port) then s.fireReset 9 else s)

/-- WATCHDOG_ENABLE: SYS_WDOG.EN written; it stays until a reset (R378). -/
def execWatchdogEnable (pair : Fin 2) (s : State) : Host.Outcome State Fault Refusal :=
  .next (if s.bit (Reg.SYS_WDOG_EN pair) then s
    else (s.wr (Reg.SYS_WDOG_EN pair) 1).modSys (fun y => { y with wdog := tabSet 0 y.wdog pair s.time.cyc }))

/-- WATCHDOG_KICK: SYS_WDOG.KICK written restarts the count. -/
def execWatchdogKick (pair : Fin 2) (s : State) : Host.Outcome State Fault Refusal :=
  .next (s.modSys (fun y => { y with wdog := tabSet 0 y.wdog pair s.time.cyc }))

/-- WATCHDOG_EXPIRY: an enabled count that has run for PERIOD µs fires source 3. -/
def execWatchdogExpiry (pair : Fin 2) (s : State) : Host.Outcome State Fault Refusal :=
  .next (if s.bit (Reg.SYS_WDOG_EN pair)
      ∧ tabGet 0 s.sys.wdog pair + 250 * s.rd (Reg.SYS_WDOG_PERIOD pair) ≤ s.time.cyc then s.fireReset 3 else s)

/-- CLOCK_GOOD_LOSS: clock-good of a domain falls; blocks are released from stage 1 onward, so the clock-loss source fires, and
the controller records the domain and counts the loss (R385). -/
def execClockGoodLoss (domain : Fin 5) (s : State) : Host.Outcome State Fault Refusal :=
  if bitAt s.sys.good domain = false then .next s
  else
    let s1 := s.modSys (fun y => { y with good := setBits y.good domain 1 0 })
    let s2 := if 1 ≤ s.sys.stage ∧ s.sys.stage ≤ 8 then s1.fireReset 13 else s1
    .next ((s2.wr Reg.SYS_RST_CAUSE_CLK_DOMAIN domain).satInc Reg.SYS_CLK_LOSSES)

/-- PRESET_ASSERT: PRESET_N low for 1 µs asserts source 2 (R380). -/
def execPresetAssert (s : State) : Host.Outcome State Fault Refusal :=
  let s1 : State := { s with pins := { s.pins with presetN := false }, sys := { s.sys with asserted := s.sys.asserted ||| 4 } }
  .next (if s.pins.presetN then s1.fireReset 2 else s1)

/-- PRESET_RELEASE: the accepted rising edge latches the straps and is the reference of the release; the extender holds reset
for 10 µs from the assertion (R380, R381). -/
def execPresetRelease (bootSrc clkMode : Fin 4) (pairPri : Bool) (s : State) : Host.Outcome State Fault Refusal :=
  if s.pins.presetN then .next s
  else
    .next ({ s with
      pins := { s.pins with presetN := true }
      sys := { s.sys with
        asserted := s.sys.asserted - s.sys.asserted / 4 % 2 * 4, straps := (bootSrc.val, clkMode.val, pairPri)
        stageAt := if s.sys.stage = 15 then max s.time.cyc (s.sys.stageAt + 2500) else s.sys.stageAt
        served := if s.sys.stage = 15 then (if bootSrc.val = 1 then 1 else 0) else s.sys.served } })

/-- Power of the logic side lost: VCORE POR at L1, at once; outputs stay as R389 gives them until power returns (R473). -/
def State.powerLost (s : State) : State :=
  if bitAt s.sys.asserted 1 then s
  else (s.powerReset 1 1).modSys (fun y => { y with asserted := y.asserted ||| 2 })

/-- PGOOD_FALL: PGOOD low for 1 µs fires VCORE POR, never deferred (R386, R473). -/
def execPgoodFall (s : State) : Host.Outcome State Fault Refusal :=
  .next ({ s with pins := { s.pins with pgood := false } }.powerLost)

/-- LOGIC_POWER_CHANGE: VCORE above its threshold with PGOOD high, or not (R362): GRD_STAT.LOGIC and BATTERY follow. With power
back, source 1 ends and the release counts from then, or from a later edge of PRESET_N (R473). -/
def execLogicPowerChange (powered : Bool) (s : State) : Host.Outcome State Fault Refusal :=
  if powered = false then .next s.powerLost
  else if bitAt s.sys.asserted 1 = false then .next s
  else
    .next ({ s with pins := { s.pins with pgood := true } }.modSys (fun y => { y with
      asserted := y.asserted - 2, stageAt := if y.stage = 15 then max s.time.cyc y.stageAt else y.stageAt }))

/-- RESET_PREP_DONE: the tables write their DIRTY entries, and a software service reset flushes the store; once the recorder's
flush has ended and every write of the store has been accepted, the reset takes effect (R253, R268, R377). -/
def execResetPrepDone (s : State) : Host.Outcome State Fault Refusal :=
  match s.sys.prep with
  | none => .next s
  | some p =>
    let w := if p.flushed then (true, s) else s.wantLines s.flushWants
    if w.1 = false then .next w.2
    else
      let s1 := if p.flushed then s
        else (if bitAt p.sources 8 then w.2.flushStore else w.2.flushTerms).modSys (fun y => { y with prep := some { p with flushed := true } })
      if s1.evr.flush.isSome ∨ s1.storePending then .next s1
      else .next (s1.applyReset p.level p.sources false false (bitAt p.sources 8))

/-- RESET_PREP_TIMEOUT: preparation that has lasted 5 ms is cut (R377). -/
def execResetPrepTimeout (s : State) : Host.Outcome State Fault Refusal :=
  match s.sys.prep with
  | none => .next s
  | some p => .next (if p.cyc + 1250000 ≤ s.time.cyc then s.applyReset p.level p.sources false true false else s)

/-- The lowest bit of a word. -/
def lowBit (v : Nat) : Nat :=
  match (List.range 64).find? (fun i => bitAt v i) with
  | some i => 2 ^ i
  | none => 0

/-- OTP_PROGRAMMED and the end of a programming operation: RESULT 0, BUSY 0 (chapter 17). -/
def State.otpDone (s : State) (w : Nat) : State :=
  (((s.modLife (fun l => { l with prog := none })).modSys (fun y => { y with pulse := false })).wr Reg.LCD_OTP_CMD_RESULT 0).emit
    .otpProgrammed none srcS0 w (bitCount (s.rd Reg.LCD_OTP_DATA_DATA)) 0

/-- One bit of the word being programmed takes effect at the end of its pulse. The last one ends the operation. -/
def State.otpPulse (s : State) (w bits : Nat) : State :=
  let b := lowBit bits
  let s1 := s.otpWrite w b
  if bits = b then s1.otpDone w
  else s1.modLife (fun l => { l with prog := some (w, bits - b) })

/-- NV_PULSE_END: the pulse ends; a reset that waited proceeds, and no further pulse starts (R386). Within a life-cycle group
resets wait for the group's last pulse (R406). -/
def execNvPulseEnd (s : State) : Host.Outcome State Fault Refusal :=
  match s.life.prog with
  | none => .next s
  | some (w, bits) =>
    let s1 := s.otpPulse w bits
    .next (if s1.sys.deferred.isSome then (s1.modSys (fun y => { y with pulse := false })).releaseDeferred else s1)

/-- The clock domains that a stage uses, in CLKGOOD order: cluster, control, Scale, time base, SerDes (R9, R383; log entry 45). -/
def stageClocks (i : Nat) : List Nat := [[0, 1, 2, 3, 4], [1], [1], [1], [0, 1], [1, 3], [1], [0], [4]].getD i []

/-- The next cluster that stage 7 releases: those that the cap keeps, lowest first (R383, R475). -/
def State.nextCluster (s : State) : Option Nat := s.keptClusters.find? (fun c => !bitAt s.sys.clusters c)

/-- The reference cycles before the next release. -/
def State.nextGap (s : State) : Nat :=
  if s.sys.stage = 15 then s.gapOf 0
  else if s.sys.stage = 6 then (if s.nextCluster.isSome then s.gapOf 7 else 0)
  else s.gapOf (s.sys.stage + 1)

/-- The next stage's number. -/
def Sys.next (y : Sys) : Nat := if y.stage = 15 then 0 else y.stage + 1

/-- Clock-good of every domain of the next stage; for stage 0 its release is the PLLs' lock, which the reserved CLK_MODE never
gives (R381, R383). -/
def State.stageClocked (s : State) : Bool :=
  if s.sys.next = 0 then decide (s.sys.straps.2.1 ≠ 3) else (stageClocks s.sys.next).all (fun d => bitAt s.sys.good d)

/-- A port at stage 8: training begins after L1 (R329, R308); after L2 it sends SEQ_RESET again (R312). -/
def State.portStage8 (s : State) (l1 : Bool) (n : Nat) : State :=
  if l1 then (if s.bit (Reg.LNK_CTL_EN n) then s.modPort n (fun p => { p with st := .detect }) else s)
  else
    let s1 := if s.portActive n then s.sendMgt n 0x06 0 else s
    s1.modPort n (fun p => { p with quiet := false, txSeq := 1, rxSeq := 1 })

/-- At a release of the recorder, firmware sets READ_T for exactly the codes marked t (R497). -/
def State.markCodes (s : State) : State :=
  tenantMarkedCodes.foldl (fun s c => s.wr (Reg.EVR_CODE_READ_T c) 1) { s with regs := regResetRange s.regs 0x500C8000 0x500CC000 }

/-- What the release of a stage does. -/
def State.stageEffect (s : State) (i : Nat) : State :=
  let l1 := decide (s.sys.releasing = 1)
  match i with
  | 0 => s.modSys (fun y => { y with good := 31 })
  | 3 => if s.dead then s.clearGuard else s
  | 5 =>
    let s1 : State := if l1 then
        let s1 := s.timeRestart s.guard.timerLost
        { s1 with guard := { s1.guard with timerLost := false } }
      else s
    (State.markCodes { s1 with evr := { s1.evr with lastFlush := s1.now } }).entropyStart
  | 8 =>
    let s1 := (List.range 4).foldl (fun s n => s.portStage8 l1 n) s
    let s2 : State := { s1 with pins := { s1.pins with resetOutN := true } }
    let s3 := s2.modSys (fun y => { y with releasing := 0 })
    let s4 := s3.modPair (fun p => { p with
      since := s3.now, arb := if s3.linesFree then some s3.now else none, epoch := max 1 p.epoch })
    if s4.sys.phase = .launched then s4.relaunch else s4.beginBoot
  | _ => s

/-- A cluster released from reset: in service (R383). Those that the cap holds out stay in reset (R475). -/
def State.releaseCluster (s : State) (c : Nat) : State :=
  s.modRas (fun r => { r with inService := setBits r.inService c 1 1 })

/-- The next stage, or in stage 7 the next cluster, released. -/
def State.releaseNext (s : State) : State :=
  let i := s.sys.next
  if i = 7 then
    let s0 := s.modRas (fun r => { r with held := s.goodClusters.filter (fun c => !s.keptClusters.contains c) })
    match s0.nextCluster with
    | none => s0.modSys (fun y => { y with stage := 7 })
    | some c =>
      let s1 := (s0.releaseCluster c).modSys (fun y => { y with clusters := setBits y.clusters c 1 1, stageAt := s0.time.cyc })
      if s1.nextCluster.isNone then s1.modSys (fun y => { y with stage := 7 }) else s1
  else (s.modSys (fun y => { y with stage := i, stageAt := s.time.cyc })).stageEffect i

/-- STAGE_RELEASE: the next stage is released once its gap has passed, its clocks are good and no source is asserted (R379,
R383). The command stands for the stage's ready condition. -/
def execStageRelease (s : State) : Host.Outcome State Fault Refusal :=
  .next (if s.sys.releasing ≠ 0 ∧ s.sys.asserted = 0 ∧ s.stageClocked ∧ s.sys.stageAt + s.refCycles s.nextGap ≤ s.time.cyc then
    s.releaseNext else s)

/-- STAGE_OVERRIDE: in MAKER the debug port releases the next stage without its gap or ready condition; a block whose
clock-good is low stays held (R385). -/
def execStageOverride (s : State) : Host.Outcome State Fault Refusal :=
  .next (if s.lc = .maker ∧ s.sys.releasing ≠ 0 ∧ s.stageClocked then s.releaseNext else s)

/-- BLOCK_RESET_REQUEST: SYS_BLK_RST.REQ with its BLOCK and TMO; ignored while BUSY; an idle request goes to the block (R387). -/
def execBlockResetRequest (block : BitVec 5) (tmo : BitVec 32) (s : State) : Host.Outcome State Fault Refusal :=
  if s.sys.block.isSome then .next s
  else
    let b := block.toNat
    let t := tmo.toNat
    let s0 := s.wr Reg.SYS_BLK_RST_BLOCK b
    let s1 := if 10 ≤ t ∧ t ≤ 100000 then s0.wr Reg.SYS_BLK_RST_TMO t else s0
    if 30 < b then .next s1
    else
      let s2 := s1.modSys (fun y => { y with block := some (b, s.time.cyc) })
      if b < 24 then
        let s3 := (s2.unstage b).modPrf (fun p => { p with drained := if p.drained.contains b then p.drained else b :: p.drained })
        let s4 := (List.range 8).foldl (fun s i =>
          let n := b * 8 + i
          if (s.core n).run.isSome then s.modCore n (fun k => { k with idleReq := some (k.idleReq.getD .aborted) }) else s) s3
        -- a test of the cluster is abandoned (R463)
        .next ((s4.skipTest b 2).modPrf (fun p => { p with drained := if p.drained.contains b then p.drained else b :: p.drained }))
      else if b < 28 then .next (if s2.portActive (b - 24) then s2.sendMgt (b - 24) 0x05 0 else s2)
      else if b = 28 then .next s2.endSession
      else if b = 30 then .next (s2.cspEnd 4)
      else .next s2

/-- The effect of a block reset on its block (R387). -/
def State.blockReset (s : State) (b : Nat) : State :=
  if b < 24 then
    let asked := s.bit Reg.PRF_DRAIN_REQ && decide (s.rd Reg.PRF_DRAIN_CLUSTER = b)
    (s.clusterReset b).modPrf (fun p => { p with drained := if asked then p.drained else p.drained.filter (fun c => c ≠ b) })
  else if b < 28 then
    let n := b - 24
    let s1 := s.modPort n (fun p => { p.leave .disabled 4 s.now with txSeq := 1, rxSeq := 1, retry := [], replays := 0 })
    if s1.bit (Reg.LNK_CTL_EN n) then s1.modPort n (fun p => { p with st := .detect }) else s1
  else if b = 28 then s
  else if b = 29 then
    State.entropyStart { s with
      ent := { Entropy.reset with counter := s.ent.counter }
      regs := s.regs.filter (fun e => decide (e.1 / 64 / 0x10000 ≠ 0x5009)) }
  else
    { s with keys := { s.keys with csp := { Csp.reset with out := s.keys.csp.out, given := s.keys.csp.given } }
             regs := s.regs.filter (fun e => decide (e.1 / 64 / 0x10000 ≠ 0x5011)) }

/-- Whether a block is idle: a cluster holds no running command, the others are idle at once. -/
def State.blockIdle (s : State) (b : Nat) : Bool :=
  if b < 24 then (List.range 8).all (fun i => (s.core (b * 8 + i)).run.isNone) else true

/-- BLOCK_IDLE: an idle block is reset and released; BLOCK_RESET 1 (R387). The tables have flushed every DIRTY entry first
(R253). -/
def execBlockIdle (s : State) : Host.Outcome State Fault Refusal :=
  match s.sys.block with
  | none => .next s
  | some (b, _) =>
    let w := s.wantLines s.flushWants
    if s.blockIdle b = false then .next s
    else if w.1 = false then .next w.2
    else .next (((w.2.flushTerms.blockReset b).modSys (fun y => { y with block := none })).emit .blockReset none srcReset b 1 0)

/-- BLOCK_IDLE_TIMEOUT: TMO has passed; the block is reset anyway; BLOCK_RESET 2 (R387). -/
def execBlockIdleTimeout (s : State) : Host.Outcome State Fault Refusal :=
  match s.sys.block with
  | none => .next s
  | some (b, c) =>
    if s.time.cyc < c + 250 * s.rd Reg.SYS_BLK_RST_TMO then .next s
    else .next (((s.blockReset b).modSys (fun y => { y with block := none })).emit .blockReset none srcReset b 2 0)

/-- BOOT_GO: DW_BOOT_GO written at a port on which the ROM serves its mailbox, in phases 0 and 4 (R393, R400). The attempt waits
1 s where attempts are delayed (R381). -/
def execBootGo (port : Fin 4) (s : State) : Host.Outcome State Fault Refusal :=
  if (s.port port).accepts = false then .next s
  else
    let s := s.accept port
    if bitAt s.sys.served port = false ∨ s.dead ∨ (s.sys.phase ≠ .waiting ∧ s.sys.phase ≠ .failed) ∨ s.sys.releasing ≠ 0 then .next s
    else
      let s1 := s.modSys (fun y => { y with phase := .loading, copy := 2, port := port, image := [], reads := 0, failed := false })
      .next (if s1.backingOff then s1.modSys (fun y => { y with backoff := some (s.time.cyc + 250000000) }) else s1.readImage)

/-- BOOT_BACKOFF_EXPIRY: the 1 s has passed and the attempt runs (R381). -/
def execBootBackoffExpiry (s : State) : Host.Outcome State Fault Refusal :=
  match s.sys.backoff with
  | none => .next s
  | some c =>
    if s.time.cyc < c then .next s
    else
      let s1 := s.modSys (fun y => { y with backoff := none })
      .next (if s1.sys.source = 0 then s1.beginFlash 0 else s1.readImage)

/-- An image that arrived, checked and launched or rejected (R391, R396). -/
def State.bootImage (s : State) (b : Bytes) : State :=
  match s.imageFault b with
  | 0 => s.launch b
  | f => s.bootFails f

/-- BOOT_IMAGE_READ_DONE: a flash copy has been read (`flash`: its bytes), or every read of a host image has ended (R391). -/
def execBootImageReadDone (flash : Bytes) (s : State) : Host.Outcome State Fault Refusal :=
  if s.sys.phase ≠ .loading ∨ s.sys.backoff.isSome then .next s
  else if s.sys.copy < 2 then .next (s.bootImage flash)
  else if s.sys.failed then .next (s.bootFails 6)
  else if s.sys.reads ≠ 0 then .next s
  else .next (s.bootImage s.sys.image)

/-- FLASH_READ_TIMEOUT: a flash copy not read within 100 ms fails with FLASH (R391). -/
def execFlashReadTimeout (s : State) : Host.Outcome State Fault Refusal :=
  .next (if s.sys.phase = .loading ∧ s.sys.copy < 2 ∧ s.sys.backoff.isNone ∧ s.sys.flashAt + 25000000 ≤ s.time.cyc then
    s.bootFails 7 else s)

end Sys2Proof.Machine
end

