-- ==== Sys2Proof/Machine/GuardDomain.lean ====
section
/-! DEFINITION. The guard domain: sources and responses, the trip, the Crust channels and the guard power-on reset (R360 to
R375). -/

namespace Sys2Proof.Machine

/-- Whether the logic side is powered (R362). -/
def State.logicOn (s : State) : Bool := !bitAt s.sys.asserted 1

/-- Sources that always trip (R369). -/
def fixedTrip (i : Nat) : Bool := decide (i < 4) || decide (i = 9) || decide (i = 12) || decide (i = 13)

/-- The response of a source: 0 WARN, 1 WARN_FO, 2 TRIP. DISARM makes trips act as WARN (R369, GRD_CTL, GRD_RESP). -/
def State.response (s : State) (i : Nat) : Nat :=
  let r := if fixedTrip i then 2 else min 2 (s.rd Reg.GRD_RESP_RESP / 4 ^ i % 4)
  if r = 2 ∧ s.bit Reg.GRD_CTL_DISARM then 0 else r

/-- A warning (R371): recorded by S0 while it runs, which also requests a service reset for WARN_FO; else latched only and
recorded at the next boot. -/
def State.warn (s : State) (i resp : Nat) : State :=
  if s.logicOn ∧ s.winOpen then
    let s1 := s.emit .guardWarning none srcGuard (2 ^ i) resp 1
    if resp = 1 then s1.fireReset 8 else s1
  else
    { s with guard := { s.guard with warns := s.guard.warns ++ [(2 ^ i, resp, if s.logicOn then 1 else 2)] } }

/-- A trip (R372, R373): guard SRAM cleared, TAMPER_N low, the record written, the tamper reset requested where the logic side
is powered. `passes`: clearing passes until a clean read-back, 0 for never clean. While a trip is active a further source
only adds its bit to the record. -/
def State.trip (s : State) (i passes : Nat) : State :=
  if s.bit Reg.GRD_STAT_TRIP_ACTIVE then s.wr Reg.GRD_TREC_CAUSE (s.rd Reg.GRD_TREC_CAUSE ||| 2 ^ i)
  else
    let s1 := s.clearGuard.modKeys (fun k => { k with opens := k.opens.map (fun o => { o with parts := [] }) })
    let s2 := (((s1.wr Reg.GRD_STAT_TRIP_ACTIVE 1).wr Reg.GRD_TREC_CAUSE (2 ^ i)).satInc Reg.GRD_TREC_TRIPS).wr Reg.GRD_TREC_TIME_TIMER
      (s1.rd Reg.GRD_TIMER_COUNT)
    let s3 := if passes = 1 then s2 else s2.wr Reg.GRD_STAT_ZV_FAIL 1
    let s4 : State := { s3 with
      pins := { s3.pins with tamperN := false }
      guard := { s3.guard with trip := true, passes := if passes = 1 then s3.guard.passes else some passes } }
    if s4.logicOn then s4.fireReset 4 else s4

/-- A source fires: its bit is latched and its response taken (R369 to R372). A source whose bit is latched already warns no
more. -/
def State.guardSource (s : State) (i passes : Nat) : State :=
  let was := bitAt (s.rd Reg.GRD_SRC_LATCHED) i
  let s1 := s.wr Reg.GRD_SRC_LATCHED (s.rd Reg.GRD_SRC_LATCHED ||| 2 ^ i)
  if s.response i = 2 then s1.trip i passes
  else if was then s1 else s1.warn i (s.response i)

/-- FILT of a channel: 0 acts as 1 (GRD_MESH_CFG). -/
def State.meshFilt (s : State) (ch : Nat) : Nat := max 1 (s.rd (Reg.GRD_MESH_CFG_FILT ch))

/-- CRUST_STEP: one step of a channel. `seenA`, `seenB`: the sense input followed its drive in the step, after `dlyA`, `dlyB` units of
62.5 ns; `pairShort`, `supplyShort`: the shorts of R365. FILT failing steps in a row latch the sources of the faults that
they showed. -/
def execCrustStep (ch : Fin 4) (seenA seenB : Bool) (dlyA dlyB : BitVec 8) (pairShort supplyShort : Bool) (passes : Fin 4)
    (s : State) : Host.Outcome State Fault Refusal :=
  if s.bit (Reg.GRD_MESH_CFG_EN ch) = false then .next s
  else
    let lo := s.rd (Reg.GRD_MESH_CFG_DLY_MIN ch)
    let hi := s.rd (Reg.GRD_MESH_CFG_DLY_MAX ch)
    let late (seen : Bool) (d : BitVec 8) : Bool := !seen || decide (hi < d.toNat)
    let off (seen : Bool) (d : BitVec 8) : Bool := seen && (decide (d.toNat < lo) || decide (hi < d.toNat))
    let open_ := late seenA dlyA || late seenB dlyB
    let timing := off seenA dlyA || off seenB dlyB
    let integ := open_ || pairShort || supplyShort
    let s1 := (s.wr (Reg.GRD_MESH_STAT_DLY_A ch) dlyA.toNat).wr (Reg.GRD_MESH_STAT_DLY_B ch) dlyB.toNat
    let m := tabGet ⟨0, 0⟩ s1.guard.mesh ch
    let put (s : State) (m : Mesh) : State := { s with guard := { s.guard with mesh := tabSet ⟨0, 0⟩ s.guard.mesh ch m } }
    if integ = false ∧ timing = false then .next (put s1 ⟨0, 0⟩)
    else
      let fault := if open_ then 1 else if pairShort then 2 else if supplyShort then 1 else 3
      let s2 := (s1.satInc (Reg.GRD_MESH_STAT_FAILS ch)).wr (Reg.GRD_MESH_STAT_FAULT ch) fault
      let m1 : Mesh := ⟨min (m.run + 1) 15, m.seen ||| (b2n integ + 2 * b2n timing)⟩
      let s3 := put s2 m1
      if m1.run < s.meshFilt ch then .next s3
      else
        let s4 := if bitAt m1.seen 0 then s3.guardSource ch passes else s3
        .next (if bitAt m1.seen 1 then s4.guardSource (4 + ch) passes else s4)

/-- DIE_TEMPERATURE_FAULT: source 8. `temp` is what GRD_TEMP then reads. -/
def execDieTemperatureFault (temp : BitVec 16) (passes : Fin 4) (s : State) : Host.Outcome State Fault Refusal :=
  .next ((s.wr Reg.GRD_TEMP_TEMP temp.toNat).guardSource 8 passes)

/-- VGUARD_FAULT: source 9, a fixed trip. -/
def execVguardFault (passes : Fin 4) (s : State) : Host.Outcome State Fault Refusal := .next (s.guardSource 9 passes)

/-- VCORE_GLITCH: source 10, watched while the logic side is powered. -/
def execVcoreGlitch (passes : Fin 4) (s : State) : Host.Outcome State Fault Refusal :=
  .next (if s.logicOn then s.guardSource 10 passes else s)

/-- CLOCK_MONITOR_FAULT: source 11, watched while the logic side is powered. -/
def execClockMonitorFault (passes : Fin 4) (s : State) : Host.Outcome State Fault Refusal :=
  .next (if s.logicOn then s.guardSource 11 passes else s)

/-- LIGHT_DETECTED: source 12, a fixed trip. -/
def execLightDetected (passes : Fin 4) (s : State) : Host.Outcome State Fault Refusal := .next (s.guardSource 12 passes)

/-- SHIELD_ERROR: source 13, a fixed trip. -/
def execShieldError (passes : Fin 4) (s : State) : Host.Outcome State Fault Refusal := .next (s.guardSource 13 passes)

/-- TAMP_IN_ASSERTED: an enabled input held at its active level for its filter time: sources 14 to 17 (R370). `high` is the level. -/
def execTampInAsserted (input : Fin 4) (high : Bool) (passes : Fin 4) (s : State) : Host.Outcome State Fault Refusal :=
  let cfg := s.rd Reg.GRD_TAMP_CFG_IN / 16 ^ input.val % 16
  .next (if bitAt cfg 3 ∧ bitAt cfg 2 = high then s.guardSource (14 + input) passes else s)

/-- VGUARD_POR: an L0 reset loses guard SRAM, the guard timer and every sticky bit, sets POR_LOST, and runs L1 (R374, R376, R384). -/
def execVguardPor (s : State) : Host.Outcome State Fault Refusal :=
  let s1 := s.clearGuard.powerReset 0 0
  .next { s1 with
    regs := s1.regs.filter (fun e => decide (e.1 / 64 / 0x10000 ≠ 0x500B))
    guard := Guard.reset
    pins := { s1.pins with tamperN := true } }

end Sys2Proof.Machine
end

