-- ==== Sys2Proof/Machine/Life.lean ====
section
/-! DEFINITION. Life cycle, OTP and the debug port without its memory accesses (R398 to R411). -/

namespace Sys2Proof.Machine

/-- LCD_STATE as it reads: MARKER, DISAGREE, STATE (R398, R407). -/
def State.lcdState (s : State) : Nat :=
  let m := lcMajority s.otp
  let differ := (List.range 3).any (fun i => decide (tabGet 0 s.otp.words i % 2 ^ 32 ≠ m))
  s.lc.code + 16 * b2n differ + 256 * b2n s.life.marker.isSome

/-- LCD_LC_STAT as it reads: STEP, HOLDOFF, TARGET, PWR_HOLD, GROUPS (chapter 17). -/
def State.lcdLcStat (s : State) : Nat :=
  let busy := match s.life.move with | some m => m.busy | none => false
  s.rd Reg.LCD_LC_STAT_STEP + 8 * b2n (busy && s.sys.deferred.isSome) + 16 * s.rd Reg.LCD_LC_STAT_TARGET
    + 128 * b2n s.pins.pwrHold + 256 * s.rd Reg.LCD_LC_STAT_GROUPS

/-- The moves of R403. -/
def lcMove (from_ to_ : Nat) : Bool :=
  (decide (from_ = 0) && decide (to_ = 1)) || (decide (from_ = 1) && decide (to_ = 2))
    || ((decide (from_ = 1) || decide (from_ = 2)) && decide (to_ = 3)) || (decide (from_ < 4) && decide (to_ = 4))

/-- Whether the signers' slots are those that R403 lists for a move. -/
def lcSlots (from_ to_ : Nat) (slots : List Nat) : Bool :=
  if from_ = 0 ∧ to_ = 1 then decide (slots = [0])
  else if from_ = 1 ∧ to_ = 2 then decide (slots = [1])
  else if to_ = 3 then decide (slots = [0, 1]) || decide (slots = [1, 0])
  else if to_ = 4 then decide (slots = [0]) || decide (slots = [1])
  else true

/-- The response and the record of a move that ends (R405 step 6, R406); the controller's status goes idle. -/
def State.endMove (s : State) (m : Move) (r : MbResult) : State :=
  ((s.modLife (fun l => { l with move := none })).wr Reg.LCD_LC_STAT_STEP 0).answer m.src r []

/-- Step 4 of R405 before a group, or steps 5 and 6 once all are programmed: PWR_HOLD and PFAIL_N are sampled, and no further
group starts if either is low. -/
def State.moveOn (s : State) (m : Move) : State :=
  if m.group < m.target then
    if s.pins.pwrHold ∧ s.pins.pfailN then
      (s.modLife (fun l => { l with move := some { m with busy := true } })).wr Reg.LCD_LC_STAT_STEP 4
    else s.endMove m .pwrHoldLow
  else if s.lc.code ≠ m.target then s.endMove m .wrongState
  else
    let s1 := (s.modLife (fun l => { l with marker := none, wiped := false })).wr Reg.GRD_CTL_DISARM 0
    ((s1.endMove m .ok).emit .lcTransitionDone none srcS0 m.from_ m.target m.done).fireReset 6

/-- An accepted move begins (R405 steps 1 to 4). `who`: the mask of signer slots, 0xFF for a ceremony. -/
def State.beginMove (s : State) (target who src : Nat) : State :=
  let c := s.lc.code
  let s1 := (s.emit .lcTransitionStarted none srcS0 c target who).endDebug 5
  let s2 := if 3 ≤ target then (s1.modLife (fun l => { l with marker := some target })).wipe else s1
  let s3 := (s2.wr Reg.LCD_LC_STAT_TARGET target).wr Reg.LCD_LC_STAT_GROUPS 0
  s3.moveOn ⟨target, c, c, 0, false, src⟩

/-- Checks of R404 from order 4: the move, then PWR_HOLD and PFAIL_N. -/
def State.moveFault (s : State) (target : Nat) : Option MbResult :=
  if lcMove s.lc.code target = false then some .lcBackward
  else if s.pins.pwrHold = false ∨ s.pins.pfailN = false then some .pwrHoldLow
  else none

/-- A signer entry of R402: slot, public key, signature. -/
def signerEntry (b : Bytes) : Nat × Bytes × Bytes := (byteAt b 0, slice b 4 68, slice b 72 2820)

/-- Whether a signer's key matches the digest in its slot (R401, R404). -/
def State.slotKey (s : State) (e : Nat × Bytes × Bytes) : Bool :=
  let d := tabGet [] s.otp.keys e.1
  decide (e.1 < 3) && decide (d ≠ []) && decide (shake256 32 e.2.1 = d)

/-- LC_TRANSITION: OP 0x60, checked in the order of R404; a move that is accepted begins. -/
def execLcTransition (slot : Fin 65) (s : State) : Host.Outcome State Fault Refusal :=
  .next (s.serveOp slot 0x60 (fun b s1 =>
    let target := byteAt b 5
    let n := byteAt b 6
    let body := b.take 64
    let signers := (List.range n).map (fun i => signerEntry (slice b (64 + 2892 * i) 2892))
    let refuse (s : State) (r : MbResult) : State := (s.emit .lcTransitionRefused none srcS0 target r.code 0).respond slot r []
    if b.length < 64 ∨ leAt b 0 4 ≠ 0x54434C44 ∨ byteAt b 4 ≠ 1 ∨ (n ≠ 1 ∧ n ≠ 2) ∨ byteAt b 7 ≠ 0 ∨ leAt b 8 8 ≠ s1.otp.uid
        ∨ allZero (slice b 48 16) = false ∨ b.length ≠ 64 + 2892 * n
        ∨ (List.range n).any (fun i => !allZero (slice b (65 + 2892 * i) 3)) then refuse s1 .badFormat
    else
      match s1.useChallenge (slice b 16 32) with
      | none => refuse s1 .badChallenge
      | some s2 =>
        let slots := signers.map (fun e => e.1)
        if signers.any (fun e => !s2.slotKey e) ∨ (n = 2 ∧ slots.getD 0 0 = slots.getD 1 0)
            ∨ (lcMove s2.lc.code target ∧ lcSlots s2.lc.code target slots = false) then refuse s2 .badSigner
        else if signers.any (fun e => !Config.xmssVerify e.2.1 body e.2.2) then refuse s2 .badSignature
        else
          match s2.moveFault target with
          | some r => refuse s2 r
          | none =>
            if s2.life.move.isSome then refuse s2 .busy
            else
              (s2.modSlot slot (fun x => { x with held := true })).beginMove target
                (slots.foldl (fun m i => m ||| 2 ^ i) 0) slot))

/-- SCRAP: ceremony 0x08 with PARAM_LEN 0 applies the checks of R404 from order 4 (R403). -/
def execScrap (src : Fin 66) (s : State) : Host.Outcome State Fault Refusal :=
  .next (s.ceremonyOf src 0x08 (fun c s =>
    if c.param.length ≠ 0 then .refused .badFormat
    else
      match s.moveFault 4 with
      | some r => .refusedIn r .lcTransitionRefused 4 r.code
      | none =>
        if s.life.move.isSome then .refused .busy
        else
          let s1 := if src.val < 65 then s.modSlot src (fun x => { x with held := true }) else s
          .moved (s1.beginMove 4 0xFF src)))

/-- LC_GROUP_PROGRAMMED: the group's 24 pulses have ended; a reset that waited proceeds and stops the move; else the next group
starts or the move completes (R405, R406). -/
def execLcGroupProgrammed (s : State) : Host.Outcome State Fault Refusal :=
  match s.life.move with
  | none => .next s
  | some m =>
    if m.busy = false then .next s
    else
      let m1 := { m with busy := false, group := m.group + 1, done := m.done + 1 }
      let s0 := s.lcPulses m.group 24
      let s01 := if s.lc = .maker ∧ s0.lc ≠ .maker then s0.leaveMaker else s0
      let s1 := (s01.modLife (fun l => { l with move := some m1 })).laneCheck.wr Reg.LCD_LC_STAT_GROUPS m1.done
      .next (if s1.sys.deferred.isSome then s1.releaseDeferred else s1.moveOn m1)

/-- LC_INSTALL_KEY: OP 0x61 programs one empty slot in INTEGRATOR (R401, R402). -/
def execLcInstallKey (slot : Fin 65) (s : State) : Host.Outcome State Fault Refusal :=
  .next (s.serveOp slot 0x61 (fun b s1 =>
    let i := byteAt b 0
    if b.length ≠ 40 ∨ 2 < i ∨ allZero (slice b 1 7) = false then s1.respond slot .badFormat []
    else if s1.lc ≠ .integrator then s1.respond slot .wrongState []
    else if tabGet [] s1.otp.keys i ≠ [] then s1.respond slot .notEmpty []
    else
      let s2 : State := { s1 with otp := { s1.otp with keys := tabSet [] s1.otp.keys i (slice b 8 32) } }
      ((List.range 4).foldl (fun s k =>
        s.emit .otpProgrammed none srcS0 (Config.otpKeyWord i + k) (bitCount (leAt b (8 + 8 * k) 8)) 0) s2).respond slot .ok []))

/-- LC_STATUS: OP 0x62 returns LCD_STATE and LCD_LC_STAT (R402). -/
def execLcStatus (slot : Fin 65) (s : State) : Host.Outcome State Fault Refusal :=
  .next (s.serveOp slot 0x62 (fun b s1 =>
    s1.emptyBody slot b (s1.respond slot .ok (natToLe 8 s1.lcdState ++ natToLe 8 s1.lcdLcStat))))

/-- OTP_READ: LCD_OTP_CMD.READ loads word INDEX into LCD_OTP_DATA; ignored while BUSY. -/
def execOtpRead (index : Fin 512) (s : State) : Host.Outcome State Fault Refusal :=
  if s.life.prog.isSome then .next s
  else
    let (v, s1) := (s.wr Reg.LCD_OTP_CMD_INDEX index).otpRead index
    .next (s1.wr Reg.LCD_OTP_DATA_DATA v)

/-- OTP_PROGRAM: LCD_OTP_CMD.PROG programs the bits of LCD_OTP_DATA in word INDEX; a locked word gives RESULT 1; ignored while
BUSY. No pulse starts while a reset is pending (R386, R399). -/
def execOtpProgram (index : Fin 512) (s : State) : Host.Outcome State Fault Refusal :=
  if s.life.prog.isSome ∨ s.sys.deferred.isSome ∨ s.sys.prep.isSome then .next s
  else
    let s1 := s.wr Reg.LCD_OTP_CMD_INDEX index
    if s.otpWritable index = false then .next (s1.wr Reg.LCD_OTP_CMD_RESULT 1)
    else if s.rd Reg.LCD_OTP_DATA_DATA = 0 then .next (s1.otpDone index)
    else
      .next ((s1.modLife (fun l => { l with prog := some (index.val, s.rd Reg.LCD_OTP_DATA_DATA) })).modSys (fun y =>
        { y with pulse := true }))

/-- OTP_PROGRAM_DONE: every pulse of the operation has ended; `good`: the word verified, else RESULT 2. With a reset waiting only the
running pulse ends (R386). -/
def execOtpProgramDone (good : Bool) (s : State) : Host.Outcome State Fault Refusal :=
  match s.life.prog with
  | none => .next s
  | some (w, bits) =>
    if s.sys.deferred.isSome ∧ bits ≠ lowBit bits then
      .next (((s.otpPulse w bits).modSys (fun y => { y with pulse := false })).releaseDeferred)
    else
      let s1 := s.otpWrite w bits
      let s2 := if good then s1.otpDone w
        else ((s1.modLife (fun l => { l with prog := none })).modSys (fun y => { y with pulse := false })).wr Reg.LCD_OTP_CMD_RESULT 2
      .next s2.releaseDeferred

/-- The value that the TAP shifts out. -/
def State.shiftOut (s : State) (b : Bytes) : State := s.modLife (fun l => { l with tdo := b })

/-- IDCODE: part number 0x9192 and version 1 in the layout of IEEE 1149.1 (R408). -/
def execIdcode (s : State) : Host.Outcome State Fault Refusal :=
  .next (s.shiftOut (natToLe 4 (0x19192001 + Config.jtagMaker % 2048 * 2)))
/-- UNIT_ID: the 64-bit unit identifier (R408). -/
def execUnitId (s : State) : Host.Outcome State Fault Refusal := .next (s.shiftOut (natToLe 8 s.otp.uid))
/-- BYPASS: the one-bit bypass register captures 0 (R408). -/
def execBypass (s : State) : Host.Outcome State Fault Refusal := .next (s.shiftOut [0#8])
/-- TAP_RESET: TRST_N resets the TAP alone; a session goes on (R408). -/
def execTapReset (s : State) : Host.Outcome State Fault Refusal := .next (s.shiftOut [])

/-- A debug token's fields, where they are valid (R409). -/
def tokenFields (uid : Nat) (b : Bytes) : Option Debug :=
  let scope := byteAt b 5
  let t := byteAt b 6
  let ports := byteAt b 24
  if b.length ≠ 48 + 2892 ∨ leAt b 0 4 ≠ 0x4B544244 ∨ byteAt b 4 ≠ 1 ∨ scope = 0 ∨ 3 < scope ∨ byteAt b 7 ≠ 2 ∨ leAt b 8 8 ≠ uid
      ∨ (scope = 2 ∧ 64 ≤ t) ∨ (scope ≠ 2 ∧ t ≠ 0xFF) ∨ 32 ≤ ports ∨ (scope ≠ 3 ∧ ports ≠ 0) ∨ allZero (slice b 25 23) = false
      ∨ allZero (slice b 49 3) = false then none
  else some ⟨scope, if scope = 2 then t else 0, ports, leAt b 16 8⟩

/-- Whether MAINT may take its ports: no enabled ring has a named host port as its current port, and the store does not use it
(R409). -/
def State.portsFree (s : State) (ports : Nat) : Bool :=
  (List.range 4).all (fun n => !bitAt ports n
    || (s.host.sq.all (fun (e : Nat × Sq) => !e.2.enable || decide (e.2.cur ≠ n)) && decide (s.storePort ≠ n)))

/-- The session that the loaded token asks for is opened if every condition of R409 holds; an open one is replaced. -/
def State.openDebug (s : State) : State :=
  let b := s.life.token
  match tokenFields s.otp.uid b with
  | none => s
  | some d =>
    let e := signerEntry (b.drop 48)
    let consent := decide (d.scope ≠ 2) || s.life.consents.contains (d.tenant, shake256 32 (b.take 48))
    if s.winOpen ∧ s.slotKey e ∧ e.1 < 2 ∧ Config.xmssVerify e.2.1 (b.take 48) e.2.2 ∧ s.lc = .fielded ∧ s.timeGood
        ∧ s.now < d.notAfter ∧ consent ∧ s.portsFree d.ports then
      let s1 := s.endDebug 7
      let s2 := (s1.modLife (fun l => { l with session := some d })).maintPorts d.ports true
      s2.debugEvent d 1 0
    else s

/-- TOKEN: the TAP loads a token into the token buffer; consents count from here (R408, R409). -/
def execToken (data : Bytes) (s : State) : Host.Outcome State Fault Refusal :=
  .next (if s.dead then s else (s.modLife (fun l => { l with token := data, consents := [] })).openDebug)

/-- TRACE_CONSENT: a tenant's ceremony 0x17 names the token body's digest (R409). -/
def execTraceConsent (src : Fin 66) (s : State) : Host.Outcome State Fault Refusal :=
  .next (s.ceremonyOf src 0x17 (fun c s =>
    if c.param.length ≠ 32 then .refused .badFormat
    else if (s.tenant c.tenant).exist = false then .refused .noTenant
    else .done [] (s.modLife (fun l => { l with consents := l.consents ++ [(c.tenant, c.param)] })).openDebug))

/-- DEBUG_SESSION_END: LCD_DBG.END written. -/
def execDebugSessionEnd (s : State) : Host.Outcome State Fault Refusal := .next (s.endDebug 1)

/-- DEBUG_SESSION_EXPIRY: device time has reached NOT_AFTER (R409). -/
def execDebugSessionExpiry (s : State) : Host.Outcome State Fault Refusal :=
  match s.life.session with
  | none => .next s
  | some d => .next (if d.notAfter ≤ s.now then s.endDebug 2 else s)

end Sys2Proof.Machine
end

