-- ==== Sys2Proof/Machine/Pair.lean ====
section
/-! DEFINITION. The commands of the active-standby pair: the claim interlock, pairing, the messages of the Starter, epochs,
seeding and takeover (chapter 14). -/

namespace Sys2Proof.Machine

/-- PEER_CLAIM_RISE: PEER_CLAIM_IN high after its filter ends an arbitration delay, and service where it was on (R332,
R333, R335). -/
def execPeerClaimRise (s : State) : Host.Outcome State Fault Refusal :=
  let s1 : State := { s with pins := { s.pins with peerClaim := true }, pair := { s.pair with arb := none } }
  .next (if s.pair.service then s1.driveClaim.serviceLost else s1.driveClaim)

/-- Epochs without EPOCH_END discarded by a standby (R354). -/
def State.discardEpochs (s : State) : State :=
  let part := s.pair.incoming.filter (fun e => e.fin.isNone)
  let s1 := s.modPair (fun p => { p with incoming := p.incoming.filter (fun e => e.fin.isSome), discarded := part.length })
  part.foldl (fun s e => (s.inc (Reg.STR_CNT_COUNT 4)).emit .epochDiscarded none srcS1 (loWord e.num) 0 0) s1

/-- PEER_CLAIM_FALL: with PEER_CLAIM_IN low the arbitration delay can run; a standby discards what is not complete
(R333, R354). -/
def execPeerClaimFall (s : State) : Host.Outcome State Fault Refusal :=
  let s1 : State := { s with pins := { s.pins with peerClaim := false } }
  let s2 := if s.pair.st = .standby then s1.discardEpochs else s1
  let s3 := if s2.pair.claim ∧ s2.pair.st ≠ .gaveUp then s2.driveClaim else s2
  .next (s3.modPair (fun p => { p with arb := if s3.linesFree ∧ p.claim = false then some s.now else none }))

/-- Service opened after a claim by a standby: epoch H + 8,192 opens, the mirrored flows are taken up (R338, R354). -/
def State.takeover (s : State) : State :=
  let h := s.pair.acked
  let s1 := s.modPair (fun p => { p with
    st := .alone, horizon := h, epoch := h + 8192, oldest := none, recs := [], journal := [], takeovers := p.takeovers + 1, flows := [] })
  let s2 := s1.modPrf (fun p => { p with
    flows := s.pair.flows.foldl (fun m (e : Nat × Nat) => tabMod Flow.fresh m e.1 (fun (f : Flow) => { f with next := e.2 })) p.flows })
  ((s2.inc (Reg.STR_CNT_COUNT 0)).emit .pairTakeover none srcS1 (hiWord h) (loWord h) s.pair.discarded).modPair
    (fun p => { p with discarded := 0 })

/-- ARBITRATION_DELAY_EXPIRY: after 10 µs on the primary and 20 µs on the secondary an eligible unit sets LAST_ACTIVE and
claims; with service on, an unpaired unit serves, one with a pair key is ALONE, a standby takes over (R333, R334, R338). -/
def execArbitrationDelayExpiry (s : State) : Host.Outcome State Fault Refusal :=
  match s.pair.arb with
  | none => .next s
  | some t0 =>
    if s.pairEligible = false ∨ s.pair.claim ∨ s.linesFree = false ∨ s.now < t0 + s.usRaw (if s.primary then 10 else 20) then .next s
    else
      let s1 := (s.modPair (fun p => { p with lastActive := true, claim := true, arb := none })).driveClaim
      .next (match s.pair.st with
        | .standby => s1.takeover
        | _ => if s.keys.pair.isSome then s1.modPair (fun p => { p with st := .alone }) else s1)

/-- CLAIM_CONTENTION: PEER_CLAIM_IN high for 1 µs while the own claim is asserted releases the claim (R333). -/
def execClaimContention (s : State) : Host.Outcome State Fault Refusal :=
  .next (if s.pair.claim = false ∨ s.pins.peerClaim = false then s
    else
      let s1 := (s.inc (Reg.STR_CNT_COUNT 2)).emit .pairContention none srcS1 (b2n s.pair.had) 0 0
      if s.pair.had then s1.giveUp else (s1.modPair (fun p => { p with claim := false })).driveClaim)

/-- The fatal conditions that hold now, latched (R336): untrusted time and AUDIT_LOST beside what their units latched. -/
def State.latchFatal (s : State) : State :=
  let s1 := if s.time.state = .untrusted ∧ s.bit Reg.TIM_CTL_UNTRUST_FATAL then s.latchCond 3 else s
  if s.bit Reg.GRD_STICKY_AUDIT_LOST then s1.latchCond 4 else s1

/-- The conditions that are enabled (R336). -/
def State.fatalMask (s : State) : Nat :=
  0x27 + 8 * s.rd Reg.TIM_CTL_UNTRUST_FATAL + 16 * s.rd Reg.STR_DIAG_CFG_AUDIT_FATAL

/-- FATAL_CONDITION: an enabled condition makes the unit give up (R336, R337). -/
def execFatalCondition (s : State) : Host.Outcome State Fault Refusal :=
  let s1 := s.latchFatal
  .next (if (s1.rd Reg.STR_DIAG_COND) &&& s1.fatalMask = 0 ∨ s1.pair.st = .gaveUp then s1 else s1.giveUp)

/-- PAIRING_PAIR: ceremony 0x07 with MODE 1 names the partner; its response waits for the pair key (R340, R341). -/
def execPairingPair (src : Fin 66) (s : State) : Host.Outcome State Fault Refusal :=
  .next (s.ceremony src 0x07 (fun b => decide (byteAt b 128 ≠ 2)) (fun c s =>
    let p := c.param
    if p.length ≠ 48 ∨ byteAt p 0 ≠ 1 ∨ allZero (slice p 1 7) = false then .refused .badFormat
    else if s.keys.pair.isSome then .refused .wrongState
    else if s.pair.pairing.isSome then .refused .busy
    else
      .later ((s.modPair (fun q => { q with
        pairing := some ⟨leAt p 8 8, slice p 16 32, c.window.2, src⟩, ident := none })).pairStep)))

/-- PAIRING_DISSOLVE: ceremony 0x07 with MODE 2 zeroises the pair key; data are kept (R338, R340). -/
def execPairingDissolve (src : Fin 66) (s : State) : Host.Outcome State Fault Refusal :=
  .next (s.ceremony src 0x07 (fun b => decide (byteAt b 128 = 2)) (fun c s =>
    let p := c.param
    if p.length ≠ 48 ∨ byteAt p 0 ≠ 2 ∨ allZero (p.drop 1) = false then .refused .badFormat
    else if s.pair.st = .seedingIn then .refused .wrongState
    else
      let s1 := if s.pair.st.mirrors then s.selfAck else s
      .done [] (((s1.modKeys (fun k => { k with pair := none })).endSession).modPair (fun q => { q with
        st := .unpaired, barred := false, waiting := false, incoming := [], recs := [], journal := [], flows := [] }))))

/-- PAIRING_NOT_AFTER_EXPIRY: a MODE 1 pairing without a pair key at its NOT_AFTER ends ABANDONED (R340). -/
def execPairingNotAfterExpiry (s : State) : Host.Outcome State Fault Refusal :=
  match s.pair.pairing with
  | none => .next s
  | some p =>
    .next (if s.now < p.notAfter then s
      else (s.modPair (fun q => { q with pairing := none, ident := none, peerIdent := none })).answer p.src .abandoned [])

/-- A HELLO taken (R343 to R345): a session starts; this unit's HELLO answers it, and the session key follows from the pair key. A
waiting unit learns the partner's last epoch (R339). Where the answer needs random bytes that S0 cannot have yet, the HELLO waits for
them (R301). -/
def State.helloIn (s : State) (payload : Bytes) : State :=
  let peer := payload.take 32
  let answered : Option State := match s.pair.session with
    | some (own, none) => some (s.modPair (fun p => { p with session := some (own, some peer) }))
    | _ => (s.drbgBytes 192 32).map (fun r =>
        (r.2.modPair (fun p => { p with session := some (r.1, some peer), key := none, counters := (0, 0) })).strSend 0x01
          (r.1 ++ natToLe 1 s.pair.st.val ++ zeros 7 ++ natToLe 8 s.lastEpoch))
  match answered with
  | none => s.modPair (fun p => { p with hello := some payload })
  | some s1 =>
    let s2 := s1.modPair (fun p => { p with
      hello := none, heard := s.now, peer := some (byteAt payload 32, leAt payload 40 8, false) })
    ((s2.setSessionKey.partnerReports (leAt payload 40 8)).pairStep).recalEnds 4

/-- HELLO: the partner opens a session (R343). -/
def execHello (payload : Bytes) (s : State) : Host.Outcome State Fault Refusal :=
  .next (if s.bit Reg.STR_CTL_STARTER_EN = false ∨ payload.length ≠ 48 then s else s.helloIn payload)

/-- What waits in S0 for random bytes goes on (R301): a HELLO's answer and the pairing exchange (R341, R343). -/
def State.pairDraws (s : State) : State :=
  let s1 := match s.pair.hello with | some b => s.helloIn b | none => s
  s1.pairStep

/-- IDENT: the partner's identity, checked once this unit's own ceremony is accepted (R341). -/
def execIdent (payload : Bytes) (s : State) : Host.Outcome State Fault Refusal :=
  .next (if s.bit Reg.STR_CTL_STARTER_EN = false ∨ s.keys.pair.isSome then s
    else (s.modPair (fun p => { p with peerIdent := some payload })).pairStep)

/-- KEYX: the secondary checks and decapsulates, and the pair key is established (R341). -/
def execKeyx (payload : Bytes) (s : State) : Host.Outcome State Fault Refusal :=
  match s.pair.pairing, s.pair.ident, s.pair.peerIdent with
  | some p, some (rnd, seed, own), some id =>
    if s.bit Reg.STR_CTL_STARTER_EN = false ∨ s.primary then .next s
    else
      let good := decide (payload.length = 7213) && decide (leAt payload 0 8 = p.uid) && decide (slice payload 8 32 = rnd)
        && s.identGood p id && Config.xmssVerify (slice id 48 68) (payload.take 1608) (payload.drop 1608)
      .next (if good = false then s.pairFails p
        else s.establish p (s.pairKeyOf (fitTo 32 (Config.mlkemDecaps 7 seed (slice payload 40 1568))) own (shake256 32 id)))
  | _, _, _ => .next s

/-- EPOCH_PART: change records of an epoch received by a standby (R344, R347). -/
def execEpochPart (seq : BitVec 16) (counter : BitVec 64) (data : Bytes) (s : State) : Host.Outcome State Fault Refusal :=
  .next (s.strMessage 0x10 seq.toNat counter.toNat data (fun b s =>
    if s.pair.st ≠ .standby ∧ s.pair.st ≠ .seedingIn then s
    else
      let num := leAt b 0 8
      let recs := slice b 16 (leAt b 8 4)
      if s.pair.incoming.any (fun e => e.num == num) then
        s.modPair (fun p => { p with incoming := p.incoming.map (fun (e : InEpoch) => if e.num = num then { e with recs := e.recs ++ recs } else e) })
      else s.modPair (fun p => { p with incoming := p.incoming ++ [⟨num, recs, none⟩] })))

/-- EPOCH_END: the epoch is checked for order, count and digest, applied and acknowledged, or the standby loses the mirror
(R348, R350). -/
def execEpochEnd (seq : BitVec 16) (counter : BitVec 64) (data : Bytes) (s : State) : Host.Outcome State Fault Refusal :=
  .next (s.strMessage 0x11 seq.toNat counter.toNat data (fun b s =>
    if s.pair.st ≠ .standby ∧ s.pair.st ≠ .seedingIn then s
    else
      let num := leAt b 0 8
      let recs := ((s.pair.incoming.find? (fun e => e.num == num)).map (·.recs)).getD []
      let l := changesOf recs
      if (s.pair.synced ∨ s.pair.st = .standby) ∧ num ≠ s.pair.acked + 1 then s.desync 2
      else if l.2 ≠ [] ∨ l.1.length ≠ leAt b 8 4 ∨ shake256 32 recs ≠ slice b 16 32 then s.desync 3
      else
        match s.applyChanges l.1 with
        | none => s.desync 3
        | some s1 =>
          (s1.modPair (fun p => { p with acked := num, synced := true, incoming := p.incoming.filter (fun e => e.num ≠ num) })).strSend 0x12
            (natToLe 8 num)))

/-- EPOCH_ACK: the partner has applied an epoch and every one before it (R351). -/
def execEpochAck (seq : BitVec 16) (counter : BitVec 64) (data : Bytes) (s : State) : Host.Outcome State Fault Refusal :=
  .next (s.strMessage 0x12 seq.toNat counter.toNat data (fun b s =>
    let num := leAt b 0 8
    if s.pair.st.mirrors = false ∨ s.pair.epoch ≤ num then s
    else (s.modPair (fun p => { p with acked := max p.acked num, journal := p.journal.filter (fun e => decide (num < e.num)) })).releaseHeld))

/-- SEED_PART: change records of a seeding applied by the standby (R347, R353). -/
def execSeedPart (seq : BitVec 16) (counter : BitVec 64) (data : Bytes) (s : State) : Host.Outcome State Fault Refusal :=
  .next (s.strMessage 0x20 seq.toNat counter.toNat data (fun b s0 =>
    let s := s0.enterSeeding
    if s.pair.st ≠ .seedingIn then s
    else
      let l := changesOf (s.pair.seedPart ++ slice b 8 (leAt b 0 4))
      match s.applyChanges l.1 with
      | none => s.desync 3
      | some s1 => (s1.modPair (fun p => { p with seedPart := l.2, items := p.items + l.1.length })).seedAnswer))

/-- SEED_END: the standby answers once all items are applied (R353). -/
def execSeedEnd (seq : BitVec 16) (counter : BitVec 64) (data : Bytes) (s : State) : Host.Outcome State Fault Refusal :=
  .next (s.strMessage 0x21 seq.toNat counter.toNat data (fun b s0 =>
    let s := s0.enterSeeding
    if s.pair.st ≠ .seedingIn then s
    else (s.modPair (fun p => { p with seedEnd := some (leAt b 0 8) })).seedAnswer))

/-- SEED_ACK: the active unit is PROTECTED (R338, R353). -/
def execSeedAck (seq : BitVec 16) (counter : BitVec 64) (data : Bytes) (s : State) : Host.Outcome State Fault Refusal :=
  .next (s.strMessage 0x22 seq.toNat counter.toNat data (fun _ s =>
    if s.pair.st ≠ .seedingOut ∨ s.pair.seedEnd.isNone then s
    else (s.modPair (fun p => { p with st := .protected_, seedEnd := none })).emit .seedDone none srcS1 s.pair.items 0 0))

/-- HEARTBEAT: the partner's state (R344, R345). -/
def execHeartbeat (seq : BitVec 16) (counter : BitVec 64) (data : Bytes) (s : State) : Host.Outcome State Fault Refusal :=
  .next (s.strMessage 0x30 seq.toNat counter.toNat data (fun b s =>
    (s.modPair (fun p => { p with peer := some (byteAt b 0, leAt b 8 8, bitAt (byteAt b 1) 0) })).partnerReports (leAt b 8 8)))

/-- HEARTBEAT_SEND: every 10 µs (R344, R345). -/
def execHeartbeatSend (s : State) : Host.Outcome State Fault Refusal :=
  .next (if s.pair.key.isNone ∨ s.bit Reg.STR_CTL_STARTER_EN = false ∨ s.now < s.pair.beat + s.usRaw 10 then s
    else (s.modPair (fun p => { p with beat := s.now })).strSend 0x30
      (natToLe 1 s.pair.st.val ++ natToLe 1 (b2n s.pairEligible + 2 * b2n s.pair.service) ++ zeros 6 ++ natToLe 8 s.lastEpoch))

/-- Counts of a tick comparison (R295): N consecutive differing edges set PAIR_MISMATCH, N equal ones clear it. -/
def State.compareTick (s : State) (peer : Nat) : State :=
  let n := max 1 (s.rd Reg.TIM_PAIR_N)
  let own := (s.now + 2 ^ 23) / 2 ^ 24
  let s0 := s.wr Reg.TIM_PAIR_DIFF
    (if peer ≤ own then min 127 (own - peer) else 256 - min 128 (peer - own))
  if own = peer then
    let s1 := s0.modTime (fun t => { t with eqRun := t.eqRun + 1, diffRun := 0 })
    if n ≤ s1.time.eqRun then s1.wr Reg.TIM_STAT_PAIR_MISMATCH 0 else s1
  else
    let s1 := s0.modTime (fun t => { t with diffRun := t.diffRun + 1, eqRun := 0 })
    if n ≤ s1.time.diffRun ∧ s1.bit Reg.TIM_STAT_PAIR_MISMATCH = false then
      (s1.wr Reg.TIM_STAT_PAIR_MISMATCH 1).emit .timePairMismatch none (Config.blockSource 2) (loWord own) (loWord peer) 0
    else s1

/-- TICK: the partner's count is compared with the own one while both units are TRUSTED (R295, R344). -/
def execTick (seq : BitVec 16) (counter : BitVec 64) (data : Bytes) (s : State) : Host.Outcome State Fault Refusal :=
  .next (s.strMessage 0x31 seq.toNat counter.toNat data (fun b s =>
    let s1 := (s.modTime (fun t => { t with peer := some (leAt b 0 8, byteAt b 8 == 0) })).wr Reg.TIM_PAIR_PEER (loWord (leAt b 0 8))
    if s.bit Reg.TIM_CTL_PAIR_CMP_EN ∧ s.time.state = .trusted ∧ byteAt b 8 = 0 then s1.compareTick (leAt b 0 8) else s1))

/-- Bytes that the open epoch holds. -/
def Pair.openBytes (p : Pair) : Nat := (p.recs.map (fun c => 16 + c.body.length)).foldl (· + ·) 0

/-- EPOCH_CLOSE: the open epoch closes at MAXAGE control-clock cycles, four to a time-base cycle, or at MAXBYTES while records
are formed (R349). -/
def execEpochClose (s : State) : Host.Outcome State Fault Refusal :=
  match s.pair.oldest with
  | none => .next s
  | some c0 =>
    let old := decide (s.rd Reg.STR_EPOCH_CFG_MAXAGE ≤ 4 * (s.time.cyc - c0))
    let big := s.pair.st.mirrors && decide (s.rd Reg.STR_EPOCH_CFG_MAXBYTES * 256 ≤ s.pair.openBytes)
    .next (if old || big then s.closeEpoch else s)

/-- PARTNER_LOSS_TIMEOUT: an active unit without an authenticated message for twice LINK_TMO acknowledges its epochs itself
and is ALONE (R338, R345, R352). -/
def execPartnerLossTimeout (s : State) : Host.Outcome State Fault Refusal :=
  .next (if s.pair.st.mirrors = false ∨ s.now < s.pair.heard + 2 * s.linkTmo then s
    else
      let s1 := (s.modPair (fun p => { p with st := .alone, seedEnd := none })).selfAck
      (s1.inc (Reg.STR_CNT_COUNT 5)).emit .partnerLost none srcS1 s.pair.journal.length 0 0)

/-- STANDBY_LINK_TIMEOUT: a standby that has lost its partner for LINK_TMO while PEER_CLAIM_IN stays high loses the mirror
(R338, R345). -/
def execStandbyLinkTimeout (s : State) : Host.Outcome State Fault Refusal :=
  .next (if s.pair.st = .standby ∧ s.pins.peerClaim ∧ s.pair.heard + s.linkTmo ≤ s.now then s.desync 1 else s)

/-- Whether the partner can be seeded: it reports SEEDING_IN, or the state from which seeding takes it there (R338, R353;
log entry 39). -/
def State.peerSeedable (s : State) : Bool :=
  match s.pair.peer with
  | some (st, _, _) => s.pair.key.isSome && (decide (st = 4) || decide (st = 0))
  | none => false

/-- SEED_START: a write of STR_CTL.SEED starts seeding: every mirrored item is sent as a record (R353). -/
def execSeedStart (s : State) : Host.Outcome State Fault Refusal :=
  .next (if s.pair.st ≠ .alone ∨ s.peerSeedable = false then s
    else
      let (l, s1) := s.seedItems
      let s2 := (s1.modPair (fun p => { p with st := .seedingOut, items := l.length, seedEnd := none, recs := [], journal := [] })).emit
        .seedStarted none srcS1 ((s.pair.peer.map (·.1)).getD 0) 0 0
      (chunks 8184 (l.flatMap Change.bytes)).foldl (fun s p => s.strSend 0x20 (natToLe 4 p.length ++ zeros 4 ++ p)) s2)

/-- SEED_WALK_DONE: the walk of the items has ended; SEED_END is sent (R353). -/
def execSeedWalkDone (s : State) : Host.Outcome State Fault Refusal :=
  .next (if s.pair.st = .seedingOut ∧ s.pair.seedEnd.isNone then
    (s.modPair (fun p => { p with seedEnd := some p.items })).strSend 0x21 (natToLe 8 s.pair.items)
  else s)

/-- BOOT_WAIT_EXPIRY: a last-active unit that has waited BOOT_WAIT with both lines free becomes eligible as STANDBY (R339). -/
def execBootWaitExpiry (s : State) : Host.Outcome State Fault Refusal :=
  .next (if s.pair.waiting ∧ s.linesFree ∧ s.pair.since + s.msRaw (s.rd Reg.STR_CFG_BOOT_WAIT) ≤ s.now then
    s.modPair (fun p => { p with waiting := false, barred := false, st := .standby })
  else s)

end Sys2Proof.Machine
end

