-- ==== Sys2Proof/Machine/Trust.lean ====
section
/-! DEFINITION. What follows when device time becomes untrusted (R293). -/

namespace Sys2Proof.Machine

/-- Every mechanism of R293 that acts at the moment device time becomes untrusted: entries of the proof box complete
TIME_UNTRUSTED (R62), open ceremonies are abandoned (R209), authorised states end (R212), a debug session ends (R409), and
the fatal condition is latched where it is enabled (R336). -/
def State.onUntrusted (s : State) : State :=
  let s1 := s.endUndispatched (fun e => decide (e.notBefore ≠ 0) || decide (e.deadline ≠ 0)) .timeUntrusted
  let s2 := s1.abandonIf (fun _ => true) 3
  let s3 := (List.range 64).foldl (fun s t => s.endAuth t 3 5) s2
  (s3.endDebug 3).latchFatal

end Sys2Proof.Machine
end

