-- ==== Sys2Proof/Machine/Time.lean ====
section
/-! DEFINITION. The commands of the time base and of the entropy block (chapter 12). -/

namespace Sys2Proof.Machine

/-- HOLDOVER ended where H has elapsed (R290), with every mechanism of R293. -/
def State.holdoverEnds (s : State) : State := if s.holdoverOver then (s.enterUntrusted 1).onUntrusted else s

/-- TREF_PULSE: a rising edge on TREF_IN, `dt` time-base cycles after the last one the model has counted (R288). The expiry of H in the
same cycle comes first (R290). -/
def execTrefPulse (dt : BitVec 64) (s : State) : Host.Outcome State Fault Refusal :=
  .next (s.advance dt.toNat).holdoverEnds.pulse

/-- TREF_PULSE_MISSING: the moment has come at which a pulse is missing, `dt` cycles on (R288, R290). -/
def execTrefPulseMissing (dt : BitVec 64) (s : State) : Host.Outcome State Fault Refusal :=
  .next ((s.advance dt.toNat).holdoverEnds.pulseMissing 0)

/-- HOLDOVER_EXPIRY: H has elapsed in HOLDOVER; the time base is UNTRUSTED and every mechanism of R293 follows. -/
def execHoldoverExpiry (dt : BitVec 64) (s : State) : Host.Outcome State Fault Refusal :=
  .next (s.advance dt.toNat).holdoverEnds

/-- The second of device time at the declared period. -/
def State.second (s : State) : Nat := s.tick * s.periodNs / 1000000000

/-- TIME_SAVE: at the first tick edge after each second the tick count and the guard timer go to MRAM (R291). -/
def execTimeSave (s : State) : Host.Outcome State Fault Refusal :=
  .next (if s.time.saveSec < s.second then
    s.modTime (fun t => { t with saves := ((s.tick, s.rd Reg.GRD_TIMER_COUNT) :: t.saves).take 16, saveSec := s.second })
  else s)

/-- The ADVANCE and the period of SET_WALL_TIME, taken at a tick edge (R292, R290). -/
def State.applyAdvance (s : State) : State :=
  match s.time.pend with
  | none => s
  | some (adv, p) =>
    let s1 := s.modTime (fun t => { t with now := t.now + adv * 2 ^ 24, pend := none })
    if p = s1.periodNs then s1
    else
      let s2 := (s1.wr Reg.TIM_PERIOD_PERIOD_NS p).modTime (fun t =>
        { t with mramPeriod := p, ivals := [], lastAcc := none, saveSec := t.now / 2 ^ 24 * p / 1000000000 })
      s2.enterHoldover 4

/-- TICK_EDGE: at a tick edge of device time TREF_OUT rises for 1 µs if it is driven, the partner is sent the tick, and
a waiting ADVANCE is taken (R292, R294, R295). -/
def execTickEdge (s : State) : Host.Outcome State Fault Refusal :=
  if s.tick ≤ s.time.edgeDone then .next s
  else
    let s1 := s.modTime (fun t => { t with edgeDone := s.tick, trefLeft := if s.trefDriven then 250 else 0 })
    let s2 := s1.applyAdvance
    .next (if s2.bit Reg.TIM_CTL_PAIR_CMP_EN then s2.starterTick else s2)

/-- The window that a source delivers: in MAKER only the test pattern replaces it (R303). -/
def State.sourceWindow (s : State) (w : Bytes) : Bytes :=
  if s.lc = .maker ∧ s.bit Reg.ENT_CTL_TESTPAT then
    (List.replicate 64 (natToLe 8 (s.rd Reg.ENT_TESTPAT_PATTERN))).flatten
  else fitTo 512 w

/-- The estimates of a window (R297). -/
def State.windowEstimates (s : State) (src : Nat) (w : Bytes) : State :=
  let ones := ((windowBits w).filter id).length
  let p1 := min 65535 (s.rd (Reg.ENT_SRC_BIAS_P1 src) * 15 / 16 + ones)
  (List.range 8).foldl (fun s j => s.wr (Reg.ENT_SRC_CORR_RHO src j) (Config.windowRho (j + 1) w))
    (s.wr (Reg.ENT_SRC_BIAS_P1 src) p1)

/-- A passing window conditioned into a seed (R298, R301). -/
def State.makeSeed (s : State) (src : Nat) (w : Bytes) : State :=
  let seed := shake256 32 (w ++ Config.seedSuffix src s.ent.counter)
  let s1 := (s.modEnt (fun e => { e with counter := (e.counter + 1) % 2 ^ 64
                                         pool := if e.pool.length < 64 then e.pool ++ [seed] else e.pool })).inc
    (Reg.ENT_CNT_COUNT 0)
  if s.bit Reg.ENT_STAT_FIRST_SEED then s1
  else (s1.wr Reg.ENT_STAT_FIRST_SEED 1).emit .entFirstSeed none (Config.blockSource 3) (s.rawUs (s.now - s.ent.release)) 0 0

/-- A failed window counted under each test that failed and recorded once (R297); one that fails both is recorded with 1, the first of
the table (log entry 53). -/
def State.failWindow (s : State) (src : Nat) (rct apt : Bool) : State :=
  let s0 := if rct then s.satInc (Reg.ENT_SRC_CNT_RCT_FAIL src) else s
  let s1 := (if apt then s0.satInc (Reg.ENT_SRC_CNT_APT_FAIL src) else s0).inc (Reg.ENT_CNT_COUNT 1)
  s1.emit .entWindowFailed none (Config.blockSource 3) src (if rct then 1 else 2)
    (s1.rd (Reg.ENT_SRC_CNT_RCT_FAIL src) + s1.rd (Reg.ENT_SRC_CNT_APT_FAIL src))

/-- ENTROPY_WINDOW: 4,096 raw bits of a source are tested; the first window after reset is discarded, and a later one
that passes becomes a seed (R296 to R298). -/
def execEntropyWindow (source : Fin 2) (window : Bytes) (s : State) : Host.Outcome State Fault Refusal :=
  let src := source.val
  let w := s.sourceWindow window
  let bits := windowBits w
  let s1 := (s.inc (Reg.ENT_SRC_CNT_WINDOWS src)).windowEstimates src w
  let firstOne := if src = 0 then !s.ent.first0 else !s.ent.first1
  let s2 := s1.modEnt (fun e => if src = 0 then { e with first0 := true } else { e with first1 := true })
  let rct := rctFails (s.rd Reg.ENT_CUT_RCT) bits
  let apt := aptFails (s.rd Reg.ENT_CUT_APT) bits
  if rct || apt then .next (s2.failWindow src rct apt)
  else if firstOne then .next (s2.inc (Reg.ENT_CNT_COUNT 1))
  else if s.bit Reg.ENT_STAT_KAT_FAIL then .next s2
  else .next (s2.makeSeed src w)

/-- A reseed of an instance with one seed from the pool (R300, R302). -/
def State.reseed (s : State) (i : Nat) : State :=
  match s.ent.pool with
  | [] => s
  | a :: rest =>
    let d := s.drbg i
    let kv := drbgUpdate d.key d.v (blockDf a)
    let s1 := (s.modEnt (fun e => { e with pool := rest, recovered := e.recovered + 1 })).setDrbg i
      { d with st := .ready, key := kv.1, v := kv.2, reqs := 0, reseeds := (d.reseeds + 1) % 65536, lastTime := s.now }
    let s2 := s1.inc (Reg.ENT_CNT_COUNT 3)
    if s2.ent.starved ∧ (s2.drbgCount .blocked = 0 ∨ s2.ent.pool ≠ []) then
      (s2.modEnt (fun e => { e with starved := false })).emit .entRecovered none (Config.blockSource 3) s2.ent.recovered 0 0
    else s2.starveCheck

/-- DRBG_LIMIT_REACHED: an instance that reaches a limit unreseeded blocks; STARVED follows (R300, R302). -/
def execDrbgLimitReached (i : Fin 196) (s : State) : Host.Outcome State Fault Refusal :=
  let d := s.drbg i.val
  if d.st = .ready ∧ s.drbgAtLimit d then
    .next ((s.setDrbg i.val { d with st := .blocked, byReq := decide (s.rd Reg.ENT_RESEED_REQ_LIMIT ≤ d.reqs) }).inc
      (Reg.ENT_CNT_COUNT 2)).starveCheck.settleAll
  else .next s

/-- ENT_TESTPAT_WRITE: in MAKER the sources turn to the test pattern or back, and a change is recorded; in any other
state the write is ignored (R303). -/
def execEntTestpatWrite (on : Bool) (s : State) : Host.Outcome State Fault Refusal :=
  if s.lc = .maker then
    let s1 := s.wr Reg.ENT_CTL_TESTPAT (b2n on)
    .next (if s.bit Reg.ENT_CTL_TESTPAT = on then s1
      else s1.emit .entTestPattern none (Config.blockSource 3) (b2n on) 0 0)
  else .next s

end Sys2Proof.Machine
end

