-- ==== Sys2Proof/Machine/Tables.lean ====
section
/-! DEFINITION. The commands of the lookup tables (R237 to R255). -/

namespace Sys2Proof.Machine

/-- What waits for an instance that can serve again (R301): resolutions for the store engine's hash key (R236), the pairing messages for
S0, the context key of a core that was reset while its instance could not serve (R139). -/
def State.hashReady (s : State) (i : Nat) : State :=
  if i = 194 ∧ s.tab.hashKey.isNone then s.retryKeys
  else if i = 192 then s.pairDraws
  else if i < 192 ∧ (s.core i).ctxKey = [] then
    match s.drbgBytes i 32 with
    | some r => r.2.modCore i (fun c => { c with ctxKey := r.1 })
    | none => s
  else s

/-- DRBG_INSTANTIATE: the next instance in the order of R300 takes two seeds (R299, R301). Resolutions that
wait for the store engine's instance go on (R236). -/
def execDrbgInstantiate (i : Fin 196) (s : State) : Host.Outcome State Fault Refusal :=
  if drbgOrder.find? (fun k => decide ((s.drbg k).st = .notInst)) = some i.val then
    match s.ent.pool with
    | a :: b :: rest =>
      let kv := drbgNew a (b.take 16) (Config.drbgPersonal s.otp.uid i.val)
      .next ((((s.modEnt (fun e => { e with pool := rest })).setDrbg i.val ⟨.ready, kv.1, kv.2, 0, 0, s.now, false⟩).starveCheck).hashReady i)
    | _ => .next s
  else .next s

/-- DRBG_RESEED: an instance near a limit is reseeded in the background, and blocked ones in the order of R300. -/
def execDrbgReseed (i : Fin 196) (s : State) : Host.Outcome State Fault Refusal :=
  let d := s.drbg i.val
  let firstBlocked := drbgOrder.find? (fun k => decide ((s.drbg k).st = .blocked))
  if (d.st = .ready ∧ s.drbgNearLimit d) ∨ firstBlocked = some i.val then .next ((s.reseed i.val).hashReady i) else .next s

/-- KEY_RECORD_ARRIVAL: the line of a pending fetch has arrived; the unwrapper's checks, then a way, or the failure for
every attached entry (R237); a fetch invalidated meanwhile is issued again (R238). -/
def execKeyRecordArrival (t : Fin 64) (handle : BitVec 24) (s : State) : Host.Outcome State Fault Refusal :=
  match s.tab.fetches.find? (fun f => f.tenant == t.val && f.handle == handle.toNat && f.ready.isNone) with
  | none => .next s
  | some f =>
    let res := ((s.storeRead? f.read).map (·.res)).getD .lost
    if res ≠ .waiting ∧ f.again then
      .next (((s.modTab (fun b => { b with fetches := b.fetches.erase f })).dropRead f.read).beginFetch t handle.toNat f.waiting)
    else
      match res with
      | .waiting => .next s
      | .lost => .next (s.dropFetch f .storeLost)
      | .poisoned => .next (s.dropFetch f .storeIntegrity)
      | .good d =>
        match s.checkRecord t handle.toNat d with
        | .inr k => .next (s.fillKey f k)
        | .inl (st, fault) =>
          let s1 := match fault with
            | some n => s.emit .keyRecordIntegrity (some t) (Config.blockSource 1) t handle.toNat n
            | none => s
          .next (s1.dropFetch f st)

/-- KEY_CACHE_WAY_FILL: a fill that waits on a fully pinned set takes a way once one is unpinned (R237). -/
def execKeyCacheWayFill (t : Fin 64) (handle : BitVec 24) (s : State) : Host.Outcome State Fault Refusal :=
  match s.tab.fetches.find? (fun f => f.tenant == t.val && f.handle == handle.toNat && f.ready.isSome) with
  | none => .next s
  | some f =>
    if f.again then
      .next (((s.modTab (fun b => { b with fetches := b.fetches.erase f })).dropRead f.read).beginFetch t handle.toNat f.waiting)
    else match f.ready with
      | some k => .next (s.fillKey f k)
      | none => .next s

/-- KEY_CACHE_INVALIDATE: a write of TBL_KC_INV (R238). SCOPE 3 is reserved and acts on nothing. -/
def execKeyCacheInvalidate (scope gen : Fin 4) (t : Fin 64) (handle : BitVec 24) (s : State) :
    Host.Outcome State Fault Refusal :=
  .next (match scope.val with
    | 0 => s.invalidateHandle t handle.toNat
    | 1 => s.invalidateGen t gen
    | 2 => s.invalidateTenant t
    | _ => s)

/-- The digits that TBL_SV_KEY and TBL_SV_DIG hold, as many as LEN. -/
def State.svDigits (s : State) : List Nat :=
  let d := s.rd Reg.TBL_SV_DIG_DIGITS
  let h := s.rd Reg.TBL_SV_KEY_DIGHI
  ((List.range 16).map (fun i => bitsAt d (60 - 4 * i) 4) ++ (List.range 3).map (fun i => bitsAt h (8 - 4 * i) 4)).take
    (s.rd Reg.TBL_SV_KEY_LEN)

/-- Whether the prefix registers hold a prefix: LEN at most 19, decimal digits, and at least 4 of them for the hash tables
(R240). -/
def State.svOk (s : State) (prefix_ : Bool) : Bool :=
  decide (s.rd Reg.TBL_SV_KEY_LEN ≤ 19) && s.svDigits.all (fun d => decide (d ≤ 9))
    && (!prefix_ || s.bit Reg.TBL_SV_KEY_TCAM || decide (4 ≤ s.rd Reg.TBL_SV_KEY_LEN))

/-- The result of a Sieve command. -/
def State.svResult (s : State) (r : Nat) : State := s.wr Reg.TBL_SV_CMD_RESULT r

/-- SIEVE_INSERT: TBL_SV_CMD insert of the prefix in the registers (R245). -/
def execSieveInsert (s : State) : Host.Outcome State Fault Refusal :=
  if s.svOk true = false then .next (s.svResult 3)
  else
    let r := s.sieveInsert (s.rd Reg.TBL_SV_KEY_TENANT) (s.bit Reg.TBL_SV_KEY_TCAM) s.svDigits (s.rd Reg.TBL_SV_VAL_VALUE)
    .next (r.2.svResult r.1)

/-- SIEVE_DELETE: TBL_SV_CMD delete of the prefix in the registers (R245). -/
def execSieveDelete (s : State) : Host.Outcome State Fault Refusal :=
  if s.svOk true = false then .next (s.svResult 3)
  else
    let r := s.sieveDelete (s.rd Reg.TBL_SV_KEY_TENANT) (s.bit Reg.TBL_SV_KEY_TCAM) s.svDigits
    .next (r.2.svResult r.1)

/-- SIEVE_FILTER_WRITE: the length filter entry of the root in TBL_SV_DIG takes the mask in TBL_SV_VAL (R245). -/
def execSieveFilterWrite (s : State) : Host.Outcome State Fault Refusal :=
  let r := s.rd Reg.TBL_SV_DIG_DIGITS % 65536
  let m := s.rd Reg.TBL_SV_VAL_VALUE % 2 ^ 19
  .next ((s.modTab (fun b => { b with shadowFilter := tabSet 0 b.shadowFilter r m, filter := tabSet 0 b.filter r m })).svResult 0)

/-- SIEVE_LOOKUP: TBL_SV_CMD lookup of a card number; the profile index goes to TBL_SV_VAL (R241). It waits while a block that it
reaches is reloaded (R255). -/
def execSieveLookup (s : State) : Host.Outcome State Fault Refusal :=
  if s.svOk false = false then .next (s.svResult 3)
  else if s.lookupHeld (s.rd Reg.TBL_SV_KEY_TENANT) s.svDigits then .next s
  else
    let s1 := s.inc (Reg.TBL_CNT_COUNT 2)
    .next (match sieveLookup s.tab (s.rd Reg.TBL_SV_KEY_TENANT) s.svDigits with
      | none => s1.svResult 2
      | some (p, _, _) => (s1.wr Reg.TBL_SV_VAL_VALUE p).svResult 0)

/-- TERMINAL_SPILL_PROBE_DONE: a line of the spill chain has been read for a pending insert: the entry is refilled, the next
line is probed, or it is a true miss (R247, R251). An insert that waits for a place in its bucket tries again. -/
def execTerminalSpillProbeDone (t : Fin 64) (id : BitVec 64) (s : State) : Host.Outcome State Fault Refusal :=
  match s.tab.inserts.find? (fun i => i.tenant == t.val && i.id == id.toNat) with
  | none => .next s
  | some i =>
    match i.step with
    | .soft _ => .next s
    | .wait x learned => .next (s.insertTerm i x learned)
    | .probe k =>
      let res : ReadResult := if i.read = 0 then .good (zeros 256) else ((s.storeRead? i.read).map (·.res)).getD .lost
      match res with
      | .waiting => .next s
      | .lost => .next ((s.dropRead i.read).dropInsert i .storeLost)
      | .poisoned => .next ((s.dropRead i.read).dropInsert i .storeIntegrity)
      | .good d =>
        let s1 := s.dropRead i.read
        match placeIn d t id.toNat with
        | some p =>
          match termOfBytes (slice d (32 * p) 32) with
          | some x =>
            let n := s1.chainLine t id.toNat k
            match s1.lineGet n with
            | .good d' =>
              let w := s1.spillClear n p d'
              if w.1 then .next ((w.2.inc (Reg.TBL_CNT_COUNT 4)).insertTerm i { x with refs := [], dirty := true } false)
              else .next (s1.dropInsert i .storeIntegrity)
            | _ => .next (s1.dropInsert i .storeIntegrity)
          | none => .next s1
        | none =>
          let unwritten := i.read = 0 ∨ (s.store.tree.line (s.chainLine t id.toNat k)).ver = 0
          if unwritten ∨ s.chainLen ≤ k + 1 then .next (s1.trueMiss i) else .next (s1.probeLine t id.toNat (k + 1))

/-- TERMINAL_SOFT_INSERT: S1 inserts the entry, from its overflow area where it lies there, and TCTX is set (R247, R251);
TERMINAL_LEARN_SOFT is recorded (R257). -/
def execTerminalSoftInsert (t : Fin 64) (id : BitVec 64) (s : State) : Host.Outcome State Fault Refusal :=
  match s.tab.inserts.find? (fun i => i.tenant == t.val && i.id == id.toNat) with
  | none => .next s
  | some i =>
    match i.step with
    | .soft why =>
      let s := s.emit .terminalLearnSoft (some t) (Config.blockSource 1) t (loWord id.toNat) why
      match s.tab.spilled.find? (fun x => x.tenant == t.val && x.id == id.toNat) with
      | some x =>
        .next (((s.modTab (fun b => { b with spilled := b.spilled.erase x })).inc (Reg.TBL_CNT_COUNT 4)).insertTerm i
          { x with refs := [], dirty := true } false)
      | none => .next (s.insertTerm i (s.newTerm i) true)
    | _ => .next s

/-- TERMINAL_AGER_STEP: the ager looks at its next bucket and spills and frees the aged entries without references; nothing
while device time is not trusted (R252). It waits for the lines of their spill chains. -/
def execTerminalAgerStep (s : State) : Host.Outcome State Fault Refusal :=
  if s.bit Reg.TBL_CTL_AGER_EN = false then .next s
  else
    let age := s.rd Reg.TBL_TT_AGE_MAXAGE
    let l := if s.time.state = .trusted ∧ age ≠ 0 then
        (s.inBucket s.tab.ager).filter (fun x => x.refs.isEmpty && decide (x.age + age < s.now))
      else []
    let w := s.wantLines (l.flatMap (fun x => s.chainWants x.tenant x.id))
    .next (if w.1 then (l.foldl (fun s x => (s.spillOut x).2) w.2).modTab (fun b => { b with ager := (b.ager + 1) % 32768 }) else w.2)

/-- BACKGROUND_COMPARE_BLOCK: the digest of the next block is compared with that of its shadow, once the shadow's lines are at
hand (R255); `upset` says that the live block has changed without a command. A mismatch holds lookups of the block, which reloads;
a second one in a walk is an uncorrectable table error. -/
def execBackgroundCompareBlock (upset : Bool) (s : State) : Host.Outcome State Fault Refusal :=
  let n := s.rd Reg.TBL_BC_STAT_BLOCK
  let w := s.wantLines ((s.shadowLines n).map (fun i => ⟨i, true, false, 0⟩))
  if s.bit Reg.TBL_CTL_BC_EN = false ∨ s.tab.reload.isSome ∨ s.store.st ≠ .opened then .next s
  else if w.1 = false then .next w.2
  else
    let s0 := w.2
    let last := decide (Config.tableBlocks ≤ n + 1)
    let s1 :=
      if upset ∨ (s0.blockDigests n).1 ≠ (s0.blockDigests n).2 then
        let again := s0.tab.mismatched.contains n
        let s' := ((s0.satInc Reg.TBL_BC_STAT_MISMATCH).modTab (fun b =>
          { b with reload := some n, mismatched := n :: b.mismatched })).emit .tableBlockMismatch none (Config.blockSource 1) n
          (if again then 2 else 1) 0
        if again then (s'.wr Reg.TBL_STAT_FATAL 1).latchCond 1 else s'
      else s0
    .next (if s1.tab.reload.isSome then s1
      else if last then ((s1.wr Reg.TBL_BC_STAT_BLOCK 0).inc Reg.TBL_BC_STAT_WALKS).modTab (fun b => { b with mismatched := [] })
      else s1.wr Reg.TBL_BC_STAT_BLOCK (n + 1))

/-- The key-handle registers of a block written from the shadow (R255). -/
def State.reloadKh (s : State) (n : Nat) : State :=
  (s.tab.shadowKh.filter (fun e => handleBlock e.1 == n)).foldl (fun s e =>
    ((khFields e.1).zip e.2).foldl (fun s f => s.wr f.1 f.2) s) s

/-- BLOCK_RELOAD_DONE: the held block is what the shadow holds, the walk compares it again, and held lookups run (R255). -/
def execBlockReloadDone (s : State) : Host.Outcome State Fault Refusal :=
  match s.tab.reload with
  | none => .next s
  | some n =>
    let s1 := (s.reloadKh n).modTab (fun b =>
      let here (p : Prefix_) : Bool := prefixBlock p.tenant p.digits == n
      { b with reload := none
               filter := b.filter.filter (fun e => filterBlock e.1 != n) ++ b.shadowFilter.filter (fun e => filterBlock e.1 == n)
               prefixes := b.prefixes.filter (fun p => !here p) ++ b.shadow.filter here })
    .next s1.retryKeys

/-- Whether an entry is read back before another (R71): its not-before time has come, then priority, then age. -/
def refillBefore (now : Nat) (a b : Entry) : Bool :=
  let ta := decide (a.notBefore ≤ now)
  let tb := decide (b.notBefore ≤ now)
  if ta ≠ tb then ta else if a.prio ≠ b.prio then decide (b.prio < a.prio) else decide (a.id < b.id)

/-- The spilled entry to be read back next, of those that are not being read already (R71). -/
def State.refillNext (s : State) : Option Entry :=
  (s.prf.entries.filter (fun e => e.inStore && e.spilled && !s.prf.refills.any (fun r => decide (r.2 = e.id)))).foldl
    (fun (b : Option Entry) e =>
      match b with
      | none => some e
      | some x => if refillBefore s.now e x then some e else some x) none

/-- Matching-store entries that the reads in progress will bring back. -/
def State.refilling (s : State) : Nat :=
  (s.prf.entries.filter (fun e => s.prf.refills.any (fun r => decide (r.2 = e.id)))).foldl (fun n e => n + e.cells) 0

/-- Reads of the spill area begun for entries while occupancy, with those on their way, is below LOW, or while a tenant reset
needs them (R71, R229). -/
def State.refillAsk : Nat → State → State
  | 0, s => s
  | fuel + 1, s =>
    match s.refillNext with
    | none => s
    | some e =>
      if s.rd Reg.PRF_SPILL_CFG_LOW ≤ s.onChip + s.refilling ∨ s.store.st ≠ .opened then s
      else
        let s1 := (e.places.map (· / 4)).eraseDups.foldl (fun s n =>
          let (num, s1) := s.lineFetch (s.rd Reg.PRF_SPILL_AREA_BASE + n)
          s1.modPrf (fun p => { p with refills := p.refills ++ [(num, e.id)] })) s
        State.refillAsk fuel s1

/-- The reads made for an entry given up. -/
def State.dropRefill (s : State) (id : Nat) : State :=
  (s.prf.refills.filter (fun r => decide (r.2 = id))).foldl (fun s r => s.dropRead r.1)
    (s.modPrf (fun p => { p with refills := p.refills.filter (fun r => r.2 ≠ id) }))

/-- An entry whose lines have all been read comes back: its KEYS and TCTX are resolved again, with a new operand time-out for
them (R71). One of a line that could not be read is lost: it has left the store with the line's poisoning (R278), or goes now. -/
def State.refillBack (s : State) (e : Entry) : State :=
  let rs := (s.prf.refills.filter (fun r => decide (r.2 = e.id))).map (fun r => ((s.storeRead? r.1).map (·.res)).getD .lost)
  if rs.any (fun r => decide (r = .waiting)) then s
  else if rs.any (fun r => match r with | .good _ => false | _ => true) then
    (s.dropRefill e.id).modPrf (fun p => { p with entries := p.entries.filter (fun x => x.id ≠ e.id) })
  else
    let s1 := ((s.dropRefill e.id).modEntry e.id (fun e => { e with spilled := false, places := [], resolved := [], opStart := s.now })).wr
      Reg.PRF_STAT_SPILL_FULL 0
    (s1.resolveKeys e.id).resolveTerm e.id

/-- REFILL: entries whose lines have been read come back, and while occupancy is below LOW the Proofer asks for the lines of
others (R71). A line never written, or already read, comes back at once. -/
def execRefill (s : State) : Host.Outcome State Fault Refusal :=
  let ids (s : State) : List Entry := s.prf.entries.filter (fun e => s.prf.refills.any (fun r => decide (r.2 = e.id)))
  let gone := (s.prf.refills.filter (fun r => !s.prf.entries.any (fun e => e.spilled && decide (e.id = r.2)))).map (·.2)
  let s1 := State.refillAsk s.prf.entries.length (gone.foldl State.dropRefill s)
  .next ((ids s1).foldl State.refillBack s1)

end Sys2Proof.Machine
end

