-- ==== Sys2Proof/Machine/Units.lean ====
section
/-! DEFINITION. The cluster units: MAU and hash requests, the supervisor port, the attestation signer (R168 to R186). -/

namespace Sys2Proof.Machine

/-- A request of a core put in its queue to the MAU (R173 to R176): a block that is not aligned or not in the data area
takes ACCESS, a third outstanding request stalls. -/
def State.mreq (s : State) (n func kd gr : Nat) : State :=
  s.issue n (fun s =>
    let a := (s.getG n gr).toNat
    let q := tabGet [] (s.cluster (n / 8)).mau (n % 8)
    if a % 8 ≠ 0 ∨ s.userStoreOk n a 64 = false then s.excAt n .access a
    else if 2 ≤ q.length then s
    else
      let r : UnitReq := ⟨func, false, kd, a, memRead (s.core n).mem a 64, 0⟩
      (s.modCluster (n / 8) (fun c => { c with mau := tabSet [] c.mau (n % 8) (q ++ [r]) })).nextPc n)

/-- RSA-SIGN (R168, R173). -/
def execRsaSign (core : Fin 192) (gr : Fin 32) (s : State) : Host.Outcome State Fault Refusal := .next (s.mreq core 0x001 0 gr)
/-- RSA-VERIFY (R168, R173). -/
def execRsaVerify (core : Fin 192) (gr : Fin 32) (s : State) : Host.Outcome State Fault Refusal := .next (s.mreq core 0x002 0 gr)
/-- RSA-OAEP-DEC into a k register (R168, R180). -/
def execRsaOaepDec (core : Fin 192) (kd : Fin 16) (gr : Fin 32) (s : State) : Host.Outcome State Fault Refusal :=
  s.kWait core [kd.val] (.next (s.mreq core 0x003 kd gr))
/-- ECDSA-SIGN (R168, R173). -/
def execEcdsaSign (core : Fin 192) (gr : Fin 32) (s : State) : Host.Outcome State Fault Refusal := .next (s.mreq core 0x008 0 gr)
/-- ECDSA-VERIFY (R168, R173). -/
def execEcdsaVerify (core : Fin 192) (gr : Fin 32) (s : State) : Host.Outcome State Fault Refusal := .next (s.mreq core 0x009 0 gr)
/-- ECDH into a k register (R168, R180). -/
def execEcdh (core : Fin 192) (kd : Fin 16) (gr : Fin 32) (s : State) : Host.Outcome State Fault Refusal :=
  s.kWait core [kd.val] (.next (s.mreq core 0x00A kd gr))
/-- ED25519-SIGN (R168, R173). -/
def execEd25519Sign (core : Fin 192) (gr : Fin 32) (s : State) : Host.Outcome State Fault Refusal := .next (s.mreq core 0x00C 0 gr)
/-- ED25519-VERIFY (R168, R173). -/
def execEd25519Verify (core : Fin 192) (gr : Fin 32) (s : State) : Host.Outcome State Fault Refusal := .next (s.mreq core 0x00D 0 gr)
/-- MLKEM-ENCAPS into a k register (R168, R180). -/
def execMlkemEncaps (core : Fin 192) (kd : Fin 16) (gr : Fin 32) (s : State) : Host.Outcome State Fault Refusal :=
  s.kWait core [kd.val] (.next (s.mreq core 0x010 kd gr))
/-- MLKEM-DECAPS into a k register (R168, R180). -/
def execMlkemDecaps (core : Fin 192) (kd : Fin 16) (gr : Fin 32) (s : State) : Host.Outcome State Fault Refusal :=
  s.kWait core [kd.val] (.next (s.mreq core 0x011 kd gr))
/-- MLDSA-SIGN (R168, R173). -/
def execMldsaSign (core : Fin 192) (gr : Fin 32) (s : State) : Host.Outcome State Fault Refusal := .next (s.mreq core 0x014 0 gr)
/-- MLDSA-VERIFY (R168, R173). -/
def execMldsaVerify (core : Fin 192) (gr : Fin 32) (s : State) : Host.Outcome State Fault Refusal := .next (s.mreq core 0x015 0 gr)
/-- KEYGEN (R168, R179). -/
def execKeygen (core : Fin 192) (gr : Fin 32) (s : State) : Host.Outcome State Fault Refusal := .next (s.mreq core 0x018 0 gr)
/-- PUBKEY (R168). -/
def execPubkey (core : Fin 192) (gr : Fin 32) (s : State) : Host.Outcome State Fault Refusal := .next (s.mreq core 0x019 0 gr)

/-- A hash request of a core (R173 to R176): an unassigned algorithm takes ILLEGAL. -/
def State.hreq (s : State) (n alg : Nat) (more : Bool) (gr : Nat) : State :=
  s.issue n (fun s =>
    let a := (s.getG n gr).toNat
    if alg = 0 ∨ 7 < alg then s.exc n .illegal
    else if a % 8 ≠ 0 ∨ s.userStoreOk n a 64 = false then s.excAt n .access a
    else if 2 ≤ (s.core n).hreqs.length then s
    else
      let r : UnitReq := ⟨alg, more, 0, a, memRead (s.core n).mem a 64, (s.core n).slotNo⟩
      (s.modCore n (fun c => { c with hreqs := c.hreqs ++ [r], slotNo := c.slotNo + 1 })).nextPc n)

/-- HREQ (R173). -/
def execHreq (core : Fin 192) (alg : BitVec 8) (gr : Fin 32) (s : State) : Host.Outcome State Fault Refusal :=
  .next (s.hreq core alg.toNat false gr)
/-- HREQ with MORE set (R173). -/
def execHreqMore (core : Fin 192) (alg : BitVec 8) (gr : Fin 32) (s : State) : Host.Outcome State Fault Refusal :=
  .next (s.hreq core alg.toNat true gr)

/-- A supervisor's request block put in the supervisor queue, or dropped and counted when it holds 16 (R181). -/
def State.mauQueue (s : State) (c line func : Nat) : State :=
  let q := tabGet [] (s.cluster c).mau 8
  if 16 ≤ q.length then s.satInc (Reg.CLU_MAU_STAT_DROPPED c)
  else
    let r : UnitReq := ⟨func, false, 0, line * 64, memRead (s.cluster c).shared (line * 64) 64, 0⟩
    s.modCluster c (fun k => { k with mau := tabSet [] k.mau 8 (q ++ [r]) })

/-- MAU_SUBMIT: a write of CLU_MAU_SUBMIT (R181). The register names no function, so the command carries it (log entry 12). -/
def execMauSubmit (cluster : Fin 24) (line : Fin 8192) (func : BitVec 9) (s : State) : Host.Outcome State Fault Refusal :=
  .next (s.mauQueue cluster line func.toNat)
/-- XMSS_VERIFY: a supervisor's request to verify an XMSS signature (R168, R182). -/
def execXmssVerify (cluster : Fin 24) (line : Fin 8192) (s : State) : Host.Outcome State Fault Refusal :=
  .next (s.mauQueue cluster line 0x01C)
/-- XMSSMT_SIGN: a supervisor's request to sign with the attestation key (R168, R183). -/
def execXmssmtSign (cluster : Fin 24) (line : Fin 8192) (s : State) : Host.Outcome State Fault Refusal :=
  .next (s.mauQueue cluster line 0x01D)

/-- XMSS_REBUILD_DONE: the signer's traversal state is rebuilt and waiting requests can be served (R182). -/
def execXmssRebuildDone (s : State) : Host.Outcome State Fault Refusal :=
  .next { s with signer := { s.signer with rebuilding := false } }

/-- Whether the head of a requester's queue may start: a signature waits until the signer is rebuilt (R182). -/
def State.mauHead (s : State) (c req : Nat) : Option UnitReq :=
  match tabGet [] (s.cluster c).mau req with
  | [] => none
  | r :: _ => if r.func = 0x01D ∧ s.signer.rebuilding then none else some r

/-- MAU_OPERATION_START: the next of the nine requesters in round robin (R177). -/
def execMauOperationStart (cluster : Fin 24) (s : State) : Host.Outcome State Fault Refusal :=
  let c := s.cluster cluster
  if c.busy.isSome then .next s
  else
    let pick := (List.range 9).findSome? (fun k =>
      let q := (c.turn + 1 + k) % 9
      (s.mauHead cluster q).map (fun r => (q, r)))
    match pick with
    | none => .next s
    | some (q, r) => .next (s.modCluster cluster (fun k => { k with busy := some (q, r), turn := q }))

/-- Whether KEY names an image for a function (R174). -/
def imageFunc (func : Nat) : Bool := [0x001, 0x003, 0x008, 0x00A, 0x00C, 0x011, 0x014, 0x019].contains func
/-- Whether a function puts a key in kd (R168). -/
def keyFunc (func : Nat) : Bool := [0x003, 0x00A, 0x010, 0x011].contains func

/-- A guard-held private key as an image: 1 the ML-KEM-1024 transport key, 2 the RSA-3072 transport key (R181, R201; log
entry 12). -/
def State.guardImage (s : State) (i : Nat) : Option KeyImage :=
  if s.keys.root.isNone then none
  else if i = 1 then some ⟨7, 0, 0, 0, 0, 0, s.keys.transport.1⟩
  else if i = 2 then some ⟨1, 0, 0, 0, 0, 3072, s.keys.transport.2⟩
  else none

/-- The key that a request puts in kd, with the attributes of ATTR (R180). -/
def attrKey (attr tenant func : Nat) (key : Bytes) : KeyVal :=
  let w := wordAFields attr
  ⟨key, w.1, w.2.1, w.2.2.1, w.2.2.2.1, w.2.2.2.2.1, tenant, 0, none, none, 2, 0, 0x100 + func⟩

/-- Length of the KEY operand of a request. -/
def State.unitKeyLen (s : State) (c req : Nat) (r : UnitReq) : Nat :=
  if imageFunc r.func then imageLen (s.unitRead c req r.key 32)
  else if r.func = 0x01C then 68
  else publicLen r.alg (if r.func = 0x018 then 2048 else r.in1Len * 8)

/-- Whether a supervisor's request names a guard-held key (R181). -/
def UnitReq.guardHeld (r : UnitReq) (req : Nat) : Bool := decide (req = 8 ∧ r.guardKey ≠ 0)

/-- Whether an operand range of a request lies outside the area that its requester may name (R175); an empty one names no byte. -/
def State.unitBadRange (s : State) (c req : Nat) (r : UnitReq) : Bool :=
  let u := unitUses r.func
  let bad (k : AccKind) (a len : Nat) : Bool := decide (len ≠ 0) && !s.unitRange c req k a len
  (u.1 && bad .read r.in0 r.in0Len) || (u.2.1 && bad .read r.in1 r.in1Len) || (u.2.2.2.2 && bad .write r.out r.outLen)
    || (u.2.2.1 && !r.guardHeld req && ((imageFunc r.func && bad .read r.key 32) || bad .read r.key (s.unitKeyLen c req r)))
    || (u.2.2.2.1 && bad .write r.key (s.unitKeyLen c req r))

/-- The status that refuses a supervisor's guard key index (R181, R188): 3 for an index that the function may not name, the attestation seeds
outside the signer's function and another key inside it included; 2 where KEY is not zero. -/
def UnitReq.guardFault (r : UnitReq) (req : Nat) : Option Nat :=
  if req ≠ 8 ∨ (r.guardKey = 0 ∧ r.func ≠ 0x01D) then none
  else if r.guardKey ≠ 3 ∧ r.func = 0x01D then some 3
  else if r.func ≠ 0x01D ∧ (imageFunc r.func = false ∨ (r.guardKey ≠ 1 ∧ r.guardKey ≠ 2)) then some 3
  else if r.key ≠ 0 then some 2
  else none

/-- A failure that takes an exception for a program and gives a status for a supervisor. -/
def unitFail (req : Nat) (x : Exc) (st : Nat) : UnitRes := if req = 8 then .status st else .exc x

/-- Whether a usage and a mode match an entry of a core's usage table for keys that no handle gives (R179, R133). -/
def State.unitUsage (s : State) (c req usage mode : Nat) : Bool :=
  decide (req = 8) || (s.usageRows (c * 8 + req)).any (fun r =>
    r.usage == usage && (r.mode == mode || r.mode == 0x2A) && r.slots == 0)

/-- The check of an image's usage (R179). -/
def State.imageUsageOk (s : State) (c req : Nat) (func : Nat) (i : KeyImage) (guardHeld : Bool) : Bool :=
  guardHeld || ((match imageUse func with
    | none => true
    | some (u, ms) => i.usage == u && ms.contains i.mode) && s.unitUsage c req i.usage i.mode)

/-- KEYGEN (R168, R178, R179): image under the tenant's current D generation at OUT and public key at KEY; a supervisor's
key goes over the key bus to guard storage and only its public key is written (R181). The new key passes its pairwise test (R171). -/
def State.unitKeygen (s : State) (c req tenant : Nat) (r : UnitReq) (rnd : Bytes) : UnitRes :=
  let w := wordAFields r.attr
  let img : KeyImage := ⟨r.alg, tenant, w.2.2.2.1, w.2.1, w.2.2.1, if r.alg = 1 then 2048 else 0, freshBody r.alg (rnd.take 64)⟩
  if r.alg = 0 ∨ 9 < r.alg then .status 2
  else if req ≠ 8 ∧ (keygenUse w.2.1 w.2.2.1 = false ∨ s.unitUsage c req w.2.1 w.2.2.1 = false) then .exc .keyUsage
  else if pairwiseOk img rnd = false then .failed
  else if req = 8 then .good [] (some img.publicKey) (some img.body)
  else
    match s.currentGen tenant 2 with
    | none => .status 3
    | some g =>
      match s.master tenant g with
      | none => .status 3
      | some m => .good (img.seal m.key g (rnd.drop 64)) (some img.publicKey) none

/-- The attestation signature that XMSSMT-SIGN makes with one leaf (R183, R185). -/
def State.unitAttest (s : State) (msg : Bytes) : UnitRes × State :=
  if s.signer.present = false then (.status 3, s)
  else
    match s.takeLeaf with
    | (none, s1) => (.status 4, s1)
    | (some leaf, s1) => (.good (s1.signWith leaf msg) none none, s1)

/-- The bytes that a request draws: from its DRBG instance, or the salt of a PSS signature, whose source the spec does not name and which is
free (R168, R176); none while the instance gives no bytes. -/
def State.unitDraw (s : State) (c req : Nat) (r : UnitReq) : Option (Bytes × State) :=
  if r.func = 0x001 ∧ r.pss then some (s.freshBytes r.digestLen)
  else if drawLen r.func = 0 then some ([], s)
  else s.drbgBytes (if req = 8 then 192 else c * 8 + req) (drawLen r.func)

/-- The result of a MAU request (R174, R175, R179, R180); none while the requester's DRBG instance gives no bytes. -/
def State.unitResult (s : State) (c req : Nat) (r : UnitReq) : Option (UnitRes × State) :=
  let tenant := s.coreTenant (c * 8 + req)
  let guardHeld := r.guardHeld req
  let in0 := s.unitRead c req r.in0 r.in0Len
  let in1 := s.unitRead c req r.in1 r.in1Len
  let key := if guardHeld then [] else s.unitRead c req r.key (s.unitKeyLen c req r)
  let img : Option KeyImage :=
    if imageFunc r.func = false then none
    else if guardHeld then s.guardImage r.guardKey
    else s.imageOpen (if req = 8 then byteAt key 5 else tenant) key
  let w := wordAFields r.attr
  if s.unitBadRange c req r then some (unitFail req .access 2, s)
  else if 65536 < r.in0Len ∨ 65536 < r.in1Len then some (.status 2, s)
  else
  match r.guardFault req with
  | some st => some (.status st, s)
  | none =>
  if imageFunc r.func ∧ img.isNone then some (.status 3, s)
  else if (img.map (fun i => !s.imageUsageOk c req r.func i guardHeld)).getD false then some (unitFail req .keyUsage 3, s)
  else if r.func ≠ 0x018 ∧ r.func ≠ 0x01C ∧ r.func ≠ 0x01D ∧ algFits r.func ((img.map (·.alg)).getD r.alg) = false then
    some (.status 2, s)
  else if keyFunc r.func ∧ attrOk r.attr = false then some (.status 2, s)
  else if keyFunc r.func ∧ s.unitUsage c req w.2.1 w.2.2.1 = false then some (unitFail req .keyUsage 3, s)
  else if r.func = 0x01D then (if r.outLen < 5605 then some (.status 2, s) else some (s.unitAttest in0))
  else
    match s.unitDraw c req r with
    | none => none
    | some (rnd, s1) =>
      let res := if r.func = 0x018 then s1.unitKeygen c req tenant r rnd else r.run in0 in1 img key rnd
      match res with
      | .good out _ _ => if r.outLen < out.length then some (.status 2, s1) else some (res, s1)
      | _ => some (res, s1)

/-- OUT_LEN and then STATUS written to the block of a request (R174). -/
def State.unitStatus (s : State) (c req : Nat) (r : UnitReq) (len st : Nat) : State :=
  (s.unitWrite c req (r.addr + 20) (natToLe 4 len)).unitWrite c req r.addr (natToLe 2 st)

/-- A request taken off its queue, and a WAIT of its core ended (R92). -/
def State.unitPop (s : State) (c req : Nat) : State :=
  let s1 := s.modCluster c (fun k => { k with mau := tabMod [] k.mau req List.tail, busy := none })
  if req = 8 then s1.inc (Reg.CLU_MAU_STAT_DONE c) else s1.wake (c * 8 + req)

/-- A failed check of R171 (R172): no output byte, an empty kd, the health count, the event, TWIN_MISMATCH or STATUS 5. -/
def State.unitCheckFailed (s : State) (c req : Nat) (r : UnitReq) : State :=
  let n := c * 8 + req
  let s1 := ((s.satInc (Reg.CLU_MAU_CNT_CHECK_FAIL c)).healthUp c (if req = 8 then 0xFF else n) 5).emit .mauCheckFailed none
    (Config.blockSource 6) c r.func req
  if req = 8 then s1.unitStatus c req r 0 5
  else (if keyFunc r.func then s1.setK n r.kd none else s1).pendException n .twinMismatch

/-- The effect of a result (R174, R175, R181). -/
def State.unitEnd (s : State) (c req : Nat) (r : UnitReq) (res : UnitRes) : State :=
  let n := c * 8 + req
  let empty := if keyFunc r.func ∧ req ≠ 8 then s.setK n r.kd none else s
  match res with
  | .exc x => empty.pendException n x
  | .status st =>
    let s1 := empty.unitStatus c req r 0 st
    if st = 3 then
      let t := if req = 8 then 0xFF else s.coreTenant n
      (s1.satInc (Reg.CLU_MAU_CNT_IMG_REFUSED c)).emit .mauImageRefused (if req = 8 then none else some t) (Config.blockSource 6) t
        r.func (byteAt (s.unitRead c req (r.key + 4) 1) 0)
    else s1
  | .good out pub key =>
    let s1 := s.unitWrite c req r.out out
    let s2 := match pub with | some p => s1.unitWrite c req r.key p | none => s1
    let s3 := match key with
      | some k => if req = 8 then s2.modKeys (fun y => { y with bus := (r.func, k) :: y.bus }) else s2.setK n r.kd (some (attrKey r.attr (s.coreTenant n) r.func k))
      | none => s2
    s3.unitStatus c req r out.length 0
  | .failed => s.unitCheckFailed c req r

/-- MAU_OPERATION_DONE: the running operation ends with its result, or is discarded where a check of R171 failed, one of the unit's hardware
(`checkOk` false) or one that its values decide (R172, R174, R175). The cycles that it took are a free value (log entry 2). -/
def execMauOperationDone (cluster : Fin 24) (checkOk : Bool) (s : State) : Host.Outcome State Fault Refusal :=
  match (s.cluster cluster).busy with
  | none => .next s
  | some (req, r) =>
    match s.unitResult cluster req r with
    | none => .next s
    | some (res, s1) =>
      let (v, s2) := (s1.unitPop cluster req).fresh
      let s3 := (s2.addTo (Reg.CLU_MAU_BUSY_CYCLES cluster) v.toNat).inc (Reg.CLU_MAU_CNT_OPS cluster)
      .next (if checkOk then s3.unitEnd cluster req r res else s3.unitCheckFailed cluster req r)

/-- Compressions or permutations of a hash over a number of bytes (CLU_HASH_CNT). -/
def hashUnits (alg len out : Nat) : Nat :=
  match alg with
  | 1 => (len + 9 + 63) / 64
  | 2 => (len + 17 + 127) / 128
  | 3 => len / 136 + 1
  | 4 => len / 104 + 1
  | 5 => len / 72 + 1
  | 6 => len / 168 + 1 + (out - 1) / 168
  | _ => len / 136 + 1 + (out - 1) / 136

/-- Bytes of one compression or permutation of a hash. -/
def hashRate : Nat → Nat
  | 1 => 64 | 2 => 128 | 3 => 136 | 4 => 104 | 5 => 72 | 6 => 168 | _ => 136

/-- Output length of a hash algorithm, none for the SHAKEs (R173). -/
def hashLen : Nat → Option Nat
  | 1 => some 32 | 2 => some 64 | 3 => some 32 | 4 => some 48 | 5 => some 64 | _ => none

/-- The digest of an algorithm of R173. -/
def hashRun (alg : Nat) (m : Bytes) (out : Nat) : Bytes :=
  match alg with
  | 1 => sha256 m | 2 => sha512 m | 3 => sha3_256 m | 4 => sha3_384 m | 5 => sha3_512 m | 6 => shake128 out m | _ => shake256 out m

/-- A hash request ended without a check failure (R173 to R175). A request with MORE keeps the bytes and writes nothing,
its STATUS included (log entry 13). -/
def State.hashEnd (s : State) (n : Nat) (r : UnitReq) : State :=
  let held := match (s.core n).hashHeld with | some (a, b) => if a = r.func then b else [] | none => []
  let out := (hashLen r.func).getD r.outLen
  if s.unitRange (n / 8) (n % 8) .read r.in0 r.in0Len = false ∧ r.in0Len ≠ 0 then s.pendException n .access
  else if r.more = false ∧ s.unitRange (n / 8) (n % 8) .write r.out r.outLen = false ∧ r.outLen ≠ 0 then s.pendException n .access
  else
    let m := held ++ memRead (s.core n).mem r.in0 r.in0Len
    if r.more then
      if 65536 < r.in0Len then s
      else (s.modCore n (fun c => { c with hashHeld := some (r.func, m) })).addTo (Reg.CLU_HASH_CNT_UNITS (n / 8))
        (m.length / hashRate r.func - held.length / hashRate r.func)
    else
      let s1 := s.modCore n (fun c => { c with hashHeld := none })
      if 65536 < r.in0Len ∨ r.outLen < out then s1.unitStatus (n / 8) (n % 8) r 0 2
      else
        ((s1.unitWrite (n / 8) (n % 8) r.out (hashRun r.func m out)).unitStatus (n / 8) (n % 8) r out 0).addTo
          (Reg.CLU_HASH_CNT_UNITS (n / 8)) (hashUnits r.func m.length out - held.length / hashRate r.func)

/-- HASH_OPERATION_DONE: the oldest hash request of a core ends, with its digest or with a datapath mismatch (R170 to
R174). It waits for the HMAC operations of the core's engine that were issued before it (R170). -/
def execHashOperationDone (core : Fin 192) (checkOk : Bool) (s : State) : Host.Outcome State Fault Refusal :=
  match (s.core core).hreqs with
  | [] => .next s
  | r :: rest =>
    if (s.core core).eng.any (fun o => match o with | .crun _ _ _ _ _ _ (some i) => decide (i < r.slot) | _ => false) then .next s
    else
    let s1 := (s.modCore core (fun c => { c with hreqs := rest })).wake core
    if checkOk then .next (s1.hashEnd core r)
    else
      let s2 := ((s1.modCore core (fun c => { c with hashHeld := none })).satInc
        (Reg.CLU_HASH_CNT_CHECK_FAIL (core.val / 8))).healthUp (core.val / 8) core 5
      .next ((s2.emit .hashCheckFailed none (Config.blockSource 6) (core.val / 8) (core.val % 8) r.func).pendException core
        .twinMismatch)

end Sys2Proof.Machine
end

