-- ==== Sys2Proof/Machine/Link.lean ====
section
/-! DEFINITION. The commands of the link ports: training, packets received, time-outs, fail-over (chapter 13). -/

namespace Sys2Proof.Machine

/-- Traffic of an owner moved from port n to port m (R324): unacknowledged writes and messages replayed there in order
under new numbers, unanswered reads issued again, waiting packets kept behind the implied fence, completion entries
taken along. -/
def State.moveTraffic (s : State) (n m : Nat) (mine : Owner → Bool) : State :=
  let p := s.port n
  let moved (k : Pkt) : Bool := mine k.owner
  let replays := p.retry.filter (fun k => moved k && (decide (k.kind = .mwr) || decide (k.kind = .msg)))
  let waiting := (p.qPrf ++ p.qCore ++ p.qStore ++ p.qS0 ++ p.fenced).filter moved
  let reads := p.reads.filter (fun r => mine r.owner)
  let ents := p.entries.filter (fun c => mine (.ring c.tenant c.ring c.entry))
  let s1 := s.modPort n (fun p => { p with
    retry := p.retry.filter (fun k => !moved k), qPrf := p.qPrf.filter (fun k => !moved k)
    qCore := p.qCore.filter (fun k => !moved k), qStore := p.qStore.filter (fun k => !moved k)
    qS0 := p.qS0.filter (fun k => !moved k), fenced := p.fenced.filter (fun k => !moved k)
    reads := p.reads.filter (fun r => !mine r.owner)
    entries := p.entries.filter (fun c => !mine (.ring c.tenant c.ring c.entry)) })
  let s2 := s1.modPort m (fun p => { p with
    qPrf := p.qPrf ++ replays.map (fun k => { k with seq := 0 }), fence := p.fence ++ replays.map (·.id)
    entries := p.entries ++ ents.map (fun (c : CplEntry) => { c with refused := false }) })
  let ids := (replays ++ waiting).map (·.id)
  let s2 := { s2 with host := { s2.host with iv := tabMap Iv.reset (fun (_ : Nat) (i : Iv) => { i with
    counted := i.counted.map (fun (c : Counted) => if c.port = n ∧ ids.contains c.pkt then { c with port := m } else c) }) s2.host.iv } }
  let s3 := s2.modPort m (fun p => if p.fence.isEmpty then
      waiting.foldl (fun p k => p.push (if k.rd.isSome then (match k.rd with | some (.transfer _ _ _) => .core | some (.storeLine _) => .store | _ => .prf)
        else if k.owner = .store then .store else if k.ro then .core else .prf) k) p
    else { p with fenced := p.fenced ++ waiting })
  (reads.foldl (fun s r =>
    let (k, s') := s.mkPkt .mrd false r.addr r.len [] r.owner (some r.use)
    s'.modPort m (fun p => p.push (match r.use with | .transfer _ _ _ => .core | .storeLine _ => .store | _ => .prf) k))
    s3).pump m

/-- Every ring of a tenant that exists or is being deleted. -/
def State.openRings (s : State) : List (Nat × Nat) :=
  ((List.range 64).filter (fun t => (s.tenant t).exist)).flatMap (fun t => (List.range 16).map (fun q => (t, q)))

/-- A ring whose current port n has failed: ON_ALT changes if its other port is ACTIVE, else it is held; recorded (R324 step 1,
R325). -/
def State.flipRing (s : State) (tq : Nat × Nat) : State :=
  let r := s.sq tq.1 tq.2
  match r.other.bind (fun m => if s.portActive m then some m else none) with
  | some m => (s.modSq tq.1 tq.2 (fun r => { r with onAlt := !r.onAlt, held := false })).emit .ringFailover (some tq.1) (srcPort r.cur)
      tq.1 tq.2 (joined r.cur m)
  | none => (s.modSq tq.1 tq.2 (fun r => { r with held := true })).emit .ringFailover (some tq.1) (srcPort r.cur) tq.1 tq.2
      (joined 0xFF 0xFF)

/-- The completion rings of port n whose other port is m, moved with the submission rings of their binding (R320, R324). -/
def State.flipCqs (s : State) (n m : Nat) : State :=
  { s with host := { s.host with cq := tabMap Cq.reset (fun (_ : Nat) (c : Cq) =>
      if c.cur = n ∧ c.other = some m then { c with onAlt := !c.onAlt } else c) s.host.cq } }

/-- Whether the sealed store's traffic on port n moves to port m. -/
def State.storeMoves (s : State) (n m : Nat) : Bool := decide (s.storePort = n) && decide (s.storeOther = some m)

/-- What moves from port n to an ACTIVE port m, all together and in its order (R324): the traffic of every ring bound to the
two ports, and the store's where it is bound to them. -/
def State.moveAll (s : State) (n m : Nat) : State :=
  let store := s.storeMoves n m
  let mine (o : Owner) : Bool :=
    match o with
    | .ring t q _ => decide ((s.sq t q).cur = m) && decide ((s.sq t q).other = some n)
    | .store => store
    | _ => false
  let s1 := s.flipCqs n m
  let s2 := if store then s1.wr Reg.SST_PORT_ON_ALT (1 - s1.rd Reg.SST_PORT_ON_ALT) else s1
  s2.moveTraffic n m mine

/-- Rings of a failed port n moved or held, and everything that moves with them (R324, R325). -/
def State.failPort (s : State) (n : Nat) : State :=
  let l := s.openRings.filter (fun tq => (s.sq tq.1 tq.2).cur == n && !(s.sq tq.1 tq.2).held)
  ((List.range 4).filter (fun m => decide (m ≠ n) && s.portActive m)).foldl (fun s m => s.moveAll n m) (l.foldl State.flipRing s)

/-- FAILOVER_TIMEOUT: a port out of ACTIVE for FO_TMO has failed: its rings and the store's traffic move or are held
(R324, R325). -/
def execFailoverTimeout (port : Fin 4) (s : State) : Host.Outcome State Fault Refusal :=
  let p := s.port port
  if p.st = .active ∨ s.bit (Reg.LNK_STAT_FAILED port) ∨ p.prev.isNone
      ∨ s.now < p.leftAt + s.usRaw (s.rd (Reg.LNK_TMO_FO_TMO port)) then .next s
  else
    let s1 := ((s.wr (Reg.LNK_STAT_FAILED port) 1).wr (Reg.LNK_ERR_FAILOVER port) 1).inc (Reg.LNK_CNT_COUNT port 8)
    let s2 := s1.emit .linkDown none (srcPort port) port p.trigger p.retry.length
    .next ((s2.failPort port).mailSettle port)

/-- What a port that becomes ACTIVE starts: FAILED clears, unacknowledged packets are replayed, held rings run on it or
move to it, with the store's traffic of a failed port, and waiting packets go out (R323, R325, R259). -/
def State.onActive (s : State) (n : Nat) : State :=
  let s1 := s.wr (Reg.LNK_STAT_FAILED n) 0
  let s2 := s1.openRings.foldl (fun s tq =>
    let r := s.sq tq.1 tq.2
    if r.held ∧ r.cur = n then s.modSq tq.1 tq.2 (fun r => { r with held := false })
    else if r.held ∧ r.other = some n then s.flipRing tq
    else s) s1
  let gone (m : Nat) : Bool := s2.bit (Reg.LNK_STAT_FAILED m)
    || (match s2.ras.recal with | some r => decide (r.1 = m) && !s2.portActive m | none => false)
  let s3 := ((List.range 4).filter (fun m => decide (m ≠ n) && gone m)).foldl (fun s m => s.moveAll m n) s2
  let s4 := if (s3.port n).retry.isEmpty then s3 else s3.replay n
  (s4.pump n).mailSettle n

/-- Entry into ACTIVE at a generation and width (R307): LINK_UP after training, LINK_DEGRADED where the port held more
before. -/
def State.becomeActive (s : State) (n gen width : Nat) (trained : Bool) : State :=
  let prev := (s.port n).prev
  let s1 := s.modPort n (fun p => { p with st := .active, gen := gen, width := width, prev := some (gen, width), replays := 0 })
  let s2 := ((s1.wr (Reg.LNK_STAT_GEN n) gen).wr (Reg.LNK_STAT_WIDTH n) width).wr (Reg.LNK_CTL_RETRAIN n) 0
  let s3 := if trained then s2.emit .linkUp none (srcPort n) n gen width else s2
  let s4 := match prev with
    | some (g, w) => if gen < g ∨ width < w then s3.emit .linkDegraded none (srcPort n) n (joined g w) (joined gen width) else s3
    | none => s3
  -- BOOT_SRC 0b10 takes the first port to reach ACTIVE (R329)
  let s5 : State := if s4.sys.straps.1 = 2 ∧ s4.sys.served = 0 then { s4 with sys := { s4.sys with served := 2 ^ n } } else s4
  s5.onActive n |>.recalEnds n

/-- LINK_ENABLE: EN set takes the port from DISABLED to DETECT (R307). -/
def execLinkEnable (port : Fin 4) (s : State) : Host.Outcome State Fault Refusal :=
  let s1 := s.wr (Reg.LNK_CTL_EN port) 1
  .next (if (s.port port).st = .disabled ∧ s.maintHolds port = false then
    (s1.modPort port (fun p => { p with st := .detect })).laneCheck else s1)

/-- LINK_DISABLE: EN cleared sends PORT_DOWN from ACTIVE and enters DISABLED, which clears sequence numbers and the
retry buffer (R307, R310). -/
def execLinkDisable (port : Fin 4) (s : State) : Host.Outcome State Fault Refusal :=
  let s1 := s.wr (Reg.LNK_CTL_EN port) 0
  let s2 := if s.portActive port then s1.sendMgt port 0x05 0 else s1
  let s3 := s2.modPort port (fun p => { p.leave .disabled 4 s.now with txSeq := 1, rxSeq := 1, retry := [], replays := 0 })
  .next ((s3.wr (Reg.LNK_STAT_GEN port) 0).recalEnds port)

/-- LINK_RETRAIN: RETRAIN written enters RECOVERY from ACTIVE (R307, R314). -/
def execLinkRetrain (port : Fin 4) (s : State) : Host.Outcome State Fault Refusal :=
  .next (if s.portActive port then (s.wr (Reg.LNK_CTL_RETRAIN port) 1).recover port 4 else s)

/-- RECEIVER_DETECTED: a receiver on lane 0, or on lane 3 with reversal, takes DETECT to CONFIG (R307). -/
def execReceiverDetected (port : Fin 4) (reversed : Bool) (s : State) : Host.Outcome State Fault Refusal :=
  .next (if (s.port port).st = .detect then
    (s.wr (Reg.LNK_STAT_REVERSED port) (b2n reversed)).modPort port (fun p => { p with st := .config })
  else s)

/-- The lanes of a width: one, two or four of them, from lane 3 down where reversed (R306). -/
def lanesOf (width : Nat) (reversed : Bool) : Nat :=
  match width, reversed with
  | 0, false => 1 | 0, true => 8 | 1, false => 3 | 1, true => 12 | _, _ => 15

/-- CONFIG_DONE: width, lane order and capabilities are agreed at SVL1: ACTIVE where SVL1 is the highest common
generation, else EQ (R306, R307). -/
def execConfigDone (port : Fin 4) (width pwidth : Fin 3) (pgen : Fin 4) (s : State) : Host.Outcome State Fault Refusal :=
  if (s.port port).st ≠ .config then .next s
  else
    let g := min (max 1 (s.rd (Reg.LNK_CTL_MAXGEN port))) (max 1 pgen.val)
    let w := min (min width.val pwidth.val) (min 2 (s.rd (Reg.LNK_CTL_MAXWIDTH port)))
    let s1 := (((s.wr (Reg.LNK_STAT_PGEN port) pgen).wr (Reg.LNK_STAT_PWIDTH port) pwidth).wr (Reg.LNK_STAT_WIDTH port) w).wr
      (Reg.LNK_STAT_LANES port) (lanesOf w (s.bit (Reg.LNK_STAT_REVERSED port)))
    let s2 := if w < min pwidth.val (min 2 (s.rd (Reg.LNK_CTL_MAXWIDTH port))) then s1.wr (Reg.LNK_ERR_LANE_LOST port) 1 else s1
    .next (if g = 1 then s2.becomeActive port 1 w true
      else s2.modPort port (fun p => { p with st := .eq, target := g, width := w }))

/-- EQ_PASS: equalisation passes at the target generation (R307). -/
def execEqPass (port : Fin 4) (s : State) : Host.Outcome State Fault Refusal :=
  let p := s.port port
  .next (if p.st = .eq then s.becomeActive port p.target p.width true else s)

/-- EQ_FAIL: the next lower generation is tried; from SVL2 the port is ACTIVE at SVL1 (R307). -/
def execEqFail (port : Fin 4) (s : State) : Host.Outcome State Fault Refusal :=
  let p := s.port port
  .next (if p.st = .eq then
    if p.target ≤ 2 then s.becomeActive port 1 p.width true
    else s.modPort port (fun p => { p with target := p.target - 1 })
  else s)

/-- LANE_LOCK_LOSS: a lane in use loses bit or block lock (R314). -/
def execLaneLockLoss (port : Fin 4) (s : State) : Host.Outcome State Fault Refusal := .next (s.recover port 3)

/-- LOCK_REGAINED: every lane in use regains lock at the current generation and width (R307). -/
def execLockRegained (port : Fin 4) (s : State) : Host.Outcome State Fault Refusal :=
  let p := s.port port
  .next (if p.st = .recovery then
    match p.prev with
    | some (g, w) => s.becomeActive port g w false
    | none => s
  else s)

/-- RECOVERY_TIMEOUT: lock not regained within 2 ms: DETECT, with the sequence counters kept (R307). -/
def execRecoveryTimeout (port : Fin 4) (s : State) : Host.Outcome State Fault Refusal :=
  .next (if (s.port port).st = .recovery then
    ((s.wr (Reg.LNK_CTL_RETRAIN port) 0).wr (Reg.LNK_STAT_GEN port) 0).modPort port (fun p => { p with st := .detect })
  else s)

/-- TRAINING_TIMEOUT: no progress in CONFIG or EQ within 24 ms: DETECT (R307). -/
def execTrainingTimeout (port : Fin 4) (s : State) : Host.Outcome State Fault Refusal :=
  let st := (s.port port).st
  .next (if st = .config ∨ st = .eq then s.modPort port (fun p => { p with st := .detect }) else s)

/-- CORRUPT_PACKET: a packet with a failed CRC or a SEQ beyond the next expected is answered with NAK, one already
received with ACK (R311); an uncorrectable flit fails the CRC of its packets, and sixteen within 1 ms enter RECOVERY
(R313, R314). Between the SEQ_RESETs of an L2 reset it is discarded without NAK (R312). -/
def execCorruptPacket (port : Fin 4) (crcOk flitBad : Bool) (seq : BitVec 16) (s : State) : Host.Outcome State Fault Refusal :=
  if s.portActive port = false then .next s
  else
    let bad := !crcOk || flitBad
    let s0 := if flitBad then
        let recent := (s.port port).flits.filter (fun t => decide (s.now < t + s.msRaw 1)) ++ [s.now]
        (((s.wr (Reg.LNK_ERR_FEC_UNCORR port) 1).inc (Reg.LNK_CNT_COUNT port 6)).modPort port (fun p => { p with flits := recent }))
      else s
    let s1 := if bad then (s0.wr (Reg.LNK_ERR_CRC port) 1).inc (Reg.LNK_CNT_COUNT port 2) else s0
    let p := s1.port port
    if p.accepts = false then .next s1
    else
      let beyond := decide ((seq.toNat + 65536 - p.rxSeq) % 65536 < 32768)
      let s2 := if bad || beyond then s1.sendNak port else s1.sendAck port
      .next (if 16 ≤ (s2.port port).flits.length ∧ flitBad then s2.recover port 2 else s2)

/-- The group of a read for LINK_READ_FAILED. -/
def ReadFor.group : ReadFor → Nat
  | .descriptors _ _ => 0 | .transfer _ _ _ => 1 | .storeLine _ => 2 | .mailbox _ _ => 3 | .boot _ => 3

/-- A read that ended badly recorded and handled for its master (R319): kind 1 UR, 2 CA, 3 time-out. A descriptor read
that timed out is issued once more; the ring stops with ERROR otherwise. -/
def State.readBad (s : State) (n : Nat) (r : Read) (kind : Nat) : State :=
  let s1 := s.emit .linkReadFailed none (srcPort n) n (joined (Config.groupNumber r.use.group) r.tag) kind
  match r.use with
  | .descriptors t q =>
    let again := (((s1.sq t q).fetch).map (·.again)).getD true
    if kind = 3 ∧ again = false then
      (s1.modSq t q (fun x => { x with fetch := x.fetch.map (fun f => { f with again := true }) })).hostRead n .prf r.addr r.len
        r.owner r.use
    else s1.modSq t q (fun x => { x with fetch := none, error := true })
  | u => s1.readFailed u (decide (kind = 3))

/-- CPL_RECEIVED: a completion delivers its bytes to the read of its tag; the last one frees the tag and hands the data
to the master (R317); UR or CA ends the read (R319); a late completion is discarded. -/
def execCplReceived (port : Fin 4) (tag : BitVec 8) (cst : Fin 3) (last : Bool) (data : Bytes) (s : State) :
    Host.Outcome State Fault Refusal :=
  if (s.port port).accepts = false then .next s
  else
    let s1 := s.accept port
    match (s1.port port).reads.find? (fun r => r.tag == tag.toNat) with
    | none => .next s1
    | some r =>
      let rest := (s1.port port).reads.filter (fun x => x.tag != tag.toNat)
      if cst.val ≠ 0 then .next ((((s1.modPort port (fun p => { p with reads := rest })).readBad port r cst.val).pump port).mailSettle port)
      else
        let got := r.got ++ data
        if last then
          let s2 := s1.modPort port (fun p => { p with reads := rest })
          let s3 := match r.use with
            | .descriptors t q => s2.modSq t q (fun x => { x with fetch := x.fetch.map (fun (f : FetchRead) => { f with data := some got }) })
            | u => s2.readArrived u got
          .next ((s3.pump port).mailSettle port)
        else
          .next (s1.modPort port (fun p => { p with reads := p.reads.map (fun x => if x.tag = tag.toNat then { x with got := got } else x) }))

/-- An invalid host access recorded and counted (R321): kind is the packet's KIND. -/
def State.badHost (s : State) (n kind addr len : Nat) : State :=
  ((s.wr (Reg.LNK_ERR_BAD_HOST n) 1).inc (Reg.LNK_CNT_COUNT n 10)).emit .hostAccessInvalid none (srcPort n) n (loWord addr)
    (joined kind len)

/-- MSG_RECEIVED: a message from the host is dropped and recorded (R321). -/
def execMsgReceived (port : Fin 4) (addr : BitVec 64) (len : BitVec 10) (s : State) : Host.Outcome State Fault Refusal :=
  .next (if (s.port port).accepts then (s.accept port).badHost port 4 addr.toNat len.toNat else s)

/-- A management packet received on an ACTIVE port. -/
def State.mgtIn (s : State) (n : Nat) : State := s.inc (Reg.LNK_CNT_COUNT n 1)

/-- ACK_RECEIVED: the covered packets leave the retry buffer (R311). -/
def execAckReceived (port : Fin 4) (seq : BitVec 16) (s : State) : Host.Outcome State Fault Refusal :=
  .next (if s.portActive port then (((s.mgtIn port).modPort port (fun p => p.acked seq.toNat)).pump port).mailSettle port else s)

/-- NAK_RECEIVED: the covered packets are freed and every other unacknowledged one is replayed in order (R311). -/
def execNakReceived (port : Fin 4) (seq : BitVec 16) (s : State) : Host.Outcome State Fault Refusal :=
  .next (if s.portActive port then ((((s.mgtIn port).modPort port (fun p => p.acked seq.toNat)).replay port).pump port).mailSettle port else s)

/-- CREDIT_RECEIVED: the partner's cumulative credits (R310). -/
def execCreditReceived (port : Fin 4) (posted nonPosted completion : BitVec 16) (s : State) : Host.Outcome State Fault Refusal :=
  .next (if s.portActive port then
    (((s.mgtIn port).modPort port (fun p => { p with credits := (posted.toNat, nonPosted.toNat, completion.toNat) })).pump port).mailSettle port
  else s)

/-- PORT_DOWN_RECEIVED: the partner announces that it leaves ACTIVE on purpose (R310); the port itself leaves ACTIVE when
it loses lock. -/
def execPortDownReceived (port : Fin 4) (s : State) : Host.Outcome State Fault Refusal :=
  .next (if s.portActive port then s.mgtIn port else s)

/-- SEQ_RESET_RECEIVED: after the port's own stage-8 SEQ_RESET, sequenced packets are accepted again (R312). -/
def execSeqResetReceived (port : Fin 4) (s : State) : Host.Outcome State Fault Refusal :=
  .next (if s.portActive port then
    (s.mgtIn port).modPort port (fun p => if p.quiet then p else { p with awaitPeer := false })
  else s)

/-- MGT_RESEND: the ACK and CREDIT packets are sent again while the port is ACTIVE; between the SEQ_RESETs of an L2 reset
no CREDIT goes out (R310, R312). -/
def execMgtResend (port : Fin 4) (s : State) : Host.Outcome State Fault Refusal :=
  .next (if s.portActive port then
    let s1 := s.sendAck port
    if (s.port port).quiet then s1
    else s1.sendMgt port 0x03 (Config.creditAdvert port (s.rd (Reg.LNK_CNT_COUNT port 1)) % 2 ^ 48)
  else s)

/-- ACK_TIMEOUT: 100 µs with packets unacknowledged and no ACK or NAK: they are replayed (R311). -/
def execAckTimeout (port : Fin 4) (s : State) : Host.Outcome State Fault Refusal :=
  .next (if s.portActive port ∧ (s.port port).retry ≠ [] then (s.wr (Reg.LNK_ERR_ACK_TMO port) 1).replay port else s)

/-- CPL_TIMEOUT: a read that has waited CPL_TMO is abandoned, its tag freed, and handled for its master (R319). -/
def execCplTimeout (port : Fin 4) (tag : BitVec 8) (s : State) : Host.Outcome State Fault Refusal :=
  match (s.port port).reads.find? (fun r => r.tag == tag.toNat) with
  | none => .next s
  | some r =>
    if s.now < r.start + s.usRaw (s.rd (Reg.LNK_TMO_CPL_TMO port)) then .next s
    else
      let s1 := s.modPort port (fun p => { p with reads := p.reads.filter (fun x => x.tag != tag.toNat) })
      let s2 := (s1.wr (Reg.LNK_ERR_CPL_TMO port) 1).inc (Reg.LNK_CNT_COUNT port 9)
      .next (((s2.readBad port r 3).pump port).mailSettle port)

end Sys2Proof.Machine
end

