-- ==== Sys2Proof/Machine/LogOps.lean ====
section
/-! DEFINITION. Reading, exporting and clearing the log, and setting the wall time (R292, R438, R439). -/

namespace Sys2Proof.Machine

/-- Every readable record: archive while the store is OPEN, ring, buffer (R433, R438). -/
def State.logRecords (s : State) : List LogRec :=
  let arch : List LogRec := if s.store.st = .opened then s.evr.archive.flatMap (fun (a : ArchSegment) => a.recs) else []
  let ring : List LogRec := s.evr.ring.flatMap (fun (g : Nat × Segment) => g.2.recs)
  arch ++ ring ++ s.evr.buf

/-- The records of a scan that a slot may read, in number order (R438). -/
def State.logScan (s : State) (slot first count : Nat) : List LogRec :=
  let l := s.logRecords.filter (fun r => decide (first ≤ r.num) && decide (r.num < first + count)
    && (decide (slot = 64) || (decide (r.tenant = slot) && s.bit (Reg.EVR_CODE_READ_T r.code))))
  (List.range count).filterMap (fun i => l.find? (fun r => decide (r.num = first + i)))

/-- A LOG_READ or LOG_EXPORT body: first number and count, if they lie in their range and the response fits (R438). -/
def State.logBody (s : State) (slot : Nat) (b : Bytes) (most extra : Nat) : Option (Nat × Nat) :=
  let n := leAt b 8 4
  if b.length ≠ 16 ∨ n = 0 ∨ most < n ∨ allZero (slice b 12 4) = false ∨ (s.slot slot).rspMax < 16 + 32 * n + extra then none
  else some (leAt b 0 8, n)

/-- LOG_READ: OP 0x80 (R438). -/
def execLogRead (slot : Fin 65) (s : State) : Host.Outcome State Fault Refusal :=
  .next (s.serveOp slot 0x80 (fun b s1 =>
    match s1.logBody slot b 2040 0 with
    | none => s1.respond slot .badFormat []
    | some (first, n) => s1.respond slot .ok ((s1.logScan slot first n).flatMap (fun r => r.bytes))))

/-- LOG_EXPORT: OP 0x81 writes a SEAL; in the device slot the signature is the seal's, in a tenant slot it covers the unit
identifier, the range and the digest of the records (R438). It waits while the signer rebuilds its state; without a key to
sign with it gives WRONG_STATE (log entry 33). -/
def execLogExport (slot : Fin 65) (s : State) : Host.Outcome State Fault Refusal :=
  .next (s.serveOp slot 0x81 (fun b s1 =>
    match s1.logBody slot b 1872 5605 with
    | none => s1.respond slot .badFormat []
    | some (first, n) =>
      if s1.signer.rebuilding then s
      else if s1.signer.present = false then s1.respond slot .wrongState []
      else
        let s2 := s1.writeSeal
        let recs := (s2.logScan slot first n).flatMap (fun r => r.bytes)
        if slot.val = 64 then
          match s2.evr.seals.head?.bind (fun z => if z.num = s1.evr.next then z.sig else none) with
          | some sg => s2.respond slot .ok (recs ++ sg)
          | none => s2.respond slot .wrongState []
        else
          let msg := natToLe 8 s2.otp.uid ++ natToLe 8 first ++ natToLe 4 n ++ shake256 32 recs
          match s2.takeLeaf with
          | (some leaf, s3) => s3.respond slot .ok (recs ++ s3.signWith leaf msg)
          | (none, s3) => s3.respond slot .wrongState []))

/-- Whether a SEAL record of this number has its signature, in a seal slot or in the archive (R439). -/
def State.sealedAt (s : State) (num : Nat) : Bool :=
  s.evr.seals.any (fun z => decide (z.num = num) && z.sig.isSome)
    || s.evr.archive.any (fun a => a.sigs.any (fun x => decide (x.1 = num)))

/-- CLEAR_RECORDER: ceremony 0x05 (R439). `pass`: the BAD segments that pass their test, of use with RETEST alone. -/
def execClearRecorder (src : Fin 66) (pass : BitVec 32) (s : State) : Host.Outcome State Fault Refusal :=
  .next (s.ceremonyOf src 0x05 (fun c s =>
    let p := c.param
    let last := leAt p 0 8
    if p.length ≠ 16 ∨ 1 < byteAt p 8 ∨ allZero (slice p 9 7) = false then .refused .badFormat
    else if s.sealedAt last = false then .refused .wrongState
    else
      let s1 : State := { s with evr := { s.evr with intent := some ⟨last, c.signers.1, c.signers.2⟩ } }
      let bad := (List.range 32).filter (fun g => (tabGet Segment.empty s.evr.ring g).bad && bitAt pass.toNat g)
      .done [] (s1.clearLog last c.signers.1 c.signers.2 (if byteAt p 8 = 1 then bad else []))))

/-- SET_WALL_TIME: ceremony 0x06 (R292). Advances that wait for the same tick edge add up. -/
def execSetWallTime (src : Fin 66) (s : State) : Host.Outcome State Fault Refusal :=
  .next (s.ceremonyOf src 0x06 (fun c s =>
    let p := c.param
    let period := leAt p 8 4
    let adv := leAt p 16 8
    if p.length ≠ 32 ∨ allZero (slice p 12 4) = false ∨ allZero (slice p 24 8) = false ∨ 2 ^ 40 ≤ adv ∨ period < 100000
        ∨ 1000000000 < period then .refused .badFormat
    else
      let w := leAt p 0 8
      let s1 := (s.wr Reg.TIM_WALL0_WALL0 w).modTime (fun t => { t with
        mramWall0 := w, mramWallValid := true, gap := false
        pend := some ((t.pend.getD (0, 0)).1 + adv, period) })
      .done [] (s1.emit .wallTimeSet none srcS0 period (hiWord adv) (loWord adv))))

end Sys2Proof.Machine
end

