-- ==== Sys2Proof/Machine/Checking.lean ====
section
/-! DEFINITION. Checking and self-test: memory errors, lockstep, cluster tests, retirement, link recalibration and the lane
pattern generators (R457 to R469). -/

namespace Sys2Proof.Machine

/-- SRAM_CORRECTABLE_ERROR: corrected in place, counted for its class and recorded (R458, R469). -/
def execSramCorrectableError (cls : Fin 11) (addr : BitVec 64) (s : State) : Host.Outcome State Fault Refusal :=
  let s1 := s.inc (Reg.RAS_CE_CNT_CE cls)
  .next (s1.emit .sramCorrected none (Config.blockSource 8) cls (loWord addr.toNat) (s1.rd (Reg.RAS_CE_CNT_CE cls)))

/-- SCRUB_PASS: the scrubber has read every word; what it finds are errors of their own (R458). -/
def execScrubPass (s : State) : Host.Outcome State Fault Refusal := .next s

/-- Class 1: the line of shared memory is invalidated: what it held is open until it is written or fetched again, cached images are
fetched again, and the command that read the line ends (R459). -/
def State.sharedError (s : State) (c : Nat) (reader : Option Nat) (addr : Nat) : State :=
  let (b, s1) := s.freshBytes 64
  let s2 := s1.modCluster c (fun k => { k with shared := memWrite k.shared (addr % 0x80000 / 64 * 64) b, cached := [] })
  let s3 := match reader with
    | some n => s2.coreCheck n
    | none => s2
  s3.healthUp c 0xFF 4

/-- Class 3: the bucket is poisoned and its entries are lost (R254). -/
def State.bucketError (s : State) (b : Nat) : State :=
  let lost := (s.inBucket b).length
  let s1 := s.modTab (fun t => { t with
    poisoned := if t.poisoned.contains b then t.poisoned else b :: t.poisoned
    terms := t.terms.filter (fun x => decide (s.bucketOf x.tenant x.id ≠ b)) })
  ((s1.emit .terminalBucketPoisoned none (Config.blockSource 1) b lost 0).wr Reg.TBL_STAT_FATAL 1).latchCond 1 |>.retryTerms

/-- Class 4: the block is held and reloaded, and counts as a mismatch for the repeat rule (R255, R459). -/
def State.configError (s : State) (n : Nat) : State :=
  let again := s.tab.mismatched.contains n
  let s1 := ((s.satInc Reg.TBL_BC_STAT_MISMATCH).modTab (fun b => { b with reload := some n, mismatched := n :: b.mismatched })).emit
    .tableBlockMismatch none (Config.blockSource 1) n (if again then 2 else 1) 0
  if again then (s1.wr Reg.TBL_STAT_FATAL 1).latchCond 1 else s1

/-- Class 5: the key-cache entry is dropped; an entry that pins it and has not bound the key completes INTERNAL_CHECK (R239). -/
def State.cacheError (s : State) (t h : Nat) : State :=
  match s.tab.cache.find? (fun c => c.tenant == t && c.handle == h) with
  | none => s
  | some c =>
    let s1 := (s.modTab (fun b => { b with cache := b.cache.erase c })).emit .keyCacheEcc none (Config.blockSource 1) t h c.pins.length
    (c.pins.foldl (fun s id =>
      match s.entry? id with
      | some e => (match e.phase with | .waiting => s.finish id .internalCheck 0 | .staged _ => s.finish id .internalCheck 0 | _ => s)
      | none => s) s1).retryKeys

/-- A packet treated as one whose CRC failed (R311). -/
def State.crcFailed (s : State) (n : Nat) : State :=
  if s.portActive n = false then s
  else
    let s1 := (s.wr (Reg.LNK_ERR_CRC n) 1).inc (Reg.LNK_CNT_COUNT n 2)
    if (s1.port n).accepts then s1.sendNak n else s1

/-- Class 8: 0 the event buffer, whose record at a place is dropped and counted as lost for code 0xE11; 1 to 4 a receive buffer;
others a retry buffer, whose second copy is used (R436, R459). -/
def State.bufferError (s : State) (unit index : Nat) : State :=
  if unit = 0 then
    if s.evr.buf.length ≤ index then s
    else
      ({ s with evr := { s.evr with
          buf := s.evr.buf.eraseIdx index, lost := countFirst s.evr.lost Ev.sramUncorrectable.code s.now } }).inc (Reg.EVR_CNT_COUNT 2)
  else if unit ≤ 4 then s.crcFailed (unit - 1)
  else s

/-- The cluster and core of an error, as its event gives them (R469, R501). -/
def ueCore (cls unit index : Nat) : Nat :=
  if cls = 0 ∨ cls = 9 then joined (unit / 8) (unit % 8)
  else if cls = 1 then joined unit (if index < 8 then index else 0xFF)
  else 0xFF

/-- SRAM_UNCORRECTABLE_ERROR: counted, recorded and handled by its class (R459). `unit` and `index` name the place: the core (0, 9); the
cluster, and the core in it that read the line, 8 for none (1); the pair (2); the bucket (3); the block (4); tenant and handle (5);
the command's entry (6); level and node (7); buffer and place in it (8). -/
def execSramUncorrectableError (cls : Fin 11) (addr : BitVec 64) (unit index : Nat) (s : State) : Host.Outcome State Fault Refusal :=
  let a := addr.toNat
  let s1 := (s.satInc (Reg.RAS_CE_CNT_UE cls)).emit .sramUncorrectable none (Config.blockSource 8) cls (loWord a) (ueCore cls unit index)
  .next (match cls.val with
    | 0 => (s1.coreReset (unit % 192) 4).healthUp (unit % 192 / 8) (unit % 8) 4
    | 1 => s1.sharedError (unit % 24) (if index < 8 then some (unit % 24 * 8 + index) else none) a
    | 2 => s1.fireReset 7
    | 3 => s1.bucketError (unit % 32768)
    | 4 => s1.configError unit
    | 5 => s1.cacheError unit index
    | 6 => (match s1.entry? unit with
        | some e => (match e.phase with
            | .running n => s1.coreCheck n
            | .ended => s1
            | _ => s1.finish unit .internalCheck 0)
        | none => s1)
    | 7 => if s1.store.dirty.contains (nodePos s1.store.n (unit % 6) index) then s1.poisonItem (unit % 6 + 1) index else s1
    | 8 => s1.bufferError unit index
    | 9 => (s1.coreCheck (unit % 192)).healthUp (unit % 192 / 8) (unit % 8) 3
    | _ =>
      -- guard SRAM: unit is the tenant and index the slot of the key, unusable until it is loaded again
      s1.modTenant (unit % 64) (fun x => { x with masters := tabSet none x.masters (index % 4) none }))

/-- LOCKSTEP_MISMATCH_DETECTED: 0 S0, 1 S1: condition 0 is latched and the pair's watchdog fires at once, whatever its EN; 2 Scale: its
cores are reset alone (R443, R460). -/
def execLockstepMismatchDetected (pair : Fin 3) (s : State) : Host.Outcome State Fault Refusal :=
  if pair.val = 2 then
    .next (if s.hasScale then
      (s.emit .lockstepMismatch none srcScale 2 0 0).scaleCoresReset else s)
  else .next (((s.emit .lockstepMismatch none (if pair.val = 0 then srcS0 else srcS1) pair 0 0).latchCond 0).fireReset 3)

/-- Whether no command runs or is staged on a cluster (PRF_DRAIN.DONE). -/
def State.clusterEmpty (s : State) (c : Nat) : Bool :=
  s.prf.entries.all (fun e => match e.core? with | some n => decide (n / 8 ≠ c) | none => true)
    && (List.range 8).all (fun i => (s.core (8 * c + i)).run.isNone)

/-- The tests to start next: those of the boot together, else the oldest that a health count or a return asked for, else the next
rotation test (R463, R464). -/
def Ras.due (r : Ras) : List (Nat × TestCause) :=
  let boot := r.queue.filter (fun q => decide (q.2 = .boot))
  if boot ≠ [] then boot
  else
    match r.queue.find? (fun q => decide (q.2 ≠ .rotation)) with
    | some q => [q]
    | none => r.queue.take 1

/-- CLUSTER_TEST_START: one cluster is tested at a time; it leaves dispatch through PRF_DRAIN, whose REQ must be free. A cluster in a
block reset is skipped (R463). -/
def execClusterTestStart (s : State) : Host.Outcome State Fault Refusal :=
  if s.ras.tests ≠ [] then .next s
  else
    match s.ras.due with
    | [] => .next s
    | (c, cause) :: rest =>
      let l := (c, cause) :: rest
      if cause ≠ .boot ∧ s.bit Reg.PRF_DRAIN_REQ then .next s
      else
        let s1 := s.modRas (fun r => { r with
          queue := r.queue.filter (fun q => !l.contains q)
          tests := l.map (fun (q : Nat × TestCause) => (⟨q.1, q.2, s.now⟩ : ClusterTest)) })
        let s2 := (s1.modPrf (fun p => { p with drained := p.drained ++ (l.map (·.1)).filter (fun x => !p.drained.contains x) })).wr
          Reg.RAS_ROT_STAT_CLUSTER c
        let s3 := if cause = .boot then s2 else (s2.wr Reg.PRF_DRAIN_CLUSTER c).wr Reg.PRF_DRAIN_REQ 1
        .next (match s.sys.block with
          | some (b, _) => if b = c ∧ cause ≠ .boot then s3.skipTest c 2 else s3
          | none => s3)

/-- CLUSTER_TEST_DRAIN_TIMEOUT: a cluster that has not drained within DRAIN_TMO returns to dispatch (R463 step 2). -/
def execClusterTestDrainTimeout (cluster : Fin 24) (s : State) : Host.Outcome State Fault Refusal :=
  match s.ras.tests.find? (fun t => t.cluster == cluster.val) with
  | none => .next s
  | some t =>
    .next (if s.clusterEmpty cluster = false ∧ t.start + s.msRaw (s.rd Reg.RAS_ROT_CFG_DRAIN_TMO) ≤ s.now then s.skipTest cluster 1
      else s)

/-- Steps 3 to 5 of a test: contents are lost, the engines' known-answer runs leave their results and events, every core is reset
alone with a new context key (R463, R166). `core` and `modes`: the modes that failed on one engine. -/
def State.testBody (s : State) (c failed core modes : Nat) : State :=
  let s1 := s.modCluster c (fun k => { k with shared := [], cached := [] })
  let s2 := if failed = 3 then s1
    else (List.range 8).foldl (fun s i =>
      let f := if failed = 4 ∧ i = core then modes else 0
      let s' := ((((s.wr (Reg.CLU_ENG_KAT_MODES c i) 0x1FFF).wr (Reg.CLU_ENG_KAT_INJECT c i) 1).wr (Reg.CLU_ENG_KAT_DONE c i) 1).wr
        (Reg.CLU_ENG_KAT_INJ_SEEN c i) 1).wr (Reg.CLU_ENG_KAT_FAILED c i) f
      if f = 0 then (s'.wr (Reg.CLU_ENG_KAT_PASS c i) 1).emit .engineKatPassed none (c * 8 + i) (c * 8 + i) 0x1FFF 1
      else (s'.wr (Reg.CLU_ENG_KAT_PASS c i) 0).emit .engineKatFailed none (c * 8 + i) (c * 8 + i) f 1) s1
  (List.range 8).foldl (fun s i => (s.coreReset (c * 8 + i) 5).modCore (c * 8 + i) (fun k => { k with resetting := none })) s2

/-- A cluster whose test passed comes back: a count that had reached its threshold returns to 0 and the pass is noted (R461); a
retired cluster leaves the retire mask (R462); it is in service where the cap keeps it (R475). -/
def State.testPassed (s : State) (c : Nat) : State :=
  let s1 := if max 1 (s.rd Reg.RAS_HEALTH_CFG_THRESH) ≤ s.rd (Reg.RAS_CL_HEALTH_COUNT c) then
      (s.wr (Reg.RAS_CL_HEALTH_COUNT c) 0).modRas (fun r => { r with passed := tabSet none r.passed c (some s.now) })
    else s
  if bitAt s1.ras.inService c then s1
  else
    let was := bitAt s1.ras.retired c
    let s2 := s1.modRas (fun r => { r with retired := setBits r.retired c 1 0 })
    let s3 := if s2.keptClusters.contains c then s2.modRas (fun r => { r with inService := setBits r.inService c 1 1 })
      else s2.modRas (fun r => { r with held := c :: r.held })
    if was then s3.emit .clusterReturned none srcS0 c (clusterCount s3.ras.inService) 0 else s3

/-- CLUSTER_TEST_END: the steps end; `failed` is the step that failed, 0 for none; the cluster returns to dispatch or is retired, a
retired one stays so (R462, R463). -/
def execClusterTestEnd (cluster : Fin 24) (failed : Fin 6) (core : Fin 8) (modes : BitVec 13) (s : State) :
    Host.Outcome State Fault Refusal :=
  match s.ras.tests.find? (fun t => t.cluster == cluster.val) with
  | none => .next s
  | some t =>
    if s.clusterEmpty cluster = false then .next s
    else
      let s1 := s.testBody cluster failed core modes.toNat
      if failed.val = 0 then
        let s2 := ((s1.closeTest cluster).wr (Reg.RAS_CL_HEALTH_LAST cluster) 1).emit .clusterTestPassed none srcS0 cluster t.cause.val
          (s.rawUs (s.now - t.start))
        .next (s2.testPassed cluster)
      else
        let s2 := ((s1.closeTest cluster).wr (Reg.RAS_CL_HEALTH_LAST cluster) 2).emit .clusterTestFailed none srcS0 cluster t.cause.val failed
        .next (if bitAt s.ras.retired cluster then s2
          else if bitAt s.ras.inService cluster then s2.retireCluster cluster 1
          else (s2.retireCluster cluster 1).fillCap)

/-- Clusters in service, in ascending order. -/
def State.serving (s : State) : List Nat := (List.range 24).filter (fun c => bitAt s.ras.inService c)

/-- ROTATION_INTERVAL_EXPIRY: with ROT_EN, INTERVAL seconds after the last one the next cluster in service is queued (R464). -/
def execRotationIntervalExpiry (s : State) : Host.Outcome State Fault Refusal :=
  if s.bit Reg.RAS_CTL_ROT_EN = false ∨ s.ras.once ∨ s.ras.pass = some []
      ∨ s.now < s.ras.lastRot + s.secRaw (s.rd Reg.RAS_ROT_CFG_INTERVAL) then .next s
  else
    let l := (s.ras.pass.getD s.serving).filter (fun c => bitAt s.ras.inService c)
    .next (match l with
      | [] => (s.modRas (fun r => { r with pass := some [] })).passDone
      | c :: rest => s.modRas (fun r => { r with queue := r.queue ++ [(c, .rotation)], pass := some rest, lastRot := s.now }))

/-- ROT_START: RAS_CTL.ROT_START written runs one pass at once over the clusters in service; it reads 1 until done (R464). -/
def execRotStart (s : State) : Host.Outcome State Fault Refusal :=
  if s.ras.once then .next s
  else
    let waiting (c : Nat) : Bool := s.ras.queue.any (fun q => q.1 = c ∧ q.2 = .rotation)
    .next ((s.modRas (fun r => { r with
      once := true, pass := some [], lastRot := s.now
      queue := r.queue ++ (s.serving.filter (fun c => !waiting c)).map (fun (c : Nat) => (c, TestCause.rotation)) })).passDone)

/-- CLUSTER_RETURN: RAS_RETIRE.RETURN written with its CLUSTER; ignored unless that cluster is retired. It is released and tested
(R462). -/
def execClusterReturn (cluster : BitVec 5) (s : State) : Host.Outcome State Fault Refusal :=
  let c := cluster.toNat
  let s1 := s.wr Reg.RAS_RETIRE_CLUSTER c
  if 24 ≤ c ∨ bitAt s.ras.retired c = false ∨ s.ras.queue.any (fun q => q.1 = c) ∨ s.ras.tests.any (fun t => t.cluster = c) then .next s1
  else .next (s1.modRas (fun r => { r with queue := r.queue ++ [(c, .returned)] }))

/-- LINK_RECAL_START: RAS_LINK_RECAL.START written with its PORT: rings and store traffic move to an ACTIVE alternate or are held, and
the port enters RECOVERY; for the Starter the session ends. Ignored while BUSY, while the port is not ACTIVE or is held by a
MAINT session (R466). The end is the port's next entry into ACTIVE, or the Starter's next HELLO. -/
def execLinkRecalStart (port : BitVec 3) (s : State) : Host.Outcome State Fault Refusal :=
  let n := port.toNat
  if s.ras.recal.isSome then .next s
  else
    let s0 := if n ≤ 4 then s.wr Reg.RAS_LINK_RECAL_PORT n else s
    if 4 < n ∨ s.maintHolds n then .next s0
    else if n = 4 then
      .next (if s0.pair.session.isNone then s0 else s0.endSession.modRas (fun r => { r with recal := some (4, s.now, 0) }))
    else if s0.portActive n = false then .next s0
    else
      let l := s0.openRings.filter (fun tq => (s0.sq tq.1 tq.2).cur == n && !(s0.sq tq.1 tq.2).held)
      let moved := (l.filter (fun tq => match (s0.sq tq.1 tq.2).other with | some m => s0.portActive m | none => false)).length
      .next (((s0.failPort n).recover n 4).modRas (fun r => { r with recal := some (n, s.now, moved) }))

/-- The pattern that a lane's PATTERN selects: 6 and 7 act as 0. -/
def lanePattern (v : Nat) : Nat := if 5 < v then 0 else v
/-- The loopback mode that a lane's LOOP selects: 3 acts as 0. -/
def laneLoop (v : Nat) : Nat := if v = 3 then 0 else v

/-- Whether a write of lane registers by the debug master reaches them (R408). -/
def State.debugLane (s : State) (l : Nat) : Bool :=
  match s.lc with
  | .maker => true
  | .integrator => true
  | .returned => true
  | .fielded => s.maintHolds (l / 4)
  | .scrapped => false
  | .lost => false

/-- A write of a lane's PATTERN, LOOP and RATE (R467, R468). One that sets a non-zero PATTERN or LOOP is ignored where its condition
does not hold; in FIELDED only the debug master may make it. A change of PATTERN or LOOP clears the lane's counters. -/
def State.laneWrite (s : State) (l v : Nat) (debug : Bool) : State :=
  let p := bitsAt v 0 3
  let m := bitsAt v 8 2
  let ok := decide (p = 0 ∧ m = 0) || (s.laneAllowed l && (decide (s.lc ≠ .fielded) || debug))
  if ok = false ∨ (debug ∧ s.debugLane l = false) then s
  else
    let s1 := ((s.wr (Reg.RAS_LANE_CTL_PATTERN l) p).wr (Reg.RAS_LANE_CTL_LOOP l) m).wr (Reg.RAS_LANE_CTL_RATE l) (bitsAt v 10 2)
    if p = s.rd (Reg.RAS_LANE_CTL_PATTERN l) ∧ m = s.rd (Reg.RAS_LANE_CTL_LOOP l) then s1
    else
      (((s1.wr (Reg.RAS_LANE_ERR_ERRORS l) 0).wr (Reg.RAS_LANE_ERR_LOSSES l) 0).wr (Reg.RAS_LANE_BITS_BITS l) 0).wr
        (Reg.RAS_LANE_CTL_LOCK l) 0

/-- One transmitted bit inverted; where the lane loops its own data back, its locked checker counts it (R467). -/
def State.laneInject (s : State) (l : Nat) : State :=
  if s.bit (Reg.RAS_LANE_CTL_LOCK l) ∧ laneLoop (s.rd (Reg.RAS_LANE_CTL_LOOP l)) = 1 then s.satInc (Reg.RAS_LANE_ERR_ERRORS l) else s

/-- LANE_CTL_WRITE: a write of RAS_LANE_CTL by a supervisor or by the debug master, INJECT aside (R468). -/
def execLaneCtlWrite (lane : Fin 18) (value : BitVec 64) (debug : Bool) (s : State) : Host.Outcome State Fault Refusal :=
  .next (s.laneWrite lane value.toNat debug)

/-- LANE_INJECT: INJECT written (R467). -/
def execLaneInject (lane : Fin 18) (s : State) : Host.Outcome State Fault Refusal := .next (s.laneInject lane)

/-- Whether a lane's checker runs: a pattern is selected and the lane is not in far-end loopback (R467). -/
def State.laneChecks (s : State) (l : Nat) : Bool :=
  decide (lanePattern (s.rd (Reg.RAS_LANE_CTL_PATTERN l)) ≠ 0) && decide (laneLoop (s.rd (Reg.RAS_LANE_CTL_LOOP l)) ≠ 2)

/-- LANE_CHECKER_LOCK: after 64 error-free bits the checker is locked and counts (R467). -/
def execLaneCheckerLock (lane : Fin 18) (s : State) : Host.Outcome State Fault Refusal :=
  .next (if s.laneChecks lane then s.wr (Reg.RAS_LANE_CTL_LOCK lane) 1 else s)

/-- LANE_CHECKER_LOCK_LOSS: 32 errors within 64 bits: the loss is counted and the checker relocks. `errors` and `bits`: what the checker
counted while it was locked (R467). -/
def execLaneCheckerLockLoss (lane : Fin 18) (errors bits : BitVec 64) (s : State) : Host.Outcome State Fault Refusal :=
  if s.bit (Reg.RAS_LANE_CTL_LOCK lane) = false then .next s
  else
    let e := min (2 ^ 48 - 1) (s.rd (Reg.RAS_LANE_ERR_ERRORS lane) + errors.toNat)
    let s1 := (s.wr (Reg.RAS_LANE_ERR_ERRORS lane) e).addTo (Reg.RAS_LANE_BITS_BITS lane) bits.toNat
    .next ((s1.satInc (Reg.RAS_LANE_ERR_LOSSES lane)).wr (Reg.RAS_LANE_CTL_LOCK lane) 0)

end Sys2Proof.Machine
end

