-- ==== Sys2Proof/Machine/Power.lean ====
section
/-! DEFINITION. Power failure, junction temperature, the power cap and the SMBus target (R434, R473, R475, R477, R491, R492). -/

namespace Sys2Proof.Machine

/-- PFAIL_FALL: PFAIL_N falls: the recorder flushes its whole buffer, and Scale persists; `fails`: the persist's bank fails read-back
(R434, R446). -/
def execPfailFall (fails : Bool) (s : State) : Host.Outcome State Fault Refusal :=
  if s.pins.pfailN = false then .next s
  else
    let s1 : State := { s with pins := { s.pins with pfailN := false } }
    let s2 := s1.startFlush none true
    .next (if s2.hasScale ∧ s2.scale.up then s2.scalePersist fails else s2)

/-- PFAIL_RISE: PFAIL_N returns high with PGOOD high: no reset; the recorder flushes as usual again (R473). -/
def execPfailRise (s : State) : Host.Outcome State Fault Refusal :=
  .next (if s.pins.pgood then { s with pins := { s.pins with pfailN := true } } else s)

/-- A signed 16-bit value as an integer. -/
def signed16 (v : Nat) : Int := if v < 32768 then v else (v : Int) - 65536

/-- THERMAL_WARN_THRESHOLD: the junction temperature that SYS_THERM reports crosses 105 °C, which sets WARN, or falls to 100 °C, which clears
it; in 1/16 °C (R477, R491, R492). -/
def execThermalWarnThreshold (temp : BitVec 16) (sensor : Fin 26) (s : State) : Host.Outcome State Fault Refusal :=
  let t := temp.toInt
  let s1 := (s.wr Reg.SYS_THERM_TEMP temp.toNat).wr Reg.SYS_THERM_SENSOR sensor
  let s2 := if signed16 (s1.rd Reg.SYS_THERM_MAXTEMP) < t then s1.wr Reg.SYS_THERM_MAXTEMP temp.toNat else s1
  let mark (on : Bool) : State :=
    let s3 := (s2.wr Reg.SYS_THERM_WARN (b2n on)).emit .thermalWarning none srcReset temp.toNat sensor (b2n on)
    { s3 with pins := { s3.pins with pmAlertN := !on } }
  .next (if s.bit Reg.SYS_THERM_WARN = false ∧ 1680 ≤ t then mark true
    else if s.bit Reg.SYS_THERM_WARN ∧ t ≤ 1600 then mark false
    else s2)

/-- Clusters in service that the cap does not keep (R475). -/
def State.leaving (s : State) : List Nat := s.serving.filter (fun c => !s.keptClusters.contains c)

/-- POWER_CAP_LOWER: a write of a lower CAP: the clusters to leave are removed from dispatch, and tests on them are abandoned as by a
block reset; ignored while BUSY (R475). -/
def execPowerCapLower (cap : BitVec 5) (s : State) : Host.Outcome State Fault Refusal :=
  if s.ras.cap.isSome then .next s
  else
    let old := s.powerCap
    let s1 := s.wr Reg.SYS_PWR_CAP_CAP cap.toNat
    if old ≤ s1.powerCap then .next s
    else
      let s2 := s1.modRas (fun r => { r with cap := some old })
      .next (s2.leaving.foldl (fun s c =>
        let s1 := (s.skipTest c 2).modRas (fun r => { r with queue := r.queue.filter (fun q => q.1 ≠ c) })
        (s1.modPrf (fun p => { p with drained := if p.drained.contains c then p.drained else c :: p.drained })).passDone) s2)

/-- POWER_CAP_RAISE: a write of a higher CAP: the clusters that it keeps are released and tested; ignored while BUSY (R475). -/
def execPowerCapRaise (cap : BitVec 5) (s : State) : Host.Outcome State Fault Refusal :=
  if s.ras.cap.isSome then .next s
  else
    let old := s.powerCap
    let s1 := s.wr Reg.SYS_PWR_CAP_CAP cap.toNat
    if s1.powerCap ≤ old then .next s
    else
      let back := s1.ras.held.filter (fun c => s1.keptClusters.contains c)
      .next (s1.modRas (fun r => { r with
        cap := some old, held := r.held.filter (fun c => !back.contains c)
        queue := r.queue ++ ((List.range 24).filter (fun c => back.contains c)).map (fun (c : Nat) => (c, TestCause.returned)) }))

/-- A cluster power-gated under the cap (R475). -/
def State.gateCluster (s : State) (c : Nat) : State :=
  ((s.clusterReset c).modRas (fun r => { r with
    inService := setBits r.inService c 1 0, held := if r.held.contains c then r.held else c :: r.held })).modPrf (fun p => { p with
      drained := p.drained.filter (fun d => d ≠ c) })

/-- POWER_CAP_CHANGE_DONE: once the clusters to leave have drained they are power-gated, and once every cluster that the cap keeps is
back or retired the change ends: BUSY clears and POWER_CAP_CHANGED is recorded (R475, R492). -/
def execPowerCapChangeDone (s : State) : Host.Outcome State Fault Refusal :=
  match s.ras.cap with
  | none => .next s
  | some old =>
    if s.leaving.any (fun c => !s.clusterEmpty c) ∨ s.keptClusters.any (fun c => !bitAt s.ras.inService c) then .next s
    else
      let s1 := (s.leaving.foldl State.gateCluster s).modRas (fun r => { r with cap := none })
      .next (s1.emit .powerCapChanged none srcReset old s1.powerCap (clusterCount s1.ras.inService))

/-- Whether the SMBus target answers: from stage 8 (R491). -/
def State.smbusUp (s : State) : Bool := decide (s.sys.stage = 8)

/-- A word that the SMBus target returned, low byte first. -/
def State.smbusAnswer (s : State) (v : Nat) : State := { s with pins := { s.pins with smbus := natToLe 2 v } }

/-- SMBUS_READ_TEMPERATURE: Read Word 0x00 returns the junction temperature in 1/16 °C, signed (R491). -/
def execSmbusReadTemperature (s : State) : Host.Outcome State Fault Refusal :=
  .next (if s.smbusUp then s.smbusAnswer (s.rd Reg.SYS_THERM_TEMP) else s)

/-- SMBUS_READ_CLUSTERS: Read Word 0x01 returns the clusters in service (R491). -/
def execSmbusReadClusters (s : State) : Host.Outcome State Fault Refusal :=
  .next (if s.smbusUp then s.smbusAnswer (clusterCount s.ras.inService) else s)

/-- SMBUS_READ_CAP: Read Word 0x02 returns CAP (R491). -/
def execSmbusReadCap (s : State) : Host.Outcome State Fault Refusal :=
  .next (if s.smbusUp then s.smbusAnswer (s.rd Reg.SYS_PWR_CAP_CAP) else s)

/-- SMBUS_ALERT_RESPONSE: while it alerts, the device answers the Alert Response Address with its own address 0x4C in the high seven
bits (R491; the byte's form is SMBus 3.1's). -/
def execSmbusAlertResponse (s : State) : Host.Outcome State Fault Refusal :=
  .next (if s.smbusUp ∧ s.pins.pmAlertN = false then { s with pins := { s.pins with smbus := [0x98] } } else s)

end Sys2Proof.Machine
end

