-- ==== Sys2Proof/Machine/Views.lean ====
section
/-! DEFINITION. Registers as they read: fields that show other state of the unit are computed from it, every other field reads what the
register file holds (R4, R5, the register tables). -/

namespace Sys2Proof.Machine

/-- A field that shows other state: its lowest bit and its value. -/
abbrev View := List (Nat × Nat)

/-- One bit of a view. -/
def flag (lo : Nat) (b : Bool) : Nat × Nat := (lo, b2n b)

/-- PRF_CORE_STAT: 0 idle, 1 running, 2 with a staged command, 3 draining, 4 out of service (chapter 03). -/
def State.coreStat (s : State) (n : Nat) : View :=
  let run := (s.core n).run.bind s.entry?
  let c := n / 8
  let st := if bitAt s.ras.inService c = false then 4 else if s.prf.drained.contains c then 3
    else if run.isNone then 0 else if s.stagedFree n then 1 else 2
  match run with
  | none => [(32, 0), (16, 0), (9, 0), (5, (s.core n).res.length), (0, st)]
  | some e => [(32, e.flow), (16, e.prog), (9, e.tenant), (5, (s.core n).res.length), (0, st)]

/-- Live fields of the Proofer's registers (chapter 03). -/
def State.viewPrf (s : State) (base off : Nat) : View :=
  match base with
  | 0x50010008 => [flag 4 (s.prf.entries.any (fun e => e.inStore && !s.randOk e)), flag 2 (decide (s.spillHigh < s.onChip)), flag 1 (!s.prf.refills.isEmpty), (0, 0)]
  | 0x50010040 => [(24, s.spilledCells), (0, s.onChip)]
  | 0x50010048 => [(0, ((List.range 24).filter s.clusterServes).foldl (fun m c => m + 2 ^ c) 0)]
  | 0x50010050 => [(24, (s.prf.flows.filter (fun e => e.2.stored.isSome)).length), (0, (s.prf.flows.filter (fun e => e.2.stored.isNone)).length)]
  | 0x50010058 => [flag 9 (s.clusterEmpty (s.rd Reg.PRF_DRAIN_CLUSTER))]
  | 0x50011020 =>
    let t := off / 0x40
    [(56, s.tenantLoad t), (24, (s.prf.entries.filter (fun e => e.tenant == t && e.spilled)).foldl (fun n e => n + e.cells) 0),
      (0, s.tenantCells t)]
  | 0x50011028 => [(0, tabGet 0 s.prf.bucket (off / 0x40))]
  | 0x50013000 => s.coreStat (off / 0x20)
  | _ => []

/-- Live fields of the cluster registers (chapters 04 and 07). -/
def State.viewClu (s : State) (base off : Nat) : View :=
  let c := off / 0x400000
  let n := 8 * c + off % 0x400000 / 0x20
  match base with
  | 0x20300000 => [flag 2 (s.core n).run.isNone, flag 1 (s.core n).idleReq.isSome, flag 0 (s.core n).resetting.isSome]
  | 0x20303008 =>
    let q := (tabGet [] (s.cluster c).mau 8).length
    [flag 6 (s.cluster c).busy.isSome, flag 5 (decide (16 ≤ q)), (0, q)]
  | _ => []

/-- Live fields of the custodian serial port (chapter 08). -/
def State.viewCsp (s : State) (base : Nat) : View :=
  match base with
  | 0x50110000 => [(4, 0)]
  | 0x50110008 => [(16, s.keys.csp.tx.length), (8, s.keys.csp.rx.length), flag 1 (!s.pins.cspAttnN), flag 0 s.pins.cspPresent]
  | 0x50110010 =>
    match s.keys.csp.rx with
    | [] => [(8, 0), (0, 0)]
    | b :: _ => [(8, 1), (0, b.toNat)]
  | _ => []

/-- Live fields of the tables and the key cache (chapter 10). -/
def State.viewTbl (s : State) (base : Nat) : View :=
  match base with
  | 0x50080008 => [(32, s.tab.poisoned.length), flag 1 s.tab.reload.isSome, (0, 0)]
  | 0x50080040 => [(24, prefixCount s.tab.prefixes false), (0, prefixCount s.tab.prefixes true)]
  | 0x50080068 => [(48, s.tab.inserts.length), (0, s.tab.terms.length)]
  | _ => []

/-- Live fields of the sealed store (chapter 11). -/
def State.viewSst (s : State) (base : Nat) : View :=
  let r := s.store
  match base with
  | 0x50070000 => [flag 1 r.rekeying, flag 0 r.wantCut]
  | 0x50070008 => [(8, r.poison.length), flag 6 r.rekeying, flag 5 r.pend.isSome, flag 4 r.wantCut, flag 3 r.flushed, (0, r.st.val)]
  | 0x50070010 => [(0, r.n)]
  | 0x50070030 => [(32, rootNum r.pend), (0, r.openNum)]
  | 0x50070038 => [(32, rootNum r.durB), (0, rootNum r.durA)]
  | 0x50070048 => [(48, r.gen.1), (32, r.gen.2), (0, r.ptr)]
  | _ => []

/-- Live fields of the time base and of the entropy block (chapter 12). -/
def State.viewTim (s : State) (base off : Nat) : View :=
  let t := s.time
  match base with
  | 0x500A0008 => [(8, t.run), flag 7 t.gap, flag 6 t.mramWallValid, flag 4 t.disciplined, (0, t.state.val)]
  | 0x500A0010 => [(0, t.now)]
  | 0x500A0040 => [(24, s.c24 / 2 ^ 24), (0, s.c24 % 2 ^ 24)]
  | 0x500A0048 => [(0, t.lastTime)]
  | 0x500A0050 => [(0, if t.state = .trusted then 0 else t.now - t.holdNow)]
  | 0x50090000 => if s.lc = .maker then [] else [(0, 0)]
  | 0x50090028 => if s.lc = .maker then [] else [(0, 0)]
  | 0x50090008 =>
    [(32, s.ent.pool.length), (24, s.drbgCount .blocked), (16, s.drbgCount .ready), flag 2 s.ent.starved, flag 1 s.entAvail]
  | 0x50091000 =>
    let d := s.drbg (off / 8)
    [(48, d.reseeds), (6, d.reqs), (0, d.st.val)]
  | _ => []

/-- Live fields of a link port (chapter 13). -/
def State.viewLnk (s : State) (base off : Nat) : View :=
  let p := s.port (off / 0x10000)
  match base with
  | 0x50020008 => [(8, p.gen), (0, p.st.val)]
  | 0x50020018 => [(24, (p.retry.map Pkt.size).foldl (· + ·) 0), (0, p.reads.length)]
  | _ => []

/-- Journal bytes in use (R349). -/
def Pair.journalBytes (p : Pair) : Nat :=
  (p.journal.map (·.bytes)).foldl (· + ·) 0
    + (if p.st = .seedingOut ∨ p.st = .protected_ then (p.recs.map (fun c => 16 + c.body.length)).foldl (· + ·) 0 else 0)

/-- Live fields of the pair and the Starter (chapter 14). -/
def State.viewStr (s : State) (base : Nat) : View :=
  let p := s.pair
  match base with
  | 0x50060000 => [flag 1 (decide (p.st = .seedingOut))]
  | 0x50060008 =>
    [flag 11 p.lastActive, flag 10 s.primary, flag 9 p.key.isSome, flag 8 s.pairEligible, flag 7 p.service, flag 6 s.activeLow,
      flag 5 s.pins.peerClaim, flag 4 p.claim, (0, p.st.val)]
  | 0x50060020 => [(0, p.epoch)]
  | 0x50060028 => [(0, p.acked)]
  | 0x50060030 => [(0, p.horizon)]
  | 0x50060048 => [(0, p.items)]
  | 0x50060050 => [(32, p.journal.length), (0, p.journalBytes)]
  | _ => []

/-- Live fields of the guard bridge (chapter 15). -/
def State.viewGrd (s : State) (base : Nat) : View :=
  match base with
  | 0x500B0008 => [flag 2 s.keys.root.isSome, flag 1 (!s.logicOn), flag 0 s.logicOn]
  | _ => []

/-- Live fields of the reset controller (chapters 16 and 22). -/
def State.viewSys (s : State) (base off : Nat) : View :=
  let y := s.sys
  match base with
  | 0x50000008 => [flag 4 y.straps.2.2, (2, y.straps.2.1), (0, y.straps.1)]
  | 0x50000010 => [(40, y.clusters), (32, 0), (16, y.good), (0, y.stage)]
  | 0x50000020 => [(0, s.resetMapValue)]
  | 0x50000040 => [(0, s.gapOf (off / 8))]
  | 0x50000090 => [(33, 0)]
  | 0x500000B0 => [flag 9 y.block.isSome, flag 8 y.block.isSome]
  | 0x500000B8 => [(16, y.result), (10, y.source), (8, y.port), (4, y.copy), (0, y.phase.val)]
  | 0x500000F0 => [(0, y.good)]
  | 0x500000F8 => [flag 9 (s.keys.resets.any (fun r => r.reg)), (8, 0)]
  | 0x50000000 => [(1, 0), (0, 0)]
  | 0x50000100 => [flag 32 s.ras.cap.isSome]
  | _ => []

/-- Live fields of the life cycle and the debug port (chapter 17). -/
def State.viewLcd (s : State) (base : Nat) : View :=
  match base with
  | 0x500E0000 => [(0, s.lcdState % 8), (4, s.lcdState / 16 % 2), (8, s.lcdState / 256)]
  | 0x500E0008 => [(0, s.otp.uid)]
  | 0x500E0010 =>
    let v := s.lcdLcStat
    [(8, bitsAt v 8 4), (7, bitsAt v 7 1), (4, bitsAt v 4 3), (3, bitsAt v 3 1), (0, bitsAt v 0 3)]
  | 0x500E0018 => [flag 63 s.life.prog.isSome, (10, 0), (9, 0)]
  | 0x500E0028 =>
    match s.life.session with
    | none => [(16, 0), (8, 0), (1, 0), (0, 0)]
    | some d => [(16, d.ports), (8, d.tenant), (1, d.scope), (0, 0)]
  | 0x500E0030 => [(0, (s.life.session.map (·.notAfter)).getD 0)]
  | _ => []

/-- Live fields of the event recorder (chapter 19). -/
def State.viewEvr (s : State) (base off : Nat) : View :=
  let e := s.evr
  match base with
  | 0x500C0000 => [flag 0 e.flush.isSome]
  | 0x500C0008 => [(40, e.good), flag 34 e.archBlocked, flag 33 e.volatileOnly, flag 32 e.flush.isSome, (0, e.buf.length)]
  | 0x500C0010 => [(0, e.next)]
  | 0x500C0030 =>
    let num := s.rd Reg.EVR_RD_IDX_NUMBER
    match e.buf.find? (fun r => r.num == num) with
    | none => [(0, 0)]
    | some r => [(0, leAt r.bytes off 8)]
  | _ => []

/-- Fields of Scale's read-only window: all zero where Scale is absent (R455, chapter 20). -/
def State.viewScl (s : State) (base off : Nat) : View :=
  let c := s.scale
  if s.otp.part.hasScale = false then [(0, 0), (2, 0), (3, 0), (4, 0), (5, 0), (6, 0), (7, 0), (32, 0)]
  else
    match base with
    | 0x500F0000 =>
      [(7, 1), flag 6 (c.up && c.romfw), flag 5 (decide (scaleLeaves ≤ c.next)), (4, 0), flag 3 c.bankB.bad, flag 2 c.bankA.bad]
    | 0x500F0008 => [(32, c.interval), (0, c.sgen)]
    | 0x500F0010 => [(0, c.next)]
    | 0x500F1000 => [(0, leAt (c.stmts.headD []) off 8)]
    | 0x500F8000 => [(0, tabGet 0 c.counts (off / 0x100 * 32 + off % 0x100 / 8))]
    | _ => []

/-- Live fields of checking and self-test (chapter 21). -/
def State.viewRas (s : State) (base : Nat) : View :=
  let r := s.ras
  match base with
  | 0x50100000 => [flag 2 r.once]
  | 0x50100010 => [flag 8 (!r.tests.isEmpty)]
  | 0x50100028 => [(24, r.retired), (0, r.inService)]
  | 0x50100030 =>
    [flag 9 (r.queue.any (fun q => q.2 = .returned && bitAt r.retired q.1) || r.tests.any (fun t => t.cause = .returned && bitAt r.retired t.cluster)),
      (8, 0)]
  | 0x50100038 => [flag 9 r.recal.isSome, (8, 0)]
  | 0x50101000 => [(16, 0)]
  | _ => []

/-- The live fields of a register, by the base of its row and its offset from it. -/
def State.view (s : State) (base off : Nat) : View :=
  if base < 0x50000000 then s.viewClu base off
  else
    match base / 0x10000 with
    | 0x5000 => s.viewSys base off
    | 0x5001 => s.viewPrf base off
    | 0x5002 => s.viewLnk base off
    | 0x5006 => s.viewStr base
    | 0x5007 => s.viewSst base
    | 0x5008 => s.viewTbl base
    | 0x5009 => s.viewTim base off
    | 0x500A => s.viewTim base off
    | 0x500B => s.viewGrd base
    | 0x500C => s.viewEvr base off
    | 0x500E => s.viewLcd base
    | 0x500F => s.viewScl base off
    | 0x5010 => s.viewRas base
    | 0x5011 => s.viewCsp base
    | _ => []

/-- A register's value: each field live or stored, write-only and reserved bits zero (R4, R5). -/
def State.regValue (s : State) (row : RegRow) (a : Nat) : Nat :=
  let v := s.view row.base (a - row.base)
  row.fields.foldl (fun acc f =>
    if f.access = .wo then acc
    else
      let x := match v.find? (fun p => p.1 == f.lo) with
        | some p => p.2
        | none => regGet s.regs (f.field a)
      acc + x % 2 ^ f.width * 2 ^ f.lo) 0

/-- Registers whose value counts cycles that the model does not: they read as free values (log entry 2). Lane counters do so while the
lane's checker is locked (R467). -/
def State.freeCount (s : State) (row : RegRow) (a : Nat) : Bool :=
  match row.base with
  | 0x50013010 => true
  | 0x20303018 => true
  | 0x50101010 => s.bit (Reg.RAS_LANE_CTL_LOCK ((a - row.base) / 0x20))
  | 0x50101018 => s.bit (Reg.RAS_LANE_CTL_LOCK ((a - row.base) / 0x20))
  | _ => false

/-- A register read (R4): its value, and the state after the read's own effect, which CSP_RX alone has. -/
def State.readReg (s : State) (a : Nat) : Nat × State :=
  match regRowAt a with
  | none => (0, s)
  | some row =>
    if s.freeCount row a then
      let (v, s1) := s.fresh
      (if row.base = 0x50101010 then v.toNat % 2 ^ 48 + s.rd (Reg.RAS_LANE_ERR_LOSSES ((a - row.base) / 0x20)) * 2 ^ 48 else v.toNat, s1)
    else if row.base = 0x50110010 then
      (s.regValue row a, match execCspRxRead s with | .next t => t | _ => s)
    else (s.regValue row a, s)

end Sys2Proof.Machine
end

