-- ==== Sys2Proof/Machine/RegAccess.lean ====
section
/-! DEFINITION. Writes of registers by a master on the chip (R4, R5, and the limits that the register tables state): fields take their
values by their access codes, and a bit with a command of its own acts as that command. -/

namespace Sys2Proof.Machine

/-- The state that a command answers, where it answers one. -/
def nextOr (s : State) (o : Host.Outcome State Fault Refusal) : State :=
  match o with
  | .next t => t
  | .fault _ => s
  | .refused _ => s

/-- Whether a value lies outside a range. -/
def outside (lo hi v : Nat) : Bool := decide (v < lo) || decide (hi < v)

/-- The lowest bits of fields in a list whose condition holds. -/
def keptIf (l : List (Nat × Bool)) : List Nat := (l.filter (·.2)).map (·.1)

/-- Whether the life-cycle state is MAKER or INTEGRATOR. -/
def State.inFactory (s : State) : Bool := decide (s.lc = .maker) || decide (s.lc = .integrator)

/-- The MPU that a register of the MPU_ or CLU_MPU_ windows belongs to, by its row and offset (R412, chapter 18). -/
def mpuOfReg (base off : Nat) : Nat :=
  if base < 0x50000000 then
    12 + 8 * (off / 0x400000) + (if base < 0x20305000 then off % 0x400000 / 0x200 else off % 0x400000 / 0x20)
  else if base < 0x500D0100 then off / 8 else off / 0x400

/-- The region of a region register. -/
def regionOfReg (base off : Nat) : Nat :=
  if base < 0x50000000 then off % 0x200 / 0x20 else off % 0x400 / 0x20

/-- The fields of a register, by their lowest bit, that a write leaves as they are: those whose value is out of range or whose condition
does not hold, and those that a command of their own sets. `rw` is the value that the register's fields would take. -/
def State.keeps (s : State) (base off rw : Nat) : List Nat :=
  let lim (lo w a b : Nat) : Nat × Bool := (lo, outside a b (bitsAt rw lo w))
  match base with
  | 0x50010028 => keptIf [(0, bitsAt rw 0 11 = 0)]
  | 0x50010058 => [8, 0]
  | 0x50080058 => keptIf [(0, !s.tab.spilled.isEmpty || decide (s.rd Reg.TBL_TT_OCC_SPILLED ≠ 0))]
  | 0x50080060 => keptIf [(0, !s.tab.terms.isEmpty || !s.tab.spilled.isEmpty || decide (s.rd Reg.TBL_TT_OCC_SPILLED ≠ 0))]
  | 0x50070018 => keptIf [(0, s.storeOpen)]
  | 0x50070100 => keptIf [(12, s.storeOpen)]
  | 0x50070108 => keptIf [(0, s.storeOpen)]
  | 0x500A0018 => keptIf [lim 0 30 100000 1000000000]
  | 0x500A0020 => keptIf [lim 0 14 10 10000]
  | 0x500A0028 => keptIf [lim 0 12 1 3600]
  | 0x500A0030 => keptIf [lim 0 4 2 15]
  | 0x50090000 => [0]
  | 0x50090010 => keptIf [(16, !s.inFactory), (0, !s.inFactory)]
  | 0x50090018 => keptIf [lim 0 21 1 1048576]
  | 0x50090028 => keptIf [(0, decide (s.lc ≠ .maker))]
  | 0x50110000 => keptIf [(0, !s.keys.policy.cspEn && decide (bitsAt rw 0 1 = 1))]
  | 0x50020000 => [0]
  | 0x50020010 => keptIf [lim 32 32 1000 100000, lim 0 32 1000 1000000]
  | 0x50060010 => keptIf [lim 32 16 10 60000, lim 0 32 100 1000000]
  | 0x50060018 => keptIf [lim 16 16 1 512, lim 0 16 100 65535]
  | 0x500B0000 => keptIf [(0, decide (s.lc ≠ .maker))]
  | 0x500B0010 => [0]
  | 0x500B0018 => [0]
  | 0x500B0100 =>
    let locked := decide (s.lc = .fielded)
    let late := decide (bitsAt rw 24 8 < bitsAt rw 16 8)
    keptIf [(32, locked), (24, locked || late), (16, locked || late), (1, locked || outside 1 1000 (bitsAt rw 1 10)),
      (0, bitsAt rw 0 1 == 0 && !s.inFactory)]
  | 0x500B0200 => keptIf [(0, !s.inFactory)]
  | 0x50000090 => keptIf [(0, outside 1000 60000000 (bitsAt rw 0 32) || s.bit (Reg.SYS_WDOG_EN (off / 0x10)))]
  | 0x500000B0 => keptIf [lim 32 32 10 100000]
  | 0x500E0018 => keptIf [(0, s.life.prog.isSome)]
  | 0x50100000 => keptIf [(0, bitsAt rw 0 1 == 0 && decide (s.lc ≠ .maker))]
  | 0x50100008 => keptIf [lim 32 16 1 1000, lim 0 32 1 86400]
  | 0x50100018 => keptIf [lim 0 32 100 60000]
  | 0x50100038 => keptIf [(0, decide (4 < bitsAt rw 0 3))]
  | 0x50101000 => [10, 8, 0]
  | 0x50000100 => [0]
  | 0x500C4000 => [16, 0]
  | 0x500D0000 => [0]
  | 0x20305000 => [0]
  | 0x500D1000 => keptIf [(6, !s.mpuWritable (mpuOfReg base off) || decide (mpuRegions (mpuOfReg base off) ≤ regionOfReg base off))]
  | 0x500D1008 => keptIf [(6, !s.mpuWritable (mpuOfReg base off) || decide (mpuRegions (mpuOfReg base off) ≤ regionOfReg base off))]
  | 0x500D1010 => [16, 14, 8, 6, 4, 3, 2, 1, 0]
  | 0x20304010 => [16, 14, 8, 6, 4, 3, 2, 1, 0]
  | _ => []

/-- The fields of a register written by their access codes: RW fields from `rw`, W1C fields from `act` (R4). Write-only and W1S fields
act through the commands below. -/
def State.writeFields (s : State) (row : RegRow) (a rw act : Nat) : State :=
  let keep := s.keeps row.base (a - row.base) rw
  row.fields.foldl (fun s f =>
    if keep.contains f.lo then s
    else
      match f.access with
      | .rw => s.wr (f.field a) (bitsAt rw f.lo f.width)
      | .w1c => s.wr (f.field a) (accessWrite .w1c (s.rd (f.field a)) (bitsAt act f.lo f.width))
      | _ => s) s

/-- One bit of a write that acts as a command. -/
def State.onBit (s : State) (act i : Nat) (f : State → Host.Outcome State Fault Refusal) : State :=
  if bitAt act i then nextOr s (f s) else s

/-- What a write does in the Proofer and the clusters (chapters 03, 04, 06, 07). -/
def State.actPrf (s : State) (base off rw act : Nat) : State :=
  let c := off / 0x400000
  let n := 8 * c + off % 0x400000 / 0x20
  match base with
  | 0x50010000 => s.onBit act 2 execPrfHclr
  | 0x50010058 =>
    let k := if s.bit Reg.PRF_DRAIN_REQ then s.rd Reg.PRF_DRAIN_CLUSTER else bitsAt rw 0 5
    if k < 24 then nextOr s (execClusterDrainRequest (Fin.ofNat 24 k) (bitAt rw 8) s)
    else (s.wr Reg.PRF_DRAIN_CLUSTER k).wr Reg.PRF_DRAIN_REQ (bitsAt rw 8 1)
  | 0x20300000 => (s.onBit act 1 (execCoreIdleRequest (Fin.ofNat 192 n))).onBit act 0 (execCoreResetRequest (Fin.ofNat 192 n))
  | 0x20302000 => s.onBit act 0 (execEngineKatStart (Fin.ofNat 192 n) (BitVec.ofNat 13 (bitsAt rw 16 13)) (bitAt rw 1))
  | 0x20303000 =>
    -- the register names no function: it is a free value (log entry 12)
    let (v, s1) := s.fresh
    s1.mauQueue c (bitsAt act 6 13) (v.toNat % 512)
  | _ => s

/-- What a write does in the serial port, the tables and the sealed store (chapters 08, 10, 11). -/
def State.actTbl (s : State) (base act : Nat) : State :=
  match base with
  | 0x50110000 => s.onBit act 4 execCspFlush
  | 0x50110018 => nextOr s (execCspTxWrite (BitVec.ofNat 8 act) s)
  | 0x50080010 =>
    nextOr s (execKeyCacheInvalidate (Fin.ofNat 4 (bitsAt act 32 2)) (Fin.ofNat 4 (bitsAt act 30 2)) (Fin.ofNat 64 (bitsAt act 24 6))
      (BitVec.ofNat 24 act) s)
  | 0x50080060 => s.modSys (fun y => { y with salt := s.rd Reg.TBL_TT_SALT_SALT })
  | 0x50080020 =>
    match act % 8 with
    | 1 => nextOr s (execSieveInsert s)
    | 2 => nextOr s (execSieveDelete s)
    | 3 => nextOr s (execSieveFilterWrite s)
    | 4 => nextOr s (execSieveLookup s)
    | _ => s
  | 0x50070000 => (s.onBit act 1 execSstRekey).onBit act 0 execSstCut
  | 0x50070040 => (s.storeAck (bitsAt act 0 32)).2
  | _ => s

/-- What a write does in entropy, link, pair and guard (chapters 12 to 15). -/
def State.actLnk (s : State) (base off rw act : Nat) : State :=
  let port : Fin 4 := Fin.ofNat 4 (off / 0x10000)
  match base with
  | 0x50090000 => nextOr s (execEntTestpatWrite (bitAt rw 0) s)
  | 0x50020000 =>
    let s1 := if bitAt rw 0 = s.bit (Reg.LNK_CTL_EN port) then s
      else if bitAt rw 0 then nextOr s (execLinkEnable port s) else nextOr s (execLinkDisable port s)
    s1.onBit act 1 (execLinkRetrain port)
  | 0x50060000 => ((if bitAt rw 2 then s.laneCheck else s.endSession)).onBit act 1 execSeedStart
  | 0x500B0010 =>
    if s.inFactory then
      s.wr Reg.GRD_RESP_RESP ((List.range 18).foldl (fun v i => if fixedTrip i then setBits v (2 * i) 2 2 else v) (bitsAt rw 0 36))
    else s
  | 0x500B0018 =>
    let held := if s.bit Reg.GRD_STAT_TRIP_ACTIVE then s.rd Reg.GRD_TREC_CAUSE else 0
    let old := s.rd Reg.GRD_SRC_LATCHED
    s.wr Reg.GRD_SRC_LATCHED (accessWrite .w1c old act ||| (old &&& held))
  | _ => s

/-- What a write does in the reset controller, the life cycle and the debug port (chapters 16, 17, 22). -/
def State.actSys (s : State) (debug : Bool) (base off rw act : Nat) : State :=
  match base with
  | 0x50000000 =>
    (s.onBit act 1 (execSoftwareServiceReset (BitVec.ofNat 8 (act / 256)))).onBit act 0 (execSoftwareChipReset (BitVec.ofNat 8 (act / 256)))
  | 0x50000010 => if debug then s.onBit act 32 execStageOverride else s
  | 0x50000090 =>
    let p : Fin 2 := Fin.ofNat 2 (off / 0x10)
    (s.onBit act 32 (execWatchdogEnable p)).onBit act 33 (execWatchdogKick p)
  | 0x500000B0 => s.onBit act 8 (execBlockResetRequest (BitVec.ofNat 5 rw) (BitVec.ofNat 32 (rw / 2 ^ 32)))
  | 0x500000F8 => s.onBit act 8 (execTenantResetRequest (Fin.ofNat 64 (bitsAt rw 0 6)))
  | 0x50000100 =>
    if s.ras.cap.isSome then s
    else
      let s1 := s.wr Reg.SYS_PWR_CAP_CAP (bitsAt rw 0 5)
      if s1.powerCap < s.powerCap then nextOr s (execPowerCapLower (BitVec.ofNat 5 rw) s)
      else if s.powerCap < s1.powerCap then nextOr s (execPowerCapRaise (BitVec.ofNat 5 rw) s)
      else s1
  | 0x500E0018 =>
    if s.life.prog.isSome then s
    else if bitAt act 9 then nextOr s (execOtpProgram (Fin.ofNat 512 (bitsAt rw 0 9)) s)
    else s.onBit act 10 (execOtpRead (Fin.ofNat 512 (bitsAt rw 0 9)))
  | 0x500E0028 => s.onBit act 0 execDebugSessionEnd
  | _ => s

/-- What a write does in the MPUs, the recorder and checking (chapters 18, 19, 21). -/
def State.actRas (s : State) (debug : Bool) (base off rw act : Nat) : State :=
  let mpuCtl (s : State) : State :=
    let m : Fin 204 := Fin.ofNat 204 (mpuOfReg base off)
    (nextOr s (execMpuUpdWrite m (bitAt rw 0) s)).onBit act 1 (execMpuLock m)
  let commit (s : State) : State :=
    nextOr s (execMpuRegionCommit (Fin.ofNat 204 (mpuOfReg base off)) (Fin.ofNat 32 (regionOfReg base off)) (BitVec.ofNat 64 rw) s)
  match base with
  | 0x500D0000 => mpuCtl s
  | 0x20305000 => mpuCtl s
  | 0x500D1010 => commit s
  | 0x20304010 => commit s
  | 0x500C0000 => s.onBit act 0 execEvrFlush
  | 0x500C4000 => nextOr s (execEvrLimitWrite (Fin.ofNat 4096 (off / 4)) (BitVec.ofNat 16 (rw / 65536)) (BitVec.ofNat 16 rw) s)
  | 0x50100000 => s.onBit act 2 execRotStart
  | 0x50100030 => s.onBit act 8 (execClusterReturn (BitVec.ofNat 5 rw))
  | 0x50100038 => s.onBit act 8 (execLinkRecalStart (BitVec.ofNat 3 rw))
  | 0x50101000 =>
    let l := off / 0x20
    let s1 := s.laneWrite l rw debug
    if bitAt act 16 then s1.laneInject l else s1
  | _ => s

/-- The register that an address lies in, with the register's own address and the byte offset in it (R14, R321). -/
def regHit (a : Nat) : Option (RegRow × Nat × Nat) :=
  let b := a - a % 8
  let c := a - a % 4
  match regRowAt c with
  | some row => some (row, c, a % 4)
  | none =>
    match regRowAt b with
    | some row => if row.bytes = 8 then some (row, b, a % 8) else none
    | none => none

/-- Bytes of a register window read: those of the register, zero beyond it (R321); none at an unused offset (R17). -/
def State.readBytesReg (s : State) (a n : Nat) : Option (Bytes × State) :=
  match regHit a with
  | none => none
  | some (row, b, off) =>
    let (v, s1) := s.readReg b
    some (natToLe n (v % 2 ^ (8 * row.bytes) / 2 ^ (8 * off)), s1)

/-- A write of bytes of a register. The bytes not written keep their RW fields, and their other fields act as if written with zero
(R321). `debug`: by the debug master. -/
def State.writeReg (s : State) (debug : Bool) (row : RegRow) (b off : Nat) (data : Bytes) : State :=
  let n := min data.length (row.bytes - off)
  let v := leToNat (data.take n)
  let rw := setBits (regReadRow s.regs row b) (8 * off) (8 * n) v
  let act := v * 2 ^ (8 * off)
  let o := b - row.base
  let s1 := s.writeFields row b rw act
  if row.base < 0x20304000 ∨ (0x50010000 ≤ row.base ∧ row.base < 0x50020000) then s1.actPrf row.base o rw act
  else
    match row.base / 0x10000 with
    | 0x5000 => s1.actSys debug row.base o rw act
    | 0x500E => s1.actSys debug row.base o rw act
    | 0x5002 => s1.actLnk row.base o rw act
    | 0x5006 => s1.actLnk row.base o rw act
    | 0x5009 => s1.actLnk row.base o rw act
    | 0x500A => s1.trefSettle
    | 0x500B => s1.actLnk row.base o rw act
    | 0x5007 => s1.actTbl row.base act
    | 0x5008 => s1.actTbl row.base act
    | 0x5011 => s1.actTbl row.base act
    | _ => s1.actRas debug row.base o rw act

/-- Bytes of a register window written; none at an unused offset (R17). -/
def State.writeBytesReg (s : State) (debug : Bool) (a : Nat) (data : Bytes) : Option State :=
  match regHit a with
  | none => none
  | some (row, b, off) => some (s.writeReg debug row b off data)

end Sys2Proof.Machine
end

