-- ==== Sys2Proof/Machine/Bus.lean ====
section
/-! DEFINITION. Accesses in the internal address map of R14 by masters on the chip: cores at K, supervisors and the debug master; the
loads and stores of a core (R90). -/

namespace Sys2Proof.Machine

/-- Bytes of MRAM whose place the spec gives: the words of the leaf limit (R184), the headers and records of the recorder's ring (R431),
Scale's package (R451). -/
def State.mramBytes (s : State) (a n : Nat) : Option Bytes :=
  if 0x10000400 ≤ a ∧ a < 0x10000480 then some (slice (natToLe 8 (tabGet 0 s.signer.words ((a - 0x10000400) / 8))) (a % 8) n)
  else if 0x10200000 ≤ a ∧ a < 0x10200800 then
    let g := tabGet Segment.empty s.evr.ring ((a - 0x10200000) / 0x40)
    let st := match g.st with | .free => 0 | .filling => 1 | .full => 2
    let head := natToLe 1 st ++ natToLe 1 (b2n g.bad) ++ zeros 6 ++ natToLe 8 ((g.recs.head?.map (·.num)).getD 0) ++ zeros 48
    some (slice head (a % 0x40) n)
  else if 0x10201000 ≤ a ∧ a < 0x10281000 then
    let g := tabGet Segment.empty s.evr.ring ((a - 0x10201000) / 0x4000)
    (g.recs[(a - 0x10201000) % 0x4000 / 32]?).map (fun r => slice r.bytes (a % 32) n)
  else if 0x10380000 ≤ a then
    match s.scale.pkg with
    | some p => if a - 0x10380000 + n ≤ p.length then some (slice p (a - 0x10380000) n) else none
    | none => none
  else none

/-- The terminal at a place of the table's memory: entry k of bucket k / 8, in the order in which the model lists the bucket's terminals (R246;
log entry 68). -/
def State.termAt (s : State) (k : Nat) : Option Term := (s.tab.terms.filter (fun t => s.bucketOf t.tenant t.id == k / 8))[k % 8]?
/-- Bytes of the terminal table's memory (R14, R246). -/
def State.termBytes (s : State) (a n : Nat) : Bytes :=
  slice (((s.termAt ((a - 0x40800000) / 32)).map Term.bytes).getD (zeros 32)) (a % 32) n
/-- Bytes written to the terminal table's memory: the entry that they leave, if VALID, takes the place of the one there (R246). -/
def State.termPoke (s : State) (a : Nat) (b : Bytes) : State :=
  let old := s.termAt ((a - 0x40800000) / 32)
  let new := termOfBytes (patch ((old.map Term.bytes).getD (zeros 32)) (a % 32) b)
  s.modTab (fun t => { t with terms := match old, new with
    | some o, some x => t.terms.map (fun e => if e = o then { x with refs := o.refs } else e)
    | some o, none => t.terms.erase o
    | none, some x => t.terms ++ [x]
    | none, none => t.terms })

/-- Bytes of a memory whose contents the spec places in no other state: as written, and free values where nothing was (R10, R14; log entry
2). -/
def State.rawRead (s : State) (a n : Nat) : Bytes × State :=
  let (f, s1) := s.freshBytes n
  ((List.range n).map (fun i => (tabGet none s.sys.raw (a + i)).getD (f.getD i 0#8)), s1)
/-- Bytes written to such a memory; boot ROM takes none. -/
def State.rawWrite (s : State) (a : Nat) (b : Bytes) : State :=
  if a < 0x10000000 then s
  else s.modSys (fun y => { y with
    raw := (List.range b.length).foldl (fun (m : Table (Option Byte)) i => tabSet none m (a + i) (some (b.getD i 0#8))) y.raw })

/-- Bytes read at an internal address: none where it is unmapped or an unused offset of a register window (R14, R17). -/
def State.busRead (s : State) (a n : Nat) : Option (Bytes × State) :=
  if internalMapped a = false then none
  else if 0x50000000 ≤ a then s.readBytesReg a n
  else if 0x20000000 ≤ a ∧ a < 0x26000000 then
    let c := (a - 0x20000000) / 0x400000
    let off := a % 0x400000
    if 0x300000 ≤ off then s.readBytesReg a n
    else if 0x100000 ≤ off then some (memRead (s.cluster c).shared (off - 0x100000) n, s)
    else some (memRead (s.core (8 * c + off / 0x20000)).mem (off % 0x20000) n, s)
  else if 0x40800000 ≤ a then some (s.termBytes a n, s)
  else
    match s.mramBytes a n with
    | some b => some (b, s)
    | none => some (s.rawRead a n)

/-- Bytes written at an internal address: none where it is unmapped or an unused offset (R14, R17). The recorder's ring in MRAM takes none
from here (log entry 50). -/
def State.busWrite (s : State) (debug : Bool) (a : Nat) (b : Bytes) : Option State :=
  if internalMapped a = false then none
  else if 0x50000000 ≤ a then s.writeBytesReg debug a b
  else if 0x20000000 ≤ a ∧ a < 0x26000000 then
    let c := (a - 0x20000000) / 0x400000
    let off := a % 0x400000
    if 0x300000 ≤ off then s.writeBytesReg debug a b
    else if 0x100000 ≤ off then some (s.modCluster c (fun k => { k with shared := memWrite k.shared (off - 0x100000) b }))
    else some (s.storeLocal (8 * c + off / 0x20000) (off % 0x20000) b)
  else if 0x40800000 ≤ a then some (s.termPoke a b)
  else if 0x10000400 ≤ a ∧ a < 0x10000480 then
    let i := (a - 0x10000400) / 8
    let v := setBits (tabGet 0 s.signer.words i) (8 * (a % 8)) (8 * b.length) (leToNat b)
    some { s with signer := { s.signer with words := tabSet 0 s.signer.words i v } }
  else if (s.mramBytes a b.length).isSome then
    some (if 0x10380000 ≤ a then s.modScale (fun c => { c with pkg := c.pkg.map (fun p => patch p (a - 0x10380000) b) }) else s)
  else some (s.rawWrite a b)

/-- An access of a core at K that its MPU or the map refuses: the core is reset alone (R102, R421). -/
def State.kRefused (s : State) (n a : Nat) (kind : AccKind) (f : MpuFault) : State :=
  (s.mpuReport (12 + n) ⟨.k, (s.core n).run.map (fun _ => s.coreTenant n), kind⟩ f).excAt n .access a

/-- A load of `w` bytes (R90): ALIGN before ACCESS. At U outside the rights of R77 it takes ACCESS; at K from 0x2000_0000 upwards it
reads the internal map. -/
def State.loadFrom (s : State) (n gd ga : Nat) (imm : BitVec 16) (w : Nat) : State :=
  let a := s.addrOf n ga imm
  if a % w ≠ 0 then s.excAt n .align a
  else if (s.core n).user then
    if s.userLoadOk n a w then
      let r := s.loadBytes n a w
      r.2.ret n gd (BitVec.ofNat 64 (leToNat r.1))
    else s.excAt n .access a
  else
    match s.kRefusal n .read a w with
    | some f => s.kRefused n a .read f
    | none =>
      if a < 0x20000000 then
        let r := s.loadBytes n a w
        r.2.ret n gd (BitVec.ofNat 64 (leToNat r.1))
      else
        match s.busRead a w with
        | none => s.kRefused n a .read ⟨a, .unmapped, 0xFF⟩
        | some r => r.2.ret n gd (BitVec.ofNat 64 (leToNat r.1))

/-- A store of `w` bytes (R90), with the same checks. -/
def State.storeTo (s : State) (n gd ga : Nat) (imm : BitVec 16) (w : Nat) : State :=
  let a := s.addrOf n ga imm
  let b := natToLe w (s.getG n gd).toNat
  if a % w ≠ 0 then s.excAt n .align a
  else if (s.core n).user then
    if s.userStoreOk n a w then (s.storeBytes n a b).nextPc n else s.excAt n .access a
  else
    match s.kRefusal n .write a w with
    | some f => s.kRefused n a .write f
    | none =>
      if a < 0x20000000 then (s.storeBytes n a b).nextPc n
      else
        match s.busWrite false a b with
        | none => s.kRefused n a .write ⟨a, .unmapped, 0xFF⟩
        | some t => t.nextPc n

/-- Whether the debug master reaches an access (R408): in MAKER, INTEGRATOR and RETURNED the whole map; in FIELDED what the session's
scope gives, until the cycle of NOT_AFTER (R410). -/
def State.debugReach (s : State) (write : Bool) (a : Nat) : Bool :=
  match s.lc with
  | .maker => true
  | .integrator => true
  | .returned => true
  | .scrapped => false
  | .lost => false
  | .fielded =>
    match s.life.session with
    | none => false
    | some d =>
      let regs := decide (0x50000000 ≤ a) || (decide (0x20000000 ≤ a) && decide (a < 0x26000000) && decide (0x300000 ≤ a % 0x400000))
      let data := decide (d.scope = 2) && decide (0x20000000 ≤ a) && decide (a < 0x26000000) && decide (a % 0x400000 < 0x100000)
        && decide (0x10000 ≤ a % 0x20000)
        && (let n := 8 * ((a - 0x20000000) / 0x400000) + a % 0x400000 / 0x20000
            (s.core n).run.isSome && decide (s.coreTenant n = d.tenant))
      let link := decide (0x50020000 ≤ a) && decide (a < 0x50060000) && bitAt d.ports ((a - 0x50020000) / 0x10000)
      let lane := decide (0x50101000 ≤ a) && decide (a < 0x50101240) && bitAt d.ports ((a - 0x50101000) / 0x80)
      decide (s.now < d.notAfter) && (if write then decide (d.scope = 3) && (link || lane) else regs || data)

/-- Whether a debug read meets a quarantined line of a core's data area (R160, R410). -/
def State.debugQuarantined (s : State) (a n : Nat) : Bool :=
  decide (0x20000000 ≤ a) && decide (a < 0x26000000) && decide (a % 0x400000 < 0x100000)
    && (s.core (8 * ((a - 0x20000000) / 0x400000) + a % 0x400000 / 0x20000)).quarantined (a % 0x20000) n

/-- The result of DMACC as the TAP shifts it out: status, 0 OK or 1 ERROR, then eight bytes of data. -/
def dmaccResult (status : Nat) (b : Bytes) : Bytes := natToLe 1 status ++ fitTo 8 b

/-- A debug access refused: ERROR with zero data, DEBUG_DENIED, and the refusal of the debug master's MPU (R410, R411, R422). -/
def State.debugDenied (s : State) (write : Bool) (a : Nat) (cause : MpuCause) : State :=
  let s1 := s.mpuReport 11 ⟨.u, none, if write then .write else .read⟩ ⟨a, cause, 0xFF⟩
  (s1.emit .debugDenied none (mpuMaster 11) (loWord a) (if write then 2 else 1) ((s.life.session.map (·.scope)).getD 0)).shiftOut
    (dmaccResult 1 [])

/-- DMACC: one access of the debug master of 1, 2, 4 or 8 bytes, aligned to its size (R408, R410). -/
def execDmacc (write : Bool) (addr : BitVec 64) (size : Fin 4) (data : BitVec 64) (s : State) : Host.Outcome State Fault Refusal :=
  let a := addr.toNat
  let n := 2 ^ size.val
  if internalMapped a = false then .next (s.debugDenied write a .unmapped)
  else if s.debugReach write a = false ∨ a % n ≠ 0 ∨ (write = false ∧ s.debugQuarantined a n) then
    .next (s.debugDenied write a .noRegion)
  else if write then
    .next (match s.busWrite true a (natToLe n data.toNat) with
      | none => s.debugDenied write a .unmapped
      | some t => t.shiftOut (dmaccResult 0 []))
  else
    .next (match s.busRead a n with
      | none => s.debugDenied write a .unmapped
      | some (b, t) => t.shiftOut (dmaccResult 0 b))

end Sys2Proof.Machine
end

