-- ==== Sys2Proof/Machine/HostAccess.lean ====
section
/-! DEFINITION. Register accesses from outside: the host's reads and writes of a port's device window (R19 to R25, R44, R221, R321, R329,
R393), and the supervisors' writes of the register windows (R4). -/

namespace Sys2Proof.Machine

/-- A place in the device window (R19, R20, R221, R393): a register by its block and index. -/
inductive WinReg where
  | bootStat | bootAddr | bootLen | bootGo
  | mbReq (k : Nat) | mbRsp (k : Nat) | mbLen (k : Nat) | mbCtl (k : Nat)
  | sqDb (t q : Nat) | sqStat (t q : Nat) | sqCfg (t q : Nat) | sqCtl (t q : Nat)
  | cqDb (t q : Nat) | cqStat (t q : Nat) | cqCfg (t q : Nat)
  | ivAddr (t v : Nat) | ivCtrl (t v : Nat)
  /-- reserved -/
  | reserved
deriving DecidableEq, Repr

/-- The register of a tenant page at an offset that is a multiple of 8 (R20). -/
def pageReg (t off : Nat) : WinReg :=
  if off < 0x400 then (if off % 0x40 = 0 then .sqDb t (off / 0x40) else if off % 0x40 = 8 then .sqStat t (off / 0x40) else .reserved)
  else if off < 0x800 then
    (if off % 0x40 = 0 then .cqDb t ((off - 0x400) / 0x40) else if off % 0x40 = 8 then .cqStat t ((off - 0x400) / 0x40) else .reserved)
  else if off < 0xA00 then
    (if off % 0x20 = 0 then .sqCfg t ((off - 0x800) / 0x20) else if off % 0x20 = 8 then .sqCtl t ((off - 0x800) / 0x20) else .reserved)
  else if off < 0xC00 then (if off % 0x20 = 0 then .cqCfg t ((off - 0xA00) / 0x20) else .reserved)
  else if off < 0x1000 then .reserved
  else if off < 0x1200 then
    (if off % 0x20 = 0 then .ivAddr t ((off - 0x1000) / 0x20) else if off % 0x20 = 8 then .ivCtrl t ((off - 0x1000) / 0x20) else .reserved)
  else .reserved

/-- The register of the device window at an offset that is a multiple of 8 (R19, R221, R393). -/
def winReg (off : Nat) : WinReg :=
  if off < 0x1000 then
    (match off with | 0x00 => .bootStat | 0x08 => .bootAddr | 0x10 => .bootLen | 0x18 => .bootGo | _ => .reserved)
  else if off < 0x1820 then
    let k := (off - 0x1000) / 0x20
    (match off % 0x20 with | 0x00 => .mbReq k | 0x08 => .mbRsp k | 0x10 => .mbLen k | _ => .mbCtl k)
  else if 0x1000000 ≤ off ∧ off < 0x1400000 then pageReg ((off - 0x1000000) / 0x10000) (off % 0x10000)
  else .reserved

/-- Whether a register belongs to the boot mailbox. -/
def WinReg.boot : WinReg → Bool
  | .bootStat => true | .bootAddr => true | .bootLen => true | .bootGo => true | _ => false

/-- Whether a register has 32 bits: the high four bytes of an 8-byte access read zero and are not written (R321). -/
def WinReg.half : WinReg → Bool
  | .bootStat => true | .bootLen => true | .bootGo => true
  | .sqDb _ _ => true | .sqStat _ _ => true | .cqDb _ _ => true | .cqStat _ _ => true | _ => false

/-- Whether a port answers an access of a register: before the firmware opens the window only the boot mailbox, where the ROM serves it
or the firmware has been launched (R329, R393). -/
def State.winAnswers (s : State) (n : Nat) (r : WinReg) : Bool :=
  s.winOpen || (r.boot && (bitAt s.sys.served n || decide (s.sys.phase = .launched)))

/-- A submission ring as its page shows it: a closed page at the reset values (R21). -/
def State.sqSeen (s : State) (t q : Nat) : Sq := if s.pageOpen t then s.sq t q else Sq.reset
/-- A completion ring as its page shows it. -/
def State.cqSeen (s : State) (t q : Nat) : Cq := if s.pageOpen t then s.cq t q else Cq.reset
/-- A vector as its page shows it. -/
def State.ivSeen (s : State) (t v : Nat) : Iv := if s.pageOpen t then s.iv t v else Iv.reset

/-- DW_SQ_CFG as it reads. -/
def Sq.cfg (r : Sq) : Nat := r.base * 4096 + r.cq * 32 + b2n r.d2 * 16 + r.log2
/-- DW_SQ_CTL as it reads. -/
def Sq.ctl (r : Sq) : Nat := r.altPort * 32 + b2n r.altValid * 16 + r.port * 4 + b2n r.resetting * 2 + b2n r.enable
/-- DW_SQ_STAT as it reads. -/
def Sq.stat (r : Sq) : Nat :=
  b2n r.openMsg.isSome * 2 ^ 20 + b2n r.onAlt * 2 ^ 19 + b2n r.error * 2 ^ 18 + b2n r.held * 2 ^ 17 + b2n r.running * 65536 + r.head
/-- DW_CQ_CFG as it reads. -/
def Cq.cfg (r : Cq) : Nat := r.base * 4096 + b2n r.enable * 256 + r.vector * 16 + r.log2
/-- DW_CQ_STAT as it reads. -/
def Cq.stat (r : Cq) : Nat := b2n (diff16 r.tail r.head == ringSize r.log2) * 2 ^ 17 + b2n r.phase * 65536 + r.tail
/-- DW_IV_CTRL as it reads. -/
def Iv.ctrl (r : Iv) : Nat :=
  r.timer * 2 ^ 44 + r.count * 2 ^ 36 + b2n r.pending * 2 ^ 35 + b2n r.mask * 2 ^ 34 + b2n r.enable * 2 ^ 33 + r.data
/-- DW_MB_CTL as it reads. -/
def MbSlot.ctl (b : MbSlot) : Nat := b.result * 65536 + b.vector * 32 + b2n b.irq * 16 + b2n b.done * 4 + b2n b.busy * 2

/-- A register of the device window as it reads, 64 bits. -/
def State.winRead (s : State) (r : WinReg) : Nat :=
  match r with
  | .bootStat => if s.dead then 0 else s.sys.result * 256 + s.sys.phase.val
  | .bootAddr => s.sys.addr * 4096
  | .bootLen => s.sys.len
  | .bootGo => 0
  | .mbReq k => (s.slot k).req * 8
  | .mbRsp k => (s.slot k).rsp * 8
  | .mbLen k => (s.slot k).rspMax * 2 ^ 32 + (s.slot k).reqLen
  | .mbCtl k => (s.slot k).ctl
  | .sqDb _ _ => 0
  | .sqStat t q => (s.sqSeen t q).stat
  | .sqCfg t q => (s.sqSeen t q).cfg
  | .sqCtl t q => (s.sqSeen t q).ctl
  | .cqDb _ _ => 0
  | .cqStat t q => (s.cqSeen t q).stat
  | .cqCfg t q => (s.cqSeen t q).cfg
  | .ivAddr t v => (s.ivSeen t v).addr * 4
  | .ivCtrl t v => (s.ivSeen t v).ctrl
  | .reserved => 0

/-- A size and alignment that the device window accepts, inside its 64 MiB (R321). -/
def winAccess (a n : Nat) : Bool := (n == 4 || n == 8) && a % n == 0 && decide (a + n ≤ 0x4000000)

/-- The bytes that a read of the device window answers (R19, R321, R329). -/
def State.winBytes (s : State) (port a n : Nat) : Bytes :=
  let r := winReg (a - a % 8)
  if s.winAnswers port r then natToLe n (s.winRead r / 2 ^ (8 * (a % 8))) else zeros n

/-- An answer to a host read queued before new device requests (R318). -/
def State.answerRead (s : State) (n tag cst : Nat) (data : Bytes) : State :=
  let (k, s1) := s.mkPkt .cpl false 0 data.length data .none none
  (s1.modPort n (fun p => { p with answers := p.answers ++ [{ k with tag := tag, cst := cst, last := true }] })).pump n

/-- MRD_RECEIVED: a host read of the device window is answered with its bytes, or with UR and HOST_ACCESS_INVALID (R321). -/
def execMrdReceived (port : Fin 4) (addr : BitVec 64) (len : BitVec 10) (tag : BitVec 8) (s : State) : Host.Outcome State Fault Refusal :=
  let a := addr.toNat
  let n := len.toNat
  if (s.port port).accepts = false ∨ n = 0 ∨ 512 < n then .next s
  else
    let s1 := s.accept port
    .next (if winAccess a n then s1.answerRead port tag.toNat 0 (s1.winBytes port a n)
      else (s1.badHost port 1 a n).answerRead port tag.toNat 1 [])

/-- LOG2SIZE as it is stored: 4 for a value outside 4 to 12 (DW_SQ_CFG, DW_CQ_CFG). -/
def log2Stored (v : Nat) : Nat := if 4 ≤ v ∧ v ≤ 12 then v else 4

/-- A write of DW_CQ_CFG (R25, R420): BASE, VECTOR and LOG2SIZE are ignored while ENABLE is 1; ENABLE is refused where no region covers
the ring area for writes. -/
def State.cqCfgWrite (s : State) (t q rw : Nat) : State :=
  let c := s.cq t q
  let c1 := if c.enable then c else { c with base := rw / 4096 % 2 ^ 52, vector := bitsAt rw 4 4, log2 := log2Stored (rw % 16) }
  let on := bitAt rw 8
  if on = false ∨ c.enable then s.modCq t q (fun _ => { c1 with enable := on })
  else if s.areaCovered c1.port (if c1.altValid then some c1.altPort else none) t (c1.base * 4096) (ringSize c1.log2 * 32) true then
    s.modCq t q (fun _ => { c1 with enable := true })
  else (s.modCq t q (fun _ => c1)).emit .ringAreaRefused none (srcPort c1.port) t (joined q 2) c1.port

/-- GO of a mailbox slot (R221, R224): S0 reads the request through the port of the write. A length outside 16 to 65,536 ends it with
BAD_FORMAT and no response (log entry 51); a buffer that the port's MPU refuses leaves it without its bytes. -/
def State.mailGo (s : State) (n k : Nat) : State :=
  let b := s.slot k
  if b.busy then s
  else
    let s1 := s.modSlot k (fun b => { b with busy := true, port := n, reads := 0, failed := false, bytes := zeros b.reqLen, held := false, mark := none })
    if b.reqLen < 16 ∨ 65536 < b.reqLen ∨ b.rspMax < 16 ∨ 65536 < b.rspMax then s1.mailEnd k .badFormat 0
    else
      let a := b.req * 8
      match s1.mpuFirst (4 + n) .host (mailAccess .read) a b.reqLen with
      | some f => (s1.mpuReport (4 + n) (mailAccess .read) f).modSlot k (fun b => { b with failed := true })
      | none =>
        let l := splitRange 512 (b.reqLen + 1) a b.reqLen
        l.foldl (fun s r => s.hostRead n .s0 r.1 r.2 .s0 (.mailbox k (r.1 - a))) (s1.modSlot k (fun b => { b with reads := l.length }))

/-- A write of a mailbox slot's register: REQ, RSP and LEN are ignored while BUSY is 1 (R221). -/
def State.mailWrite (s : State) (n : Nat) (r : WinReg) (rw act : Nat) : State :=
  match r with
  | .mbReq k => if (s.slot k).busy then s else s.modSlot k (fun b => { b with req := rw / 8 })
  | .mbRsp k => if (s.slot k).busy then s else s.modSlot k (fun b => { b with rsp := rw / 8 })
  | .mbLen k => if (s.slot k).busy then s else s.modSlot k (fun b => { b with rspMax := bitsAt rw 32 17, reqLen := bitsAt rw 0 17 })
  | .mbCtl k =>
    let s1 := s.modSlot k (fun b => { b with vector := bitsAt rw 5 4, irq := bitAt rw 4, done := b.done && !bitAt act 2 })
    if bitAt act 0 then s1.mailGo n k else s1
  | _ => s

/-- A write of a ring's or vector's register on an open page, doorbells aside (R20 to R25, R44). -/
def State.pageWrite (s : State) (r : WinReg) (rw act : Nat) : State :=
  match r with
  | .sqCfg t q =>
    if (s.sq t q).enable then s
    else s.modSq t q (fun x => { x with base := rw / 4096 % 2 ^ 52, cq := bitsAt rw 5 4, d2 := bitAt rw 4, log2 := log2Stored (rw % 16) })
  | .sqCtl t q =>
    let s1 := s.onBit act 1 (execSqRingReset (Fin.ofNat 64 t) (Fin.ofNat 16 q))
    if bitAt rw 0 = (s1.sq t q).enable then s1 else nextOr s1 (execSqEnable (Fin.ofNat 64 t) (Fin.ofNat 16 q) (bitAt rw 0) s1)
  | .cqCfg t q => (s.cqCfgWrite t q rw).onBit act 9 (execCqRingReset (Fin.ofNat 64 t) (Fin.ofNat 16 q))
  | .ivAddr t v => s.modIv t v (fun i => { i with addr := rw / 4 })
  | .ivCtrl t v =>
    nextOr s (execIvCtrlWrite (Fin.ofNat 64 t) (Fin.ofNat 16 v) (BitVec.ofNat 64 (setBits rw 35 1 (bitsAt act 35 1))) s)
  | _ => s

/-- The tenant whose page a register lies on. -/
def WinReg.tenant? : WinReg → Option Nat
  | .sqDb t _ => some t | .sqStat t _ => some t | .sqCfg t _ => some t | .sqCtl t _ => some t
  | .cqDb t _ => some t | .cqStat t _ => some t | .cqCfg t _ => some t
  | .ivAddr t _ => some t | .ivCtrl t _ => some t | _ => none

/-- A host write of the device window that its port has accepted: a register written, or the write dropped (R19, R21, R321, R329).
A 4-byte write leaves the other half's RW fields, and acts as zero on its other fields. -/
def State.winWrite (s : State) (n a : Nat) (data : Bytes) : State :=
  let off := a % 8
  let r := winReg (a - off)
  if s.winAnswers n r = false ∨ (r.half ∧ off ≠ 0) then s
  else
    let k := if r.half then min 4 data.length else data.length
    let v := leToNat (data.take k)
    let rw := setBits (s.winRead r % 2 ^ 64) (8 * off) (8 * k) v
    let act := v * 2 ^ (8 * off)
    match r with
    | .bootAddr => s.modSys (fun y => { y with addr := rw / 4096 })
    | .bootLen => s.modSys (fun y => { y with len := bitsAt rw 0 21 })
    | r =>
      match r.tenant? with
      | some t => if s.pageOpen t then s.pageWrite r rw act else s
      | none => s.mailWrite n r rw act

/-- A host write that is a command of its own, with that command: a doorbell, or DW_BOOT_GO with GO set. -/
def State.winCommand (s : State) (n : Fin 4) (a : Nat) (data : Bytes) : Option (Host.Outcome State Fault Refusal) :=
  if s.winAnswers n (winReg a) = false then none
  else
    match winReg a with
    | .sqDb t q => some (execSqDoorbell n (Fin.ofNat 64 t) (Fin.ofNat 16 q) (BitVec.ofNat 16 (leToNat data)) s)
    | .cqDb t q => some (execCqDoorbell n (Fin.ofNat 64 t) (Fin.ofNat 16 q) (BitVec.ofNat 16 (leToNat data)) s)
    | .bootGo => if bitAt (leToNat data) 0 then some (execBootGo n s) else none
    | _ => none

/-- A host write packet at a port (R321). -/
def State.hostRegWrite (s : State) (n : Fin 4) (a : Nat) (data : Bytes) : State :=
  if (s.port n).accepts = false ∨ data.length = 0 ∨ 256 < data.length then s
  else if winAccess a data.length = false then (s.accept n).badHost n 2 a data.length
  else
    match s.winCommand n a data with
    | some o => nextOr s o
    | none => (s.accept n).winWrite n a data

/-- A supervisor's store of 1, 2, 4 or 8 bytes, aligned to their number, checked by its MPU (R14, R17, R415). A refusal, an unmapped address
and an unused offset of a register window drop the store and are reported; the bus error is the firmware's (R421). What S1 writes of a
tenant's table registers goes into its shadow of them (R235). -/
def State.superWrite (s : State) (m a : Nat) (data : Bytes) : State :=
  if [1, 2, 4, 8].contains data.length = false ∨ a % data.length ≠ 0 then s
  else
    let x : MpuAccess := ⟨.s, none, .write⟩
    match s.mpuFirst m .supervisor x a data.length with
    | some f => s.mpuReport m x f
    | none =>
      match s.busWrite false a data with
      | none => s.mpuReport m x ⟨a, .unmapped, 0xFF⟩
      | some t => if 2 ≤ m ∧ 0x50081000 ≤ a ∧ a < 0x50081A00 then t.noteHandles (if a < 0x50081800 then (a - 0x50081000) / 0x10
          else (a - 0x50081800) / 8) else t

/-- REGISTER_WRITE: a write of a register, whose fields are set as their access codes state (R4, R5). `who`: 0 to 3 the supervisors S0A,
S0B, S1A, S1B at an address of R14; 4 to 7 the host through port who − 4 at an offset of the device window. A register with a command
of its own acts as that command. -/
def execRegisterWrite (who : Fin 8) (addr : BitVec 64) (data : Bytes) (s : State) : Host.Outcome State Fault Refusal :=
  .next (if who.val < 4 then s.superWrite who addr.toNat data else s.hostRegWrite (Fin.ofNat 4 who) addr.toNat data)

end Sys2Proof.Machine
end

