-- ==== Sys2Proof/Machine/Integer.lean ====
section
/-! DEFINITION. Integer and payment-digit instructions (R85 to R89). -/

namespace Sys2Proof.Machine

/-- ADD: gd ← ga + gb (R85). -/
def execAdd (core : Fin 192) (gd ga gb : Fin 32) (s : State) : Host.Outcome State Fault Refusal :=
  .next (s.opChecked core gd (fun s => s.getG core ga + s.getG core gb))
/-- SUB: gd ← ga − gb (R85). -/
def execSub (core : Fin 192) (gd ga gb : Fin 32) (s : State) : Host.Outcome State Fault Refusal :=
  .next (s.opChecked core gd (fun s => s.getG core ga - s.getG core gb))
/-- AND (R85). -/
def execAnd (core : Fin 192) (gd ga gb : Fin 32) (s : State) : Host.Outcome State Fault Refusal :=
  .next (s.op3 core gd ga gb (fun a b => a &&& b))
/-- OR (R85). -/
def execOr (core : Fin 192) (gd ga gb : Fin 32) (s : State) : Host.Outcome State Fault Refusal :=
  .next (s.op3 core gd ga gb (fun a b => a ||| b))
/-- XOR (R85). -/
def execXor (core : Fin 192) (gd ga gb : Fin 32) (s : State) : Host.Outcome State Fault Refusal :=
  .next (s.op3 core gd ga gb (fun a b => a ^^^ b))
/-- SHL: shift amount gb[5:0] (R85). -/
def execShl (core : Fin 192) (gd ga gb : Fin 32) (s : State) : Host.Outcome State Fault Refusal :=
  .next (s.op3 core gd ga gb (fun a b => a <<< shiftAmount b))
/-- SHR: zero fill (R85). -/
def execShr (core : Fin 192) (gd ga gb : Fin 32) (s : State) : Host.Outcome State Fault Refusal :=
  .next (s.op3 core gd ga gb (fun a b => a >>> shiftAmount b))
/-- SAR: sign fill (R85). -/
def execSar (core : Fin 192) (gd ga gb : Fin 32) (s : State) : Host.Outcome State Fault Refusal :=
  .next (s.op3 core gd ga gb (fun a b => a.sshiftRight (shiftAmount b)))
/-- MUL: low 64 bits of the product (R85). -/
def execMul (core : Fin 192) (gd ga gb : Fin 32) (s : State) : Host.Outcome State Fault Refusal :=
  .next (s.opChecked core gd (fun s => s.getG core ga * s.getG core gb))
/-- MULH: high 64 bits of the unsigned product (R85). -/
def execMulh (core : Fin 192) (gd ga gb : Fin 32) (s : State) : Host.Outcome State Fault Refusal :=
  .next (s.opChecked core gd (fun s => mulHigh (s.getG core ga) (s.getG core gb)))
/-- DIV: unsigned quotient; all ones for gb = 0 (R85, R86). -/
def execDiv (core : Fin 192) (gd ga gb : Fin 32) (s : State) : Host.Outcome State Fault Refusal :=
  .next (s.opChecked core gd (fun s => divOrOnes (s.getG core ga) (s.getG core gb)))
/-- REM: unsigned remainder; all ones for gb = 0 (R85, R86). -/
def execRem (core : Fin 192) (gd ga gb : Fin 32) (s : State) : Host.Outcome State Fault Refusal :=
  .next (s.opChecked core gd (fun s => remOrOnes (s.getG core ga) (s.getG core gb)))
/-- CMP: signed comparison (R85). -/
def execCmp (core : Fin 192) (gd ga gb : Fin 32) (s : State) : Host.Outcome State Fault Refusal :=
  .next (s.op3 core gd ga gb compareSigned)
/-- DIGX: digit (gb mod 16) of ga (R85, R87). -/
def execDigx (core : Fin 192) (gd ga gb : Fin 32) (s : State) : Host.Outcome State Fault Refusal :=
  .next (s.op3 core gd ga gb (fun a b => BitVec.ofNat 64 (digitOf a (b.toNat % 16))))
/-- DIGI: gd with digit (ga mod 16) replaced by gb[3:0]; gd is also a source (R85, R87). -/
def execDigi (core : Fin 192) (gd ga gb : Fin 32) (s : State) : Host.Outcome State Fault Refusal :=
  .next (s.issue core (fun s =>
    s.ret core gd (setDigit (s.getG core gd) ((s.getG core ga).toNat % 16) ((s.getG core gb).toNat % 16))))
/-- LUHN: the check digit of n digits, all ones where a payload nibble exceeds 9; n of 0 or above 18 takes ILLEGAL
(R88). -/
def execLuhn (core : Fin 192) (gd ga gb n : Fin 32) (s : State) : Host.Outcome State Fault Refusal :=
  .next (s.issue core (fun s =>
    if n.val = 0 ∨ 18 < n.val then s.exc core .illegal
    else s.ret core gd (luhn (s.getG core ga) (s.getG core gb) n)))

/-- ADDI: sign-extended immediate (R89). -/
def execAddi (core : Fin 192) (gd ga : Fin 32) (imm : BitVec 16) (s : State) : Host.Outcome State Fault Refusal :=
  .next (s.opChecked core gd (fun s => s.getG core ga + imm.signExtend 64))
/-- ANDI: zero-extended immediate (R89). -/
def execAndi (core : Fin 192) (gd ga : Fin 32) (imm : BitVec 16) (s : State) : Host.Outcome State Fault Refusal :=
  .next (s.opImm core gd ga (fun a => a &&& imm.zeroExtend 64))
/-- ORI: zero-extended immediate (R89). -/
def execOri (core : Fin 192) (gd ga : Fin 32) (imm : BitVec 16) (s : State) : Host.Outcome State Fault Refusal :=
  .next (s.opImm core gd ga (fun a => a ||| imm.zeroExtend 64))
/-- XORI: zero-extended immediate (R89). -/
def execXori (core : Fin 192) (gd ga : Fin 32) (imm : BitVec 16) (s : State) : Host.Outcome State Fault Refusal :=
  .next (s.opImm core gd ga (fun a => a ^^^ imm.zeroExtend 64))
/-- LUI: the sign-extended immediate shifted left by 16 (R89). -/
def execLui (core : Fin 192) (gd : Fin 32) (imm : BitVec 16) (s : State) : Host.Outcome State Fault Refusal :=
  .next (s.opImm core gd 0 (fun _ => imm.signExtend 64 <<< 16))

/-- LD.B (R90). -/
def execLdB (core : Fin 192) (gd ga : Fin 32) (imm : BitVec 16) (s : State) : Host.Outcome State Fault Refusal :=
  .next (s.issue core (fun s => s.loadFrom core gd ga imm 1))
/-- LD.H (R90). -/
def execLdH (core : Fin 192) (gd ga : Fin 32) (imm : BitVec 16) (s : State) : Host.Outcome State Fault Refusal :=
  .next (s.issue core (fun s => s.loadFrom core gd ga imm 2))
/-- LD.W (R90). -/
def execLdW (core : Fin 192) (gd ga : Fin 32) (imm : BitVec 16) (s : State) : Host.Outcome State Fault Refusal :=
  .next (s.issue core (fun s => s.loadFrom core gd ga imm 4))
/-- LD.D (R90). -/
def execLdD (core : Fin 192) (gd ga : Fin 32) (imm : BitVec 16) (s : State) : Host.Outcome State Fault Refusal :=
  .next (s.issue core (fun s => s.loadFrom core gd ga imm 8))
/-- ST.B (R90). -/
def execStB (core : Fin 192) (gd ga : Fin 32) (imm : BitVec 16) (s : State) : Host.Outcome State Fault Refusal :=
  .next (s.issue core (fun s => s.storeTo core gd ga imm 1))
/-- ST.H (R90). -/
def execStH (core : Fin 192) (gd ga : Fin 32) (imm : BitVec 16) (s : State) : Host.Outcome State Fault Refusal :=
  .next (s.issue core (fun s => s.storeTo core gd ga imm 2))
/-- ST.W (R90). -/
def execStW (core : Fin 192) (gd ga : Fin 32) (imm : BitVec 16) (s : State) : Host.Outcome State Fault Refusal :=
  .next (s.issue core (fun s => s.storeTo core gd ga imm 4))
/-- ST.D (R90). -/
def execStD (core : Fin 192) (gd ga : Fin 32) (imm : BitVec 16) (s : State) : Host.Outcome State Fault Refusal :=
  .next (s.issue core (fun s => s.storeTo core gd ga imm 8))

end Sys2Proof.Machine
end

