-- ==== Sys2Proof/Machine/Keys.lean ====
section
/-! DEFINITION. Key instructions, majors 0x38 to 0x3B (R128 to R136). -/

namespace Sys2Proof.Machine

/-- KLOAD: kd ← the key resolved for the slot in g(r), with the checks of binding; KEY_EMPTY where the slot holds no valid
handle, KEY_USAGE where a check fails (R128, R136). -/
def execKload (core : Fin 192) (kd : Fin 16) (gr : Fin 32) (mismatch : Bool) (s : State) : Host.Outcome State Fault Refusal :=
  s.kWait core [kd.val] (
  .next (s.secret core mismatch (.ofK kd) (fun s =>
    let slot := (s.getG core gr).toNat
    match (s.coreEntry core).bind (fun e => if slot ≤ 3 then e.slotKey slot else none) with
    | none => s.failS core (.ofK kd) .keyEmpty
    | some k =>
      if (s.bindCheck (s.usageRows core) slot k).isSome then s.failS core (.ofK kd) .keyUsage
      else (s.setK core kd (some k)).nextPc core)))

/-- KZERO: kd ← empty (R128). -/
def execKzero (core : Fin 192) (kd : Fin 16) (mismatch : Bool) (s : State) : Host.Outcome State Fault Refusal :=
  s.kWait core [kd.val] (
  .next (s.secret core mismatch (.ofK kd) (fun s => (s.setK core kd none).nextPc core)))

/-- KZERO.ALL: k0 to k15 ← empty (R128). -/
def execKzeroAll (core : Fin 192) (mismatch : Bool) (s : State) : Host.Outcome State Fault Refusal :=
  .next (s.secret core mismatch .allKs (fun s => (s.modCore core (fun c => { c with k := [] })).nextPc core))

/-- A KATTR instruction: a word of ka, all zeros for an empty register (R119, R128). A key of another tenant takes
KEY_USAGE (R135). -/
def State.kattr (s : State) (n ka gr : Nat) (mismatch : Bool) (f : KeyVal → Nat) : State :=
  s.secret n mismatch .none (fun s =>
    match s.kreg n ka with
    | none => s.ret n gr 0#64
    | some k => if k.tenant ≠ s.runTenant n then s.exc n .keyUsage else s.ret n gr (BitVec.ofNat 64 (f k)))

/-- KATTR.A (R128). -/
def execKattrA (core : Fin 192) (ka : Fin 16) (gr : Fin 32) (mismatch : Bool) (s : State) : Host.Outcome State Fault Refusal :=
  s.kWait core [ka.val] (
  .next (s.kattr core ka gr mismatch KeyVal.wordA))

/-- KATTR.B (R128). -/
def execKattrB (core : Fin 192) (ka : Fin 16) (gr : Fin 32) (mismatch : Bool) (s : State) : Host.Outcome State Fault Refusal :=
  s.kWait core [ka.val] (
  .next (s.kattr core ka gr mismatch KeyVal.wordB))

/-- KATTR.NB (R128). -/
def execKattrNb (core : Fin 192) (ka : Fin 16) (gr : Fin 32) (mismatch : Bool) (s : State) : Host.Outcome State Fault Refusal :=
  s.kWait core [ka.val] (
  .next (s.kattr core ka gr mismatch (fun k => k.nb.getD 0)))

/-- KATTR.NA (R128). -/
def execKattrNa (core : Fin 192) (ka : Fin 16) (gr : Fin 32) (mismatch : Bool) (s : State) : Host.Outcome State Fault Refusal :=
  s.kWait core [ka.val] (
  .next (s.kattr core ka gr mismatch (fun k => k.na.getD 0)))

/-- KCHK: g(r) ← the key check value, first byte in [7:0] (R128, R129). -/
def execKchk (core : Fin 192) (ka : Fin 16) (gr : Fin 32) (mismatch : Bool) (s : State) : Host.Outcome State Fault Refusal :=
  s.kWait core [ka.val] (
  .next (s.secret core mismatch .none (fun s =>
    match s.kreg core ka with
    | none => s.exc core .keyEmpty
    | some k =>
      if k.tenant ≠ s.runTenant core then s.exc core .keyUsage
      else s.ret core gr (BitVec.ofNat 64 (leToNat (keyCheck k.alg k.val))))))

/-- KUNWRAP: kd ← the key of the X9.143 block at g(r) of length g(r+1) under the KBPK ka (R128, R130). -/
def execKunwrap (core : Fin 192) (kd ka : Fin 16) (gr : Fin 32) (mismatch : Bool) (s : State) :
    Host.Outcome State Fault Refusal :=
  s.kWait core [kd.val, ka.val] (
  .next (s.secret core mismatch (.ofK kd) (fun s =>
    let d := Dest.ofK kd
    let p := s.gPair core gr
    if pairOk gr = false then s.failS core d .illegal
    else
      match s.useKey core ka [chars 'K' '0', chars 'K' '1'] (modeList ['D', 'B', 'N']) with
      | .inl x => s.failS core d x
      | .inr kb =>
        if kb.alg = 6 then s.failS core d .keyUsage
        else if s.operandOk core p.1 p.2 = false then s.failS core d .access
        else
          let r := s.loadBytes core p.1 p.2
          let s := r.2.clearDest core d
          match kbUnwrap kb.alg kb.val r.1 with
          | .inl o => s.outcome core gr d o
          | .inr b =>
            match letterAlg b.letter b.key.length with
            | none => s.outcome core gr d 3
            | some alg =>
              let v : KeyVal := ⟨b.key, alg, b.usage, b.mode, b.exportCh, b.kver, s.runTenant core, 0, none, none, 1, 0, 0⟩
              s.produce core kd v (fun s => s.ret core gr 0#64))))

/-- Whether KWRAP refuses a key under a KBPK: not exportable, or stronger than the KBPK (R130). -/
def exportRefused (k kb : KeyVal) : Bool :=
  k.exportCh == 'N'.toNat || k.exportCh == 'S'.toNat || decide (algStrength kb.alg < algStrength k.alg)

/-- KWRAP: the X9.143 block of the key ka under the KBPK kb to g(r), whose buffer holds g(r+1) bytes; g(r+1) ← the block's
length (R128, R130). -/
def execKwrap (core : Fin 192) (ka kb : Fin 16) (gr : Fin 32) (mismatch : Bool) (s : State) : Host.Outcome State Fault Refusal :=
  s.kWait core [ka.val, kb.val] (
  .next (s.secret core mismatch .none (fun s =>
    let p := s.gPair core gr
    if pairOk gr = false then s.exc core .illegal
    else
      match s.kreg core ka, s.useKey core kb [chars 'K' '0', chars 'K' '1'] (modeList ['E', 'B', 'N']) with
      | none, _ => s.exc core .keyEmpty
      | some _, .inl x => s.exc core x
      | some k, .inr b =>
        if k.tenant ≠ s.runTenant core ∨ b.alg = 6 ∨ exportRefused k b then s.exc core .keyUsage
        else
          let len := kbLen b.alg k.val.length
          let done (s : State) (o : Nat) : State :=
            ((s.setG core gr (BitVec.ofNat 64 o)).setG core (gr + 1) (BitVec.ofNat 64 len)).nextPc core
          if p.2 < len then done s 4
          else if s.operandOk core p.1 len = false then s.exc core .access
          else
            match s.coreDraw core (kbPadLen b.alg k.val.length) with
            | none => s
            | some (pad, s1) =>
              let blk := kbWrap b.alg b.val ⟨algLetter k.alg, k.usage, k.mode, k.kver, k.exportCh, k.val⟩ pad
              done (s1.storeLocal core p.1 blk) 0)))

/-- What KDERIVE has decided: an outcome code, or the key, its usage, mode and ALG, and the counter that g(r+1) gets. -/
structure Derived where
  /-- the key -/ key : Bytes
  /-- usage -/ usage : Nat
  /-- mode of use -/ mode : Nat
  /-- ALG -/ alg : Nat
  /-- counter for g(r+1) -/ counter : Option Nat
deriving DecidableEq, Repr

/-- A KDERIVE function (R131, R132): source usages and algorithms, operand length, and what it derives from the source,
the operand and the parameter word. The derived key takes the source key's KVER, which the rule does not name (DESIGN CHOICE, log entry
56). -/
def State.kderive (s : State) (n kd ka gr : Nat) (mismatch : Bool) (func : Nat) (usages : List Nat) (algs : List Nat)
    (len : Nat) (f : KeyVal → Bytes → Nat → Nat ⊕ Derived) : State :=
  s.secret n mismatch (.ofK kd) (fun s =>
    let d := Dest.ofK kd
    let p := s.gPair n gr
    if pairOk gr = false then s.failS n d .illegal
    else
      match s.useKey n ka usages (modeList ['X', 'N']) with
      | .inl x => s.failS n d x
      | .inr k =>
        if algs.contains k.alg = false then s.failS n d .keyUsage
        else if s.operandOk n p.1 len = false then s.failS n d .access
        else
          let r := s.loadBytes n p.1 len
          let s := r.2.clearDest n d
          match f k r.1 p.2 with
          | .inl o => s.outcome n gr d o
          | .inr v =>
            let nk : KeyVal := ⟨v.key, v.alg, v.usage, v.mode, 'N'.toNat, k.kver, s.runTenant n, 0, k.nb, k.na, 2, 0, func⟩
            s.produce n kd nk (fun s =>
              let s1 := s.setG n gr 0#64
              (match v.counter with | some c => s1.setG n (gr + 1) (BitVec.ofNat 64 c) | none => s1).nextPc n))

/-- Outcome 5 of a KSN counter: zero, or more one bits than its standard allows (R131). -/
def badCounter (c most : Nat) : Bool := decide (c = 0) || decide (most < popCount c)

/-- KDERIVE 0x001, DUKPT-TDES-IK (R131). -/
def execDukptTdesIk (core : Fin 192) (kd ka : Fin 16) (gr : Fin 32) (mismatch : Bool) (s : State) :
    Host.Outcome State Fault Refusal :=
  s.kWait core [kd.val, ka.val] (
  .next (s.kderive core kd ka gr mismatch 1 [chars 'B' '0'] [1] 10 (fun k ksn p =>
    if p ≠ 0 then .inl 6
    else if badCounter (dukptCounter ksn) 10 then .inl 5
    else .inr ⟨dukptIk k.val ksn, chars 'B' '1', 'X'.toNat, k.alg, some (dukptCounter ksn)⟩)))

/-- The usage and mode of a TDES DUKPT working key by its variant (R132). -/
def tdesVariant (v : Nat) : Nat × Nat :=
  match v with
  | 0 => (chars 'P' '0', 'D'.toNat)
  | 1 => (chars 'M' '3', 'V'.toNat)
  | 2 => (chars 'M' '3', 'G'.toNat)
  | 3 => (chars 'D' '0', 'D'.toNat)
  | _ => (chars 'D' '0', 'E'.toNat)

/-- KDERIVE 0x002, DUKPT-TDES-WORK, from a B0 or a B1 key (R131). -/
def execDukptTdesWork (core : Fin 192) (kd ka : Fin 16) (gr : Fin 32) (mismatch : Bool) (s : State) :
    Host.Outcome State Fault Refusal :=
  s.kWait core [kd.val, ka.val] (
  .next (s.kderive core kd ka gr mismatch 2 [chars 'B' '0', chars 'B' '1'] [1] 10 (fun k ksn p =>
    if 4 < p then .inl 6
    else if badCounter (dukptCounter ksn) 10 then .inl 5
    else
      let ik := if k.usage = chars 'B' '0' then dukptIk k.val ksn else k.val
      .inr ⟨dukptWork ik ksn p, (tdesVariant p).1, (tdesVariant p).2, 1, some (dukptCounter ksn)⟩)))

/-- KDERIVE 0x003, DUKPT-AES-IK (R131). -/
def execDukptAesIk (core : Fin 192) (kd ka : Fin 16) (gr : Fin 32) (mismatch : Bool) (s : State) :
    Host.Outcome State Fault Refusal :=
  s.kWait core [kd.val, ka.val] (
  .next (s.kderive core kd ka gr mismatch 3 [chars 'B' '0'] [3, 4, 5] 12 (fun k ksn p =>
    let c := beToNat (ksn.drop 8)
    if p ≠ 0 then .inl 6
    else if badCounter c 16 then .inl 5
    else .inr ⟨aesDukptIk k.alg k.val ksn, chars 'B' '1', 'X'.toNat, k.alg, some c⟩)))

/-- The usage and mode of an AES DUKPT working key by its key usage indicator (R132; the indicators of ANSI X9.24-3). -/
def aesIndicator (u : Nat) : Option (Nat × Nat) :=
  match u with
  | 0x1000 => some (chars 'P' '0', 'D'.toNat)
  | 0x2000 => some (chars 'M' '6', 'G'.toNat)
  | 0x2001 => some (chars 'M' '6', 'V'.toNat)
  | 0x2002 => some (chars 'M' '6', 'C'.toNat)
  | 0x3000 => some (chars 'D' '0', 'E'.toNat)
  | 0x3001 => some (chars 'D' '0', 'D'.toNat)
  | 0x3002 => some (chars 'D' '0', 'B'.toNat)
  | _ => none

/-- KDERIVE 0x004, DUKPT-AES-WORK, from a B0 or a B1 key (R131): the working keys of R7, AES-128, AES-192 and AES-256. -/
def execDukptAesWork (core : Fin 192) (kd ka : Fin 16) (gr : Fin 32) (mismatch : Bool) (s : State) :
    Host.Outcome State Fault Refusal :=
  s.kWait core [kd.val, ka.val] (
  .next (s.kderive core kd ka gr mismatch 4 [chars 'B' '0', chars 'B' '1'] [3, 4, 5] 12 (fun k ksn p =>
    let c := beToNat (ksn.drop 8)
    let ind := p / 65536
    match aesIndicator (p % 65536) with
    | none => .inl 6
    | some (u, m) =>
      if ind < 2 ∨ 4 < ind ∨ k.val.length < algLen (ind + 1) then .inl 6
      else if badCounter c 16 then .inl 5
      else
        let ik := if k.usage = chars 'B' '0' then aesDukptIk k.alg k.val ksn else k.val
        .inr ⟨aesDukptWork k.alg ik ksn (p % 65536) ind, u, m, ind + 1, some c⟩)))

/-- KDERIVE 0x008, EMV-ICC: a PAN operand, then one byte of PAN sequence number (R131). -/
def execEmvIcc (core : Fin 192) (kd ka : Fin 16) (gr : Fin 32) (mismatch : Bool) (s : State) : Host.Outcome State Fault Refusal :=
  s.kWait core [kd.val, ka.val] (
  .next (s.kderive core kd ka gr mismatch 8 emvUsages [1, 3, 4, 5] 12 (fun k d p =>
    let psn := byteAt d 11
    if p ≠ 0 then .inl 6
    else
      match panDigits (d.take 11) with
      | none => .inl 2
      | some pan =>
        if 9 < psn / 16 ∨ 9 < psn % 16 then .inl 2
        else .inr ⟨emvIcc k.alg k.val (emvY pan psn), k.usage, 'X'.toNat, k.alg, none⟩)))

/-- KDERIVE 0x009, EMV-SESSION: a 2-byte application transaction counter (R131). -/
def execEmvSession (core : Fin 192) (kd ka : Fin 16) (gr : Fin 32) (mismatch : Bool) (s : State) :
    Host.Outcome State Fault Refusal :=
  s.kWait core [kd.val, ka.val] (
  .next (s.kderive core kd ka gr mismatch 9 emvUsages [1, 3, 4, 5] 2 (fun k d p =>
    if p ≠ 0 then .inl 6 else .inr ⟨emvSession k.alg k.val d, k.usage, 'C'.toNat, k.alg, none⟩)))

/-- KGEN: kd ← a fresh random key with the attributes of g(r) (R127, R128). A reserved ALG or a non-zero TENANT or GEN takes
ILLEGAL. -/
def execKgen (core : Fin 192) (kd : Fin 16) (gr : Fin 32) (mismatch : Bool) (s : State) : Host.Outcome State Fault Refusal :=
  s.kWait core [kd.val] (
  .next (s.secret core mismatch (.ofK kd) (fun s =>
    let w := (s.getG core gr).toNat
    let alg := bitsAt w 0 8
    if alg = 0 ∨ 6 < alg ∨ bitsAt w 56 8 ≠ 0 then s.failS core (.ofK kd) .illegal
    else
      match s.coreDraw core (if alg = 6 then 32 else algLen alg) with
      | none => s
      | some (b, s1) =>
        let v : KeyVal := ⟨b, alg, bitsAt w 8 16, bitsAt w 24 8, bitsAt w 32 8, bitsAt w 40 16, s1.runTenant core, 0, none, none,
          3, 0, 0⟩
        s1.produce core kd v (fun s => s.nextPc core))))

end Sys2Proof.Machine
end

