-- ==== Sys2Proof/Machine/Km.lean ====
section
/-! DEFINITION. Key-management operations, OP 0x20 to 0x2D (R197 to R201). -/

namespace Sys2Proof.Machine

/-- A record as S0 finds it (R198): the 128 bytes, or the result that refuses the operation. A store that is not OPEN gives
STORE_STATE and a poisoned line BLOCK_INTEGRITY (log entry 35). -/
def State.kmRecord (s : State) (t h : Nat) : MbResult ⊕ Bytes :=
  match s.recordGet t h with
  | .good r =>
    if holdsRecord r ∧ bitAt (s.rd (Reg.TBL_KH_CFG_GENOCC t)) (recordGen r) then .inr r else .inl .notFound
  | .poisoned => .inl .blockIntegrity
  | _ => .inl .storeState

/-- A record opened under its master key (R196): the record and its clear key field. -/
def State.kmOpen (s : State) (t h : Nat) : MbResult ⊕ (Bytes × Bytes) :=
  match s.kmRecord t h with
  | .inl r => .inl r
  | .inr b =>
    match s.master t (recordGen b) with
    | none => .inl .notFound
    | some m => match recordFault t h m b with | .inl _ => .inl .blockIntegrity | .inr c => .inr (b, c)

/-- Whether a 4-byte handle field names a handle that a record may have (R198, R201, R234). -/
def State.kmHandle (s : State) (t : Nat) (b : Bytes) (off : Nat) : Bool :=
  decide (leAt b off 4 ≠ 0) && decide (leAt b off 4 < s.handleLimit t)

/-- A record written, the key cache told, and the operation answered under the mirroring mode (R197, R238). -/
def State.kmPut (s : State) (k t h : Nat) (rec body : Bytes) : State :=
  match s.recordPut t h rec with
  | (true, s1) => (s1.invalidateHandle t h).respondMirrored k t body
  | (false, s1) => s1.respond k (if s.store.st = .opened then .blockIntegrity else .storeState) []

/-- The clear key field: the key and its filler, zeros for kind V, random for B and D (R195); none while S0's instance gives
no bytes. -/
def State.keyField (s : State) (kind : Nat) (key : Bytes) : Option (Bytes × State) :=
  if kind = 0 ∨ 32 ≤ key.length then some (fitTo 32 key, s)
  else (s.drbgBytes 192 (32 - key.length)).map (fun r => (key ++ r.1, r.2))

/-- Not-before and not-after times refused (R198): supplied while time is untrusted, or not in order. -/
def State.badTimes (s : State) (nb na : Nat) : Bool :=
  ((decide (nb ≠ 0) || decide (na ≠ 0)) && !s.timeGood) || (decide (na ≠ 0) && decide (na ≤ nb))

/-- What a new record needs (R192, R198, R201), refused in the order of log entry 36: times, current generation, kind,
handle. The generation and its master key, or the result. -/
def State.kmTarget (s : State) (t h kind wordA nb na : Nat) (replace : Bool) : MbResult ⊕ (Nat × MasterKey) :=
  let w := wordAFields wordA
  if s.badTimes nb na then .inl .timeUntrusted
  else
    match s.currentGen t kind with
    | none => .inl .wrongState
    | some g =>
      match s.master t g with
      | none => .inl .wrongState
      | some m =>
        if kindFits kind w.1 w.2.1 = false then .inl .kindMismatch
        else
          match s.recordGet t h with
          | .good r => if holdsRecord r ∧ replace = false then .inl .handleInUse else .inr (g, m)
          | .poisoned => .inl .blockIntegrity
          | _ => .inl .storeState

/-- A new record made, written and answered with its check value (R198, R201). -/
def State.kmCreate (s0 s : State) (k t h kind wordA nb na : Nat) (gm : Nat × MasterKey) (key label : Bytes) : State :=
  match s.keyField kind key with
  | none => s0
  | some (field, s1) =>
    let kcv := fitTo 5 (keyCheck (wordA % 256) key)
    let head := recordHead t h kind gm.1 wordA key.length nb na kcv s.now label
    s1.kmPut k t h (recordSeal gm.2 head field) (kcv ++ natToLe 1 gm.1 ++ zeros 2)

/-- The lines of records that a request names at offsets of its body, to be read and, of the first where it is changed, written
(R235, R265). -/
def State.kmWants (s : State) (t : Nat) (write : Bool) (offs : List Nat) (b : Bytes) : List Want :=
  offs.zipIdx.map (fun o => ⟨s.recordLine t (leAt b o.1 4), true, write && decide (o.2 = 0), 0⟩)

/-- A key-management request that needs an authorised state (0 KEYMGMT, 1 EXPORT) and a format (R198, R201). It waits for the lines
of the records that it names at offsets of its body; the first is written where it is changed. -/
def State.kmServe (s : State) (k op : Nat) (auth : Option Nat) (good : Bytes → Bool) (write : Bool) (offs : List Nat)
    (f : Bytes → State → State) : State :=
  s.serveOp k op (fun b s =>
    if (match auth with | some i => !s.authorised k i | none => false) then s.respond k .notAuthorised []
    else if good b = false then s.respond k .badFormat []
    else
      let w := s.wantLines (s.kmWants k write offs b)
      if w.1 = false then w.2 else f b w.2)

/-- KM_GENERATE: a record with a random key under the current generation of its kind (R198, R201). -/
def execKmGenerate (slot : Fin 65) (s : State) : Host.Outcome State Fault Refusal :=
  let fmt (b : Bytes) : Bool :=
    let alg := byteAt b 8
    let n := byteAt b 16
    decide (b.length = 48) && s.kmHandle slot b 0 && decide (byteAt b 4 ≤ 1) && decide (byteAt b 5 ≤ 2) && allZero (slice b 6 2)
      && decide (byteAt b 15 = 0) && decide (1 ≤ alg ∧ alg ≤ 6) && allZero (slice b 17 7)
      && (if alg = 6 then decide (1 ≤ n ∧ n ≤ 32) else decide (n = algLen alg))
  .next (s.kmServe slot 0x20 (some 0) fmt true [0] (fun b s1 =>
    match s1.kmTarget slot (leAt b 0 4) (byteAt b 5) (leAt b 8 8) (leAt b 24 8) (leAt b 32 8) (byteAt b 4 == 1) with
    | .inl r => s1.respond slot r []
    | .inr gm =>
      match s1.drbgBytes 192 (byteAt b 16) with
      | none => s
      | some (key, s2) =>
        s.kmCreate s2 slot slot (leAt b 0 4) (byteAt b 5) (leAt b 8 8) (leAt b 24 8) (leAt b 32 8) gm key (slice b 40 8)))

/-- A KBPK record as a key of R130's rows: usage K0 or K1, a mode of the list, an algorithm that ciphers (R199). A record of
another use gives KIND_MISMATCH (log entry 36). -/
def State.kbpk (s : State) (t h : Nat) (modes : List Char) : MbResult ⊕ KeyVal :=
  match s.kmOpen t h with
  | .inl r => .inl r
  | .inr (b, c) =>
    let k := recordKey b c
    if (k.usage = chars 'K' '0' ∨ k.usage = chars 'K' '1') ∧ (modeList modes).contains k.mode ∧ k.alg ≠ 6 then .inr k
    else .inl .kindMismatch

/-- KM_IMPORT_BLOCK: a record from an X9.143 block (R199, R201). -/
def execKmImportBlock (slot : Fin 65) (s : State) : Host.Outcome State Fault Refusal :=
  let fmt (b : Bytes) : Bool :=
    let n := leAt b 12 4
    s.kmHandle slot b 0 && decide (byteAt b 4 ≤ 1) && decide (byteAt b 5 ≤ 2) && allZero (slice b 6 2) && s.kmHandle slot b 8
      && decide (16 ≤ n ∧ n ≤ 8192) && decide (b.length = 40 + n)
  .next (s.kmServe slot 0x21 (some 0) fmt true [0, 8] (fun b s1 =>
    match s1.kbpk slot (leAt b 8 4) ['D', 'B', 'N'] with
    | .inl r => s1.respond slot r []
    | .inr kb =>
      match kbUnwrap kb.alg kb.val (b.drop 40) with
      | .inl o => s1.respond slot (if o = 1 then .blockIntegrity else .blockFormat) []
      | .inr x =>
        match letterAlg x.letter x.key.length with
        | none => s1.respond slot .blockFormat []
        | some alg =>
          let w := alg + x.usage * 2 ^ 8 + x.mode * 2 ^ 24 + x.exportCh * 2 ^ 32 + x.kver * 2 ^ 40
          match s1.kmTarget slot (leAt b 0 4) (byteAt b 5) w (leAt b 16 8) (leAt b 24 8) (byteAt b 4 == 1) with
          | .inl r => s1.respond slot r []
          | .inr gm =>
            s.kmCreate s1 slot slot (leAt b 0 4) (byteAt b 5) w (leAt b 16 8) (leAt b 24 8) gm x.key (slice b 32 8)))

/-- KM_EXPORT_BLOCK: the X9.143 block of a record (R199, R201). -/
def execKmExportBlock (slot : Fin 65) (s : State) : Host.Outcome State Fault Refusal :=
  let fmt (b : Bytes) : Bool := decide (b.length = 8) && s.kmHandle slot b 0 && s.kmHandle slot b 4
  .next (s.kmServe slot 0x22 (some 1) fmt false [0, 4] (fun b s1 =>
    match s1.kmOpen slot (leAt b 0 4), s1.kbpk slot (leAt b 4 4) ['E', 'B', 'N'] with
    | .inl r, _ => s1.respond slot r []
    | _, .inl r => s1.respond slot r []
    | .inr (r, c), .inr kb =>
      let k := recordKey r c
      if exportRefused k kb then s1.respond slot .notExportable []
      else
        match s1.drbgBytes 192 (kbPadLen kb.alg k.val.length) with
        | none => s
        | some (pad, s2) =>
          let blk := kbWrap kb.alg kb.val ⟨algLetter k.alg, k.usage, k.mode, k.kver, k.exportCh, k.val⟩ pad
          (s2.keyEvent .keyExported slot (leAt b 0 4) (leAt b 4 4)).respond slot .ok (natToLe 4 blk.length ++ zeros 4 ++ blk)))

/-- An 8-byte body of a handle and four zero bytes. -/
def State.handleBody (s : State) (t : Nat) (b : Bytes) : Bool :=
  decide (b.length = 8) && s.kmHandle t b 0 && allZero (slice b 4 4)

/-- KM_DELETE: the record zeroised (R198). -/
def execKmDelete (slot : Fin 65) (s : State) : Host.Outcome State Fault Refusal :=
  .next (s.kmServe slot 0x23 (some 0) (s.handleBody slot) true [0] (fun b s1 =>
    match s1.kmRecord slot (leAt b 0 4) with
    | .inl r => s1.respond slot r []
    | .inr _ => s1.kmPut slot slot (leAt b 0 4) (zeros 128) []))

/-- KM_SET_WINDOW: not-before and not-after replaced (R198). -/
def execKmSetWindow (slot : Fin 65) (s : State) : Host.Outcome State Fault Refusal :=
  let fmt (b : Bytes) : Bool := decide (b.length = 24) && s.kmHandle slot b 0 && allZero (slice b 4 4)
  .next (s.kmServe slot 0x24 (some 0) fmt true [0] (fun b s1 =>
    if s1.badTimes (leAt b 8 8) (leAt b 16 8) then s1.respond slot .timeUntrusted []
    else
      match s1.kmOpen slot (leAt b 0 4) with
      | .inl r => s1.respond slot r []
      | .inr (r, c) =>
        match s1.master slot (recordGen r) with
        | none => s1.respond slot .notFound []
        | some m => s1.kmPut slot slot (leAt b 0 4) (recordSeal m (patch (r.take 64) 24 (slice b 8 16)) c) []))

/-- A record moved to another generation's slot: kind and generation of its head changed, its key field made anew (R198). -/
def State.moveRecord (s : State) (r clear : Bytes) (g : Nat) (m : MasterKey) : Option (Bytes × State) :=
  let w := leAt r 8 8 % 2 ^ 62 + g * 2 ^ 62
  let head := patch (patch (r.take 64) 2 (natToLe 1 (g + 4 * m.kind))) 8 (natToLe 8 w)
  (s.keyField m.kind (clear.take (byteAt r 16))).map (fun x => (recordSeal m head x.1, x.2))

/-- Whether a record's ALG and usage fit a kind. -/
def recordFits (r : Bytes) (kind : Nat) : Bool := kindFits kind (byteAt r 8) (leAt r 9 2)

/-- KM_REWRAP: one record moved to another generation (R198). -/
def execKmRewrap (slot : Fin 65) (s : State) : Host.Outcome State Fault Refusal :=
  let fmt (b : Bytes) : Bool :=
    decide (b.length = 8) && s.kmHandle slot b 0 && decide (byteAt b 4 ≤ 3) && allZero (slice b 5 3)
  .next (s.kmServe slot 0x25 (some 0) fmt true [0] (fun b s1 =>
    match s1.kmOpen slot (leAt b 0 4), s1.master slot (byteAt b 4) with
    | .inl r, _ => s1.respond slot r []
    | _, none => s1.respond slot .notFound []
    | .inr (r, c), some m =>
      if recordFits r m.kind = false then s1.respond slot .kindMismatch []
      else
        match s1.moveRecord r c (byteAt b 4) m with
        | none => s
        | some (nr, s2) => s2.kmPut slot slot (leAt b 0 4) nr []))

/-- KM_MIGRATE: every record of a generation starts to move to another (R198). -/
def execKmMigrate (slot : Fin 65) (s : State) : Host.Outcome State Fault Refusal :=
  let fmt (b : Bytes) : Bool :=
    decide (b.length = 8) && decide (byteAt b 0 ≤ 3) && decide (byteAt b 1 ≤ 3) && decide (byteAt b 0 ≠ byteAt b 1)
      && allZero (slice b 2 6)
  .next (s.kmServe slot 0x26 (some 0) fmt false [] (fun b s1 =>
    if (s1.master slot (byteAt b 0)).isNone ∨ (s1.master slot (byteAt b 1)).isNone then s1.respond slot .notFound []
    else if (s1.tenant slot).migrate.isSome then s1.respond slot .busy []
    else (s1.modTenant slot (fun x => { x with migrate := some ⟨byteAt b 0, byteAt b 1, 0, 0⟩ })).respond slot .ok []))

/-- One record of a migration moved, if it is one that the target's kind permits (R198). -/
def State.migrateOne (s : State) (t : Nat) (g : Migration) (h : Nat) : Nat × State :=
  match s.kmOpen t h, s.master t g.dst with
  | .inr (r, c), some m =>
    if recordGen r ≠ g.src ∨ recordFits r m.kind = false then (0, s)
    else
      match s.moveRecord r c g.dst m with
      | none => (0, s)
      | some (nr, s1) =>
        match s1.recordPut t h nr with
        | (true, s2) => (1, s2.invalidateHandle t h)
        | (false, _) => (0, s)
  | _, _ => (0, s)

/-- KM_MIGRATE_DONE: the background migration of a tenant moves its records and ends (R198). It waits for the lines, while the store is not
OPEN, while the journal is full and while S0's instance gives no bytes. -/
def execKmMigrateDone (t : Fin 64) (s : State) : Host.Outcome State Fault Refusal :=
  match (s.tenant t).migrate with
  | none => .next s
  | some g =>
    let base := s.rd (Reg.TBL_KH_BASE_BASE t)
    let lines := (s.store.tree.lines.map (·.1)).filter (fun i => decide (base ≤ i) && decide (2 * (i - base) < s.handleLimit t))
    let w := s.wantLines (lines.map (fun i => ⟨i, true, true, 0⟩))
    if s.store.st ≠ .opened ∨ s.journalFull ∨ (s.drbgBytes 192 32).isNone then .next s
    else if w.1 = false then .next w.2
    else
      let r := (lines.flatMap (fun i => [2 * (i - base), 2 * (i - base) + 1])).foldl (fun (a : Nat × State) h =>
        let m := a.2.migrateOne t g h
        (a.1 + m.1, m.2)) (g.moved, w.2)
      .next ((r.2.modTenant t (fun x => { x with migrate := none })).keyEvent .generationMigrated t (joined g.src g.dst) r.1)

/-- KM_READ_ATTR: bytes 0 to 63 of a record (R198). -/
def execKmReadAttr (slot : Fin 65) (s : State) : Host.Outcome State Fault Refusal :=
  .next (s.kmServe slot 0x27 none (s.handleBody slot) false [0] (fun b s1 =>
    match s1.kmRecord slot (leAt b 0 4) with
    | .inl r => s1.respond slot r []
    | .inr r => s1.respond slot .ok (r.take 64)))

/-- KM_BACKUP: the whole record (R198). -/
def execKmBackup (slot : Fin 65) (s : State) : Host.Outcome State Fault Refusal :=
  .next (s.kmServe slot 0x28 none (s.handleBody slot) false [0] (fun b s1 =>
    match s1.kmRecord slot (leAt b 0 4) with
    | .inl r => s1.respond slot r []
    | .inr r => s1.respond slot .ok r))

/-- KM_RESTORE: a backed-up record installed after the checks of R196 against its slot (R198, R201). -/
def execKmRestore (slot : Fin 65) (s : State) : Host.Outcome State Fault Refusal :=
  let fmt (b : Bytes) : Bool :=
    decide (b.length = 136) && s.kmHandle slot b 0 && decide (byteAt b 4 ≤ 1) && allZero (slice b 5 3)
      && decide (recordHandle (b.drop 8) = leAt b 0 4)
  .next (s.kmServe slot 0x29 (some 0) fmt true [0] (fun b s1 =>
    let h := leAt b 0 4
    let r := b.drop 8
    if recordTenant r ≠ slot.val then s1.respond slot .blockIntegrity []
    else if leAt r 0 2 ≠ 1 then s1.respond slot .blockFormat []
    else
      match s1.master slot (recordGen r) with
      | none => s1.respond slot .notFound []
      | some m =>
        match recordFault slot h m r, s1.recordGet slot h with
        | .inl _, _ => s1.respond slot .blockIntegrity []
        | .inr _, .good old =>
          if holdsRecord old ∧ byteAt b 4 = 0 then s1.respond slot .handleInUse [] else s1.kmPut slot slot h r []
        | .inr _, .poisoned => s1.respond slot .blockIntegrity []
        | .inr _, _ => s1.respond slot .storeState []))

/-- The tenant's current D generation and its master key (R192). -/
def State.currentD (s : State) (t : Nat) : Option (Nat × MasterKey) :=
  (s.currentGen t 2).bind (fun g => (s.master t g).map (fun m => (g, m)))

/-- An image answered under the current D generation, with a fresh nonce. -/
def State.respondImage (s : State) (k : Nat) (i : KeyImage) (gm : Nat × MasterKey) (s0 : State) : State :=
  match s.drbgBytes 192 12 with
  | none => s0
  | some (nonce, s1) => s1.respond k .ok (i.seal gm.2.key gm.1 nonce)

/-- KM_IMPORT_IMAGE: a MAU image from an X9.143 'D' block that holds a PKCS#8 key (R200, R201). -/
def execKmImportImage (slot : Fin 65) (s : State) : Host.Outcome State Fault Refusal :=
  let fmt (b : Bytes) : Bool :=
    let n := leAt b 4 4
    s.kmHandle slot b 0 && decide (16 ≤ n ∧ n ≤ 8192) && decide (b.length = 8 + n)
  .next (s.kmServe slot 0x2A (some 0) fmt false [0] (fun b s1 =>
    match s1.currentD slot, s1.kbpk slot (leAt b 0 4) ['D', 'B', 'N'] with
    | none, _ => s1.respond slot .wrongState []
    | _, .inl r => s1.respond slot r []
    | some gm, .inr kb =>
      if kb.alg < 3 then s1.respond slot .kindMismatch []
      else
        match kbUnwrap kb.alg kb.val (b.drop 8) with
        | .inl o => s1.respond slot (if o = 1 then .blockIntegrity else .blockFormat) []
        | .inr x =>
          match pkcs8Read x.key with
          | none => s1.respond slot .blockFormat []
          | some (alg, bits, body) =>
            if x.letter ≠ (if alg = 1 then 'R'.toNat else 'E'.toNat) ∨ keygenUse x.usage x.mode = false then
              s1.respond slot .blockFormat []
            else s1.respondImage slot ⟨alg, slot, x.exportCh, x.usage, x.mode, bits, body⟩ gm s))

/-- KM_EXPORT_IMAGE: the X9.143 'D' block of an image whose exportability is 'E' (R198, R200, R201). -/
def execKmExportImage (slot : Fin 65) (s : State) : Host.Outcome State Fault Refusal :=
  let fmt (b : Bytes) : Bool := s.kmHandle slot b 0 && decide (8 ≤ b.length) && decide (b.length = 8 + leAt b 4 4)
  .next (s.kmServe slot 0x2B (some 1) fmt false [0] (fun b s1 =>
    match s1.kbpk slot (leAt b 0 4) ['E', 'B', 'N'], s1.imageOpen slot (b.drop 8) with
    | .inl r, _ => s1.respond slot r []
    | .inr _, none => s1.respond slot .blockIntegrity []
    | .inr kb, some i =>
      if kb.alg < 3 then s1.respond slot .kindMismatch []
      else if i.exportCh ≠ 'E'.toNat ∨ 5 < i.alg then s1.respond slot .notExportable []
      else
        let key := pkcs8Write i.alg i.bits i.body
        match s1.drbgBytes 192 (kbPadLen kb.alg key.length) with
        | none => s
        | some (pad, s2) =>
          let letter := if i.alg = 1 then 'R'.toNat else 'E'.toNat
          let blk := kbWrap kb.alg kb.val ⟨letter, i.usage, i.mode, chars '0' '0', i.exportCh, key⟩ pad
          s2.respond slot .ok (natToLe 4 blk.length ++ zeros 4 ++ blk)))

/-- KM_REWRAP_IMAGE: the same image under the current D generation (R198, R201). -/
def execKmRewrapImage (slot : Fin 65) (s : State) : Host.Outcome State Fault Refusal :=
  let fmt (b : Bytes) : Bool := decide (8 ≤ b.length) && allZero (slice b 4 4) && decide (b.length = 8 + leAt b 0 4)
  .next (s.kmServe slot 0x2C (some 0) fmt false [] (fun b s1 =>
    match s1.currentD slot, s1.imageOpen slot (b.drop 8) with
    | none, _ => s1.respond slot .wrongState []
    | _, none => s1.respond slot .blockIntegrity []
    | some gm, some i => s1.respondImage slot i gm s))

/-- KM_DEVICE_PUBKEYS: the transport public keys in a signed statement (R201). It waits while the signer rebuilds its state;
a unit without level 1 keys, or with an exhausted key, gives WRONG_STATE (log entry 33). -/
def execKmDevicePubkeys (slot : Fin 65) (s : State) : Host.Outcome State Fault Refusal :=
  .next (s.kmServe slot 0x2D none (fun b => b.isEmpty) false [] (fun _ s1 =>
    if s1.signer.rebuilding then s
    else if s1.keys.root.isNone ∨ s1.signer.present = false then s1.respond slot .wrongState []
    else
      let msg := natToLe 4 0x4B555044 ++ natToLe 1 1 ++ zeros 3 ++ natToLe 8 s1.otp.uid ++ natToLe 8 s1.now
        ++ fitTo 1568 (Config.mlkemPublic 7 s1.keys.transport.1) ++ natToBe 4 65537
        ++ natToBe 384 (rsaOfBody 3072 s1.keys.transport.2).n
      match s1.attest msg with
      | (some st, s2) => s2.respond slot .ok st
      | (none, s2) => s2.respond slot .wrongState []))

end Sys2Proof.Machine
end

