-- ==== Sys2Proof/Machine/Sensitive.lean ====
section
/-! DEFINITION. Sensitive-data instructions, majors 0x3C to 0x3E (R141 to R143). -/

namespace Sys2Proof.Machine

/-- An s register used by an instruction: its kind where the instruction names one, and its tenant; an empty one or one
of another kind takes SENSITIVE_MISUSE (R135, R142). -/
def State.useS (s : State) (n r : Nat) (kind : Option Nat) : Option SVal :=
  match s.sval n r with
  | none => none
  | some v => if v.tenant = s.runTenant n ∧ (kind.getD v.kind = v.kind) then some v else none

/-- The PAN operand that a format needs: formats 0, 3 and 4 (R142). -/
def needsPan (fmt : Nat) : Bool := decide (fmt = 0) || decide (fmt = 3) || decide (fmt = 4)

/-- A key's ALG suits a PIN block format: TDES for 0 to 3, AES for 4 (R134). -/
def pinAlgOk (fmt alg : Nat) : Bool := if fmt = 4 then decide (3 ≤ alg) && decide (alg ≤ 5) else decide (alg ≤ 2)

/-- The PAN operand of a PIN instruction read where the format needs it: ACCESS, or its digits, or none where it is
invalid. -/
def State.readPan (s : State) (n fmt a : Nat) : Option (Option (List Nat) × State) :=
  if needsPan fmt then
    if s.operandOk n a 11 then
      let r := s.loadBytes n a 11
      some (panDigits r.1, r.2)
    else none
  else some (some [], s)

/-- PBDEC.Ff: the PIN of an enciphered format f block (R142). -/
def State.pbdec (s : State) (n sd ka gr fmt : Nat) (mismatch : Bool) : State :=
  s.secret n mismatch (if sOk sd then .ofS sd else .none) (fun s =>
    let d := Dest.ofS sd
    let p := s.gPair n gr
    if sOk sd = false then s.exc n .illegal
    else if pairOk gr = false then s.failS n d .illegal
    else
      match s.useKey n ka [chars 'P' '0'] (modeList ['D', 'B', 'N']) with
      | .inl x => s.failS n d x
      | .inr k =>
        let len := if fmt = 4 then 16 else 8
        if pinAlgOk fmt k.alg = false then s.failS n d .keyUsage
        else if s.operandOk n p.1 len = false then s.failS n d .access
        else
          match s.readPan n fmt p.2 with
          | none => s.failS n d .access
          | some (none, s) => s.outcome n gr d 2
          | some (some pan, s) =>
            let r := s.loadBytes n p.1 len
            match pinDecode fmt k.alg k.val r.1 pan with
            | none => r.2.outcome n gr d 1
            | some pin => ((r.2.clearDest n d).setS n sd (some ⟨1, pin, s.runTenant n⟩)).ret n gr 0#64)

/-- PBDEC.F0. -/
def execPbdecF0 (core : Fin 192) (sd ka : Fin 16) (gr : Fin 32) (mismatch : Bool) (s : State) : Host.Outcome State Fault Refusal :=
  s.kWait core [ka.val] (
  .next (s.pbdec core sd ka gr 0 mismatch))

/-- PBDEC.F1. -/
def execPbdecF1 (core : Fin 192) (sd ka : Fin 16) (gr : Fin 32) (mismatch : Bool) (s : State) : Host.Outcome State Fault Refusal :=
  s.kWait core [ka.val] (
  .next (s.pbdec core sd ka gr 1 mismatch))

/-- PBDEC.F2. -/
def execPbdecF2 (core : Fin 192) (sd ka : Fin 16) (gr : Fin 32) (mismatch : Bool) (s : State) : Host.Outcome State Fault Refusal :=
  s.kWait core [ka.val] (
  .next (s.pbdec core sd ka gr 2 mismatch))

/-- PBDEC.F3. -/
def execPbdecF3 (core : Fin 192) (sd ka : Fin 16) (gr : Fin 32) (mismatch : Bool) (s : State) : Host.Outcome State Fault Refusal :=
  s.kWait core [ka.val] (
  .next (s.pbdec core sd ka gr 3 mismatch))

/-- PBDEC.F4. -/
def execPbdecF4 (core : Fin 192) (sd ka : Fin 16) (gr : Fin 32) (mismatch : Bool) (s : State) : Host.Outcome State Fault Refusal :=
  s.kWait core [ka.val] (
  .next (s.pbdec core sd ka gr 4 mismatch))

/-- PBDEC.SEC: the card secret of a card-secret block (R142, R143). -/
def execPbdecSec (core : Fin 192) (sd ka : Fin 16) (gr : Fin 32) (mismatch : Bool) (s : State) : Host.Outcome State Fault Refusal :=
  s.kWait core [ka.val] (
  .next (s.secret core mismatch (if sOk sd then .ofS sd else .none) (fun s =>
    let d := Dest.ofS sd
    let a := (s.getG core gr).toNat
    if sOk sd = false then s.exc core .illegal
    else
      match s.useKey core ka [chars 'P' '0'] (modeList ['D', 'B', 'N']) with
      | .inl x => s.failS core d x
      | .inr k =>
        if k.alg ≤ 2 ∨ 5 < k.alg then s.failS core d .keyUsage
        else if s.operandOk core a 16 = false then s.failS core d .access
        else
          let r := s.loadBytes core a 16
          match secretDecode k.val r.1 with
          | none => r.2.outcome core gr d 1
          | some ds => ((r.2.clearDest core d).setS core sd (some ⟨2, ds, s.runTenant core⟩)).ret core gr 0#64)))

/-- PBENC.Ff: a PIN written as an enciphered format f block; formats 1, 3 and 4 draw their fill (R127, R142). -/
def State.pbenc (s : State) (n ka sb gr fmt : Nat) (mismatch : Bool) : State :=
  s.secret n mismatch .none (fun s =>
    let p := s.gPair n gr
    if pairOk gr = false ∨ sOk sb = false then s.exc n .illegal
    else
      match s.useKey n ka [chars 'P' '0'] (modeList ['E', 'B', 'N']) with
      | .inl x => s.exc n x
      | .inr k =>
        if pinAlgOk fmt k.alg = false then s.exc n .keyUsage
        else
          match s.useS n sb (some 1) with
          | none => s.exc n .sensitiveMisuse
          | some v =>
            let len := if fmt = 4 then 16 else 8
            if s.operandOk n p.1 len = false then s.exc n .access
            else
              match s.readPan n fmt p.2 with
              | none => s.exc n .access
              | some (none, s) => s.outcome n gr .none 2
              | some (some pan, s) =>
                let write (s : State) (fill : List Nat) : State :=
                  (s.storeLocal n p.1 (pinEncode fmt k.alg k.val v.digits pan fill)).ret n gr 0#64
                if fmt = 0 ∨ fmt = 2 then write s []
                else
                  match s.coreDraw n 16 with
                  | none => s
                  | some (b, s1) => write s1 (nibbles b))

/-- PBENC.F0. -/
def execPbencF0 (core : Fin 192) (ka sb : Fin 16) (gr : Fin 32) (mismatch : Bool) (s : State) : Host.Outcome State Fault Refusal :=
  s.kWait core [ka.val] (
  .next (s.pbenc core ka sb gr 0 mismatch))

/-- PBENC.F1. -/
def execPbencF1 (core : Fin 192) (ka sb : Fin 16) (gr : Fin 32) (mismatch : Bool) (s : State) : Host.Outcome State Fault Refusal :=
  s.kWait core [ka.val] (
  .next (s.pbenc core ka sb gr 1 mismatch))

/-- PBENC.F2. -/
def execPbencF2 (core : Fin 192) (ka sb : Fin 16) (gr : Fin 32) (mismatch : Bool) (s : State) : Host.Outcome State Fault Refusal :=
  s.kWait core [ka.val] (
  .next (s.pbenc core ka sb gr 2 mismatch))

/-- PBENC.F3. -/
def execPbencF3 (core : Fin 192) (ka sb : Fin 16) (gr : Fin 32) (mismatch : Bool) (s : State) : Host.Outcome State Fault Refusal :=
  s.kWait core [ka.val] (
  .next (s.pbenc core ka sb gr 3 mismatch))

/-- PBENC.F4. -/
def execPbencF4 (core : Fin 192) (ka sb : Fin 16) (gr : Fin 32) (mismatch : Bool) (s : State) : Host.Outcome State Fault Refusal :=
  s.kWait core [ka.val] (
  .next (s.pbenc core ka sb gr 4 mismatch))

/-- The parameter block of the PIN methods (R143). -/
structure PinParams where
  /-- decimalisation table -/ table : Bytes
  /-- check length -/ len : Nat
  /-- offset digits -/ offset : List Nat
  /-- key index -/ index : Nat
  /-- reference value digits -/ ref : List Nat
  /-- the last six bytes are zero -/ zero : Bool
deriving DecidableEq, Repr

/-- The parameter block taken apart. -/
def pinParams (b : Bytes) : PinParams :=
  ⟨b.take 8, byteAt b 8, nibbles (slice b 9 6), byteAt b 15, nibbles (slice b 16 2), allZero (slice b 18 6)⟩

/-- Whether every nibble of a list is a decimal digit. -/
def decimal (l : List Nat) : Bool := l.all (fun d => decide (d ≤ 9))

/-- The fields that the offset method uses are well formed; the offset field where it is read (R143). -/
def PinParams.offsetOk (p : PinParams) (withOffset : Bool) : Bool :=
  decimal (nibbles p.table) && decide (4 ≤ p.len) && decide (p.len ≤ 12) && (!withOffset || decimal (p.offset.take p.len)) && p.zero

/-- A PIN verification instruction: its key usage and modes, then a method on the PIN, the validation data (or the PAN
operand, by its length) and the parameter block, which gives an outcome and bytes to write in the offset field. -/
def State.pver (s : State) (n ka sb gr : Nat) (mismatch : Bool) (usage : Nat) (modes algs : List Nat) (dataLen : Nat)
    (f : KeyVal → List Nat → Bytes → PinParams → Nat × Option Bytes) : State :=
  s.secret n mismatch .none (fun s =>
    let p := s.gPair n gr
    if pairOk gr = false ∨ sOk sb = false then s.exc n .illegal
    else
      match s.useKey n ka [usage] modes with
      | .inl x => s.exc n x
      | .inr k =>
        if algs.contains k.alg = false then s.exc n .keyUsage
        else
          match s.useS n sb (some 1) with
          | none => s.exc n .sensitiveMisuse
          | some v =>
            if s.operandOk n p.1 dataLen = false ∨ s.operandOk n p.2 24 = false then s.exc n .access
            else
              let a := s.loadBytes n p.1 dataLen
              let b := a.2.loadBytes n p.2 24
              let r := f k v.digits a.1 (pinParams b.1)
              let s1 := match r.2 with | some o => b.2.storeLocal n (p.2 + 9) o | none => b.2
              s1.ret n gr (BitVec.ofNat 64 r.1))

/-- The digits of a sum modulo 10. -/
def addDigits (a b : List Nat) : List Nat := List.zipWith (fun x y => (x + y) % 10) a b
/-- The digits of a difference modulo 10. -/
def subDigits (a b : List Nat) : List Nat := List.zipWith (fun x y => (x + 10 - y) % 10) a b

/-- PVER.OFS: the offset method (R143). -/
def execPverOfs (core : Fin 192) (ka sb : Fin 16) (gr : Fin 32) (mismatch : Bool) (s : State) : Host.Outcome State Fault Refusal :=
  s.kWait core [ka.val] (
  .next (s.pver core ka sb gr mismatch (chars 'V' '1') (modeList ['V', 'C', 'N']) [1, 2, 3, 4, 5] 8 (fun k pin val p =>
    if p.offsetOk true = false ∨ pin.length < p.len then (2, none)
    else
      let nat := naturalPin k.alg k.val p.table val p.len
      (if addDigits nat (p.offset.take p.len) = pin.take p.len then 0 else 1, none))))

/-- PVER.VAL: the verification-value method, with a PAN operand at g(r) (R143). -/
def execPverVal (core : Fin 192) (ka sb : Fin 16) (gr : Fin 32) (mismatch : Bool) (s : State) : Host.Outcome State Fault Refusal :=
  s.kWait core [ka.val] (
  .next (s.pver core ka sb gr mismatch (chars 'V' '2') (modeList ['V', 'C', 'N']) [1] 11 (fun k pin op p =>
    match panDigits op with
    | none => (2, none)
    | some pan =>
      if 9 < p.index ∨ decimal p.ref = false ∨ p.zero = false then (2, none)
      else (if pinValue k.val pan pin p.index = p.ref then 0 else 1, none))))

/-- PVER.GOFS: writes the offset that makes s verify; the digits beyond the check length stay (R142, R143). -/
def execPverGofs (core : Fin 192) (ka sb : Fin 16) (gr : Fin 32) (mismatch : Bool) (s : State) : Host.Outcome State Fault Refusal :=
  s.kWait core [ka.val] (
  .next (s.pver core ka sb gr mismatch (chars 'V' '1') (modeList ['G', 'C', 'N']) [1, 2, 3, 4, 5] 8 (fun k pin val p =>
    if p.offsetOk false = false ∨ pin.length < p.len then (2, none)
    else
      let o := subDigits (pin.take p.len) (naturalPin k.alg k.val p.table val p.len)
      (0, some (packNibbles (o ++ p.offset.drop p.len))))))

/-- PGEN.RND: sd ← a random PIN of the length in g(r) (R127, R142). -/
def execPgenRnd (core : Fin 192) (sd : Fin 16) (gr : Fin 32) (mismatch : Bool) (s : State) : Host.Outcome State Fault Refusal :=
  .next (s.secret core mismatch (if sOk sd then .ofS sd else .none) (fun s =>
    let len := (s.getG core gr).toNat
    if sOk sd = false then s.exc core .illegal
    else if len < 4 ∨ 12 < len then s.outcome core gr (.ofS sd) 2
    else
      match s.coreDraw core 16 with
      | none => s
      | some (b, s1) =>
        let pin := (List.range len).map (fun i => (Config.pinDigits b len).getD i 0 % 10)
        ((s1.clearDest core (.ofS sd)).setS core sd (some ⟨1, pin, s1.runTenant core⟩)).ret core gr 0#64))

/-- PGEN.NAT: sd ← the natural PIN of the offset method; the offset field is ignored (R142, R143). -/
def execPgenNat (core : Fin 192) (sd ka : Fin 16) (gr : Fin 32) (mismatch : Bool) (s : State) : Host.Outcome State Fault Refusal :=
  s.kWait core [ka.val] (
  .next (s.secret core mismatch (if sOk sd then .ofS sd else .none) (fun s =>
    let d := Dest.ofS sd
    let p := s.gPair core gr
    if sOk sd = false then s.exc core .illegal
    else if pairOk gr = false then s.failS core d .illegal
    else
      match s.useKey core ka [chars 'V' '1'] (modeList ['G', 'C', 'N']) with
      | .inl x => s.failS core d x
      | .inr k =>
        if k.alg = 6 then s.failS core d .keyUsage
        else if s.operandOk core p.1 8 = false ∨ s.operandOk core p.2 24 = false then s.failS core d .access
        else
          let a := s.loadBytes core p.1 8
          let b := a.2.loadBytes core p.2 24
          let q := pinParams b.1
          if q.offsetOk false = false then b.2.outcome core gr d 2
          else
            ((b.2.clearDest core d).setS core sd (some ⟨1, naturalPin k.alg k.val q.table a.1 q.len, s.runTenant core⟩)).ret core gr
              0#64)))

/-- PCMP: compares kind, length and value of two s registers (R142). -/
def execPcmp (core : Fin 192) (sd sb : Fin 16) (gr : Fin 32) (mismatch : Bool) (s : State) : Host.Outcome State Fault Refusal :=
  .next (s.secret core mismatch .none (fun s =>
    if sOk sd = false ∨ sOk sb = false then s.exc core .illegal
    else
      match s.useS core sd none, s.useS core sb none with
      | some a, some b => s.ret core gr (if a = b then 0#64 else 1#64)
      | _, _ => s.exc core .sensitiveMisuse))

/-- A card-verification instruction: the value of the card data at g(r), or outcome 2. An exception of the instruction's
other operand, found by `other`, comes before the outcome (R142). -/
def State.cvgen (s : State) (n ka gr : Nat) (mismatch : Bool) (modes : List Nat) (bad : State → Bool) (other : State → Option Exc)
    (f : State → List Nat → State) : State :=
  s.secret n mismatch .none (fun s =>
    let a := (s.getG n gr).toNat
    if bad s then s.exc n .illegal
    else
      match s.useKey n ka [chars 'C' '0'] modes with
      | .inl x => s.exc n x
      | .inr k =>
        if k.alg ≠ 1 then s.exc n .keyUsage
        else
          match other s with
          | some x => s.exc n x
          | none =>
            if s.operandOk n a 15 = false then s.exc n .access
            else
              let r := s.loadBytes n a 15
              match cardDigits r.1 with
              | none => r.2.outcome n gr .none 2
              | some ds => f r.2 (cardValue k.val ds))

/-- ACCESS where the two bytes at g(r+1) are no operand (R142). -/
def State.cvOther (s : State) (n gr : Nat) : Option Exc := if s.operandOk n (s.gPair n gr).2 2 = false then some .access else none

/-- The two bytes of a card verification value: three digits and 0xF (R142). -/
def cvBytes (v : List Nat) : Bytes := packNibbles (v ++ [15])

/-- CVGEN.GEN: writes the value to g(r+1) (R142). -/
def execCvgenGen (core : Fin 192) (ka : Fin 16) (gr : Fin 32) (mismatch : Bool) (s : State) : Host.Outcome State Fault Refusal :=
  s.kWait core [ka.val] (
  .next (s.cvgen core ka gr mismatch (modeList ['G', 'C', 'N']) (fun _ => !pairOk gr)
    (fun s => s.cvOther core gr) (fun s v => (s.storeLocal core (s.gPair core gr).2 (cvBytes v)).ret core gr 0#64)))

/-- CVGEN.VER: compares with the value at g(r+1) (R142). -/
def execCvgenVer (core : Fin 192) (ka : Fin 16) (gr : Fin 32) (mismatch : Bool) (s : State) : Host.Outcome State Fault Refusal :=
  s.kWait core [ka.val] (
  .next (s.cvgen core ka gr mismatch (modeList ['V', 'C', 'N']) (fun _ => !pairOk gr)
    (fun s => s.cvOther core gr) (fun s v =>
      let r := s.loadBytes core (s.gPair core gr).2 2
      r.2.ret core gr (if r.1 = cvBytes v then 0#64 else 1#64))))

/-- CVGEN.VERS: compares with the secret in s (R142). -/
def execCvgenVers (core : Fin 192) (ka sb : Fin 16) (gr : Fin 32) (mismatch : Bool) (s : State) : Host.Outcome State Fault Refusal :=
  s.kWait core [ka.val] (
  .next (s.cvgen core ka gr mismatch (modeList ['V', 'C', 'N']) (fun _ => !sOk sb)
    (fun s => if s.useS core sb (some 2) = none then some .sensitiveMisuse else none) (fun s v =>
      s.ret core gr (if (s.useS core sb (some 2)).map SVal.digits = some v then 0#64 else 1#64))))

/-- PLEN: g(r) ← kind in [15:8], length in [7:0] (R142). -/
def execPlen (core : Fin 192) (sb : Fin 16) (gr : Fin 32) (mismatch : Bool) (s : State) : Host.Outcome State Fault Refusal :=
  .next (s.secret core mismatch .none (fun s =>
    if sOk sb = false then s.exc core .illegal
    else
      match s.useS core sb none with
      | none => s.exc core .sensitiveMisuse
      | some v => s.ret core gr (BitVec.ofNat 64 (v.kind * 256 + v.digits.length))))

/-- SZERO: sd ← empty (R142). -/
def execSzero (core : Fin 192) (sd : Fin 16) (mismatch : Bool) (s : State) : Host.Outcome State Fault Refusal :=
  .next (s.secret core mismatch (if sOk sd then .ofS sd else .none) (fun s =>
    if sOk sd = false then s.exc core .illegal else (s.setS core sd none).nextPc core))

/-- SZERO.ALL: s0 to s7 ← empty (R142). -/
def execSzeroAll (core : Fin 192) (mismatch : Bool) (s : State) : Host.Outcome State Fault Refusal :=
  .next (s.secret core mismatch .allSs (fun s => (s.modCore core (fun c => { c with sreg := [] })).nextPc core))

end Sys2Proof.Machine
end

