-- ==== Sys2Proof/Machine/Dispatch.lean ====
section
/-! DEFINITION. One arm per constructor of `Instr`: the command's meaning on everything but the queue. -/

namespace Sys2Proof.Machine

def exec (i : Instr) (s : State) : Host.Outcome State Fault Refusal :=
  match i with
  | .sqDoorbell port t q tail => Sys2Proof.Machine.execSqDoorbell port t q tail s
  | .cqDoorbell port t q head => Sys2Proof.Machine.execCqDoorbell port t q head s
  | .sqRingReset t q => Sys2Proof.Machine.execSqRingReset t q s
  | .ringResetDone t q => Sys2Proof.Machine.execRingResetDone t q s
  | .sqEnable t q enable => Sys2Proof.Machine.execSqEnable t q enable s
  | .cqRingReset t q => Sys2Proof.Machine.execCqRingReset t q s
  | .ivCtrlWrite t v value => Sys2Proof.Machine.execIvCtrlWrite t v value s
  | .coalesceTimerExpiry t v => Sys2Proof.Machine.execCoalesceTimerExpiry t v s
  | .interruptMessageSend t v => Sys2Proof.Machine.execInterruptMessageSend t v s
  | .descriptorFetch => Sys2Proof.Machine.execDescriptorFetch s
  | .descriptorArrival t q => Sys2Proof.Machine.execDescriptorArrival t q s
  | .cancel t ring tag => Sys2Proof.Machine.execCancel t ring tag s
  | .completionRelease entry => Sys2Proof.Machine.execCompletionRelease entry s
  | .completionEntryWrite port => Sys2Proof.Machine.execCompletionEntryWrite port s
  | .registerWrite who addr data => Sys2Proof.Machine.execRegisterWrite who addr data s
  | .keyRecordArrival t handle => Sys2Proof.Machine.execKeyRecordArrival t handle s
  | .keyCacheWayFill t handle => Sys2Proof.Machine.execKeyCacheWayFill t handle s
  | .operandTimeoutExpiry entry => Sys2Proof.Machine.execOperandTimeoutExpiry entry s
  | .notBeforeReached entry => Sys2Proof.Machine.execNotBeforeReached entry s
  | .deadlineReached entry => Sys2Proof.Machine.execDeadlineReached entry s
  | .tokenRefill => Sys2Proof.Machine.execTokenRefill s
  | .tokenGrant t => Sys2Proof.Machine.execTokenGrant t s
  | .dispatch entry => Sys2Proof.Machine.execDispatch entry s
  | .spill => Sys2Proof.Machine.execSpill s
  | .refill => Sys2Proof.Machine.execRefill s
  | .prfHclr => Sys2Proof.Machine.execPrfHclr s
  | .clusterDrainRequest cluster req => Sys2Proof.Machine.execClusterDrainRequest cluster req s
  | .commandStart core => Sys2Proof.Machine.execCommandStart core s
  | .commandEnd core => Sys2Proof.Machine.execCommandEnd core s
  | .idleRequestTaken core => Sys2Proof.Machine.execIdleRequestTaken core s
  | .budgetExhausted core => Sys2Proof.Machine.execBudgetExhausted core s
  | .coreResetRequest core => Sys2Proof.Machine.execCoreResetRequest core s
  | .coreResetDone core => Sys2Proof.Machine.execCoreResetDone core s
  | .coreIdleRequest core => Sys2Proof.Machine.execCoreIdleRequest core s
  | .hostTransferDone core xfer => Sys2Proof.Machine.execHostTransferDone core xfer s
  | .hwaitTimeout core => Sys2Proof.Machine.execHwaitTimeout core s
  | .illegalOpcode core word => Sys2Proof.Machine.execIllegalOpcode core word s
  | .add core gd ga gb => Sys2Proof.Machine.execAdd core gd ga gb s
  | .sub core gd ga gb => Sys2Proof.Machine.execSub core gd ga gb s
  | .and core gd ga gb => Sys2Proof.Machine.execAnd core gd ga gb s
  | .or core gd ga gb => Sys2Proof.Machine.execOr core gd ga gb s
  | .xor core gd ga gb => Sys2Proof.Machine.execXor core gd ga gb s
  | .shl core gd ga gb => Sys2Proof.Machine.execShl core gd ga gb s
  | .shr core gd ga gb => Sys2Proof.Machine.execShr core gd ga gb s
  | .sar core gd ga gb => Sys2Proof.Machine.execSar core gd ga gb s
  | .mul core gd ga gb => Sys2Proof.Machine.execMul core gd ga gb s
  | .mulh core gd ga gb => Sys2Proof.Machine.execMulh core gd ga gb s
  | .div core gd ga gb => Sys2Proof.Machine.execDiv core gd ga gb s
  | .rem core gd ga gb => Sys2Proof.Machine.execRem core gd ga gb s
  | .cmp core gd ga gb => Sys2Proof.Machine.execCmp core gd ga gb s
  | .digx core gd ga gb => Sys2Proof.Machine.execDigx core gd ga gb s
  | .digi core gd ga gb => Sys2Proof.Machine.execDigi core gd ga gb s
  | .luhn core gd ga gb n => Sys2Proof.Machine.execLuhn core gd ga gb n s
  | .addi core gd ga imm => Sys2Proof.Machine.execAddi core gd ga imm s
  | .andi core gd ga imm => Sys2Proof.Machine.execAndi core gd ga imm s
  | .ori core gd ga imm => Sys2Proof.Machine.execOri core gd ga imm s
  | .xori core gd ga imm => Sys2Proof.Machine.execXori core gd ga imm s
  | .lui core gd imm => Sys2Proof.Machine.execLui core gd imm s
  | .ldB core gd ga imm => Sys2Proof.Machine.execLdB core gd ga imm s
  | .ldH core gd ga imm => Sys2Proof.Machine.execLdH core gd ga imm s
  | .ldW core gd ga imm => Sys2Proof.Machine.execLdW core gd ga imm s
  | .ldD core gd ga imm => Sys2Proof.Machine.execLdD core gd ga imm s
  | .stB core gd ga imm => Sys2Proof.Machine.execStB core gd ga imm s
  | .stH core gd ga imm => Sys2Proof.Machine.execStH core gd ga imm s
  | .stW core gd ga imm => Sys2Proof.Machine.execStW core gd ga imm s
  | .stD core gd ga imm => Sys2Proof.Machine.execStD core gd ga imm s
  | .beq core ga gb off => Sys2Proof.Machine.execBeq core ga gb off s
  | .bne core ga gb off => Sys2Proof.Machine.execBne core ga gb off s
  | .blt core ga gb off => Sys2Proof.Machine.execBlt core ga gb off s
  | .bge core ga gb off => Sys2Proof.Machine.execBge core ga gb off s
  | .bltu core ga gb off => Sys2Proof.Machine.execBltu core ga gb off s
  | .bgeu core ga gb off => Sys2Proof.Machine.execBgeu core ga gb off s
  | .jal core off => Sys2Proof.Machine.execJal core off s
  | .jr core ga => Sys2Proof.Machine.execJr core ga s
  | .fence core mask => Sys2Proof.Machine.execFence core mask s
  | .yield core => Sys2Proof.Machine.execYield core s
  | .wait core => Sys2Proof.Machine.execWait core s
  | .trapEnd core => Sys2Proof.Machine.execTrapEnd core s
  | .trapFail core => Sys2Proof.Machine.execTrapFail core s
  | .trapCancelAck core => Sys2Proof.Machine.execTrapCancelAck core s
  | .trapBrk core => Sys2Proof.Machine.execTrapBrk core s
  | .eret core => Sys2Proof.Machine.execEret core s
  | .cancelq core gd => Sys2Proof.Machine.execCancelq core gd s
  | .mfs core gd word => Sys2Proof.Machine.execMfs core gd word s
  | .mts core ga word => Sys2Proof.Machine.execMts core ga word s
  | .hget core gd ga gb => Sys2Proof.Machine.execHget core gd ga gb s
  | .hput core gd ga gb => Sys2Proof.Machine.execHput core gd ga gb s
  | .hwait core => Sys2Proof.Machine.execHwait core s
  | .tget core gd field => Sys2Proof.Machine.execTget core gd field s
  | .tput core ga field => Sys2Proof.Machine.execTput core ga field s
  | .rand core gd => Sys2Proof.Machine.execRand core gd s
  | .terminalCounterWrite core => Sys2Proof.Machine.execTerminalCounterWrite core s
  | .rsaSign core gr => Sys2Proof.Machine.execRsaSign core gr s
  | .rsaVerify core gr => Sys2Proof.Machine.execRsaVerify core gr s
  | .rsaOaepDec core kd gr => Sys2Proof.Machine.execRsaOaepDec core kd gr s
  | .ecdsaSign core gr => Sys2Proof.Machine.execEcdsaSign core gr s
  | .ecdsaVerify core gr => Sys2Proof.Machine.execEcdsaVerify core gr s
  | .ecdh core kd gr => Sys2Proof.Machine.execEcdh core kd gr s
  | .ed25519Sign core gr => Sys2Proof.Machine.execEd25519Sign core gr s
  | .ed25519Verify core gr => Sys2Proof.Machine.execEd25519Verify core gr s
  | .mlkemEncaps core kd gr => Sys2Proof.Machine.execMlkemEncaps core kd gr s
  | .mlkemDecaps core kd gr => Sys2Proof.Machine.execMlkemDecaps core kd gr s
  | .mldsaSign core gr => Sys2Proof.Machine.execMldsaSign core gr s
  | .mldsaVerify core gr => Sys2Proof.Machine.execMldsaVerify core gr s
  | .keygen core gr => Sys2Proof.Machine.execKeygen core gr s
  | .pubkey core gr => Sys2Proof.Machine.execPubkey core gr s
  | .hreq core alg gr => Sys2Proof.Machine.execHreq core alg gr s
  | .hreqMore core alg gr => Sys2Proof.Machine.execHreqMore core alg gr s
  | .mauSubmit cluster line func => Sys2Proof.Machine.execMauSubmit cluster line func s
  | .xmssVerify cluster line => Sys2Proof.Machine.execXmssVerify cluster line s
  | .xmssmtSign cluster line => Sys2Proof.Machine.execXmssmtSign cluster line s
  | .xmssRebuildDone => Sys2Proof.Machine.execXmssRebuildDone s
  | .mauOperationStart cluster => Sys2Proof.Machine.execMauOperationStart cluster s
  | .mauOperationDone cluster checkOk => Sys2Proof.Machine.execMauOperationDone cluster checkOk s
  | .hashOperationDone core checkOk => Sys2Proof.Machine.execHashOperationDone core checkOk s
  | .kload core kd gr mismatch => Sys2Proof.Machine.execKload core kd gr mismatch s
  | .kzero core kd mismatch => Sys2Proof.Machine.execKzero core kd mismatch s
  | .kzeroAll core mismatch => Sys2Proof.Machine.execKzeroAll core mismatch s
  | .kattrA core ka gr mismatch => Sys2Proof.Machine.execKattrA core ka gr mismatch s
  | .kattrB core ka gr mismatch => Sys2Proof.Machine.execKattrB core ka gr mismatch s
  | .kattrNb core ka gr mismatch => Sys2Proof.Machine.execKattrNb core ka gr mismatch s
  | .kattrNa core ka gr mismatch => Sys2Proof.Machine.execKattrNa core ka gr mismatch s
  | .kchk core ka gr mismatch => Sys2Proof.Machine.execKchk core ka gr mismatch s
  | .kunwrap core kd ka gr mismatch => Sys2Proof.Machine.execKunwrap core kd ka gr mismatch s
  | .kwrap core ka kb gr mismatch => Sys2Proof.Machine.execKwrap core ka kb gr mismatch s
  | .dukptTdesIk core kd ka gr mismatch => Sys2Proof.Machine.execDukptTdesIk core kd ka gr mismatch s
  | .dukptTdesWork core kd ka gr mismatch => Sys2Proof.Machine.execDukptTdesWork core kd ka gr mismatch s
  | .dukptAesIk core kd ka gr mismatch => Sys2Proof.Machine.execDukptAesIk core kd ka gr mismatch s
  | .dukptAesWork core kd ka gr mismatch => Sys2Proof.Machine.execDukptAesWork core kd ka gr mismatch s
  | .emvIcc core kd ka gr mismatch => Sys2Proof.Machine.execEmvIcc core kd ka gr mismatch s
  | .emvSession core kd ka gr mismatch => Sys2Proof.Machine.execEmvSession core kd ka gr mismatch s
  | .kgen core kd gr mismatch => Sys2Proof.Machine.execKgen core kd gr mismatch s
  | .cinit core c k ga mismatch => Sys2Proof.Machine.execCinit core c k ga mismatch s
  | .civIv core c ga gb => Sys2Proof.Machine.execCivIv core c ga gb s
  | .civAd core c ga gb => Sys2Proof.Machine.execCivAd core c ga gb s
  | .civTweak core c ga gb => Sys2Proof.Machine.execCivTweak core c ga gb s
  | .crun core c gd ga gb => Sys2Proof.Machine.execCrun core c gd ga gb s
  | .crunFinal core c gd ga gb => Sys2Proof.Machine.execCrunFinal core c gd ga gb s
  | .crunEarly core c final gd ga gb => Sys2Proof.Machine.execCrunEarly core c final gd ga gb s
  | .ctagGen core c ga gb => Sys2Proof.Machine.execCtagGen core c ga gb s
  | .ctagCheck core c gd ga gb mismatch => Sys2Proof.Machine.execCtagCheck core c gd ga gb mismatch s
  | .ctagCount core c gd mismatch => Sys2Proof.Machine.execCtagCount core c gd mismatch s
  | .csaveClear core c ga => Sys2Proof.Machine.execCsaveClear core c ga s
  | .csaveWrapped core c ga => Sys2Proof.Machine.execCsaveWrapped core c ga s
  | .cloadClear core c k ga => Sys2Proof.Machine.execCloadClear core c k ga s
  | .cloadWrapped core c ga => Sys2Proof.Machine.execCloadWrapped core c ga s
  | .cmacv core c gd ga gb mismatch => Sys2Proof.Machine.execCmacv core c gd ga gb mismatch s
  | .engineOperationDone core mismatch => Sys2Proof.Machine.execEngineOperationDone core mismatch s
  | .pbdecF0 core sd ka gr mismatch => Sys2Proof.Machine.execPbdecF0 core sd ka gr mismatch s
  | .pbdecF1 core sd ka gr mismatch => Sys2Proof.Machine.execPbdecF1 core sd ka gr mismatch s
  | .pbdecF2 core sd ka gr mismatch => Sys2Proof.Machine.execPbdecF2 core sd ka gr mismatch s
  | .pbdecF3 core sd ka gr mismatch => Sys2Proof.Machine.execPbdecF3 core sd ka gr mismatch s
  | .pbdecF4 core sd ka gr mismatch => Sys2Proof.Machine.execPbdecF4 core sd ka gr mismatch s
  | .pbdecSec core sd ka gr mismatch => Sys2Proof.Machine.execPbdecSec core sd ka gr mismatch s
  | .pbencF0 core ka sb gr mismatch => Sys2Proof.Machine.execPbencF0 core ka sb gr mismatch s
  | .pbencF1 core ka sb gr mismatch => Sys2Proof.Machine.execPbencF1 core ka sb gr mismatch s
  | .pbencF2 core ka sb gr mismatch => Sys2Proof.Machine.execPbencF2 core ka sb gr mismatch s
  | .pbencF3 core ka sb gr mismatch => Sys2Proof.Machine.execPbencF3 core ka sb gr mismatch s
  | .pbencF4 core ka sb gr mismatch => Sys2Proof.Machine.execPbencF4 core ka sb gr mismatch s
  | .pverOfs core ka sb gr mismatch => Sys2Proof.Machine.execPverOfs core ka sb gr mismatch s
  | .pverVal core ka sb gr mismatch => Sys2Proof.Machine.execPverVal core ka sb gr mismatch s
  | .pverGofs core ka sb gr mismatch => Sys2Proof.Machine.execPverGofs core ka sb gr mismatch s
  | .pgenRnd core sd gr mismatch => Sys2Proof.Machine.execPgenRnd core sd gr mismatch s
  | .pgenNat core sd ka gr mismatch => Sys2Proof.Machine.execPgenNat core sd ka gr mismatch s
  | .pcmp core sd sb gr mismatch => Sys2Proof.Machine.execPcmp core sd sb gr mismatch s
  | .cvgenGen core ka gr mismatch => Sys2Proof.Machine.execCvgenGen core ka gr mismatch s
  | .cvgenVer core ka gr mismatch => Sys2Proof.Machine.execCvgenVer core ka gr mismatch s
  | .cvgenVers core ka sb gr mismatch => Sys2Proof.Machine.execCvgenVers core ka sb gr mismatch s
  | .plen core sb gr mismatch => Sys2Proof.Machine.execPlen core sb gr mismatch s
  | .szero core sd mismatch => Sys2Proof.Machine.execSzero core sd mismatch s
  | .szeroAll core mismatch => Sys2Proof.Machine.execSzeroAll core mismatch s
  | .engineKatStart core modes inject => Sys2Proof.Machine.execEngineKatStart core modes inject s
  | .engineKatDone core failed injSeen => Sys2Proof.Machine.execEngineKatDone core failed injSeen s
  | .unknownOp slot => Sys2Proof.Machine.execUnknownOp slot s
  | .getChallenge slot => Sys2Proof.Machine.execGetChallenge slot s
  | .challengeExpiry => Sys2Proof.Machine.execChallengeExpiry s
  | .commission slot => Sys2Proof.Machine.execCommission slot s
  | .registerOfficer src => Sys2Proof.Machine.execRegisterOfficer src s
  | .revokeOfficer src => Sys2Proof.Machine.execRevokeOfficer src s
  | .createTenant src => Sys2Proof.Machine.execCreateTenant src s
  | .updateTenant src => Sys2Proof.Machine.execUpdateTenant src s
  | .deleteTenant src => Sys2Proof.Machine.execDeleteTenant src s
  | .tenantDeleteDone t => Sys2Proof.Machine.execTenantDeleteDone t s
  | .clearRecorder src pass => Sys2Proof.Machine.execClearRecorder src pass s
  | .setWallTime src => Sys2Proof.Machine.execSetWallTime src s
  | .pairingPair src => Sys2Proof.Machine.execPairingPair src s
  | .pairingDissolve src => Sys2Proof.Machine.execPairingDissolve src s
  | .pairingNotAfterExpiry => Sys2Proof.Machine.execPairingNotAfterExpiry s
  | .scrap src => Sys2Proof.Machine.execScrap src s
  | .devicePolicy src => Sys2Proof.Machine.execDevicePolicy src s
  | .registerCustodian src => Sys2Proof.Machine.execRegisterCustodian src s
  | .revokeCustodian src => Sys2Proof.Machine.execRevokeCustodian src s
  | .loadMasterKey src => Sys2Proof.Machine.execLoadMasterKey src s
  | .ceremonyNotAfterExpiry => Sys2Proof.Machine.execCeremonyNotAfterExpiry s
  | .retireGeneration src => Sys2Proof.Machine.execRetireGeneration src s
  | .setCurrentGeneration src => Sys2Proof.Machine.execSetCurrentGeneration src s
  | .registerProgramKey src => Sys2Proof.Machine.execRegisterProgramKey src s
  | .authoriseState src => Sys2Proof.Machine.execAuthoriseState src s
  | .authStateExpiry t => Sys2Proof.Machine.execAuthStateExpiry t s
  | .traceConsent src => Sys2Proof.Machine.execTraceConsent src s
  | .tenantPolicy src => Sys2Proof.Machine.execTenantPolicy src s
  | .component src => Sys2Proof.Machine.execComponent src s
  | .abort slot => Sys2Proof.Machine.execAbort slot s
  | .cancelState slot => Sys2Proof.Machine.execCancelState slot s
  | .programLoad slot => Sys2Proof.Machine.execProgramLoad slot s
  | .programUnload slot => Sys2Proof.Machine.execProgramUnload slot s
  | .tenantReset slot => Sys2Proof.Machine.execTenantReset slot s
  | .tenantResetIdleTimeout core => Sys2Proof.Machine.execTenantResetIdleTimeout core s
  | .tenantResetFinish t => Sys2Proof.Machine.execTenantResetFinish t s
  | .tenantInfo slot => Sys2Proof.Machine.execTenantInfo slot s
  | .tenantResetDev slot => Sys2Proof.Machine.execTenantResetDev slot s
  | .tenantResetRequest t => Sys2Proof.Machine.execTenantResetRequest t s
  | .kmGenerate slot => Sys2Proof.Machine.execKmGenerate slot s
  | .kmImportBlock slot => Sys2Proof.Machine.execKmImportBlock slot s
  | .kmExportBlock slot => Sys2Proof.Machine.execKmExportBlock slot s
  | .kmDelete slot => Sys2Proof.Machine.execKmDelete slot s
  | .kmSetWindow slot => Sys2Proof.Machine.execKmSetWindow slot s
  | .kmRewrap slot => Sys2Proof.Machine.execKmRewrap slot s
  | .kmMigrate slot => Sys2Proof.Machine.execKmMigrate slot s
  | .kmMigrateDone t => Sys2Proof.Machine.execKmMigrateDone t s
  | .kmReadAttr slot => Sys2Proof.Machine.execKmReadAttr slot s
  | .kmBackup slot => Sys2Proof.Machine.execKmBackup slot s
  | .kmRestore slot => Sys2Proof.Machine.execKmRestore slot s
  | .kmImportImage slot => Sys2Proof.Machine.execKmImportImage slot s
  | .kmExportImage slot => Sys2Proof.Machine.execKmExportImage slot s
  | .kmRewrapImage slot => Sys2Proof.Machine.execKmRewrapImage slot s
  | .kmDevicePubkeys slot => Sys2Proof.Machine.execKmDevicePubkeys slot s
  | .routeSet slot => Sys2Proof.Machine.execRouteSet slot s
  | .routeDelete slot => Sys2Proof.Machine.execRouteDelete slot s
  | .routeLookup slot => Sys2Proof.Machine.execRouteLookup slot s
  | .storeFormat slot => Sys2Proof.Machine.execStoreFormat slot s
  | .storeOpen slot nodes => Sys2Proof.Machine.execStoreOpen slot nodes s
  | .storeCheckpoint slot => Sys2Proof.Machine.execStoreCheckpoint slot s
  | .storeDurableAck slot => Sys2Proof.Machine.execStoreDurableAck slot s
  | .storeStatus slot => Sys2Proof.Machine.execStoreStatus slot s
  | .pairStatus slot => Sys2Proof.Machine.execPairStatus slot s
  | .lcTransition slot => Sys2Proof.Machine.execLcTransition slot s
  | .lcGroupProgrammed => Sys2Proof.Machine.execLcGroupProgrammed s
  | .lcInstallKey slot => Sys2Proof.Machine.execLcInstallKey slot s
  | .lcStatus slot => Sys2Proof.Machine.execLcStatus slot s
  | .dmaWindow slot => Sys2Proof.Machine.execDmaWindow slot s
  | .logRead slot => Sys2Proof.Machine.execLogRead slot s
  | .logExport slot => Sys2Proof.Machine.execLogExport slot s
  | .scaleRead slot => Sys2Proof.Machine.execScaleRead slot s
  | .scaleCut slot => Sys2Proof.Machine.execScaleCut slot s
  | .scaleUpdate slot => Sys2Proof.Machine.execScaleUpdate slot s
  | .scaleKey slot => Sys2Proof.Machine.execScaleKey slot s
  | .healthStatus slot => Sys2Proof.Machine.execHealthStatus slot s
  | .cspHello => Sys2Proof.Machine.execCspHello s
  | .cspChallengeRequest => Sys2Proof.Machine.execCspChallengeRequest s
  | .cspAbort => Sys2Proof.Machine.execCspAbort s
  | .cspAck => Sys2Proof.Machine.execCspAck s
  | .cspNak => Sys2Proof.Machine.execCspNak s
  | .cspBadFrame => Sys2Proof.Machine.execCspBadFrame s
  | .cspResendTimeout => Sys2Proof.Machine.execCspResendTimeout s
  | .cspSessionTimeout => Sys2Proof.Machine.execCspSessionTimeout s
  | .cspPresentFall present => Sys2Proof.Machine.execCspPresentFall present s
  | .cspAttn low => Sys2Proof.Machine.execCspAttn low s
  | .cspFlush => Sys2Proof.Machine.execCspFlush s
  | .cspRxRead => Sys2Proof.Machine.execCspRxRead s
  | .cspTxWrite byte => Sys2Proof.Machine.execCspTxWrite byte s
  | .keyCacheInvalidate scope gen t handle => Sys2Proof.Machine.execKeyCacheInvalidate scope gen t handle s
  | .sieveInsert => Sys2Proof.Machine.execSieveInsert s
  | .sieveDelete => Sys2Proof.Machine.execSieveDelete s
  | .sieveFilterWrite => Sys2Proof.Machine.execSieveFilterWrite s
  | .sieveLookup => Sys2Proof.Machine.execSieveLookup s
  | .terminalSpillProbeDone t id => Sys2Proof.Machine.execTerminalSpillProbeDone t id s
  | .terminalSoftInsert t id => Sys2Proof.Machine.execTerminalSoftInsert t id s
  | .terminalAgerStep => Sys2Proof.Machine.execTerminalAgerStep s
  | .backgroundCompareBlock upset => Sys2Proof.Machine.execBackgroundCompareBlock upset s
  | .blockReloadDone => Sys2Proof.Machine.execBlockReloadDone s
  | .sramCorrectableError cls addr => Sys2Proof.Machine.execSramCorrectableError cls addr s
  | .sramUncorrectableError cls addr unit index => Sys2Proof.Machine.execSramUncorrectableError cls addr unit index s
  | .scrubPass => Sys2Proof.Machine.execScrubPass s
  | .storeLineReadDone read => Sys2Proof.Machine.execStoreLineReadDone read s
  | .checkpointIntervalExpiry => Sys2Proof.Machine.execCheckpointIntervalExpiry s
  | .sstCut => Sys2Proof.Machine.execSstCut s
  | .checkpointCutStart => Sys2Proof.Machine.execCheckpointCutStart s
  | .sstRekey => Sys2Proof.Machine.execSstRekey s
  | .rekeyPosition => Sys2Proof.Machine.execRekeyPosition s
  | .trefPulse dt => Sys2Proof.Machine.execTrefPulse dt s
  | .trefPulseMissing dt => Sys2Proof.Machine.execTrefPulseMissing dt s
  | .holdoverExpiry dt => Sys2Proof.Machine.execHoldoverExpiry dt s
  | .timeSave => Sys2Proof.Machine.execTimeSave s
  | .tickEdge => Sys2Proof.Machine.execTickEdge s
  | .entropyWindow source window => Sys2Proof.Machine.execEntropyWindow source window s
  | .drbgInstantiate idx => Sys2Proof.Machine.execDrbgInstantiate idx s
  | .drbgReseed idx => Sys2Proof.Machine.execDrbgReseed idx s
  | .drbgLimitReached idx => Sys2Proof.Machine.execDrbgLimitReached idx s
  | .entTestpatWrite on => Sys2Proof.Machine.execEntTestpatWrite on s
  | .linkEnable port => Sys2Proof.Machine.execLinkEnable port s
  | .linkDisable port => Sys2Proof.Machine.execLinkDisable port s
  | .linkRetrain port => Sys2Proof.Machine.execLinkRetrain port s
  | .receiverDetected port reversed => Sys2Proof.Machine.execReceiverDetected port reversed s
  | .configDone port width pwidth pgen => Sys2Proof.Machine.execConfigDone port width pwidth pgen s
  | .eqPass port => Sys2Proof.Machine.execEqPass port s
  | .eqFail port => Sys2Proof.Machine.execEqFail port s
  | .laneLockLoss port => Sys2Proof.Machine.execLaneLockLoss port s
  | .lockRegained port => Sys2Proof.Machine.execLockRegained port s
  | .recoveryTimeout port => Sys2Proof.Machine.execRecoveryTimeout port s
  | .trainingTimeout port => Sys2Proof.Machine.execTrainingTimeout port s
  | .corruptPacket port crcOk flitBad seq => Sys2Proof.Machine.execCorruptPacket port crcOk flitBad seq s
  | .cplReceived port tag cst last data => Sys2Proof.Machine.execCplReceived port tag cst last data s
  | .msgReceived port addr len => Sys2Proof.Machine.execMsgReceived port addr len s
  | .ackReceived port seq => Sys2Proof.Machine.execAckReceived port seq s
  | .nakReceived port seq => Sys2Proof.Machine.execNakReceived port seq s
  | .creditReceived port posted nonPosted completion => Sys2Proof.Machine.execCreditReceived port posted nonPosted completion s
  | .hotResetReceived port => Sys2Proof.Machine.execHotResetReceived port s
  | .portDownReceived port => Sys2Proof.Machine.execPortDownReceived port s
  | .seqResetReceived port => Sys2Proof.Machine.execSeqResetReceived port s
  | .mgtResend port => Sys2Proof.Machine.execMgtResend port s
  | .ackTimeout port => Sys2Proof.Machine.execAckTimeout port s
  | .cplTimeout port tag => Sys2Proof.Machine.execCplTimeout port tag s
  | .failoverTimeout port => Sys2Proof.Machine.execFailoverTimeout port s
  | .peerClaimRise => Sys2Proof.Machine.execPeerClaimRise s
  | .peerClaimFall => Sys2Proof.Machine.execPeerClaimFall s
  | .arbitrationDelayExpiry => Sys2Proof.Machine.execArbitrationDelayExpiry s
  | .claimContention => Sys2Proof.Machine.execClaimContention s
  | .fatalCondition => Sys2Proof.Machine.execFatalCondition s
  | .hello payload => Sys2Proof.Machine.execHello payload s
  | .ident payload => Sys2Proof.Machine.execIdent payload s
  | .keyx payload => Sys2Proof.Machine.execKeyx payload s
  | .epochPart seq counter data => Sys2Proof.Machine.execEpochPart seq counter data s
  | .epochEnd seq counter data => Sys2Proof.Machine.execEpochEnd seq counter data s
  | .epochAck seq counter data => Sys2Proof.Machine.execEpochAck seq counter data s
  | .seedPart seq counter data => Sys2Proof.Machine.execSeedPart seq counter data s
  | .seedEnd seq counter data => Sys2Proof.Machine.execSeedEnd seq counter data s
  | .seedAck seq counter data => Sys2Proof.Machine.execSeedAck seq counter data s
  | .heartbeat seq counter data => Sys2Proof.Machine.execHeartbeat seq counter data s
  | .heartbeatSend => Sys2Proof.Machine.execHeartbeatSend s
  | .tick seq counter data => Sys2Proof.Machine.execTick seq counter data s
  | .epochClose => Sys2Proof.Machine.execEpochClose s
  | .partnerLossTimeout => Sys2Proof.Machine.execPartnerLossTimeout s
  | .standbyLinkTimeout => Sys2Proof.Machine.execStandbyLinkTimeout s
  | .seedStart => Sys2Proof.Machine.execSeedStart s
  | .bootWaitExpiry => Sys2Proof.Machine.execBootWaitExpiry s
  | .crustStep ch seenA seenB dlyA dlyB pairShort supplyShort passes => Sys2Proof.Machine.execCrustStep ch seenA seenB dlyA dlyB pairShort supplyShort passes s
  | .dieTemperatureFault temp passes => Sys2Proof.Machine.execDieTemperatureFault temp passes s
  | .vguardFault passes => Sys2Proof.Machine.execVguardFault passes s
  | .vcoreGlitch passes => Sys2Proof.Machine.execVcoreGlitch passes s
  | .clockMonitorFault passes => Sys2Proof.Machine.execClockMonitorFault passes s
  | .lightDetected passes => Sys2Proof.Machine.execLightDetected passes s
  | .shieldError passes => Sys2Proof.Machine.execShieldError passes s
  | .tampInAsserted input high passes => Sys2Proof.Machine.execTampInAsserted input high passes s
  | .vguardPor => Sys2Proof.Machine.execVguardPor s
  | .logicPowerChange powered => Sys2Proof.Machine.execLogicPowerChange powered s
  | .presetAssert => Sys2Proof.Machine.execPresetAssert s
  | .presetRelease bootSrc clkMode pairPri => Sys2Proof.Machine.execPresetRelease bootSrc clkMode pairPri s
  | .pgoodFall => Sys2Proof.Machine.execPgoodFall s
  | .pfailFall fails => Sys2Proof.Machine.execPfailFall fails s
  | .pfailRise => Sys2Proof.Machine.execPfailRise s
  | .watchdogExpiry pair => Sys2Proof.Machine.execWatchdogExpiry pair s
  | .watchdogKick pair => Sys2Proof.Machine.execWatchdogKick pair s
  | .watchdogEnable pair => Sys2Proof.Machine.execWatchdogEnable pair s
  | .thermalWarnThreshold temp sensor => Sys2Proof.Machine.execThermalWarnThreshold temp sensor s
  | .thermalTrip => Sys2Proof.Machine.execThermalTrip s
  | .clockGoodLoss domain => Sys2Proof.Machine.execClockGoodLoss domain s
  | .softwareServiceReset key => Sys2Proof.Machine.execSoftwareServiceReset key s
  | .softwareChipReset key => Sys2Proof.Machine.execSoftwareChipReset key s
  | .debugResetRequest => Sys2Proof.Machine.execDebugResetRequest s
  | .resetPrepDone => Sys2Proof.Machine.execResetPrepDone s
  | .resetPrepTimeout => Sys2Proof.Machine.execResetPrepTimeout s
  | .nvPulseEnd => Sys2Proof.Machine.execNvPulseEnd s
  | .stageRelease => Sys2Proof.Machine.execStageRelease s
  | .stageOverride => Sys2Proof.Machine.execStageOverride s
  | .blockResetRequest block tmo => Sys2Proof.Machine.execBlockResetRequest block tmo s
  | .blockIdle => Sys2Proof.Machine.execBlockIdle s
  | .blockIdleTimeout => Sys2Proof.Machine.execBlockIdleTimeout s
  | .bootGo port => Sys2Proof.Machine.execBootGo port s
  | .bootImageReadDone flash => Sys2Proof.Machine.execBootImageReadDone flash s
  | .flashReadTimeout => Sys2Proof.Machine.execFlashReadTimeout s
  | .bootBackoffExpiry => Sys2Proof.Machine.execBootBackoffExpiry s
  | .otpRead index => Sys2Proof.Machine.execOtpRead index s
  | .otpProgram index => Sys2Proof.Machine.execOtpProgram index s
  | .otpProgramDone good => Sys2Proof.Machine.execOtpProgramDone good s
  | .idcode => Sys2Proof.Machine.execIdcode s
  | .unitId => Sys2Proof.Machine.execUnitId s
  | .token data => Sys2Proof.Machine.execToken data s
  | .dmacc write addr size data => Sys2Proof.Machine.execDmacc write addr size data s
  | .bypass => Sys2Proof.Machine.execBypass s
  | .tapReset => Sys2Proof.Machine.execTapReset s
  | .debugSessionEnd => Sys2Proof.Machine.execDebugSessionEnd s
  | .debugSessionExpiry => Sys2Proof.Machine.execDebugSessionExpiry s
  | .mpuRegionCommit m r attr => Sys2Proof.Machine.execMpuRegionCommit m r attr s
  | .mpuUpdWrite m upd => Sys2Proof.Machine.execMpuUpdWrite m upd s
  | .mpuLock m => Sys2Proof.Machine.execMpuLock m s
  | .mpuLatchClear m => Sys2Proof.Machine.execMpuLatchClear m s
  | .eventEntry => Sys2Proof.Machine.execEventEntry s
  | .flushIntervalExpiry => Sys2Proof.Machine.execFlushIntervalExpiry s
  | .evrFlush => Sys2Proof.Machine.execEvrFlush s
  | .flushDone faults => Sys2Proof.Machine.execFlushDone faults s
  | .archiveSegment => Sys2Proof.Machine.execArchiveSegment s
  | .sealSignatureArrived => Sys2Proof.Machine.execSealSignatureArrived s
  | .bucketRefill => Sys2Proof.Machine.execBucketRefill s
  | .evrLimitWrite code rate burst => Sys2Proof.Machine.execEvrLimitWrite code rate burst s
  | .scalePersist fails => Sys2Proof.Machine.execScalePersist fails s
  | .scaleIntervalExpiry => Sys2Proof.Machine.execScaleIntervalExpiry s
  | .scaleStart => Sys2Proof.Machine.execScaleStart s
  | .clusterTestStart => Sys2Proof.Machine.execClusterTestStart s
  | .clusterTestDrainTimeout cluster => Sys2Proof.Machine.execClusterTestDrainTimeout cluster s
  | .clusterTestEnd cluster failed core modes => Sys2Proof.Machine.execClusterTestEnd cluster failed core modes s
  | .rotationIntervalExpiry => Sys2Proof.Machine.execRotationIntervalExpiry s
  | .rotStart => Sys2Proof.Machine.execRotStart s
  | .clusterReturn cluster => Sys2Proof.Machine.execClusterReturn cluster s
  | .lockstepMismatchDetected pair => Sys2Proof.Machine.execLockstepMismatchDetected pair s
  | .linkRecalStart port => Sys2Proof.Machine.execLinkRecalStart port s
  | .laneCtlWrite lane value debug => Sys2Proof.Machine.execLaneCtlWrite lane value debug s
  | .laneInject lane => Sys2Proof.Machine.execLaneInject lane s
  | .powerCapLower cap => Sys2Proof.Machine.execPowerCapLower cap s
  | .powerCapRaise cap => Sys2Proof.Machine.execPowerCapRaise cap s
  | .powerCapChangeDone => Sys2Proof.Machine.execPowerCapChangeDone s
  | .smbusReadTemperature => Sys2Proof.Machine.execSmbusReadTemperature s
  | .smbusReadClusters => Sys2Proof.Machine.execSmbusReadClusters s
  | .smbusReadCap => Sys2Proof.Machine.execSmbusReadCap s
  | .smbusAlertResponse => Sys2Proof.Machine.execSmbusAlertResponse s
  | .mrdReceived port addr len tag => Sys2Proof.Machine.execMrdReceived port addr len tag s
  | .cspByteReceived byte stopOk => Sys2Proof.Machine.execCspByteReceived byte stopOk s
  | .laneCheckerLock lane => Sys2Proof.Machine.execLaneCheckerLock lane s
  | .laneCheckerLockLoss lane errors bits => Sys2Proof.Machine.execLaneCheckerLockLoss lane errors bits s
  | .seedWalkDone => Sys2Proof.Machine.execSeedWalkDone s

end Sys2Proof.Machine
end

