-- ==== Sys2Proof/Safety.lean ====
section
/-! DEFINITION. The terms in which claims are stated: which parts of the unit a command may change, the canonical form of the
state's tables, and the one-way bits of the OTP array. -/

namespace Sys2Proof

open Sys2Proof.Machine

/-- The parts of the unit's state, one per field of `State` but the queue of commands. -/
inductive Part where
  | free | regs | time | ent | mpu | evr | signer | otp | pins | host | prf | cores | clus | progs | ras | tab | keys
  | store | pair | guard | sys | life | scale
deriving DecidableEq, Repr

/-- Two states agree on a part. -/
def Part.same (s t : State) : Part → Prop
  | .free => t.free = s.free
  | .regs => t.regs = s.regs
  | .time => t.time = s.time
  | .ent => t.ent = s.ent
  | .mpu => t.mpu = s.mpu
  | .evr => t.evr = s.evr
  | .signer => t.signer = s.signer
  | .otp => t.otp = s.otp
  | .pins => t.pins = s.pins
  | .host => t.host = s.host
  | .prf => t.prf = s.prf
  | .cores => t.cores = s.cores
  | .clus => t.clus = s.clus
  | .progs => t.progs = s.progs
  | .ras => t.ras = s.ras
  | .tab => t.tab = s.tab
  | .keys => t.keys = s.keys
  | .store => t.store = s.store
  | .pair => t.pair = s.pair
  | .guard => t.guard = s.guard
  | .sys => t.sys = s.sys
  | .life => t.life = s.life
  | .scale => t.scale = s.scale

/-- The frame of a command: the queue, and every part not in the list `changed`, is as before. -/
def Frame (changed : List Part) (s t : State) : Prop :=
  t.pending = s.pending ∧ ∀ p : Part, p ∉ changed → Part.same s t p

/-- Core `n` after an instruction that writes `v` to general register `r` and goes on: the register (g0 reads 0 whatever is
written, R76), the program counter, and nothing else of the unit. -/
def Result (s t : State) (n r : Nat) (v : BitVec 64) : Prop :=
  (∀ q, t.getG n q = if q = 0 then 0#64 else if q = r then v else s.getG n q) ∧
  t.core n = { s.core n with g := (t.core n).g, pc := (s.core n).pc + 4 } ∧
  (∀ m, m ≠ n → t.core m = s.core m) ∧ Frame [.cores] s t

/-- Core `n` becomes `k`, every other core is as before, and so is every part of the unit but the cores. -/
def OnlyCore (s t : State) (n : Nat) (k : Core) : Prop :=
  t.core n = k ∧ (∀ m, m ≠ n → t.core m = s.core m) ∧ Frame [.cores] s t

/-- The field `f` becomes `v`, and no field with another place in the register map changes. -/
def OnlyField (s t : State) (f : Field) (v : Nat) : Prop :=
  t.rd f = v ∧ ∀ g : Field, g.key ≠ f.key → t.rd g = s.rd g

/-- The recorder's inbox after one event more. -/
def Reported (s t : State) (e : Ev) (tenant : Option Nat) (source a b c : Nat) : Prop :=
  t.evr = { s.evr with inbox := s.evr.inbox ++ [⟨e, tenant, source, a % 2 ^ 32, b % 2 ^ 32, c % 2 ^ 32, s.time.cyc⟩] }

/-- Every bit that a word of the OTP array holds in `o` is also held in `o'` (R398, R399). -/
def OtpKeeps (o o' : Otp) : Prop :=
  ∀ w i : Nat, (tabGet 0 o.words w).testBit i = true → (tabGet 0 o'.words w).testBit i = true

/-- The tables of regions, of cores and of clusters are in canonical form, and so are the local memory of every core and the shared memory of
every cluster, so that equal contents are equal data. -/
def Canonical (s : State) : Prop :=
  tabWf Region.empty s.mpu = true ∧ tabWf Core.reset s.cores = true ∧ tabWf Cluster.reset s.clus = true ∧
    (∀ e ∈ s.cores, memWf e.2.mem = true) ∧ (∀ e ∈ s.clus, memWf e.2.shared = true)

/-! ### Terms of single statements -/

/-- The load of a width in bytes. -/
def loadOf (core : Fin 192) (gd ga : Fin 32) (imm : BitVec 16) : List (Nat × Instr) :=
  [(1, .ldB core gd ga imm), (2, .ldH core gd ga imm), (4, .ldW core gd ga imm), (8, .ldD core gd ga imm)]

/-- The store of a width in bytes. -/
def storeOf (core : Fin 192) (gd ga : Fin 32) (imm : BitVec 16) : List (Nat × Instr) :=
  [(1, .stB core gd ga imm), (2, .stH core gd ga imm), (4, .stW core gd ga imm), (8, .stD core gd ga imm)]

/-- The conditional branches with their conditions (R91). -/
def branchOf (s : State) (core : Fin 192) (ga gb : Fin 32) (off16 : BitVec 16) (off14 : BitVec 14) : List (Instr × Bool × Int) :=
  let a := s.getG core ga
  let b := s.getG core gb
  [(.beq core ga gb off16, decide (a = b), off16.toInt),
   (.bne core ga gb off16, decide (a ≠ b), off16.toInt),
   (.blt core ga gb off14, decide (a.toInt < b.toInt), off14.toInt),
   (.bge core ga gb off14, decide (b.toInt ≤ a.toInt), off14.toInt),
   (.bltu core ga gb off14, decide (a.toNat < b.toNat), off14.toInt),
   (.bgeu core ga gb off14, decide (b.toNat ≤ a.toNat), off14.toInt)]

/-- A packet that a port holds in a queue, behind a fence or has sent. -/
def Handed (p : Port) (kind : PktKind) (addr : Nat) (data : Bytes) : Prop :=
  ∃ k ∈ p.sent ++ p.answers ++ p.qPrf ++ p.qCore ++ p.qStore ++ p.qS0 ++ p.fenced, k.kind = kind ∧ k.addr = addr ∧ k.data = data

/-- An entry that has ended with a status. -/
def Ended (t : State) (id : Nat) (st : Status) : Prop :=
  ∃ e ∈ t.prf.entries, e.id = id ∧ e.phase = .ended ∧ e.status = st

/-- An event reported since `s`, with its arguments. -/
def NewEvent (s t : State) (e : Ev) (a b c : Nat) : Prop :=
  ∃ l x l', t.evr.inbox = s.evr.inbox ++ l ++ x :: l' ∧ x.ev = e ∧ x.a0 = a % 2 ^ 32 ∧ x.a1 = b % 2 ^ 32 ∧ x.a2 = c % 2 ^ 32

/-- A port that has reached ACTIVE at a generation and width: FAILED is clear (R307, R323). -/
def UpAt (t : State) (n gen width : Nat) : Prop :=
  (t.port n).st = .active ∧ (t.port n).gen = gen ∧ (t.port n).width = width ∧ t.rd (Reg.LNK_STAT_FAILED n) = 0

/-- A core after an instruction that writes `v` to general register `r` and goes on, whatever it drew or read. -/
def Got (s t : State) (n r : Nat) (v : BitVec 64) : Prop :=
  (∀ q, t.getG n q = if q = 0 then 0#64 else if q = r then v else s.getG n q) ∧ (t.core n).pc = (s.core n).pc + 4 ∧
    (∀ m, m ≠ n → t.core m = s.core m) ∧ Frame [.cores, .ent, .free] s t

/-- A core after it has queued an operation for its cipher engine (R126): it stands last, behind operations on the same contexts as before (the same ones,
where no CLOAD on its context waits), and nothing else of the unit changes. -/
def Queued (s t : State) (n : Nat) (o : EngOp) : Prop :=
  (∃ l, (t.core n).eng = l ++ [o] ∧ l.map EngOp.ctx = (s.core n).eng.map EngOp.ctx ∧
    ((s.core n).pendingLoad o.ctx = none → l = (s.core n).eng)) ∧ (t.core n).pc = (s.core n).pc + 4 ∧ (t.core n).mem = (s.core n).mem ∧
    (∀ r, t.getG n r = s.getG n r) ∧ (∀ m, m ≠ n → t.core m = s.core m) ∧ Frame [.cores, .free] s t

/-- The rows of KDERIVE (R131, R132): the instruction, its function number, the usages and algorithms of its source, the length of its operand,
whether operand and parameter are good, and the key that it derives with its usage, mode and ALG. `d n` is an operand of n bytes, `p` the parameter. -/
def deriveRows (core : Fin 192) (kd ka : Fin 16) (gr : Fin 32) (k : KeyVal) (d : Nat → Bytes) (p : Nat) :
    List (Instr × Nat × List Nat × List Nat × Nat × Bool × Bytes × Nat × Nat × Nat) :=
  let tdes := decide (dukptCounter (d 10) ≠ 0) && decide (popCount (dukptCounter (d 10)) ≤ 10)
  let aes := decide (beToNat ((d 12).drop 8) ≠ 0) && decide (popCount (beToNat ((d 12).drop 8)) ≤ 16)
  let b0 := decide (k.usage = chars 'B' '0')
  let ind := (aesIndicator (p % 65536)).getD (0, 0)
  let pan := (panDigits ((d 12).take 11)).getD []
  let psn := byteAt (d 12) 11
  [(.dukptTdesIk core kd ka gr false, 1, [chars 'B' '0'], [1], 10, decide (p = 0) && tdes,
      dukptIk k.val (d 10), chars 'B' '1', 'X'.toNat, k.alg),
   (.dukptTdesWork core kd ka gr false, 2, [chars 'B' '0', chars 'B' '1'], [1], 10, decide (p ≤ 4) && tdes,
      dukptWork (if b0 then dukptIk k.val (d 10) else k.val) (d 10) p, (tdesVariant p).1, (tdesVariant p).2, 1),
   (.dukptAesIk core kd ka gr false, 3, [chars 'B' '0'], [3, 4, 5], 12, decide (p = 0) && aes,
      aesDukptIk k.alg k.val (d 12), chars 'B' '1', 'X'.toNat, k.alg),
   (.dukptAesWork core kd ka gr false, 4, [chars 'B' '0', chars 'B' '1'], [3, 4, 5], 12,
      (aesIndicator (p % 65536)).isSome && decide (2 ≤ p / 65536) && decide (p / 65536 ≤ 4) && decide (algLen (p / 65536 + 1) ≤ k.val.length) && aes,
      aesDukptWork k.alg (if b0 then aesDukptIk k.alg k.val (d 12) else k.val) (d 12) (p % 65536) (p / 65536),
      ind.1, ind.2, p / 65536 + 1),
   (.emvIcc core kd ka gr false, 8, emvUsages, [1, 3, 4, 5], 12,
      decide (p = 0) && (panDigits ((d 12).take 11)).isSome && decide (psn / 16 ≤ 9) && decide (psn % 16 ≤ 9),
      emvIcc k.alg k.val (emvY pan psn), k.usage, 'X'.toNat, k.alg),
   (.emvSession core kd ka gr false, 9, emvUsages, [1, 3, 4, 5], 2, decide (p = 0),
      emvSession k.alg k.val (d 2), k.usage, 'C'.toNat, k.alg)]

/-- The request of a slot has arrived whole, it is the slot's turn, the header is in order, nothing refuses it and nothing makes it wait: operation `op` with body
`b` (R222 to R224). -/
def Served (s : State) (k op : Nat) (b : Bytes) : Prop :=
  let m := s.slot k
  s.mailTurn k = true ∧ m.busy = true ∧ m.held = false ∧ m.reads = 0 ∧ m.failed = false ∧ leAt m.bytes 0 2 = op ∧ leAt m.bytes 2 2 = 0 ∧
    m.bytes.drop 16 = b ∧ leAt m.bytes 4 4 = b.length ∧ s.gate k op b = none ∧ (s.journalFull && opMirrored op b) = false

/-- The request of a slot with operation `op` has arrived whole, it is the slot's turn, and it is refused with result `r` before the operation runs: its bytes did
not arrive, its header is not in order, or a rule of the slot refuses it (R222 to R224; their order is the model's choice, log entry 30). -/
def TurnedDown (s : State) (k op : Nat) (r : MbResult) : Prop :=
  let m := s.slot k
  s.mailReady k = true ∧ s.mailTurn k = true ∧ leAt m.bytes 0 2 = op ∧
    ((m.failed = true ∧ r = .dmaError) ∨
     (m.failed = false ∧ (leAt m.bytes 2 2 ≠ 0 ∨ leAt m.bytes 4 4 ≠ (m.bytes.drop 16).length) ∧ r = .badFormat) ∨
     (m.failed = false ∧ leAt m.bytes 2 2 = 0 ∧ leAt m.bytes 4 4 = (m.bytes.drop 16).length ∧ s.gate k op (m.bytes.drop 16) = some r))

/-- A request with body `b` that has arrived at a slot (0 to 64) with an OP or in the serial port's session (65) in a frame of a type, where nothing refuses it before
its own checks and nothing makes it wait (R205, R211, R214, R223): `s1` is the state once the serial port's frame is answered. -/
def ArrivedAs (s : State) (src op type : Nat) (b : Bytes) (s1 : State) : Prop :=
  (src < 65 ∧ Served s src op b ∧ s1 = s) ∨
    (src = 65 ∧ s.life.wiped = false ∧ (opMirrored op b = true → s.pair.service = true ∧ s.journalFull = false) ∧
      s.keys.csp.terminal.isSome = true ∧ ∃ (fr : CspFrame) (rest : List CspFrame), s.keys.csp.frames = fr :: rest ∧ fr.good = true ∧
        fr.type = type ∧ fr.data = b ∧ s1 = (s.modCsp (fun x => { x with frames := rest, lastFrame := s.now })).cspReply fr true)

/-- A ceremony request that has arrived (R205, R214, R223). -/
def Arrived (s : State) (src : Nat) (b : Bytes) (s1 : State) : Prop := ArrivedAs s src 0x02 3 b s1

/-- A ceremony request that has arrived, of good format, its challenge outstanding, its time, window, signers, signatures and digest in order (R205, R206): `s2` is
the state once its challenge is used up. -/
def Accepted (s : State) (src : Nat) (c : Cer) (s2 : State) : Prop :=
  ∃ (b : Bytes) (s1 : State), Arrived s src b s1 ∧
    ceremonyFormat s.otp.uid b = some c ∧ s1.useChallenge c.challenge = some s2 ∧ s2.ceremonyFault c = none

/-- A ceremony of a kind refused in a state with a result: the event and the answer (R206, R216). -/
def refusal (s : State) (src tenant kind : Nat) (r : MbResult) : State :=
  (s.keyEvent .ceremonyRefused tenant kind r.code).answer src r []

/-- The format of a key-management request with operation `op` and body `b` (R198, R201): lengths, handles below LIMIT, fields in their ranges, reserved fields zero. -/
def KmFormat (s : State) (slot : Fin 65) (op : Nat) (b : Bytes) : Prop :=
  match op with
  | 0x20 => b.length = 48 ∧ s.kmHandle slot b 0 = true ∧ byteAt b 4 ≤ 1 ∧ byteAt b 5 ≤ 2 ∧ allZero (slice b 6 2) = true ∧ byteAt b 15 = 0 ∧
      1 ≤ byteAt b 8 ∧ byteAt b 8 ≤ 6 ∧ allZero (slice b 17 7) = true ∧
      (if byteAt b 8 = 6 then 1 ≤ byteAt b 16 ∧ byteAt b 16 ≤ 32 else byteAt b 16 = algLen (byteAt b 8))
  | 0x21 => s.kmHandle slot b 0 = true ∧ byteAt b 4 ≤ 1 ∧ byteAt b 5 ≤ 2 ∧ allZero (slice b 6 2) = true ∧ s.kmHandle slot b 8 = true ∧
      16 ≤ leAt b 12 4 ∧ leAt b 12 4 ≤ 8192 ∧ b.length = 40 + leAt b 12 4
  | 0x22 => b.length = 8 ∧ s.kmHandle slot b 0 = true ∧ s.kmHandle slot b 4 = true
  | 0x24 => b.length = 24 ∧ s.kmHandle slot b 0 = true ∧ allZero (slice b 4 4) = true
  | 0x25 => b.length = 8 ∧ s.kmHandle slot b 0 = true ∧ byteAt b 4 ≤ 3 ∧ allZero (slice b 5 3) = true
  | 0x26 => b.length = 8 ∧ byteAt b 0 ≤ 3 ∧ byteAt b 1 ≤ 3 ∧ byteAt b 0 ≠ byteAt b 1 ∧ allZero (slice b 2 6) = true
  | 0x29 => b.length = 136 ∧ s.kmHandle slot b 0 = true ∧ byteAt b 4 ≤ 1 ∧ allZero (slice b 5 3) = true ∧
      recordHandle (b.drop 8) = leAt b 0 4
  | 0x2A => s.kmHandle slot b 0 = true ∧ 16 ≤ leAt b 4 4 ∧ leAt b 4 4 ≤ 8192 ∧ b.length = 8 + leAt b 4 4
  | 0x2B => s.kmHandle slot b 0 = true ∧ 8 ≤ b.length ∧ b.length = 8 + leAt b 4 4
  | 0x2C => 8 ≤ b.length ∧ allZero (slice b 4 4) = true ∧ b.length = 8 + leAt b 0 4
  | 0x2D => b = []
  | _ => b.length = 8 ∧ s.kmHandle slot b 0 = true ∧ allZero (slice b 4 4) = true

/-- The authorised state (0 KEYMGMT, 1 EXPORT) that a key-management operation needs (R201). -/
def kmAuth (op : Nat) : Option Nat :=
  if op = 0x22 ∨ op = 0x2B then some 1 else if op = 0x27 ∨ op = 0x28 ∨ op = 0x2D then none else some 0

/-- The lines of the records that a key-management request names, the first to be written where the operation changes it (R235, R265). -/
def kmLines (s : State) (slot : Fin 65) (op : Nat) (b : Bytes) : List Want :=
  s.kmWants slot ([0x20, 0x21, 0x23, 0x24, 0x25, 0x29].contains op)
    (if op = 0x21 then [0, 8] else if op = 0x22 then [0, 4] else if op = 0x26 ∨ op = 0x2C ∨ op = 0x2D then [] else [0]) b

/-- A key-management request with operation `op` and body `b` runs on state `w`, which has the lines that it needs: it is served, its authorised state is open, and its
format holds (R198, R201, R265). -/
def KmRuns (s : State) (slot : Fin 65) (op : Nat) (b : Bytes) (w : State) : Prop :=
  Served s slot op b ∧ (∀ i, kmAuth op = some i → s.authorised slot i = true) ∧ KmFormat s slot op b ∧ s.wantLines (kmLines s slot op b) = (true, w)

/-- A sealed message of the partner that the Starter takes: a session key holds and the tag is good (R342, R345). -/
def Heard (s : State) (type : Nat) (seq : BitVec 16) (counter : BitVec 64) (data b : Bytes) : Prop :=
  s.rd Reg.STR_CTL_STARTER_EN = 1 ∧ s.pair.key.isSome = true ∧ s.strOpen type seq.toNat counter.toNat data = some b

/-- A state after a message of the partner with no other effect: the partner was heard and the message's counter is used (R342, R345). -/
def heardAt (s : State) (counter : BitVec 64) : State :=
  { s with pair := { s.pair with heard := s.now, counters := (s.pair.counters.1, counter.toNat + 1) } }

/-- The registers whose write is a command of its own, by the address of their first element. -/
def actingRegs : List Nat :=
  [0x50010000, 0x50010058, 0x20300000, 0x20302000, 0x20303000, 0x50110000, 0x50110018, 0x50080010, 0x50080060, 0x50080020, 0x50070000, 0x50070040,
    0x50090000, 0x50020000, 0x50060000, 0x500B0010, 0x500B0018, 0x50000000, 0x50000010, 0x50000090, 0x500000B0, 0x500000F8, 0x50000100, 0x500E0018,
    0x500E0028, 0x500D0000, 0x20305000, 0x500D1010, 0x20304010, 0x500C0000, 0x500C4000, 0x50100000, 0x50100030, 0x50100038, 0x50101000]

/-- The fields of a register after a write of `data` at byte `off` of it (R4, R321): RW fields take what the register would read with the bytes in place, W1C fields lose the
ones written, and a field keeps its value where its access code or a limit of the register tables says so. -/
def FieldsWritten (s t : State) (row : RegRow) (b off : Nat) (data : Bytes) : Prop :=
  let n := min data.length (row.bytes - off)
  let v := leToNat (data.take n)
  let rw := setBits (regReadRow s.regs row b) (8 * off) (8 * n) v
  ∀ f ∈ row.fields,
    (f.lo ∈ s.keeps row.base (b - row.base) rw ∨ f.access = .ro ∨ f.access = .wo ∨ f.access = .w1s → t.rd (f.field b) = s.rd (f.field b)) ∧
    (f.lo ∉ s.keeps row.base (b - row.base) rw → f.access = .rw → t.rd (f.field b) = bitsAt rw f.lo f.width) ∧
    (f.lo ∉ s.keeps row.base (b - row.base) rw → f.access = .w1c →
      t.rd (f.field b) = accessWrite .w1c (s.rd (f.field b)) (bitsAt (v * 2 ^ (8 * off)) f.lo f.width))

end Sys2Proof
end

