-- ==== Sys2Proof/Certificates/Slice0/Obligations.lean ====
section
/-! DEFINITION. The statements about the unit, for the provers. `s.runs n` says that the next instruction of core `n` runs: the
core is not stalled, halted or resetting, its program has not ended, no exception stands at the boundary, the budget holds and the fetch
lies in code that it may fetch (R77, R102, R108). -/

open Sys2Proof Sys2Proof.Machine

/-! ### The queue -/

/-! ### The Thaug core (chapter 4) -/

/-! ### Host commands: rings and vectors (chapter 2) -/

/-! ### The Proofer (chapter 3) -/

/-! ### The link ports (chapter 13) -/

/-! ### Memory protection, event recorder (chapters 18 and 19) -/

/-! ### Time base, entropy (chapter 12) -/

/-! ### Secret instructions of a core (chapters 5 and 6) -/

/-! ### The lookup tables (chapter 10) -/

/-! ### The management mailbox and the serial port (chapters 8, 9 and 20) -/

/-- A step runs the command at the front of the queue with the queue's rest, and does nothing else. -/
def Obligations.StepRunsFrontCommand : Prop :=
  ∀ (c : Instr) (rest : List Instr) (s : State), s.pending = c :: rest → step s = exec c { s with pending := rest }

/-- An empty queue lets one cycle of the time base pass, and no command runs (the model's choice, log entry 1). -/
def Obligations.IdleStepPassesOneCycle : Prop :=
  ∀ s : State, s.pending = [] →
    ∃ t, step s = .next t ∧ t.time.cyc = s.time.cyc + 1 ∧ Frame [.time, .keys, .regs] s t

/-- Every command completes in every state, and its effect leaves the queue of waiting commands alone: the spec gives each row an effect, and a row whose condition does not hold changes nothing. -/
def Obligations.EveryCommandCompletes : Prop :=
  ∀ (c : Instr) (s : State), ∃ t, exec c s = .next t ∧ t.pending = s.pending

/-- A programmed OTP bit never returns to 0 (R398, R399): no step clears a bit of a word of the array. -/
def Obligations.StepKeepsOtpBits : Prop :=
  ∀ s t : State, step s = .next t → OtpKeeps s.otp t.otp

/-- Every step keeps the canonical form of the tables of regions, cores and clusters, of every core's local memory and of every cluster's shared memory. -/
def Obligations.StepKeepsCanonicalForm : Prop :=
  ∀ s t : State, Canonical s → step s = .next t → Canonical t

/-- Right after reset (R374, R376, R378, R383; log entries 3 and 8): the tables are in canonical form, no command waits, every register field reads its reset value, the window is closed, the release stands at stage 0 after a
reset of L1, no core runs, and no level 1 key is there. -/
def Obligations.ResetState : Prop :=
  Canonical State.reset ∧ State.reset.pending = [] ∧ (∀ f : Field, State.reset.rd f = f.reset) ∧ State.reset.sys.window = false ∧
    State.reset.sys.stage = 0 ∧ State.reset.sys.releasing = 1 ∧ (∀ n, (State.reset.core n).run = none) ∧ State.reset.keys.root = none ∧
    State.reset.prf.entries = [] ∧ State.reset.store.st = .unformatted ∧ State.reset.pair.st = .unpaired ∧ State.reset.lc.code = 0

/-- The integer operations on three registers write their result, and nothing else of the unit changes but the program
counter (R85). A residue check that fails, at the place that the model's own field badAt names, ends the command with INTERNAL_CHECK and no exception, and counts for
the cluster's health (R102, R461; which instructions carry the check is the model's choice, log entry 69). DIGX reads a digit and DIGI replaces one, at the bits that R87 gives digit i (R85, R87). -/
def Obligations.IntegerAndDigits : Prop :=
  (∀ (s : State) (core : Fin 192) (gd ga gb : Fin 32), s.runs core = true →
     let a := s.getG core ga
     let b := s.getG core gb
     let sound : Prop := (s.core core).badAt ≠ some (s.core core).pc
     (sound → ∃ t, exec (.add core gd ga gb) s = .next t ∧ Result s t core gd (a + b)) ∧
     (sound → ∃ t, exec (.sub core gd ga gb) s = .next t ∧ Result s t core gd (a - b)) ∧
     (∃ t, exec (.and core gd ga gb) s = .next t ∧ Result s t core gd (a &&& b)) ∧
     (∃ t, exec (.or core gd ga gb) s = .next t ∧ Result s t core gd (a ||| b)) ∧
     (∃ t, exec (.xor core gd ga gb) s = .next t ∧ Result s t core gd (a ^^^ b)) ∧
     (∃ t, exec (.shl core gd ga gb) s = .next t ∧ Result s t core gd (BitVec.ofNat 64 (a.toNat * 2 ^ (b.toNat % 64)))) ∧
     (∃ t, exec (.shr core gd ga gb) s = .next t ∧ Result s t core gd (BitVec.ofNat 64 (a.toNat / 2 ^ (b.toNat % 64)))) ∧
     (∃ t, exec (.sar core gd ga gb) s = .next t ∧ Result s t core gd (BitVec.ofInt 64 (a.toInt / 2 ^ (b.toNat % 64)))) ∧
     (sound → ∃ t, exec (.mul core gd ga gb) s = .next t ∧ Result s t core gd (a * b)) ∧
     (sound → ∃ t, exec (.mulh core gd ga gb) s = .next t ∧
       Result s t core gd ((a.zeroExtend 128 * b.zeroExtend 128).extractLsb' 64 64)) ∧
     (sound → b ≠ 0#64 → ∃ t, exec (.div core gd ga gb) s = .next t ∧ Result s t core gd (BitVec.ofNat 64 (a.toNat / b.toNat))) ∧
     (sound → b ≠ 0#64 → ∃ t, exec (.rem core gd ga gb) s = .next t ∧ Result s t core gd (BitVec.ofNat 64 (a.toNat % b.toNat))) ∧
     (∃ t, exec (.cmp core gd ga gb) s = .next t ∧
       Result s t core gd (if a.toInt < b.toInt then BitVec.allOnes 64 else if a.toInt = b.toInt then 0#64 else 1#64)) ∧
     (∀ imm : BitVec 16, ∀ i ∈ [Instr.add core gd ga gb, .sub core gd ga gb, .mul core gd ga gb, .mulh core gd ga gb,
         .div core gd ga gb, .rem core gd ga gb, .addi core gd ga imm],
       (s.core core).user = true → ¬sound → ∃ u t, exec i s = .next t ∧ t = u.healthUp (core.val / 8) (core.val % 8) 2 ∧
         OnlyCore s u core { s.core core with
           residue := true, ending := some (.idle .internalCheck), user := false, stall := .none, epc := (s.core core).pc,
           pc := (u.core core).pc })) ∧
  (∀ (s : State) (core : Fin 192) (gd ga gb : Fin 32), s.runs core = true →
     let place (i : Nat) : Nat := 8 * (i / 2) + 4 * (1 - i % 2)
     (∃ t, exec (.digx core gd ga gb) s = .next t ∧
       Result s t core gd (((s.getG core ga) >>> (place ((s.getG core gb).toNat % 16))) &&& 0xF#64)) ∧
     (∃ t, exec (.digi core gd ga gb) s = .next t ∧
       let p := place ((s.getG core ga).toNat % 16)
       Result s t core gd (((s.getG core gd) &&& ~~~(0xF#64 <<< p)) ||| (((s.getG core gb) &&& 0xF#64) <<< p))))

/-- DIV and REM by zero write all ones and raise no exception: the core goes on to the next instruction (R86). -/
def Obligations.DivideByZero : Prop :=
  ∀ (s : State) (core : Fin 192) (gd ga gb : Fin 32), s.runs core = true → s.getG core gb = 0#64 →
      (s.core core).badAt ≠ some (s.core core).pc →
    (∃ t, exec (.div core gd ga gb) s = .next t ∧ Result s t core gd (BitVec.allOnes 64)) ∧
    (∃ t, exec (.rem core gd ga gb) s = .next t ∧ Result s t core gd (BitVec.allOnes 64))

/-- LUHN writes the ISO/IEC 7812 check digit of its n digits: the doubled sum of payload and check digit is a multiple of 10; all ones
where a payload nibble exceeds 9; ILLEGAL for n of 0 or above 18 (R88). -/
def Obligations.LuhnCheckDigit : Prop :=
  ∀ (s : State) (core : Fin 192) (gd ga gb n : Fin 32), s.runs core = true →
    let digit (i : Nat) : Nat :=
      if i < 16 then ((s.getG core ga).toNat / 2 ^ (8 * (i / 2) + 4 * (1 - i % 2))) % 16
      else ((s.getG core gb).toNat / 2 ^ (8 * ((i - 16) / 2) + 4 * (1 - (i - 16) % 2))) % 16
    let weight (i : Nat) : Nat :=
      if (n.val - 1 - i) % 2 = 0 then 2 * digit i / 10 + 2 * digit i % 10 else digit i
    (1 ≤ n.val → n.val ≤ 18 → (∀ i < n.val, digit i ≤ 9) →
      ∃ t, ∃ c : Nat, exec (.luhn core gd ga gb n) s = .next t ∧ Result s t core gd (BitVec.ofNat 64 c) ∧ c ≤ 9 ∧
        (((List.range n.val).map weight).sum + c) % 10 = 0) ∧
    (1 ≤ n.val → n.val ≤ 18 → (∃ i, i < n.val ∧ 9 < digit i) →
      ∃ t, exec (.luhn core gd ga gb n) s = .next t ∧ Result s t core gd (BitVec.allOnes 64)) ∧
    (n.val = 0 ∨ 18 < n.val → exec (.luhn core gd ga gb n) s = .next (s.exc core .illegal))

/-- The immediate forms: ADDI and LUI sign-extend, ANDI, ORI and XORI zero-extend; LUI with a non-zero ga field is no instruction
and takes ILLEGAL (R89). -/
def Obligations.IntegerImmediate : Prop :=
  ∀ (s : State) (core : Fin 192) (gd ga : Fin 32) (imm : BitVec 16), s.runs core = true →
    let a := s.getG core ga
    ((s.core core).badAt ≠ some (s.core core).pc → ∃ t, exec (.addi core gd ga imm) s = .next t ∧ Result s t core gd (BitVec.ofInt 64 (a.toInt + imm.toInt))) ∧
    (∃ t, exec (.andi core gd ga imm) s = .next t ∧ Result s t core gd (a &&& BitVec.ofNat 64 imm.toNat)) ∧
    (∃ t, exec (.ori core gd ga imm) s = .next t ∧ Result s t core gd (a ||| BitVec.ofNat 64 imm.toNat)) ∧
    (∃ t, exec (.xori core gd ga imm) s = .next t ∧ Result s t core gd (a ^^^ BitVec.ofNat 64 imm.toNat)) ∧
    (∃ t, exec (.lui core gd imm) s = .next t ∧ Result s t core gd (BitVec.ofInt 64 (imm.toInt * 65536))) ∧
    (∀ word : BitVec 32, word.toNat / 2 ^ 26 = 5 → word.toNat / 2 ^ 16 % 32 ≠ 0 →
      exec (.illegalOpcode core word) s = .next (s.exc core .illegal))

/-- LD.B, LD.H, LD.W and LD.D: a program's load of its data area or of its constants, a load at K of local or shared memory or of the internal
map, and every refusal: ALIGN before ACCESS (R17, R77, R90, R160). ST.B, ST.H, ST.W and ST.D: a store to local memory, a program's into its data area, writes the low bytes of gd, least significant first, at ga plus the
sign-extended immediate, and leaves every other byte, every register and every other core as it was; at K a store to shared memory writes the same bytes
there, and one from 2000_0000 upwards goes to the internal map; every refusal: ALIGN before ACCESS (R17, R77, R90, R160). -/
def Obligations.LoadsAndStores : Prop :=
  (∀ (s : State) (core : Fin 192) (gd ga : Fin 32) (imm : BitVec 16) (w : Nat) (i : Instr),
     (w, i) ∈ loadOf core gd ga imm → s.runs core = true →
     let a := (s.getG core ga + imm.signExtend 64).toNat
     (a % w ≠ 0 → exec i s = .next (s.excAt core .align a)) ∧
     (a % w = 0 → (s.core core).user = true → s.userLoadOk core a w = false → exec i s = .next (s.excAt core .access a)) ∧
     (a % w = 0 → ((s.core core).user = true ∧ s.userLoadOk core a w = true) ∨
         ((s.core core).user = false ∧ a < 0x20000000 ∧ s.kRefusal core .read a w = none) → s.racy core a w = false →
       ∃ t, exec i s = .next t ∧ Result s t core gd (BitVec.ofNat 64 (leToNat
         (if coreShared a then memRead (s.cluster (core / 8)).shared (a - 0x100000) w else memRead (s.core core).mem a w)))) ∧
     (a % w = 0 → (s.core core).user = false → 0x20000000 ≤ a → s.kRefusal core .read a w = none →
       (s.busRead a w = none → exec i s = .next (s.kRefused core a .read ⟨a, .unmapped, 0xFF⟩)) ∧
       (∀ b s1, s.busRead a w = some (b, s1) → ∃ t, exec i s = .next t ∧ Result s1 t core gd (BitVec.ofNat 64 (leToNat b)))) ∧
     (a % w = 0 → (s.core core).user = false → ∀ f, s.kRefusal core .read a w = some f →
       exec i s = .next (s.kRefused core a .read f))) ∧
  (∀ (s : State) (core : Fin 192) (gd ga : Fin 32) (imm : BitVec 16) (w : Nat) (i : Instr),
     (w, i) ∈ storeOf core gd ga imm → s.runs core = true →
     let a := (s.getG core ga + imm.signExtend 64).toNat
     (a % w ≠ 0 → exec i s = .next (s.excAt core .align a)) ∧
     (a % w = 0 → (s.core core).user = true → s.userStoreOk core a w = false → exec i s = .next (s.excAt core .access a)) ∧
     (a % w = 0 → coreLocal a = true →
       ((s.core core).user = true → s.userStoreOk core a w = true) →
       ((s.core core).user = false → s.kRefusal core .write a w = none) →
       ∃ t, exec i s = .next t ∧
         (∀ x, memByte (t.core core).mem x =
           if a ≤ x ∧ x < a + w then BitVec.ofNat 8 ((s.getG core gd).toNat / 2 ^ (8 * (x - a))) else memByte (s.core core).mem x) ∧
         t.core core = { s.core core with mem := (t.core core).mem, xfers := (t.core core).xfers, pc := (s.core core).pc + 4 } ∧
         (∀ m, m ≠ core.val → t.core m = s.core m) ∧ Frame [.cores] s t) ∧
     (a % w = 0 → (s.core core).user = false → coreShared a = true → s.kRefusal core .write a w = none →
       ∃ t, exec i s = .next t ∧
         (∀ x, memByte (t.cluster (core / 8)).shared x = if a - 0x100000 ≤ x ∧ x < a - 0x100000 + w
           then BitVec.ofNat 8 ((s.getG core gd).toNat / 2 ^ (8 * (x - (a - 0x100000)))) else memByte (s.cluster (core / 8)).shared x) ∧
         t.core core = { s.core core with pc := (s.core core).pc + 4 } ∧ (∀ m, m ≠ core.val → t.core m = s.core m) ∧
         (∀ c, c ≠ core.val / 8 → t.cluster c = s.cluster c) ∧ Frame [.cores, .clus] s t) ∧
     (a % w = 0 → (s.core core).user = false → 0x20000000 ≤ a → s.kRefusal core .write a w = none →
       let o := s.busWrite false a (natToLe w (s.getG core gd).toNat)
       (o = none → exec i s = .next (s.kRefused core a .write ⟨a, .unmapped, 0xFF⟩)) ∧
       (∀ s1, o = some s1 → ∃ t, exec i s = .next t ∧ OnlyCore s1 t core { s1.core core with pc := (s1.core core).pc + 4 })) ∧
     (a % w = 0 → (s.core core).user = false → ∀ f, s.kRefusal core .write a w = some f →
       exec i s = .next (s.kRefused core a .write f)))

/-- BEQ, BNE, BLT, BGE, BLTU and BGEU: not taken, the next instruction; taken inside the running program's code, the instruction at the
signed number of instructions from the branch, modulo 2^64; taken outside it, ACCESS at the target fetch (R83, R91). -/
def Obligations.ConditionalBranches : Prop :=
  ∀ (s : State) (core : Fin 192) (ga gb : Fin 32) (off16 : BitVec 16) (off14 : BitVec 14) (i : Instr) (taken : Bool) (off : Int),
    (i, taken, off) ∈ branchOf s core ga gb off16 off14 → s.runs core = true →
    let target := ((((s.core core).pc : Int) + 4 * off) % 2 ^ 64).toNat
    let at_ := s.modCore core (fun c => { c with pc := target })
    (taken = false → ∃ t, exec i s = .next t ∧ OnlyCore s t core { s.core core with pc := (s.core core).pc + 4 }) ∧
    (taken = true → at_.fetchOk core = true →
      ∃ t, exec i s = .next t ∧ OnlyCore s t core { s.core core with pc := target }) ∧
    (taken = true → at_.fetchOk core = false → exec i s = .next (at_.excAt core .access target))

/-- JAL writes the address of the next instruction to g31 and jumps; JR jumps to ga, and a target that is no multiple of 4 takes ALIGN
(R91). -/
def Obligations.Jumps : Prop :=
  ∀ (s : State) (core : Fin 192) (ga : Fin 32) (off : BitVec 26), s.runs core = true →
    let target := ((((s.core core).pc : Int) + 4 * off.toInt) % 2 ^ 64).toNat
    let linked := s.setG core 31 (BitVec.ofNat 64 ((s.core core).pc + 4))
    let reg := (s.getG core ga).toNat
    ((linked.modCore core (fun c => { c with pc := target })).fetchOk core = true →
      ∃ t, exec (.jal core off) s = .next t ∧ (t.core core).pc = target ∧
        t.getG core 31 = BitVec.ofNat 64 ((s.core core).pc + 4) ∧ (∀ q, q ≠ 31 → t.getG core q = s.getG core q) ∧
        t.core core = { s.core core with g := (t.core core).g, pc := target } ∧
        (∀ m, m ≠ core.val → t.core m = s.core m) ∧ Frame [.cores] s t) ∧
    (reg % 4 = 0 → (s.modCore core (fun c => { c with pc := reg })).fetchOk core = true →
      ∃ t, exec (.jr core ga) s = .next t ∧ OnlyCore s t core { s.core core with pc := reg }) ∧
    (reg % 4 ≠ 0 → exec (.jr core ga) s = .next (s.excAt core .align reg))

/-- The system instructions: FENCE, YIELD, WAIT, TRAP, ERET, CANCELQ (R75, R81, R92, R93). -/
def Obligations.SystemInstructions : Prop :=
  ∀ (s : State) (core : Fin 192) (gd : Fin 32) (mask : BitVec 4), s.runs core = true →
    let k := s.core core
    (mask.toNat / 8 = 0 ∨ s.unitsBusy core = false →
      ∃ t, exec (.fence core mask) s = .next t ∧
        OnlyCore s t core { k with fences := k.fences + mask.toNat / 4 % 2, pc := k.pc + 4 }) ∧
    (mask.toNat / 8 = 1 → s.unitsBusy core = true → exec (.fence core mask) s = .next s) ∧
    (∃ t, exec (.yield core) s = .next t ∧ OnlyCore s t core { k with pc := k.pc + 4 }) ∧
    (k.cancel = true → ∃ t, exec (.wait core) s = .next t ∧ OnlyCore s t core { k with pc := k.pc + 4 }) ∧
    (k.cancel = false → ∃ t, exec (.wait core) s = .next t ∧ OnlyCore s t core { k with pc := k.pc + 4, stall := .wait }) ∧
    (k.user = true → ∃ t, exec (.trapEnd core) s = .next t ∧ (t.core core).ending = some .trapEnd ∧
      (t.core core).user = false ∧ (∀ m, m ≠ core.val → t.core m = s.core m) ∧ Frame [.cores] s t) ∧
    (k.user = true → ∃ t, exec (.trapFail core) s = .next t ∧ (t.core core).ending = some .trapFail ∧
      (t.core core).user = false ∧ (∀ m, m ≠ core.val → t.core m = s.core m) ∧ Frame [.cores] s t) ∧
    (k.user = true → k.cancel = true → ∃ t, exec (.trapCancelAck core) s = .next t ∧
      (t.core core).ending = some .trapCancel ∧ (t.core core).user = false ∧
      (∀ m, m ≠ core.val → t.core m = s.core m) ∧ Frame [.cores] s t) ∧
    (k.user = true → k.cancel = false → exec (.trapCancelAck core) s = .next (s.exc core .illegal)) ∧
    (k.user = true → exec (.trapBrk core) s = .next (s.exc core .brk)) ∧
    (k.user = false → ∃ t, exec (.eret core) s = .next t ∧ OnlyCore s t core { k with user := true, pc := k.epc }) ∧
    (k.user = true → exec (.eret core) s = .next (s.exc core .illegal)) ∧
    (∃ t, exec (.cancelq core gd) s = .next t ∧ Result s t core gd (if k.cancel then 1#64 else 0#64))

/-- An exception at U, BREAK under a TRACE session apart, ends the running command: the cause is kept, the program counter is saved, the runtime runs, the
fault registers and the exception count of the core are written and PROGRAM_EXCEPTION is reported; a word that is no instruction takes
ILLEGAL in this way (R75, R84, R102, R116). -/
def Obligations.IllegalOpcodeEndsProgram : Prop :=
  ∀ (s : State) (core : Fin 192) (word : BitVec 32), s.runs core = true → (s.core core).user = true →
    legalWord true word = false →
    ∃ t, exec (.illegalOpcode core word) s = .next t ∧
      (t.core core).ending = some (.exception 1) ∧ (t.core core).user = false ∧ (t.core core).epc = (s.core core).pc ∧
      (t.core core).g = (s.core core).g ∧ (t.core core).mem = (s.core core).mem ∧ (t.core core).k = (s.core core).k ∧
      t.rd (Reg.CLU_CORE_FAULT_EXC (core.val / 8) (core.val % 8)) = 1 ∧
      (∃ a b c, Reported s t .programException (some (s.coreTenant core)) core.val a b c) ∧
      (∀ m, m ≠ core.val → t.core m = s.core m) ∧ Frame [.cores, .regs, .evr] s t

/-- MFS reads the status words, and takes ILLEGAL for a word that the level may not name; the remaining budget is open up to the package's (R94;
log entry 2). MTS writes PSTATUS, OUTLEN up to the output maximum, CSTATUS of the six values that R95 accepts, and at K the runtime's words; any other value or word
takes ILLEGAL (R94, R95). -/
def Obligations.StatusWords : Prop :=
  (∀ (s : State) (core : Fin 192) (gd : Fin 32), s.runs core = true →
     let k := s.core core
     let reads (w : BitVec 16) (v : Nat) : Prop := ∃ t, exec (.mfs core gd w) s = .next t ∧ Result s t core gd (BitVec.ofNat 64 v)
     reads 0 core.val ∧ reads 1 (s.coreTenant core) ∧ reads 5 s.time.now ∧ reads 6 s.time.state.val ∧
     (∀ w : BitVec 16, k.user = false → 0x20 ≤ w.toNat → w.toNat ≤ 0x2F →
       ∃ t, exec (.mfs core gd w) s = .next t ∧ Result s t core gd (tabGet 0#64 k.words (w.toNat - 0x20))) ∧
     reads 8 (s.constBase core) ∧ reads 0x10 k.pstatus ∧ reads 0x11 k.outLen ∧ reads 0x12 k.cstatus.code ∧
     (∀ e, s.coreEntry core = some e → reads 2 e.prog ∧ reads 3 e.cflags ∧ reads 4 (e.seqNo % 2 ^ 32)) ∧
     (∃ t, exec (.mfs core gd 7) s = .next t ∧ (t.core core).pc = k.pc + 4 ∧ (t.getG core gd).toNat ≤ (s.coreImage core).budget ∧ (∀ q, q ≠ gd.val → t.getG core q = s.getG core q) ∧
       Frame [.cores, .free] s t) ∧
     (∀ w : BitVec 16, mfsWord k.user w.toNat = false → exec (.mfs core gd w) s = .next (s.exc core .illegal))) ∧
  (∀ (s : State) (core : Fin 192) (ga : Fin 32), s.runs core = true →
     let k := s.core core
     let v := s.getG core ga
     (∃ t, exec (.mts core ga 0x10) s = .next t ∧ OnlyCore s t core { k with pstatus := v.toNat % 65536, pc := k.pc + 4 }) ∧
     (∃ t, exec (.mts core ga 0x11) s = .next t ∧
       OnlyCore s t core { k with outLen := min v.toNat (s.outMax core), pc := k.pc + 4 }) ∧
     (∀ st ∈ [Status.ok, .keyUsage, .keyExpired, .keyBlockIntegrity, .authFail, .replay], k.locked = false → v.toNat = st.code →
       ∃ t, exec (.mts core ga 0x12) s = .next t ∧ OnlyCore s t core { k with cstatus := st, pc := k.pc + 4 }) ∧
     (k.locked = false → (∀ st ∈ [Status.ok, .keyUsage, .keyExpired, .keyBlockIntegrity, .authFail, .replay], v.toNat ≠ st.code) →
       exec (.mts core ga 0x12) s = .next (s.exc core .illegal)) ∧
     (∀ w : BitVec 16, k.user = false → 0x20 ≤ w.toNat → w.toNat ≤ 0x2F →
       ∃ t, exec (.mts core ga w) s = .next t ∧
         OnlyCore s t core { k with words := tabSet 0#64 k.words (w.toNat - 0x20) v, pc := k.pc + 4 }) ∧
     (∀ w : BitVec 16, mtsWord k.user w.toNat = false → exec (.mts core ga w) s = .next (s.exc core .illegal)))

/-- TGET reads a field of the command's terminal context and TPUT writes it: the counter by a posted compare-and-write, the flags into copy and entry;
without a context both take ACCESS, a field above 4 takes ILLEGAL (before ACCESS where both hold: the model's choice, log entry 56). The bucket's stage
answers a posted counter: a newer one is written, any other makes CSTATUS REPLAY for good and is counted (R98, R250). RAND writes 64 bits that the core's generator delivers, and the generator moves on; while it can deliver none the core waits with its state unchanged
(R99). -/
def Obligations.TerminalContextAndRandom : Prop :=
  (∀ (s : State) (core : Fin 192) (r : Fin 32) (field : BitVec 16), s.runs core = true →
     let k := s.core core
     (∀ x, k.term = some x → field.toNat ≤ 4 →
       ∃ t, exec (.tget core r field) s = .next t ∧
         Result s t core r (BitVec.ofNat 64 ([x.counter, x.flags, x.age, x.port, x.id].getD field.toNat 0))) ∧
     (k.term = none → field.toNat ≤ 4 → ∀ i ∈ [Instr.tget core r field, .tput core r field], exec i s = .next (s.exc core .access)) ∧
     (4 < field.toNat → ∀ i ∈ [Instr.tget core r field, .tput core r field], exec i s = .next (s.exc core .illegal)) ∧
     (∀ x, k.term = some x →
       ∃ t, exec (.tput core r 0) s = .next t ∧
         OnlyCore s t core { k with term := some { x with counter := (s.getG core r).toNat },
                                    post := k.post ++ [(s.getG core r).toNat], pc := k.pc + 4 }) ∧
     (∀ x, k.term = some x →
       ∃ t, exec (.tput core r 1) s = .next t ∧
         OnlyCore { s with tab := t.tab, prf := t.prf, pair := t.pair } t core
           { k with term := some { x with flags := (s.getG core r).toNat % 65536 }, pc := k.pc + 4 } ∧
         (∀ y, k.run.isSome = true → s.term? (s.coreTenant core) x.id = some y →
           ((t.term? (s.coreTenant core) x.id).map (·.flags)) = some ((s.getG core r).toNat % 65536))) ∧
     (∀ x, k.term = some x → 2 ≤ field.toNat → field.toNat ≤ 4 → exec (.tput core r field) s = .next (s.exc core .access)) ∧
     (∀ x y v rest, k.term = some x → k.post = v :: rest → k.run.isSome = true → s.term? (s.coreTenant core) x.id = some y →
       y.counter < v → s.bit Reg.TBL_CTL_WT = false →
       ∃ t, exec (.terminalCounterWrite core) s = .next t ∧ t.core core = { k with post := rest } ∧
         ((t.term? (s.coreTenant core) x.id).map (·.counter)) = some v ∧ Frame [.cores, .tab, .prf, .pair] s t) ∧
     (∀ x y v rest, k.term = some x → k.post = v :: rest → s.term? (s.coreTenant core) x.id = some y → v ≤ y.counter →
       ∃ t, exec (.terminalCounterWrite core) s = .next t ∧ (t.core core).post = rest ∧ (t.core core).locked = true ∧
         (k.locked = false → (t.core core).cstatus = .replay) ∧
         t.rd (Reg.TBL_CNT_COUNT 6) = (s.rd (Reg.TBL_CNT_COUNT 6) + 1) % 2 ^ (Reg.TBL_CNT_COUNT 6).width ∧
         Frame [.cores, .regs] s t)) ∧
  (∀ (s : State) (core : Fin 192) (gd : Fin 32), s.runs core = true →
     (∀ b s1, s.coreDraw core 8 = some (b, s1) →
       ∃ t, exec (.rand core gd) s = .next t ∧ Result s1 t core gd (BitVec.ofNat 64 (leToNat b))) ∧
     (s.coreDraw core 8 = none → exec (.rand core gd) s = .next s))

/-- HGET and HPUT begin a transfer of the command's input or output: an inline part of the input is at hand, the rest is read from the host ranges in
segment order; a range that R96 refuses takes DMA_FAULT, one that the port's MPU refuses moves nothing and is reported, and a 17th outstanding transfer
stalls issue (R43, R96, R97, R421). HWAIT, its time-out, and the end of a transfer: bytes that have arrived land at the transfer's local address and nowhere else; an HPUT's bytes go to the port of
the completion ring (R97, R105, R316). -/
def Obligations.HostTransfers : Prop :=
  (∀ (s : State) (core : Fin 192) (gd ga gb : Fin 32) (e : Entry), s.runs core = true → s.coreEntry core = some e →
     let k := s.core core
     let loc := (s.getG core gd).toNat
     let off := (s.getG core ga).toNat
     let len := (s.getG core gb).toNat
     (s.dmaBad core loc off len e.inLen false = true → exec (.hget core gd ga gb) s = .next (s.exc core .dmaFault)) ∧
     (s.dmaBad core loc off len e.outMax true = true → exec (.hput core gd ga gb) s = .next (s.exc core .dmaFault)) ∧
     (s.dmaBad core loc off len e.inLen false = false → 16 ≤ k.openXfers → exec (.hget core gd ga gb) s = .next s) ∧
     (s.dmaBad core loc off len e.outMax true = false → 16 ≤ k.openXfers → exec (.hput core gd ga gb) s = .next s) ∧
     (s.dmaBad core loc off len e.inLen false = false → k.openXfers < 16 →
       let p := e.inlinePart off len
       let ranges := inputRanges e.inputs p.2.1 p.2.2
       (∀ r ∈ ranges, s.mpuFirst (4 + (s.sq e.tenant e.ring).cur) .host ⟨.u, some e.tenant, .read⟩ r.1 r.2 = none) →
       ∃ t x, exec (.hget core gd ga gb) s = .next t ∧ x.get = true ∧ x.loc = loc ∧ x.len = len ∧ x.off = off ∧ x.done = false ∧
         x.fail = none ∧ x.parts = (readParts ranges 0).length ∧
         (∀ b, e.inline = some b → off + len ≤ b.length → x.parts = 0 ∧ x.got = [(0, (b.drop off).take len)]) ∧
         t.core core = { k with xfers := k.xfers ++ [x], nextXfer := k.nextXfer + 1, pc := k.pc + 4 } ∧
         (∀ m, m ≠ core.val → t.core m = s.core m) ∧ Frame [.cores, .host, .regs] s t) ∧
     (s.dmaBad core loc off len e.outMax true = false → k.openXfers < 16 →
       let port := (s.cq e.tenant (s.sq e.tenant e.ring).cq).cur
       let check := s.mpuFirst (4 + port) .host ⟨.u, some e.tenant, .write⟩ (e.outAddr + off) len
       (check = none →
         ∃ t x, exec (.hput core gd ga gb) s = .next t ∧ x.get = false ∧ x.loc = loc ∧ x.len = len ∧ x.off = off ∧ x.done = false ∧
           x.fail = none ∧ x.fences = k.fences ∧
           OnlyCore s t core { k with xfers := k.xfers ++ [x], nextXfer := k.nextXfer + 1, outLen := max k.outLen (off + len),
                                      pc := k.pc + 4 }) ∧
       (∀ f, check = some f →
         ∃ t x, exec (.hput core gd ga gb) s = .next t ∧ x.get = false ∧ x.done = true ∧ x.fail = some .refused ∧
           (t.core core).xfers = k.xfers ++ [x] ∧ (t.core core).pc = k.pc + 4 ∧ (∀ m, m ≠ core.val → t.core m = s.core m) ∧
           (∃ a b c, Reported s t .mpuViolation (some e.tenant) (mpuMaster (4 + port)) a b c) ∧ Frame [.cores, .regs, .evr] s t))) ∧
  (∀ (s : State) (core : Fin 192),
     let k := s.core core
     (s.runs core = true → k.openXfers = 0 → (∀ x ∈ k.xfers, x.fail = none) →
       ∃ t, exec (.hwait core) s = .next t ∧ OnlyCore s t core { k with xfers := [], stall := .none, pc := k.pc + 4 }) ∧
     (s.runs core = true → k.openXfers ≠ 0 →
       ∃ t, exec (.hwait core) s = .next t ∧ OnlyCore s t core { k with stall := .hwait s.now }) ∧
     (∀ since, k.user = true → k.stall = .hwait since → k.ending = none → since + s.opTimeout ≤ s.now →
       ∃ t, exec (.hwaitTimeout core) s = .next t ∧ (t.core core).ending = some (.exception 8) ∧
         (t.core core).linkAborted = true ∧ (t.core core).stall = .none ∧ Frame [.cores, .regs, .evr] s t) ∧
     (∀ e x b, s.coreEntry core = some e → k.xfers = [x] → x.get = true → x.done = false → x.parts = 0 → x.fail = none →
       k.ending = none → k.stall = .none → x.got = [(0, b)] → b.length = x.len →
       ∃ t, exec (.hostTransferDone core x.num) s = .next t ∧
         (∀ a, memByte (t.core core).mem a = if x.loc ≤ a ∧ a < x.loc + x.len then b.getD (a - x.loc) 0#8
           else memByte k.mem a) ∧
         (t.core core).xfers = [{ x with done := true }] ∧ (∀ m, m ≠ core.val → t.core m = s.core m) ∧ Frame [.cores] s t) ∧
     (∀ e x, s.coreEntry core = some e → k.xfers = [x] → x.get = false → x.done = false → x.raced = false → k.stall = .none →
       let port := (s.cq e.tenant (s.sq e.tenant e.ring).cq).cur
       ∃ t, exec (.hostTransferDone core x.num) s = .next t ∧ (t.core core).xfers = [{ x with done := true }] ∧
         (t.core core).mem = k.mem ∧ (∀ m, m ≠ core.val → t.core m = s.core m) ∧ Frame [.cores, .host, .regs] s t ∧
         (s.pair.st ≠ .gaveUp → 1 ≤ x.len → (e.outAddr + x.off) % 256 + x.len ≤ 256 →
           Handed (t.port port) .mwr (e.outAddr + x.off) (memRead k.mem x.loc x.len))))

/-- COMMAND_START gives the core to the staged command with the registers of R78 and the keys of its handles, in U at the start of its
program's code, with the descriptor image in the runtime area, the code in the code area and the data area as it was. It waits for the lines of an image that neither the
core nor shared memory holds, and a command whose image cannot be read ends (R77, R78, R104, R115, R267). COMMAND_END, with nothing outstanding and no failed transfer, zeroises every register of the core, clears its data area, ends the command's
entry with the status that R103 gives and frees the core (R79, R103, R105). -/
def Obligations.CommandsOnCores : Prop :=
  (∀ (s : State) (core : Fin 192) (e : Entry), s.stagedOn core = some e →
     (s.core core).run = none → (s.core core).ending = none → (s.core core).resetting = none →
     let im := (s.image? e.image).getD Image.none
     let here := s.imageAtHand core e.image
     let lines := s.wantLines im.wants
     (here = false → lines.1 = false → exec (.commandStart core) s = .next lines.2) ∧
     (∀ st, here = false → lines.1 = true → s.imageStatus im = some st → (s.entry? e.id).isSome = true →
       ∃ t, exec (.commandStart core) s = .next t ∧ Ended t e.id st) ∧
     ((∀ i < 4, ∀ k, e.slotKey i = some k → s.bindCheck im.usage i k = none) → im.code.length ≤ 49152 → e.descr.length ≤ 128 →
       here = true ∨ (lines.1 = true ∧ s.imageStatus im = none) →
     ∃ t, exec (.commandStart core) s = .next t ∧ (t.core core).user = true ∧ (t.core core).run = some e.id ∧
       (t.core core).image = e.image ∧ (t.core core).pc = codeBase core im ∧ (t.core core).ending = none ∧
       t.getG core 1 = BitVec.ofNat 64 e.arg ∧ t.getG core 2 = BitVec.ofNat 64 e.inLen ∧
       t.getG core 3 = BitVec.ofNat 64 e.outMax ∧ t.getG core 30 = 0x20000#64 ∧
       (∀ r, r ≠ 1 → r ≠ 2 → r ≠ 3 → r ≠ 30 → t.getG core r = 0#64) ∧
       (∀ i < 4, tabGet none (t.core core).k i = e.slotKey i) ∧ 
       (∀ a, 0x10000 ≤ a → memByte (t.core core).mem a = memByte (s.core core).mem a) ∧
       (∀ a < e.descr.length, memByte (t.core core).mem (64 * (Config.descPlace % 252) + a) = e.descr.getD a 0#8) ∧
       (s.resident core e.image = false →
         ∀ a < im.code.length, memByte (t.core core).mem (codeBase core im + a) = im.code.getD a 0#8) ∧
       (∀ x ∈ t.prf.entries, x.id = e.id → x.phase = .running core)) ∧
     (∀ i < 4, ∀ k st, e.slotKey i = some k → s.bindCheck im.usage i k = some st →
       (∀ j < i, ∀ k', e.slotKey j = some k' → s.bindCheck im.usage j k' = none) → here = true →
       ∃ t, exec (.commandStart core) s = .next t ∧ (t.core core).ending = some (.start st 0) ∧ (t.core core).user = false ∧
         (t.core core).run = some e.id)) ∧
  (∀ (s : State) (core : Fin 192) (id : Nat), s.endReady core = true → (s.core core).run = some id →
     (∀ x ∈ (s.core core).xfers, x.fail = none) → (s.entry? id).isSome = true →
     ∃ t, exec (.commandEnd core) s = .next t ∧ (t.core core).run = none ∧ (t.core core).user = false ∧
       (∀ r, t.getG core r = 0#64) ∧ (t.core core).k = [] ∧ (t.core core).sreg = [] ∧ (t.core core).ctx = [] ∧
       (∀ a, 0x10000 ≤ a → a < 0x20000 → memByte (t.core core).mem a = 0#8) ∧
       (∃ x ∈ t.prf.entries, x.id = id ∧ x.phase = .ended ∧ x.status = ((s.core core).outcome).1 ∧
         x.pstatus = ((s.core core).outcome).2) ∧
       (∀ m, m ≠ core.val → t.core m = s.core m))

/-- The requests on a core: an idle request ends the program with its status, the budget marks it, a reset clears it and ends
(R107, R108, R116). That the supervisor's idle request names ABORTED is the model's reading (log entry 15). -/
def Obligations.CoreRequests : Prop :=
  ∀ (s : State) (core : Fin 192),
    let k := s.core core
    (∀ st, k.idleReq = some st → k.run.isSome = true → k.ending = none →
      ∃ t, exec (.idleRequestTaken core) s = .next t ∧ (t.core core).ending = some (.idle st) ∧
        (t.core core).idleReq = none ∧ (t.core core).user = false ∧ (∀ m, m ≠ core.val → t.core m = s.core m) ∧
        Frame [.cores] s t) ∧
    (k.user = true → k.run.isSome = true → k.ending = none →
      ∃ t, exec (.budgetExhausted core) s = .next t ∧ OnlyCore s t core { k with budgetOut := true }) ∧
    (k.resetting = none →
      ∃ t, exec (.coreResetRequest core) s = .next t ∧ (t.core core).resetting = some 3 ∧ (t.core core).run = none ∧
        (t.core core).mem = [] ∧ (t.core core).k = [] ∧ (t.core core).sreg = [] ∧ (∀ r, t.getG core r = 0#64)) ∧
    (∃ t, exec (.coreResetDone core) s = .next t ∧ OnlyCore s t core { k with resetting := none }) ∧
    (k.run.isSome = true →
      ∃ t, exec (.coreIdleRequest core) s = .next t ∧
        OnlyCore s t core { k with idleReq := some (k.idleReq.getD .aborted) })

/-- A submission doorbell by the table of R27: a valid tail is taken; a tail out of range stops the ring with ERROR and is
recorded; one that finds the page closed, the ring stopped, or another port current is dropped and recorded. A completion doorbell advances HEAD; one that would move it backwards or past TAIL is ignored and recorded (R27). -/
def Obligations.Doorbells : Prop :=
  (∀ (s : State) (port : Fin 4) (t : Fin 64) (q : Fin 16) (tail : BitVec 16), s.hostIn port = true →
     let r := s.sq t q
     let open_ := s.pageOpen t = true ∧ r.running = true ∧ r.cur = port.val ∧ s.tenantResetting t = false
     let good := diff16 tail.toNat r.head ≤ ringSize r.log2 ∧ diff16 r.tail r.head ≤ diff16 tail.toNat r.head
     (open_ → good → ∃ u, exec (.sqDoorbell port t q tail) s = .next u ∧ u.sq t q = { r with tail := tail.toNat } ∧
       (∀ i j, 16 * i + j ≠ 16 * t.val + q.val → u.sq i j = s.sq i j) ∧ u.host.cq = s.host.cq ∧ u.host.iv = s.host.iv ∧
       Frame [.host, .regs] s u) ∧
     (open_ → ¬ good → ∃ u, exec (.sqDoorbell port t q tail) s = .next u ∧ u.sq t q = { r with error := true } ∧
       Reported s u .doorbellInvalid (some t) (srcPort port) q port tail.toNat ∧ Frame [.host, .regs, .evr] s u) ∧
     (¬ open_ → ∃ u, exec (.sqDoorbell port t q tail) s = .next u ∧ u.host.sq = s.host.sq ∧
       Reported s u .doorbellDropped (some t) (srcPort port) q port tail.toNat ∧ Frame [.host, .regs, .evr] s u)) ∧
  (∀ (s : State) (port : Fin 4) (t : Fin 64) (q : Fin 16) (head : BitVec 16), s.hostIn port = true → s.pageOpen t = true →
     let r := s.cq t q
     (diff16 head.toNat r.head ≤ diff16 r.tail r.head →
       ∃ u, exec (.cqDoorbell port t q head) s = .next u ∧ u.cq t q = { r with head := head.toNat } ∧ u.host.sq = s.host.sq ∧
         Frame [.host, .regs] s u) ∧
     (diff16 r.tail r.head < diff16 head.toNat r.head →
       ∃ u, exec (.cqDoorbell port t q head) s = .next u ∧ u.host.cq = s.host.cq ∧
         Reported s u .cqHeadInvalid (some t) (srcPort port) q port head.toNat ∧ Frame [.host, .regs, .evr] s u))

/-- A ring reset stops the ring and ends ABORTED every command of it that is not dispatched; while a read or a command of it is outstanding the reset goes
on; once they are gone the ring is empty and disabled, and on its bound port where that is ACTIVE; a completion ring's reset empties it where R25 allows it and is ignored
elsewhere (R25, R28, R326). That the reset waits for what the ring wrote on its alternate port is the model's reading of R45 (log entry 24). Setting ENABLE of a submission ring: refused without change where the completion ring is bound otherwise (R23), refused and recorded
where no region of the port's MPU covers the ring (R420), else set; clearing it is never refused; a write during a ring reset or to a closed page is ignored (R21,
R28). -/
def Obligations.RingEnableAndReset : Prop :=
  (∀ (s : State) (t : Fin 64) (q : Fin 16),
     let r := s.sq t q
     (s.pageOpen t = true → r.resetting = false →
       ∃ u, exec (.sqRingReset t q) s = .next u ∧ (u.sq t q).resetting = true ∧
         (∀ e ∈ u.prf.entries, e.tenant = t.val → e.ring = q.val → e.phase ≠ .waiting) ∧
         (∀ e ∈ s.prf.entries, e.tenant = t.val → e.ring = q.val → e.phase = .waiting → Ended u e.id .aborted) ∧
         Frame [.host, .prf, .tab, .evr, .keys] s u) ∧
     (s.pageOpen t = false ∨ r.resetting = true → exec (.sqRingReset t q) s = .next s) ∧
     (r.resetting = true → r.fetch = none → (∀ e ∈ s.prf.entries, ¬ (e.tenant = t.val ∧ e.ring = q.val)) →
       s.entryUnwritten t q = false → (s.port r.altPort).ringUnacked t q = false →
       ∃ u, exec (.ringResetDone t q) s = .next u ∧ (u.sq t q).head = 0 ∧ (u.sq t q).tail = 0 ∧ (u.sq t q).error = false ∧
         (u.sq t q).enable = false ∧ (u.sq t q).resetting = false ∧ (u.sq t q).base = r.base ∧
         (s.portActive r.port = true → (u.sq t q).onAlt = false ∧ (u.sq t q).held = false) ∧ Frame [.host] s u) ∧
     (r.fetch.isSome = true ∨ (∃ e ∈ s.prf.entries, e.tenant = t.val ∧ e.ring = q.val) ∨ r.resetting = false →
       exec (.ringResetDone t q) s = .next s) ∧
     (s.pageOpen t = true →
       (∀ k < 16, (s.sq t k).cq = q.val → (s.sq t k).enable = false ∧ s.entryUnwritten t k = false ∧
         ∀ e ∈ s.prf.entries, ¬ (e.tenant = t.val ∧ e.ring = k)) →
       ∃ u, exec (.cqRingReset t q) s = .next u ∧ u.cq t q = { s.cq t q with head := 0, tail := 0, phase := true } ∧
         u.host.sq = s.host.sq ∧ Frame [.host] s u) ∧
     ((∃ k < 16, (s.sq t k).cq = q.val ∧ ((s.sq t k).enable = true ∨ s.entryUnwritten t k = true ∨
         ∃ e ∈ s.prf.entries, e.tenant = t.val ∧ e.ring = k)) ∨ s.pageOpen t = false → exec (.cqRingReset t q) s = .next s)) ∧
  (∀ (s : State) (t : Fin 64) (q : Fin 16),
     (∀ b, s.pageOpen t = false ∨ (s.sq t q).resetting = true → exec (.sqEnable t q b) s = .next s) ∧
     (s.pageOpen t = true → (s.sq t q).resetting = false →
     let r := s.sq t q
     let c := s.cqOf t q
     let bound := c.port = r.port ∧ c.altValid = r.altValid ∧ (r.altValid = true → c.altPort = r.altPort)
     let covered := s.areaCovered r.port (if r.altValid then some r.altPort else none) t (r.base * 4096) (ringSize r.log2 * 64) false
     (∃ u, exec (.sqEnable t q false) s = .next u ∧ u.sq t q = { r with enable := false } ∧ Frame [.host] s u) ∧
     (¬ bound → exec (.sqEnable t q true) s = .next s) ∧
     (bound → covered = false → ∃ u, exec (.sqEnable t q true) s = .next u ∧ u.host = s.host ∧
       Reported s u .ringAreaRefused none (srcPort r.port) t (joined q 1) r.port ∧ Frame [.evr] s u) ∧
     (bound → covered = true → ∃ u, exec (.sqEnable t q true) s = .next u ∧ u.sq t q = { r with enable := true } ∧
       Frame [.host] s u)))

/-- The message of a vector: a due message, when its port's MPU lets it pass and no counted entry is unacknowledged on another port, goes to the port and clears the pending count; by whichever command it falls due. A control write
clears the count first where PENDING is written 1, and takes the new fields (R44, R320). The port writes its oldest completion entry, once the command's data packets are sent, as one 32-byte write into the slot of its completion
ring, and counts it on the ring's vector where NOTIFY asks for it; an entry that the port's MPU refuses waits and is reported (R37, R38, R44, R322, R421). -/
def Obligations.InterruptsAndCompletions : Prop :=
  (∀ (s : State) (t : Fin 64) (v : Fin 16) (value : BitVec 64),
     let i := s.iv t v
     let n := ((i.counted.getLast?).map (·.port)).getD (s.sq t 0).cur
     let free_ := s.pair.st ≠ .gaveUp ∧ i.refused ≠ some n ∧ (∀ c ∈ i.counted, c.port ≠ n → (s.port c.port).unacked c.pkt = false) ∧
       s.mpuFirst (4 + n) .host ⟨.u, some t, .write⟩ (i.addr * 4) 4 = none
     (∀ c ∈ [Instr.coalesceTimerExpiry t v, Instr.interruptMessageSend t v],
       (i.due s.now = true → free_ → ∃ u, exec c s = .next u ∧ (u.iv t v).p = 0 ∧ (u.iv t v).pending = false ∧
         Handed (u.port n) .msg (i.addr * 4) (natToLe 4 i.data) ∧ Frame [.host, .regs] s u) ∧
       (i.due s.now = false → exec c s = .next s)) ∧
     (s.pageOpen t = false → exec (.ivCtrlWrite t v value) s = .next s) ∧
     (s.pageOpen t = true → value.toNat.testBit 34 = true ∨ value.toNat.testBit 33 = false ∨ value.toNat.testBit 35 = true ∨ i.p = 0 →
       ∃ u, exec (.ivCtrlWrite t v value) s = .next u ∧ (u.iv t v).mask = value.toNat.testBit 34 ∧
         (u.iv t v).enable = value.toNat.testBit 33 ∧ (u.iv t v).count = value.toNat / 2 ^ 36 % 256 ∧
         (u.iv t v).timer = value.toNat / 2 ^ 44 % 65536 ∧ (u.iv t v).data = value.toNat % 2 ^ 32 ∧
         (u.iv t v).p = (if value.toNat.testBit 35 then 0 else i.p) ∧ Frame [.host] s u)) ∧
  (∀ (s : State) (port : Fin 4) (c : CplEntry) (rest : List CplEntry), (s.port port).entries = c :: rest →
     (s.port port).hputsSent c.entry = true → (s.sq c.tenant c.ring).held = false → c.refused = false → s.pair.st ≠ .gaveUp →
     let r := s.cq c.tenant c.cq
     let a := r.base * 4096 + c.slot % ringSize r.log2 * 32
     let check := s.mpuFirst (4 + port) .host ⟨.u, some c.tenant, .write⟩ a 32
     (∀ f, check = some f → ∃ u, exec (.completionEntryWrite port) s = .next u ∧
       (u.port port).entries.head? = some { c with refused := true } ∧ (u.port port).sent = (s.port port).sent ∧
       (∃ x y z, Reported s u .mpuViolation (some c.tenant) (mpuMaster (4 + port)) x y z) ∧ Frame [.host, .regs, .evr] s u) ∧
     (check = none → c.notify = false ∨ (s.iv c.tenant r.vector).enable = false →
       ∃ u, exec (.completionEntryWrite port) s = .next u ∧ (u.port port).entries = rest ∧
       Handed (u.port port) .mwr a c.bytes ∧ u.host.iv = s.host.iv ∧ Frame [.host, .regs] s u) ∧
     (check = none → c.notify = true → (s.iv c.tenant r.vector).enable = true → (s.iv c.tenant r.vector).mask = true →
       ∃ u, exec (.completionEntryWrite port) s = .next u ∧ (u.port port).entries = rest ∧
         Handed (u.port port) .mwr a c.bytes ∧ (u.iv c.tenant r.vector).p = (s.iv c.tenant r.vector).p + 1 ∧
         (u.iv c.tenant r.vector).pending = true ∧ Frame [.host, .regs] s u))

/-- The Proofer fetches the covered slots of the next ring in round robin, at most eight and never past the ring's end, and enters what has arrived, moving HEAD
on by the slots fetched; a descriptor that passes its checks becomes one entry with its tag, and one that fails a check of R34 ends DESCRIPTOR_INVALID with the
check's number (R22, R30, R34, R35, R49, R50). Arrival waits while the journal is full, and for the flow contexts that lie in the sealed store (R51, R349). -/
def Obligations.DescriptorsFetchedAndEntered : Prop :=
  (∀ (s : State) (k : Nat), k < 1024 →
    let i := (s.prf.rr + 1 + k) % 1024
    let r := s.sq (i / 16) (i % 16)
    s.mayFetch (i / 16) (i % 16) = true →
    (∀ j < k, s.mayFetch ((s.prf.rr + 1 + j) % 1024 / 16) ((s.prf.rr + 1 + j) % 1024 % 16) = false) →
    let check := s.mpuFirst (4 + r.cur) .host ⟨.u, some (i / 16), .read⟩ (r.base * 4096 + r.head % ringSize r.log2 * 64) (64 * r.fetchable)
    (check = none → ∃ u, exec .descriptorFetch s = .next u ∧ u.prf.rr = i ∧
      (u.sq (i / 16) (i % 16)).fetch = some ⟨r.fetchable, none, false⟩ ∧ r.fetchable ≤ 8 ∧
      r.fetchable ≤ diff16 r.tail r.head ∧ Frame [.prf, .host, .regs, .evr] s u) ∧
    (∀ f, check = some f → ∃ u, exec .descriptorFetch s = .next u ∧ u.prf.rr = i ∧
      u.sq (i / 16) (i % 16) = { r with error := true } ∧ Frame [.prf, .host, .regs, .evr] s u)) ∧
  (∀ s : State, (∀ i < 1024, s.mayFetch (i / 16) (i % 16) = false) →
    ∃ u, exec .descriptorFetch s = .next u ∧ u.host = s.host ∧ Frame [.prf, .evr] s u) ∧
  (∀ (s : State) (t : Fin 64) (q : Fin 16) (f : FetchRead) (data : Bytes), (s.sq t q).fetch = some f → f.data = some data →
    let r := s.sq t q
    let slots := chunks 64 (fitTo (64 * f.slots) data)
    let flows := s.wantFlows t q slots
    let b := fitTo 64 data
    let d := if r.d2 then descD2 b q else descD3 b (zeros 64)
    let one := f.slots = 1 ∧ r.carry = none ∧ s.pair.service = true ∧ (r.d2 = false → b.getD 0 0#8 &&& 0x10#8 = 0#8 ∧ d.seg = 0 ∧ d.ctrl = false)
    (s.journalFull = true → exec (.descriptorArrival t q) s = .next s) ∧
    (s.journalFull = false → flows.1 = false ∨ flows.2.flowsWait t = true → exec (.descriptorArrival t q) s = .next flows.2) ∧
    (s.journalFull = false → flows = (true, s) → s.flowsWait t = false →
      ∃ u, exec (.descriptorArrival t q) s = .next u ∧ (u.sq t q).fetch = none ∧
        (u.sq t q).head % 65536 = (r.head + f.slots) % 65536 ∧
        (one → s.descFault t r.d2 b d = none → ∃ e ∈ u.prf.entries, e.id = s.prf.nextId ∧ e.tenant = t.val ∧ e.ring = q.val ∧
          e.prog = d.prog ∧ e.flow = d.flow ∧ e.d2 = r.d2 ∧ e.tag = d.tag ∧ e.arg = d.arg) ∧
        (∀ n, one → s.descFault t r.d2 b d = some n → ∃ e ∈ u.prf.entries, e.id = s.prf.nextId ∧ e.tenant = t.val ∧ e.ring = q.val ∧
          e.tag = d.tag ∧ e.phase = .ended ∧ e.status = .descriptorInvalid ∧ e.pstatus = n)))

/-- A cancel reaches every command of the ring with the tag that no cancel has reached: one that waits ends CANCELLED, a running one has its cancel flag
set (R41, R67). A release hands the completion entry to the port of the completion ring, advances that ring's TAIL and takes the command out of the
store; a command whose conditions do not hold stays (R37, R68, R69). -/
def Obligations.CancelAndRelease : Prop :=
  (∀ (s : State) (t : Fin 64) (ring : Fin 16) (tag : BitVec 64), ∃ u, exec (.cancel t ring tag) s = .next u ∧
     (∀ e ∈ s.cancelTargets t ring tag.toNat, e.phase = .waiting → Ended u e.id .cancelled) ∧
     (∀ e ∈ s.cancelTargets t ring tag.toNat, ∀ n, e.phase = .running n → (s.core n).run = some e.id →
       (u.core n).cancel = true)) ∧
  (∀ (s : State) (id : Nat) (e : Entry), s.entry? id = some e →
     let r := s.sq e.tenant e.ring
     let c := s.cq e.tenant r.cq
     (s.mayRelease e = true → ∃ u, exec (.completionRelease id) s = .next u ∧ (∀ x ∈ u.prf.entries, x.id ≠ id) ∧
       (u.cq e.tenant r.cq).tail = (c.tail + 1) % 65536 ∧
       (u.port c.cur).entries = (s.port c.cur).entries ++ [⟨e.tenant, e.ring, r.cq, c.tail, e.id, s.completion e, e.notify, false⟩]) ∧
     (s.mayRelease e = false → exec (.completionRelease id) s = .next s))

/-- The timed outcomes of a waiting entry: TIME is set at its not-before time; it ends DEADLINE_MISSED at its deadline, and OPERAND_TIMEOUT or
ENTROPY_UNAVAILABLE with the missing readiness bits as program status when the operand time-out has passed: that of KEYS and TCTX runs from the start of their resolution,
that of SEGS and RAND from the entry of the first segment (R53, R60, R61, R66). Spilling goes on until occupancy is at LOW, nothing waits on chip or the area has no room for the next entry, once the lines that it writes can be written; the
wait counters are cleared by HCLR, and a drained cluster serves no dispatch until it is returned (R70, R463). -/
def Obligations.TimesAndSpills : Prop :=
  (∀ (s : State) (id : Nat) (e : Entry), s.entry? id = some e → e.inStore = true →
     (e.notBefore ≤ s.now → ∃ u, exec (.notBeforeReached id) s = .next u ∧
       (∀ x ∈ u.prf.entries, x.id = id → x.time = true) ∧ Frame [.prf] s u) ∧
     (e.deadline ≠ 0 → e.deadline ≤ s.now → s.tenantResetting e.tenant = false → e.cancelled = false →
       ∃ u, exec (.deadlineReached id) s = .next u ∧ Ended u id .deadlineMissed) ∧
     let late := ((e.keys = false ∨ e.tctxOk = false) ∧ e.spilled = false ∧ e.opStart + s.opTimeout ≤ s.now) ∨
       ((e.segsOk = false ∨ s.randOk e = false) ∧ e.created + s.opTimeout ≤ s.now)
     (late → s.tenantResetting e.tenant = false → e.cancelled = false → e.deadline = 0 → e.member = false →
       ∃ u, exec (.operandTimeoutExpiry id) s = .next u ∧
         (∃ x ∈ u.prf.entries, x.id = id ∧ x.phase = .ended ∧
           x.status = (if s.randOk e then .operandTimeout else .entropyUnavailable) ∧ x.pstatus = 255 - s.readyMask e) ∧
         (∃ l, u.evr.inbox = s.evr.inbox ++ l ∧ ∃ y ∈ l, y.ev = .operandTimeout ∧ y.tenant = some e.tenant)) ∧
     (¬ late → exec (.operandTimeoutExpiry id) s = .next s)) ∧
  ((∀ s : State, s.spillHigh < s.onChip → s.rd Reg.PRF_SPILL_AREA_LINES ≠ 0 →
     let s2 := State.spillSome s.prf.entries.length (s.emit .spillStarted none (Config.blockSource 0) s.onChip s.spilledCells 0)
     let on := (s.prf.entries.filter (fun e => !e.spilled)).map (·.id)
     let w := s.wantLines ((s2.linesOf on).map (fun n => ⟨s.rd Reg.PRF_SPILL_AREA_BASE + n, false, true, 0⟩))
     (w.1 = false → exec .spill s = .next w.2) ∧
     (w.1 = true → ∃ u, exec .spill s = .next u ∧
       u.prf.entries.filter (fun e => !e.spilled) = s2.prf.entries.filter (fun e => !e.spilled) ∧
       (s2.onChip ≤ s.rd Reg.PRF_SPILL_CFG_LOW ∨ (∀ e ∈ s2.prf.entries, e.inStore = true → e.spilled = true) ∨
         (∃ e ∈ s2.prf.entries, e.inStore = true ∧ e.spilled = false ∧ s2.spillRoom < e.cells)))) ∧
   (∀ s : State, s.onChip ≤ s.spillHigh ∨ s.rd Reg.PRF_SPILL_AREA_LINES = 0 → exec .spill s = .next s) ∧
   (∀ s : State, ∃ u, exec .prfHclr s = .next u ∧
     (∀ f : Field, 0x50012000 ≤ f.addr → f.addr < 0x50013000 → f.lo < 64 → u.rd f = f.reset) ∧
     (∀ f : Field, f.lo < 64 → f.addr < 0x50012000 ∨ 0x50013000 ≤ f.addr → u.rd f = s.rd f) ∧ Frame [.regs] s u) ∧
   (∀ (s : State) (cluster : Fin 24), s.bit Reg.PRF_DRAIN_REQ = false →
     (∃ u, exec (.clusterDrainRequest cluster true) s = .next u ∧ u.clusterServes cluster = false ∧
       u.bit Reg.PRF_DRAIN_REQ = true ∧ u.rd Reg.PRF_DRAIN_CLUSTER = cluster.val ∧ Frame [.regs, .prf] s u) ∧
     (∃ u, exec (.clusterDrainRequest cluster false) s = .next u ∧ u.bit Reg.PRF_DRAIN_REQ = false ∧
       u.prf.drained.contains cluster.val = false ∧ Frame [.regs, .prf] s u)))

/-- Tokens: at a quantum the service levels set since the last one take effect (the model's reading of "from the next Proofer quantum", log entry 70) and every
bucket gains its rate up to its burst; a guaranteed grant takes one token from the bucket and sets TOKEN of the head entry; a surplus grant
sets it too; a tenant with no head entry loses its deficit (R63, R219). The dispatch stage gives an entry its outcome by R66, or places it on the core that R65 chooses, with the copy of its terminal context, and counts it there; an
entry that may not be placed yet stays (R65, R66, R250). -/
def Obligations.TokensAndDispatch : Prop :=
  ((∀ s : State,
     let s1 := s.prf.levels.foldl (fun (s : State) (e : Nat × Bytes) => s.writeLevels e.1 e.2) s
     ∃ u, exec .tokenRefill s = .next u ∧
       (∀ t < 64, tabGet 0 u.prf.bucket t =
         min (s1.rd (Reg.PRF_T_SHARE_BURST t) * 65536) (tabGet 0 s1.prf.bucket t + s1.rd (Reg.PRF_T_RATE_RATE t))) ∧
       u.prf.levels = [] ∧ u.regs = s1.regs ∧ u.prf.entries = s.prf.entries ∧ Frame [.prf, .regs] s u) ∧
   (∀ (s : State) (t : Fin 64),
     (∀ e, s.headEntry t = some e → 65536 ≤ tabGet 0 s.prf.bucket t →
       ∃ u, exec (.tokenGrant t) s = .next u ∧ tabGet 0 u.prf.bucket t = tabGet 0 s.prf.bucket t - 65536 ∧
         (∀ x ∈ u.prf.entries, x.id = e.id → x.token = true) ∧ Frame [.prf] s u) ∧
     (∀ e, s.headEntry t = some e → tabGet 0 s.prf.bucket t < 65536 → s.nextSurplus = some t.val →
       ∃ u, exec (.tokenGrant t) s = .next u ∧ u.prf.lastVisit = t.val ∧
         (∀ x ∈ u.prf.entries, x.id = e.id → x.token = true) ∧ Frame [.prf] s u) ∧
     (s.headEntry t = none → ∃ u, exec (.tokenGrant t) s = .next u ∧ tabGet 0 u.prf.deficit t = 0 ∧ Frame [.prf] s u))) ∧
  (∀ (s : State) (id : Nat) (e : Entry), s.entry? id = some e → e.inStore = true →
     (∀ st, s.decided e = some st → ∃ u, exec (.dispatch id) s = .next u ∧ Ended u id st) ∧
     (s.decided e = none → s.mayDispatch e = false → exec (.dispatch id) s = .next s) ∧
     (∀ c, s.decided e = none → s.mayDispatch e = true → s.coreChoice e = some c → c < 192 → e.tenant < 64 →
       ∃ u, exec (.dispatch id) s = .next u ∧ (∃ x ∈ u.prf.entries, x.id = id ∧ x.phase = .staged c ∧ x.term = s.termLoad e) ∧
         (u.flow e.tenant e.flow).lastCore = some c ∧ Frame [.prf, .regs] s u ∧
         u.rd (Reg.PRF_CORE_RUN_COUNT c) = (s.rd (Reg.PRF_CORE_RUN_COUNT c) + 1) % 2 ^ (Reg.PRF_CORE_RUN_COUNT c).width))

/-- The training states of a port and the command that takes it from each to the next, up to ACTIVE with LINK_UP (R306, R307). A port leaves ACTIVE for RECOVERY when lock is lost or RETRAIN is written, returns to ACTIVE with what it had, or goes back to DETECT with its sequence
counters kept; disabling it clears them and the retry buffer and announces it to the partner (R307, R310, R314). -/
def Obligations.LinkTrainingAndRecovery : Prop :=
  (∀ (s : State) (port : Fin 4) (reversed : Bool) (width pwidth : Fin 3) (pgen : Fin 4),
     let p := s.port port
     let g := min (max 1 (s.rd (Reg.LNK_CTL_MAXGEN port))) (max 1 pgen.val)
     let w := min (min width.val pwidth.val) (min 2 (s.rd (Reg.LNK_CTL_MAXWIDTH port)))
     (p.st = .disabled → s.maintHolds port = false →
       ∃ t, exec (.linkEnable port) s = .next t ∧ t.port port = { p with st := .detect } ∧ t.rd (Reg.LNK_CTL_EN port) = 1) ∧
     (p.st ≠ .disabled ∨ s.maintHolds port = true → ∃ t, exec (.linkEnable port) s = .next t ∧ t.host = s.host ∧ t.rd (Reg.LNK_CTL_EN port) = 1 ∧
       Frame [.regs] s t) ∧
     (p.st = .detect → ∃ t, exec (.receiverDetected port reversed) s = .next t ∧ t.port port = { p with st := .config } ∧
       t.rd (Reg.LNK_STAT_REVERSED port) = (if reversed then 1 else 0) ∧ Frame [.host, .regs] s t) ∧
     (p.st = .config → g ≠ 1 → ∃ t, exec (.configDone port width pwidth pgen) s = .next t ∧
       t.port port = { p with st := .eq, target := g, width := w } ∧ t.rd (Reg.LNK_STAT_PGEN port) = pgen.val ∧
       Frame [.host, .regs] s t) ∧
     (p.st = .config → g = 1 → ∃ t, exec (.configDone port width pwidth pgen) s = .next t ∧ UpAt t port 1 w ∧
       NewEvent s t .linkUp port 1 w) ∧
     (p.st = .eq → ∃ t, exec (.eqPass port) s = .next t ∧ UpAt t port p.target p.width ∧
       NewEvent s t .linkUp port p.target p.width) ∧
     (p.st = .eq → 2 < p.target → ∃ t, exec (.eqFail port) s = .next t ∧ t.port port = { p with target := p.target - 1 } ∧
       Frame [.host] s t) ∧
     (p.st = .eq → p.target ≤ 2 → ∃ t, exec (.eqFail port) s = .next t ∧ UpAt t port 1 p.width) ∧
     (p.st = .config ∨ p.st = .eq → ∃ t, exec (.trainingTimeout port) s = .next t ∧ t.port port = { p with st := .detect } ∧
       Frame [.host] s t)) ∧
  (∀ (s : State) (port : Fin 4),
     let p := s.port port
     (p.st = .active → ∃ t, exec (.laneLockLoss port) s = .next t ∧
       t.port port = { p with st := .recovery, gen := 0, leftAt := s.now, trigger := 3, replays := 0 } ∧
       t.rd (Reg.LNK_CNT_COUNT port 7) = (s.rd (Reg.LNK_CNT_COUNT port 7) + 1) % 2 ^ 64 ∧
       (∃ d, NewEvent s t .linkRecovery port 3 d) ∧ Frame [.host, .regs, .evr, .free] s t) ∧
     (p.st ≠ .active → exec (.laneLockLoss port) s = .next s) ∧
     (p.st = .active → ∃ t, exec (.linkRetrain port) s = .next t ∧
       t.port port = { p with st := .recovery, gen := 0, leftAt := s.now, trigger := 4, replays := 0 } ∧
       (∃ d, NewEvent s t .linkRecovery port 4 d) ∧ Frame [.host, .regs, .evr, .free] s t) ∧
     (∀ g w, p.st = .recovery → p.prev = some (g, w) → ∃ t, exec (.lockRegained port) s = .next t ∧ UpAt t port g w) ∧
     (p.st = .recovery → ∃ t, exec (.recoveryTimeout port) s = .next t ∧ t.port port = { p with st := .detect } ∧
       t.rd (Reg.LNK_CTL_RETRAIN port) = 0 ∧ Frame [.host, .regs] s t) ∧
     (∃ t, exec (.linkDisable port) s = .next t ∧ (t.port port).st = .disabled ∧ (t.port port).txSeq = 1 ∧
       (t.port port).rxSeq = 1 ∧ (t.port port).retry = [] ∧ t.rd (Reg.LNK_CTL_EN port) = 0 ∧
       (p.st = .active → ∃ k, (t.port port).sent = p.sent ++ [k] ∧ k.kind = .mgt ∧ k.sub = 5)))

/-- Acknowledgements: an ACK frees the packets up to its SEQ; a NAK frees them and replays the rest unchanged; 100 µs without either replays
everything, and the fourth replay in a row enters RECOVERY (R311, R314). Management packets: CREDIT gives the cumulative credits, PORT_DOWN is counted, SEQ_RESET of the partner lets sequenced packets in again, and the periodic
resend sends ACK and then CREDIT, neither kept for retry (R310, R312). -/
def Obligations.LinkMessages : Prop :=
  (∀ (s : State) (port : Fin 4) (seq : BitVec 16),
     let p := s.port port
     (∀ l k rest, p.st = .active → p.retry = l ++ k :: rest → k.seq = seq.toNat → (∀ x ∈ l, x.seq ≠ seq.toNat) →
       (∃ t new, exec (.ackReceived port seq) s = .next t ∧ (t.port port).retry = rest ++ new ∧ Frame [.host, .regs, .keys, .evr] s t) ∧
       (∃ t new, exec (.nakReceived port seq) s = .next t ∧ (t.port port).sent = p.sent ++ rest ++ new)) ∧
     (p.st = .active → p.retry ≠ [] → p.replays < 3 → ∃ t, exec (.ackTimeout port) s = .next t ∧
       (t.port port).sent = p.sent ++ p.retry ∧ (t.port port).replays = p.replays + 1 ∧ (t.port port).st = .active ∧
       t.rd (Reg.LNK_ERR_ACK_TMO port) = 1 ∧ Frame [.host, .regs] s t) ∧
     (p.st = .active → p.retry ≠ [] → 3 ≤ p.replays → ∃ t, exec (.ackTimeout port) s = .next t ∧
       (t.port port).sent = p.sent ++ p.retry ∧ (t.port port).st = .recovery ∧ t.rd (Reg.LNK_ERR_REPLAY_LIMIT port) = 1)) ∧
  (∀ (s : State) (port : Fin 4) (posted nonPosted completion : BitVec 16),
     let p := s.port port
     p.st = .active →
     (∃ t, exec (.creditReceived port posted nonPosted completion) s = .next t ∧
       (t.port port).credits = (posted.toNat, nonPosted.toNat, completion.toNat) ∧ Frame [.host, .regs, .keys, .evr] s t) ∧
     (∃ t, exec (.portDownReceived port) s = .next t ∧
       t.rd (Reg.LNK_CNT_COUNT port 1) = (s.rd (Reg.LNK_CNT_COUNT port 1) + 1) % 2 ^ 64 ∧ Frame [.regs] s t) ∧
     (p.quiet = false → ∃ t, exec (.seqResetReceived port) s = .next t ∧ t.port port = { p with awaitPeer := false } ∧
       Frame [.host, .regs] s t) ∧
     (p.quiet = false → ∃ t a c, exec (.mgtResend port) s = .next t ∧ (t.port port).sent = p.sent ++ [a, c] ∧
       a.kind = .mgt ∧ a.sub = 1 ∧ a.addr = (if p.rxSeq = 1 then 0xFFFF else p.rxSeq - 1) ∧ c.kind = .mgt ∧ c.sub = 3 ∧
       (t.port port).retry = p.retry ∧ Frame [.host, .regs] s t))

/-- Packets received: a failed CRC is answered with NAK and the next SEQ stays expected; one received before is answered with ACK; a message of the host is
dropped and recorded; the last completion of a read hands its bytes to the transfer that asked (R311, R317, R321). Failures of reads and ports: a completion time-out frees the tag and aborts the transfer; UR refuses it; a port that has been out of ACTIVE for FO_TMO has failed, and every submission ring on it moves to its other port where that is ACTIVE
and is held otherwise, and the completion rings move with them (R319, R320, R323 to R325). -/
def Obligations.LinkPacketsAndFailures : Prop :=
  (∀ (s : State) (port : Fin 4),
     let p := s.port port
     p.accepts = true →
     (∀ seq : BitVec 16, ∃ t k, exec (.corruptPacket port false false seq) s = .next t ∧ (t.port port).sent = p.sent ++ [k] ∧
       k.kind = .mgt ∧ k.sub = 2 ∧ (t.port port).rxSeq = p.rxSeq ∧ t.rd (Reg.LNK_ERR_CRC port) = 1 ∧ Frame [.host, .regs] s t) ∧
     (∀ seq : BitVec 16, 32768 ≤ (seq.toNat + 65536 - p.rxSeq) % 65536 →
       ∃ t k, exec (.corruptPacket port true false seq) s = .next t ∧ (t.port port).sent = p.sent ++ [k] ∧ k.kind = .mgt ∧
         k.sub = 1 ∧ (t.port port).rxSeq = p.rxSeq ∧ Frame [.host, .regs] s t) ∧
     (∀ (addr : BitVec 64) (len : BitVec 10), ∃ t, exec (.msgReceived port addr len) s = .next t ∧
       (t.port port).rxSeq = seqNext p.rxSeq ∧ t.rd (Reg.LNK_ERR_BAD_HOST port) = 1 ∧
       NewEvent s t .hostAccessInvalid port addr.toNat (4 * 65536 + len.toNat) ∧ Frame [.host, .regs, .evr] s t) ∧
     (∀ (tag : BitVec 8) (data : Bytes) (r : Read) (core num off : Nat), p.reads.find? (fun r => r.tag == tag.toNat) = some r →
       r.use = .transfer core num off →
       ∃ t, exec (.cplReceived port tag 0 true data) s = .next t ∧
         (t.core core).xfers = (s.core core).xfers.map (fun x =>
           if x.num = num then { x with parts := x.parts - 1, got := x.got ++ [(off, r.got ++ data)] } else x) ∧
         Frame [.host, .regs, .cores, .keys, .evr] s t)) ∧
  (∀ (s : State) (port : Fin 4),
     let p := s.port port
     (∀ (tag : BitVec 8) (r : Read) (core num off : Nat), p.reads.find? (fun r => r.tag == tag.toNat) = some r →
       r.use = .transfer core num off → r.start + s.usRaw (s.rd (Reg.LNK_TMO_CPL_TMO port)) ≤ s.now →
       ∃ t, exec (.cplTimeout port tag) s = .next t ∧ t.rd (Reg.LNK_ERR_CPL_TMO port) = 1 ∧
         (t.core core).xfers = (s.core core).xfers.map (fun x =>
           if x.num = num then { x with parts := x.parts - 1, fail := some (x.fail.getD .aborted) } else x) ∧
         Frame [.host, .regs, .cores, .evr, .keys] s t) ∧
     (∀ (tag : BitVec 8) (r : Read) (core num off : Nat), p.accepts = true →
       p.reads.find? (fun r => r.tag == tag.toNat) = some r → r.use = .transfer core num off →
       ∃ t, exec (.cplReceived port tag 1 true []) s = .next t ∧
         (t.core core).xfers = (s.core core).xfers.map (fun x =>
           if x.num = num then { x with parts := x.parts - 1, fail := some (x.fail.getD .refused) } else x)) ∧
     (p.st ≠ .active → s.bit (Reg.LNK_STAT_FAILED port) = false → p.prev.isSome = true →
       p.leftAt + s.usRaw (s.rd (Reg.LNK_TMO_FO_TMO port)) ≤ s.now →
       ∃ t, exec (.failoverTimeout port) s = .next t ∧ t.rd (Reg.LNK_STAT_FAILED port) = 1 ∧
         t.rd (Reg.LNK_ERR_FAILOVER port) = 1 ∧ NewEvent s t .linkDown port p.trigger p.retry.length ∧
         (∀ u < 64, ∀ q < 16, s.pageOpen u = true → (s.sq u q).cur = port.val → (s.sq u q).held = false →
           (∀ m, (s.sq u q).other = some m → s.portActive m = true → (t.sq u q).cur = m ∧ (t.sq u q).held = false) ∧
           ((∀ m, (s.sq u q).other = some m → s.portActive m = false) → (t.sq u q).held = true)) ∧
         (∀ u < 64, ∀ q < 16, ∀ m < 4, (s.cq u q).cur = port.val → (s.cq u q).other = some m → s.portActive m = true → (t.cq u q).cur = m)))

/-- The commands of an MPU: a write of ATTR commits the staged bounds and the attributes as one region, which then decides for the bytes it covers unless
a lower one does, and lets the refused writes of its port be tried again; UPD and LOCK; the latch freed. An MPU that software may not write stays as it is (R413, R414, R418, R423). -/
def Obligations.MpuCommands : Prop :=
  ∀ (s : State) (m : Fin 204) (r : Fin 32) (attr : BitVec 64) (upd : Bool),
    let g := regionOf (s.rd (mpuBase m r)) (s.rd (mpuLimit m r)) attr
    (s.mpuWritable m = true → r.val < mpuRegions m → ∃ t, exec (.mpuRegionCommit m r attr) s = .next t ∧ t.region m r = g ∧
      (∀ m' r' : Nat, r' < 32 → (m' ≠ m.val ∨ r' ≠ r.val) → t.region m' r' = s.region m' r') ∧
      (∀ a, g.covers a = true → ∃ q, q ≤ r.val ∧ t.regionAt m a = some q) ∧
      (4 ≤ m.val → m.val < 8 → (∀ c ∈ (t.port (m - 4)).entries, c.refused = false) ∧ ∀ u v, (t.iv u v).refused ≠ some (m - 4)) ∧
      (m.val < 4 ∨ 8 ≤ m.val → (∀ d ∈ s.host.msgs, 4 + d.port ≠ m.val) → t.host = s.host) ∧
      Frame [.regs, .mpu, .host, .evr] s t) ∧
    (mpuRegions m ≤ r.val → exec (.mpuRegionCommit m r attr) s = .next s) ∧
    (s.mpuWritable m = true → ∃ t, exec (.mpuUpdWrite m upd) s = .next t ∧ OnlyField s t (mpuUpd m) (b2n upd) ∧
      Frame [.regs] s t) ∧
    (s.mpuWritable m = false → exec (.mpuRegionCommit m r attr) s = .next s ∧ exec (.mpuUpdWrite m upd) s = .next s) ∧
    (m.val < 4 → ∃ t, exec (.mpuLock m) s = .next t ∧ t.mpuWritable m = false ∧ OnlyField s t (mpuLockF m) 1 ∧
      Frame [.regs] s t) ∧
    (4 ≤ m.val → exec (.mpuLock m) s = .next s) ∧
    (∃ t, exec (.mpuLatchClear m) s = .next t ∧ OnlyField s t (mpuLatch m) 0 ∧ Frame [.regs] s t)

/-- EVENT_ENTRY: the next event becomes the record with the next number, the time and the chain value over the record before it, and takes one token of its
code; a code with an empty bucket is counted as suppressed, and one that finds the ordinary entries full as lost (R427, R430, R436). Flushing, archiving, sealing and the buckets: a flush is requested at once or when its interval has passed; its end moves a covered record from the
buffer to the segment that fills; the oldest full segment is archived; a waiting SEAL gets its signature; the buckets refill by RATE up to BURST, and a new limit clips
them (R431 to R437). -/
def Obligations.EventsAndLog : Prop :=
  (∀ (s : State) (e : Event), nextEvent s.evr.inbox = some e → ownCode e.ev.code = false →
     let code := e.ev.code
     (256 ≤ s.evr.level code → s.evr.ordinary < 1984 → (tabGet (0, 0) s.evr.supp code).1 = 0 →
       ∃ t r more, exec .eventEntry s = .next t ∧ t.evr.buf = s.evr.buf ++ r :: more ∧ r.num = s.evr.next ∧ r.time = s.now ∧
         r.code = code ∧ r.sev = e.ev.severity.val ∧ r.tenant = e.tenant.getD 0xFF ∧ r.source = e.source ∧ r.a0 = e.a0 ∧
         r.a1 = e.a1 ∧ r.a2 = e.a2 ∧
         r.chain = chainNext (s.evr.chain.getD (chainGenesis s.otp.uid)) { r with chain := 0 } ∧
         s.evr.next < t.evr.next ∧ t.evr.level code = s.evr.level code - 256 ∧ Frame [.evr, .regs, .signer] s t) ∧
     (s.evr.level code < 256 → ∃ t, exec .eventEntry s = .next t ∧
       (tabGet (0, 0) t.evr.supp code).1 = (tabGet (0, 0) s.evr.supp code).1 + 1 ∧
       t.rd (Reg.EVR_CNT_COUNT 1) = (s.rd (Reg.EVR_CNT_COUNT 1) + 1) % 2 ^ 64 ∧ t.evr.buf = s.evr.buf ∧
       t.evr.inbox = s.evr.inbox.erase e ∧ Frame [.evr, .regs] s t) ∧
     (256 ≤ s.evr.level code → 1984 ≤ s.evr.ordinary → ∃ t, exec .eventEntry s = .next t ∧
       (tabGet (0, 0) t.evr.lost code).1 = (tabGet (0, 0) s.evr.lost code).1 + 1 ∧
       t.rd (Reg.EVR_CNT_COUNT 2) = (s.rd (Reg.EVR_CNT_COUNT 2) + 1) % 2 ^ 64 ∧ t.evr.buf = s.evr.buf ∧
       t.evr.inbox = s.evr.inbox.erase e ∧ Frame [.evr, .regs] s t)) ∧
  (∀ (s : State),
     (s.evr.volatileOnly = false → ∃ t f, exec .evrFlush s = .next t ∧ t.rd Reg.EVR_CTL_FLUSH = 1 ∧ t.evr.flush = some f ∧
       t.evr.next ≤ f.upTo + 1 ∧ Frame [.evr, .regs] s t) ∧
     (s.evr.volatileOnly = false → s.evr.lastFlush + s.flushInterval ≤ s.now →
       ∃ t f, exec .flushIntervalExpiry s = .next t ∧ t.evr.flush = some f ∧ t.evr.next ≤ f.upTo + 1 ∧
         Frame [.evr, .regs] s t) ∧
     (s.now < s.evr.lastFlush + s.flushInterval → exec .flushIntervalExpiry s = .next s) ∧
     (∀ f r i, s.evr.flush = some f → s.evr.buf = [r] → r.num ≤ f.upTo → s.evr.volatileOnly = false →
       s.evr.fillSeg = some i → s.evr.lost = [] →
       ∃ t, exec (.flushDone []) s = .next t ∧ t.evr.buf = [] ∧ t.evr.flush = none ∧ t.evr.lastFlush = s.now ∧
         t.rd Reg.EVR_CTL_FLUSH = 0 ∧
         tabGet Segment.empty t.evr.ring i = segAdd (tabGet Segment.empty s.evr.ring i) r ∧ Frame [.evr, .regs] s t) ∧
     (∀ i g rest, s.evr.fullSegs = (i, g) :: rest →
       8192 ≤ (s.evr.fullSegs.map (fun x => x.2.recs.length)).foldl (· + ·) 0 → s.store.st = .opened →
       (s.evr.archive.map ArchSegment.lines).foldl (· + ·) 0 + 72 ≤ s.rd Reg.EVR_ARCH_LINES → s.evr.seals.length ≤ 8 →
       ∃ t a, exec .archiveSegment s = .next t ∧ t.evr.archive = s.evr.archive ++ [a] ∧ a.recs = g.recs ∧
         tabGet Segment.empty t.evr.ring i = Segment.empty ∧
         t.rd (Reg.EVR_CNT_COUNT 4) = (s.rd (Reg.EVR_CNT_COUNT 4) + 1) % 2 ^ 64 ∧ Frame [.evr, .regs] s t) ∧
     (∀ r rest, s.signerReady = true → s.signer.waiting = r :: rest → s.signer.next < attLeaves →
       ∃ t, exec .sealSignatureArrived s = .next t ∧ t.signer.waiting = rest ∧ t.signer.next = s.signer.next + 1 ∧
         t.evr.seals = s.evr.seals.map (fun z =>
           if z.num = r.num then { z with sig := some (s.signWith s.signer.next r.msg) } else z) ∧
         Frame [.evr, .signer] s t) ∧
     (tabWf (64 * 256) s.evr.buckets = true → ∃ t, exec .bucketRefill s = .next t ∧
       (∀ c : Fin 4096, t.evr.level c =
         min (s.rd (Reg.EVR_LIMIT_BURST c) * 256) (s.evr.level c + s.rd (Reg.EVR_LIMIT_RATE c))) ∧ Frame [.evr, .regs] s t) ∧
     (∀ (c : Fin 4096) (rate burst : BitVec 16), ∃ t, exec (.evrLimitWrite c rate burst) s = .next t ∧
       t.rd (Reg.EVR_LIMIT_RATE c) = rate.toNat ∧ t.rd (Reg.EVR_LIMIT_BURST c) = burst.toNat ∧
       t.evr.level c = min (s.evr.level c) (burst.toNat * 256) ∧ t.evr.buf = s.evr.buf ∧ Frame [.evr, .regs] s t))

/-- The time base after `dt` cycles: a pulse in the window keeps it TRUSTED and aligns it, an early or missing one starts HOLDOVER, a run of good ones ends it
(in HOLDOVER each aligns it, log entry 53), a pulse that was due is missing before a later one counts, and after H it is UNTRUSTED with everything that needs
trusted time ended; the tick edge takes a waiting ADVANCE and drives TREF_OUT; the save (R288 to R294). `aligned` is device time moved to the nearest tick. The entropy block: a window that fails is counted and gives nothing; one that passes, after the first, becomes the next seed of the pool; seeds instantiate and
reseed the instances in order (`hashReady`: what waited for the instance then goes on); an instance at a limit blocks; the test pattern is for MAKER alone (R296 to R303). -/
def Obligations.TimeAndEntropy : Prop :=
  (∀ (s : State) (dt : BitVec 64),
     let a := s.advance dt.toNat
     let f := a.time.frac
     let aligned := if 2 ^ 23 ≤ f then a.now - f + 2 ^ 24 else a.now
     let relock := max 1 (s.rd Reg.TIM_RELOCK_COUNT)
     let edge := a.expectedEdge
     let sinceEdge (late : Nat) := if a.winHold + late ≤ a.edgePast then a.edgePast else a.edgePast + a.c24 / 2 ^ 24
     let missed (late : Nat) := decide (a.time.lastEdge + a.winHold + sinceEdge late < a.time.cyc)
     (s.time.state = .trusted → edge ≤ a.time.cyc + a.winCyc → a.time.cyc ≤ edge + a.winCyc → ∃ t, exec (.trefPulse dt) s = .next t ∧
       t.time.state = .trusted ∧ t.time.lastEdge = a.time.cyc ∧ t.now = aligned ∧
       t.rd (Reg.TIM_CNT_COUNT 0) = (s.rd (Reg.TIM_CNT_COUNT 0) + 1) % 2 ^ 64 ∧ Frame [.time, .regs, .keys] s t) ∧
     (s.time.state = .trusted → a.time.cyc + a.winCyc < edge → ∃ t, exec (.trefPulse dt) s = .next t ∧
       t.time.state = .holdover ∧ t.now = a.now ∧ NewEvent s t .timePulseRejected (a.time.cyc - a.time.lastEdge) a.winCyc 0 ∧
       NewEvent s t .timeHoldover 1 0 0 ∧ Frame [.time, .regs, .keys, .evr] s t) ∧
     (s.time.state = .trusted → edge + a.winCyc < a.time.cyc → ∃ t, exec (.trefPulse dt) s = .next t ∧
       NewEvent s t .timeHoldover 2 0 0 ∧ t.rd (Reg.TIM_CNT_COUNT 2) = (s.rd (Reg.TIM_CNT_COUNT 2) + 1) % 2 ^ 64) ∧
     (s.time.state = .holdover → a.holdoverOver = false → a.edgeDistance ≤ a.winHold → ∃ t, exec (.trefPulse dt) s = .next t ∧
       t.time.state = (if relock ≤ (if missed 1 then 0 else s.time.run) + 1 then .trusted else .holdover) ∧ t.now = aligned ∧
       t.rd (Reg.TIM_CNT_COUNT 0) = (s.rd (Reg.TIM_CNT_COUNT 0) + 1) % 2 ^ 64 ∧ Frame [.time, .regs, .keys, .evr] s t) ∧
     (s.time.state = .holdover → a.holdoverOver = false → a.winHold < a.edgeDistance → ∃ t, exec (.trefPulse dt) s = .next t ∧
       t.time.state = .holdover ∧ t.time.run = 0 ∧ t.now = a.now ∧ t.rd (Reg.TIM_CNT_COUNT 0) = s.rd (Reg.TIM_CNT_COUNT 0) ∧
       Frame [.time, .regs, .keys] s t) ∧
     (let iv := a.time.cyc - s.time.lastPulse
      s.time.state = .untrusted → s.time.run ≠ 0 → a.periodCyc ≤ iv + a.winCyc → iv ≤ a.periodCyc + a.winCyc →
       ∃ t, exec (.trefPulse dt) s = .next t ∧
         t.time.state = (if relock ≤ s.time.run + 1 ∧ relock ≤ (if s.time.runU = 0 then 1 else s.time.runU + 1) then .trusted else .untrusted) ∧
         t.rd (Reg.TIM_CNT_COUNT 0) = (s.rd (Reg.TIM_CNT_COUNT 0) + 1) % 2 ^ 64 ∧ Frame [.time, .regs, .keys, .evr] s t) ∧
     (s.time.state = .trusted → edge + a.winCyc ≤ a.time.cyc → ∃ t, exec (.trefPulseMissing dt) s = .next t ∧
       t.time.state = .holdover ∧ t.time.lastEdge = edge ∧ a.now < t.now ∧ NewEvent s t .timeHoldover 2 0 0 ∧
       t.rd (Reg.TIM_CNT_COUNT 2) = (s.rd (Reg.TIM_CNT_COUNT 2) + 1) % 2 ^ 64 ∧ Frame [.time, .regs, .keys, .evr] s t) ∧
     (s.time.state = .trusted → a.time.cyc < edge + a.winCyc → exec (.trefPulseMissing dt) s = .next a) ∧
     (s.time.state = .holdover → a.holdoverOver = false → missed 0 = true → ∃ t, exec (.trefPulseMissing dt) s = .next t ∧
       t.time.state = .holdover ∧ t.time.run = 0 ∧ t.now = a.now ∧
       t.rd (Reg.TIM_CNT_COUNT 2) = (s.rd (Reg.TIM_CNT_COUNT 2) + 1) % 2 ^ 64 ∧ Frame [.time, .regs, .keys] s t) ∧
     (s.time.state = .untrusted → s.time.run ≠ 0 → s.time.lastPulse + a.periodCyc + a.winCyc ≤ a.time.cyc →
       ∃ t, exec (.trefPulseMissing dt) s = .next t ∧ t.time.state = .untrusted ∧ t.time.run = 0 ∧ t.now = a.now ∧
         Frame [.time, .regs, .keys] s t) ∧
     (a.holdoverOver = true → ∃ t, exec (.holdoverExpiry dt) s = .next t ∧ t.time.state = .untrusted ∧
       NewEvent s t .timeUntrusted 1 0 0 ∧ t.keys.opens = [] ∧
       (∀ u < 64, (t.tenant u).keymgmt = none ∧ (t.tenant u).export_ = none)) ∧
     (a.holdoverOver = false → exec (.holdoverExpiry dt) s = .next a) ∧
     (s.second ≤ s.time.saveSec → exec .timeSave s = .next s) ∧
     (s.time.saveSec < s.second → ∃ t, exec .timeSave s = .next t ∧ t.time.saveSec = s.second ∧
       t.time.saves.head? = some (s.tick, s.rd Reg.GRD_TIMER_COUNT) ∧ Frame [.time] s t) ∧
     (s.time.edgeDone < s.tick → s.time.pend = none → s.bit Reg.TIM_CTL_PAIR_CMP_EN = false →
       ∃ t, exec .tickEdge s = .next t ∧ t.time = { s.time with edgeDone := s.tick, trefLeft := if s.trefDriven then 250 else 0 } ∧
         Frame [.time] s t) ∧
     (∀ adv, s.time.edgeDone < s.tick → s.time.pend = some (adv, s.periodNs) → s.bit Reg.TIM_CTL_PAIR_CMP_EN = false →
       ∃ t, exec .tickEdge s = .next t ∧ t.now = s.now + adv * 2 ^ 24 ∧ t.time.pend = none ∧ Frame [.time] s t) ∧
     (∀ adv p : Nat, s.time.edgeDone < s.tick → s.time.pend = some (adv, p) → p ≠ s.periodNs → p < 2 ^ 30 →
       s.bit Reg.TIM_CTL_PAIR_CMP_EN = false →
       ∃ t, exec .tickEdge s = .next t ∧ t.now = s.now + adv * 2 ^ 24 ∧ t.time.pend = none ∧ t.rd Reg.TIM_PERIOD_PERIOD_NS = p ∧
         t.time.state = .holdover ∧ t.time.mramPeriod = p ∧ NewEvent s t .timeHoldover 4 0 0 ∧ Frame [.time, .regs, .evr] s t) ∧
     (s.time.edgeDone < s.tick → s.time.pend = none → ∃ t, exec .tickEdge s = .next t ∧ t.time.edgeDone = s.tick ∧ t.now = s.now) ∧
     (s.tick ≤ s.time.edgeDone → exec .tickEdge s = .next s)) ∧
  (∀ (s : State),
     (∀ (src : Fin 2) (window : Bytes),
       let w := s.sourceWindow window
       let bad := rctFails (s.rd Reg.ENT_CUT_RCT) (windowBits w)
       let apt := aptFails (s.rd Reg.ENT_CUT_APT) (windowBits w)
       let done := if src.val = 0 then s.ent.first0 else s.ent.first1
       ∃ t, exec (.entropyWindow src window) s = .next t ∧
         t.rd (Reg.ENT_SRC_CNT_WINDOWS src) = (s.rd (Reg.ENT_SRC_CNT_WINDOWS src) + 1) % 2 ^ 32 ∧
         (bad = true → t.rd (Reg.ENT_SRC_CNT_RCT_FAIL src) = min 65535 (s.rd (Reg.ENT_SRC_CNT_RCT_FAIL src) + 1)) ∧
         (apt = true →
           t.rd (Reg.ENT_SRC_CNT_APT_FAIL src) = min 65535 (s.rd (Reg.ENT_SRC_CNT_APT_FAIL src) + 1)) ∧
         (bad = false → t.rd (Reg.ENT_SRC_CNT_RCT_FAIL src) = s.rd (Reg.ENT_SRC_CNT_RCT_FAIL src)) ∧
         (apt = false → t.rd (Reg.ENT_SRC_CNT_APT_FAIL src) = s.rd (Reg.ENT_SRC_CNT_APT_FAIL src)) ∧
         (bad = true ∨ apt = true → ∃ w, NewEvent s t .entWindowFailed src w
           (t.rd (Reg.ENT_SRC_CNT_RCT_FAIL src) + t.rd (Reg.ENT_SRC_CNT_APT_FAIL src))) ∧
         ((bad = true ∨ apt = true ∨ done = false ∨ s.bit Reg.ENT_STAT_KAT_FAIL = true) → t.ent.pool = s.ent.pool) ∧
         (bad = false → apt = false → done = true → s.bit Reg.ENT_STAT_KAT_FAIL = false → s.ent.pool.length < 64 →
           t.ent.pool = s.ent.pool ++ [shake256 32 (w ++ Config.seedSuffix src s.ent.counter)] ∧
           t.ent.counter = (s.ent.counter + 1) % 2 ^ 64 ∧ t.rd Reg.ENT_STAT_FIRST_SEED = 1) ∧
         Frame [.regs, .ent, .evr] s t) ∧
     (∀ (idx : Fin 196) (a b : Bytes) (rest : List Bytes), s.ent.pool = a :: b :: rest →
       drbgOrder.find? (fun k => decide ((s.drbg k).st = .notInst)) = some idx.val →
       ∃ t, exec (.drbgInstantiate idx) s = .next (t.hashReady idx) ∧ t.ent.pool = rest ∧ (t.drbg idx).st = .ready ∧
         ((t.drbg idx).key, (t.drbg idx).v) = drbgNew a (b.take 16) (Config.drbgPersonal s.otp.uid idx) ∧
         (∀ k, k ≠ idx.val → t.drbg k = s.drbg k) ∧ Frame [.ent, .evr] s t) ∧
     (∀ idx : Fin 196, s.ent.pool.length < 2 ∨ drbgOrder.find? (fun k => decide ((s.drbg k).st = .notInst)) ≠ some idx.val →
       exec (.drbgInstantiate idx) s = .next s) ∧
     (∀ (idx : Fin 196) (a : Bytes) (rest : List Bytes), s.ent.pool = a :: rest →
       ((s.drbg idx).st = .ready ∧ s.drbgNearLimit (s.drbg idx) = true) ∨
         drbgOrder.find? (fun k => decide ((s.drbg k).st = .blocked)) = some idx.val →
       ∃ t, exec (.drbgReseed idx) s = .next (t.hashReady idx) ∧ t.ent.pool = rest ∧ (t.drbg idx).st = .ready ∧ (t.drbg idx).reqs = 0 ∧
         ((t.drbg idx).key, (t.drbg idx).v) = drbgUpdate (s.drbg idx).key (s.drbg idx).v (blockDf a) ∧
         (∀ k, k ≠ idx.val → t.drbg k = s.drbg k) ∧ Frame [.regs, .ent, .evr] s t) ∧
     (∀ idx : Fin 196, (s.drbg idx).st = .ready → s.drbgAtLimit (s.drbg idx) = true →
       ∃ t, exec (.drbgLimitReached idx) s = .next t ∧ (t.drbg idx).st = .blocked ∧
         t.rd (Reg.ENT_CNT_COUNT 2) = (s.rd (Reg.ENT_CNT_COUNT 2) + 1) % 2 ^ 64 ∧ (∀ k, k ≠ idx.val → t.drbg k = s.drbg k) ∧
         Frame [.regs, .ent, .prf, .evr] s t) ∧
     (∀ idx : Fin 196, (s.drbg idx).st ≠ .ready ∨ s.drbgAtLimit (s.drbg idx) = false → exec (.drbgLimitReached idx) s = .next s) ∧
     (∀ on : Bool, (s.lc = .maker → ∃ t, exec (.entTestpatWrite on) s = .next t ∧ t.rd Reg.ENT_CTL_TESTPAT = b2n on ∧
         Frame [.regs, .evr] s t) ∧
       (s.lc ≠ .maker → exec (.entTestpatWrite on) s = .next s)))

/-- The cipher engine: CINIT makes a fresh context under the key; CIV, CRUN, CTAG GEN, CSAVE and CLOAD queue an operation in the states that R149 allows, and
`ctxView` is the context as the instructions issued so far leave it; CTAG CHECK, COUNT and CMACV answer in a register, once nothing on the context waits
(R126, R137 to R164). That CLOAD reads its image at issue is the model's choice (log entry 65). -/
def Obligations.CipherEngine : Prop :=
  ∀ (s : State) (core : Fin 192) (c : Fin 4) (k : Fin 16) (gd ga gb : Fin 32), s.runs core = true →
    let x := s.ctxView core c
    let a := (s.getG core ga).toNat
    let b := (s.getG core gb).toNat
    let img := (s.loadBytes core a 160).1
    let held := (gcmOpen (s.core core).ctxKey (img.take 12) (s.imageBound core) (slice img 12 132) (img.drop 144)).bind (fun m =>
      (s.core core).images.find? (fun w => w.bytes == m))
    (∀ v, s.kdBusy core k = false → s.ctxBusy core c = false → s.cinitCheck core k a = .inr v →
      ∃ t, exec (.cinit core c k ga false) s = .next t ∧ t.ctx core c = Ctx.fresh a v ∧ (∀ d, d ≠ c.val → t.ctx core d = s.ctx core d) ∧
        (t.core core).pc = (s.core core).pc + 4 ∧ (∀ m, m ≠ core.val → t.core m = s.core m) ∧ Frame [.cores] s t) ∧
    (s.ctxBusy core c = false → s.kdBusy core k = false → ∀ i ∈ [Instr.cinit core c k ga true, .ctagCheck core c gd ga gb true,
      .ctagCount core c gd true, .cmacv core c gd ga gb true], exec i s = .next ((s.twinDiscard core (.ofC c)).exc core .twinMismatch)) ∧
    (s.ctxBusy core c = true → s.kdBusy core k = false → ∀ m, ∀ i ∈ [Instr.cinit core c k ga m, .ctagCheck core c gd ga gb m,
      .ctagCount core c gd m, .cmacv core c gd ga gb m], exec i s = .next s) ∧
    (∀ e, s.kdBusy core k = false → s.ctxBusy core c = false → s.cinitCheck core k a = .inl e →
      exec (.cinit core c k ga false) s = .next ((s.dropCtx core c).exc core e)) ∧
    (∀ d v, s.kdBusy core k = false → s.engRange core .read a 128 = true → s.engFull core = false →
      s.cinitCheck core k (leAt (s.loadBytes core a 128).1 0 8) = .inr v →
      clearLoad (s.loadBytes core a 128).1 v = some d → ∃ t, exec (.cloadClear core c k ga) s = .next t ∧ t.ctxView core c = d ∧
        Queued s t core (.load c d)) ∧
    (∀ w, s.engRange core .read a 160 = true → s.engFull core = false → held = some w →
      ∃ t, exec (.cloadWrapped core c ga) s = .next t ∧ t.ctxView core c = w.ctx ∧ Queued s t core (.load c w.ctx)) ∧
    (s.engRange core .read a 160 = true → s.engFull core = false → held = none →
      exec (.cloadWrapped core c ga) s = .next ((s.loadBytes core a 160).2.ctxRefused core c)) ∧
    (x.phase ≠ .empty → x.tenant = s.runTenant core →
      (∀ p ∈ [(0, Instr.civIv core c ga gb), (1, Instr.civAd core c ga gb), (2, Instr.civTweak core c ga gb)],
        civAllowed x p.1 = true → civLenOk x p.1 b = true → s.engRange core .read a b = true → s.engFull core = false →
        ∃ t, exec p.2 s = .next t ∧ (t.ctxView core c).phase = .opened ∧ Queued s t core (.civ c p.1 a b)) ∧
      (∀ p ∈ [(false, false, Instr.crun core c gd ga gb), (true, false, Instr.crunFinal core c gd ga gb),
          (false, true, Instr.crunEarly core c false gd ga gb), (true, true, Instr.crunEarly core c true gd ga gb)],
        let y := if x.phase = .idle then { x with issued := 0 } else x
        let dst := (s.getG core gd).toNat
        let out := crunOutLen y b p.1
        let quar := y.authDec && !p.2.1 && decide (0 < out)
        let ext := if quar then addExtent y.extents dst out else y.extents
        crunAllowed y p.1 = true → crunLenOk y b p.1 = true → (p.2.1 = true → y.authDec = true) →
        (isMac (mwMode x.mode) = true → gd.val = 0) →
        (isMac (mwMode x.mode) = false → dst = a ∨ overlaps dst out a b = false) →
        (y.authDec = true → 0 < out → s.otherWindow core c dst out = false) → ext.length ≤ 16 → s.engRange core .read a b = true →
        s.engRange core .write dst out = true → s.engFull core = false →
        ∃ t, exec p.2.2 s = .next t ∧ (t.ctxView core c).phase = crunNext y p.1 ∧ (t.ctxView core c).extents = ext ∧
          Queued s t core (.crun c dst a b p.1 p.2.1 (if mwMode x.mode = 12 then some (s.core core).slotNo else none))) ∧
      (mwDir x.mode = 0 → x.phase = .done → b = x.tagLen → s.engRange core .write a b = true → s.engFull core = false →
        ∃ t, exec (.ctagGen core c ga gb) s = .next t ∧ (t.ctxView core c).phase = .idle ∧ Queued s t core (.tag c a b)) ∧
      (x.phase = .done → x.authDec = true → b = x.tagLen → s.engRange core .read a b = true → s.ctxBusy core c = false →
        ((s.loadBytes core a b).1 = x.tag → ∃ t, exec (.ctagCheck core c gd ga gb false) s = .next t ∧
          (t.ctx core c).extents = [] ∧ (t.core core).mem = (s.core core).mem ∧ Got s t core gd 0#64) ∧
        ((s.loadBytes core a b).1 ≠ x.tag → ∃ t, exec (.ctagCheck core c gd ga gb false) s = .next t ∧
          t.ctx core c = Ctx.empty ∧
          (∀ e ∈ x.extents, ∀ i, e.1 ≤ i → i < e.1 + e.2 → memByte (t.core core).mem i = 0#8) ∧
          ((s.core core).locked = false → (t.core core).cstatus = .authFail) ∧
          t.getG core gd = (if gd.val = 0 then 0#64 else 1#64))) ∧
      (s.ctxBusy core c = false → ∃ t, exec (.ctagCount core c gd false) s = .next t ∧
        Got s t core gd (BitVec.ofNat 64 x.written)) ∧
      (mwDir x.mode ≠ 0 → x.phase = .done → isMac (mwMode x.mode) = true → b = x.tagLen → s.engRange core .read a b = true →
        s.ctxBusy core c = false → ∃ t, exec (.cmacv core c gd ga gb false) s = .next t ∧
          Got s t core gd (if (s.loadBytes core a b).1 = x.tag then 0#64 else 1#64)) ∧
      (mwMode x.mode ≤ 4 → x.usage = chars 'D' '0' → x.extents = [] → s.engRange core .write a 128 = true → s.engFull core = false →
        ∃ t, exec (.csaveClear core c ga) s = .next t ∧ Queued s t core (.save c a false x.phase x.issued)) ∧
      (x.extents = [] → s.engRange core .write a 160 = true → s.engFull core = false →
        ∃ t, exec (.csaveWrapped core c ga) s = .next t ∧ Queued s t core (.save c a true x.phase x.issued)) ∧
      (x.extents ≠ [] → ∀ i ∈ [Instr.csaveClear core c ga, .csaveWrapped core c ga], exec i s = .next (s.ctxRefused core c)))

/-- The engine's oldest operation ends (R126, R150, R151, R154, R164), faults (R158) or mismatches (R145), and its known-answer test starts and ends (R166, R167).
The contents of a wrapped image are the model's free values, sealed under the core's context key (R139, log entry 65). How the units end: the MAU serves the next requester after the last one served; a good result is written at OUT with STATUS 0; a failed check of R171 writes no
output; a digest is written at OUT (R171 to R177, R182). -/
def Obligations.EngineAndUnits : Prop :=
  (∀ (s : State) (core : Fin 192),
     let k := s.core core
     (k.eng = [] → ∀ m, exec (.engineOperationDone core m) s = .next s) ∧
     (∀ o rest, k.eng = o :: rest → s.opWaits core o = true → ∀ m, exec (.engineOperationDone core m) s = .next s) ∧
     (∀ o rest, k.eng = o :: rest → s.opWaits core o = false → ∃ t, exec (.engineOperationDone core true) s = .next t ∧
       t.ctx core o.ctx = Ctx.empty ∧ (.twinMismatch, 7) ∈ (t.core core).pendExc ∧ (t.core core).twin = true) ∧
     (∀ o rest, k.eng = o :: rest → s.opWaits core o = false → ∃ t, exec (.engineOperationDone core false) s = .next t ∧
       (∀ c a ph len, o = .save c a false ph len →
         (t.core core).mem = memWrite k.mem a { s.ctx core c with phase := ph, issued := len, extents := [] }.clearImage ∧ (t.core core).eng = rest) ∧
       (∀ c a ph len, o = .save c a true ph len → ∃ (w : Wrapped) (iv : Bytes),
         let x := gcmSeal k.ctxKey iv (s.imageBound core) w.bytes
         (t.core core).images = w :: k.images ∧ w.ctx = { s.ctx core c with phase := ph, issued := len, extents := [] } ∧
         (t.core core).mem = memWrite k.mem a (iv ++ x.1 ++ x.2) ∧ (t.core core).eng = rest) ∧
       (∀ c x, o = .load c x → t.ctx core c = x ∧ (t.core core).mem = zeroExtents k.mem (s.ctx core c).extents ∧ (t.core core).eng = rest) ∧
       (∀ c a len, o = .tag c a len → (t.core core).mem = memWrite k.mem a (s.ctx core c).tag ∧ (t.core core).eng = rest) ∧
       (∀ c dst src len final early slot f, o = .crun c dst src len final early slot →
         (s.ctx core c).crun (memRead k.mem src len) final = .inl f →
         t.ctx core c = Ctx.empty ∧ (t.core core).eng = rest.filter (fun p => p.ctx ≠ c) ∧
         (t.core core).pendExc = k.pendExc ++ [(.illegal, Config.engineCause (if f = .ctrWrap then 0 else 1))]) ∧
       (∀ c dst src len final early slot out x, o = .crun c dst src len final early slot →
         (s.ctx core c).crun (memRead k.mem src len) final = .inr (out, x) →
         (t.core core).mem = memWrite k.mem dst out ∧ (t.ctx core c).chain = x.chain ∧ (t.core core).eng = rest) ∧
       (∀ c v a len x, o = .civ c v a len → (s.ctx core c).civ v (memRead k.mem a len) = .inr x →
         (t.core core).mem = k.mem ∧ (t.ctx core c).chain = x.chain ∧ (t.ctx core c).ad = x.ad ∧ (t.core core).eng = rest) ∧
       (∀ m, m ≠ core.val → t.core m = s.core m) ∧ Frame [.cores, .regs, .free] s t) ∧
     (s.bit (Reg.CLU_ENG_KAT_START (core.val / 8) (core.val % 8)) = true → ∀ modes inject, exec (.engineKatStart core modes inject) s = .next s) ∧
     (s.bit (Reg.CLU_ENG_KAT_START (core.val / 8) (core.val % 8)) = false → ∀ failed seen, exec (.engineKatDone core failed seen) s = .next s) ∧
     (∀ (modes : BitVec 13) (inject : Bool),
       let c := core.val / 8
       let n := core.val % 8
       s.bit (Reg.CLU_ENG_KAT_START c n) = false → k.run = none → s.drainDone c = true →
       ∃ t, exec (.engineKatStart core modes inject) s = .next t ∧ t.rd (Reg.CLU_ENG_KAT_START c n) = 1 ∧
         t.rd (Reg.CLU_ENG_KAT_DONE c n) = 0 ∧ t.rd (Reg.CLU_ENG_KAT_MODES c n) = modes.toNat ∧
         t.rd (Reg.CLU_ENG_KAT_INJECT c n) = b2n inject ∧ Frame [.regs] s t) ∧
     (∀ (failed : BitVec 13) (injSeen : Bool),
       let c := core.val / 8
       let n := core.val % 8
       s.bit (Reg.CLU_ENG_KAT_START c n) = true →
       ∃ t, exec (.engineKatDone core failed injSeen) s = .next t ∧ t.rd (Reg.CLU_ENG_KAT_START c n) = 0 ∧
         t.rd (Reg.CLU_ENG_KAT_DONE c n) = 1 ∧
         t.rd (Reg.CLU_ENG_KAT_FAILED c n) = failed.toNat &&& s.rd (Reg.CLU_ENG_KAT_MODES c n) ∧
         t.rd (Reg.CLU_ENG_KAT_PASS c n) = b2n (decide (failed.toNat &&& s.rd (Reg.CLU_ENG_KAT_MODES c n) = 0) &&
           (!s.bit (Reg.CLU_ENG_KAT_INJECT c n) || injSeen)) ∧ Frame [.regs, .evr] s t)) ∧
  (∀ (s : State),
     (∀ (cluster : Fin 24) (q : Nat) (r : UnitReq), (s.cluster cluster).busy = none →
       (List.range 9).findSome? (fun k => (s.mauHead cluster (((s.cluster cluster).turn + 1 + k) % 9)).map (fun r =>
         (((s.cluster cluster).turn + 1 + k) % 9, r))) = some (q, r) →
       ∃ t, exec (.mauOperationStart cluster) s = .next t ∧ (t.cluster cluster).busy = some (q, r) ∧
         (t.cluster cluster).turn = q ∧ (t.cluster cluster).mau = (s.cluster cluster).mau ∧ Frame [.clus] s t) ∧
     (∀ (cluster : Fin 24) (q : Nat) (r : UnitReq) (out : Bytes) (s1 : State), (s.cluster cluster).busy = some (q, r) →
       q < 8 → s.unitResult cluster q r = some (.good out none none, s1) →
       ∃ t, exec (.mauOperationDone cluster true) s = .next t ∧ (t.cluster cluster).busy = none ∧
         tabGet [] (t.cluster cluster).mau q = (tabGet [] (s.cluster cluster).mau q).tail ∧
         (t.core (cluster.val * 8 + q)).mem = memWrite (memWrite (memWrite (s.core (cluster.val * 8 + q)).mem r.out out)
           (r.addr + 20) (natToLe 4 out.length)) r.addr (natToLe 2 0)) ∧
     (∀ (cluster : Fin 24) (q : Nat) (r : UnitReq) (res : UnitRes) (s1 : State) (ok : Bool), (s.cluster cluster).busy = some (q, r) →
       q < 8 → s.unitResult cluster q r = some (res, s1) → (ok = false ∨ res = .failed) →
       ∃ t, exec (.mauOperationDone cluster ok) s = .next t ∧
         t.rd (Reg.CLU_MAU_CNT_CHECK_FAIL cluster) = min 65535 (s.rd (Reg.CLU_MAU_CNT_CHECK_FAIL cluster) + 1) ∧
         ((t.core (cluster.val * 8 + q)).mem = (s.core (cluster.val * 8 + q)).mem ∨ (t.core (cluster.val * 8 + q)).mem = [])) ∧
     (∀ (core : Fin 192) (r : UnitReq) (rest : List UnitReq) (n : Nat), (s.core core).hreqs = r :: rest → r.more = false →
       (s.core core).hashHeld = none → s.unitRange (core.val / 8) (core.val % 8) .read r.in0 r.in0Len = true → r.in0Len ≤ 65536 →
       s.unitRange (core.val / 8) (core.val % 8) .write r.out r.outLen = true → hashLen r.func = some n → n ≤ r.outLen →
       (∀ c d a l f e i, EngOp.crun c d a l f e (some i) ∈ (s.core core).eng → r.slot ≤ i) →
       ∃ t, exec (.hashOperationDone core true) s = .next t ∧ (t.core core).hreqs = rest ∧
         (t.core core).mem = memWrite (memWrite (memWrite (s.core core).mem r.out
           (hashRun r.func (memRead (s.core core).mem r.in0 r.in0Len) n)) (r.addr + 20) (natToLe 4 n)) r.addr (natToLe 2 0) ∧
         (∀ m, m ≠ core.val → t.core m = s.core m) ∧ Frame [.cores, .regs] s t) ∧
     (∃ t, exec .xmssRebuildDone s = .next t ∧ t.signer.rebuilding = false ∧ Frame [.signer] s t))

/-- The unit requests of a core: each puts a request with its block in the queue of the MAU or of the hash unit, while that holds fewer than two; the supervisor
port's go to its own queue of 16 (R168, R173 to R176, R181). -/
def Obligations.UnitRequests : Prop :=
  ∀ (s : State) (core : Fin 192) (kd : Fin 16) (gr : Fin 32),
    let a := (s.getG core gr).toNat
    let blk := memRead (s.core core).mem a 64
    (s.runs core = true → a % 8 = 0 → s.userStoreOk core a 64 = true →
      (∀ p ∈ [(0x001, Instr.rsaSign core gr), (0x002, Instr.rsaVerify core gr), (0x008, Instr.ecdsaSign core gr),
          (0x009, Instr.ecdsaVerify core gr), (0x00C, Instr.ed25519Sign core gr), (0x00D, Instr.ed25519Verify core gr),
          (0x014, Instr.mldsaSign core gr), (0x015, Instr.mldsaVerify core gr), (0x018, Instr.keygen core gr),
          (0x019, Instr.pubkey core gr)],
        let q := tabGet [] (s.cluster (core.val / 8)).mau (core.val % 8)
        q.length < 2 → ∃ t, exec p.2 s = .next t ∧
          tabGet [] (t.cluster (core.val / 8)).mau (core.val % 8) = q ++ [⟨p.1, false, 0, a, blk, 0⟩] ∧
          OnlyCore { s with clus := t.clus } t core { s.core core with pc := (s.core core).pc + 4 }) ∧
      (∀ p ∈ [(0x003, Instr.rsaOaepDec core kd gr), (0x00A, Instr.ecdh core kd gr), (0x010, Instr.mlkemEncaps core kd gr),
          (0x011, Instr.mlkemDecaps core kd gr)],
        let q := tabGet [] (s.cluster (core.val / 8)).mau (core.val % 8)
        s.kdBusy core kd = false → q.length < 2 → ∃ t, exec p.2 s = .next t ∧
          tabGet [] (t.cluster (core.val / 8)).mau (core.val % 8) = q ++ [⟨p.1, false, kd, a, blk, 0⟩] ∧
          OnlyCore { s with clus := t.clus } t core { s.core core with pc := (s.core core).pc + 4 }) ∧
      (∀ alg : BitVec 8, 1 ≤ alg.toNat → alg.toNat ≤ 7 → (s.core core).hreqs.length < 2 →
        ∀ p ∈ [(false, Instr.hreq core alg gr), (true, Instr.hreqMore core alg gr)],
        ∃ t, exec p.2 s = .next t ∧ OnlyCore s t core { s.core core with
          hreqs := (s.core core).hreqs ++ [⟨alg.toNat, p.1, 0, a, blk, (s.core core).slotNo⟩], slotNo := (s.core core).slotNo + 1, pc := (s.core core).pc + 4 })) ∧
    (∀ (cluster : Fin 24) (line : Fin 8192) (func : BitVec 9), (tabGet [] (s.cluster cluster).mau 8).length < 16 →
      ∀ p ∈ [(func.toNat, Instr.mauSubmit cluster line func), (0x01C, Instr.xmssVerify cluster line),
        (0x01D, Instr.xmssmtSign cluster line)],
      ∃ t, exec p.2 s = .next t ∧ tabGet [] (t.cluster cluster).mau 8 = tabGet [] (s.cluster cluster).mau 8 ++
        [⟨p.1, false, 0, line.val * 64, memRead (s.cluster cluster).shared (line.val * 64) 64, 0⟩] ∧ Frame [.clus] s t) ∧
    (∀ (cluster : Fin 24) (line : Fin 8192) (func : BitVec 9), 16 ≤ (tabGet [] (s.cluster cluster).mau 8).length →
      ∀ i ∈ [Instr.mauSubmit cluster line func, .xmssVerify cluster line, .xmssmtSign cluster line],
        exec i s = .next (s.satInc (Reg.CLU_MAU_STAT_DROPPED cluster)))

/-- The key instructions: KLOAD takes the slot's key, KZERO empties, KATTR and KCHK read, KUNWRAP and KWRAP pass an X9.143 block, KDERIVE derives with the source's
window and ORIGIN 2 (its KVER is the model's choice, log entry 56), KGEN draws or waits; a twin mismatch discards (R119, R128 to R136, R145). -/
def Obligations.KeyInstructions : Prop :=
  ∀ (s : State) (core : Fin 192) (kd ka : Fin 16) (gr : Fin 32), s.runs core = true → s.kdBusy core kd = false →
    s.kdBusy core ka = false →
    let a := (s.getG core gr).toNat
    let b := (s.getG core (gr.val + 1)).toNat
    let put (t : State) (v : Option KeyVal) : Prop := t.kreg core kd = v ∧ (∀ q, q ≠ kd.val → t.kreg core q = s.kreg core q) ∧
      (t.core core).pc = (s.core core).pc + 4 ∧ (t.core core).mem = (s.core core).mem ∧ (∀ m, m ≠ core.val → t.core m = s.core m) ∧
      Frame [.cores, .ent, .free] s t
    (∀ e v, s.coreEntry core = some e → a ≤ 3 → e.slotKey a = some v → s.bindCheck (s.usageRows core) a v = none →
      ∃ t, exec (.kload core kd gr false) s = .next t ∧ put t (some v)) ∧
    (∃ t, exec (.kzero core kd false) s = .next t ∧ put t none) ∧
    (∃ t, exec (.kzeroAll core false) s = .next t ∧ (∀ q, t.kreg core q = none) ∧ (∀ q, t.getG core q = s.getG core q) ∧
      (∀ m, m ≠ core.val → t.core m = s.core m) ∧ Frame [.cores] s t) ∧
    (∀ v, s.kreg core ka = some v → v.tenant = s.runTenant core →
      ∀ p ∈ [(Instr.kattrA core ka gr false, v.wordA), (Instr.kattrB core ka gr false, v.wordB),
        (Instr.kattrNb core ka gr false, v.nb.getD 0), (Instr.kattrNa core ka gr false, v.na.getD 0),
        (Instr.kchk core ka gr false, leToNat (keyCheck v.alg v.val))],
      ∃ t, exec p.1 s = .next t ∧ Got s t core gr (BitVec.ofNat 64 p.2)) ∧
    (s.kreg core ka = none → ∀ c ∈ [Instr.kattrA core ka gr false, .kattrB core ka gr false, .kattrNb core ka gr false,
        .kattrNa core ka gr false], ∃ t, exec c s = .next t ∧ Got s t core gr 0#64) ∧
    (∀ w blk alg, pairOk gr = true → s.useKey core ka [chars 'K' '0', chars 'K' '1'] (modeList ['D', 'B', 'N']) = .inr w →
      w.alg ≠ 6 → s.operandOk core a b = true → kbUnwrap w.alg w.val (s.loadBytes core a b).1 = .inr blk →
      letterAlg blk.letter blk.key.length = some alg →
      let v : KeyVal := ⟨blk.key, alg, blk.usage, blk.mode, blk.exportCh, blk.kver, s.runTenant core, 0, none, none, 1, 0, 0⟩
      usageMatch (s.usageRows core) none v = true →
      ∃ t, exec (.kunwrap core kd ka gr false) s = .next t ∧ put t (some v) ∧ t.getG core gr = 0#64) ∧
    (∀ v w pad s1, pairOk gr = true → s.kreg core kd = some v → v.tenant = s.runTenant core →
      s.useKey core ka [chars 'K' '0', chars 'K' '1'] (modeList ['E', 'B', 'N']) = .inr w → w.alg ≠ 6 → exportRefused v w = false →
      kbLen w.alg v.val.length ≤ b → s.operandOk core a (kbLen w.alg v.val.length) = true →
      s.coreDraw core (kbPadLen w.alg v.val.length) = some (pad, s1) →
      ∃ t, exec (.kwrap core kd ka gr false) s = .next t ∧ t.getG core gr = 0#64 ∧
        t.getG core (gr.val + 1) = BitVec.ofNat 64 (kbLen w.alg v.val.length) ∧
        (t.core core).mem = memWrite (s.core core).mem a
          (kbWrap w.alg w.val ⟨algLetter v.alg, v.usage, v.mode, v.kver, v.exportCh, v.val⟩ pad) ∧
        (t.core core).k = (s.core core).k ∧ Frame [.cores, .ent] s t) ∧
    (∀ k, ∀ r ∈ deriveRows core kd ka gr k (fun n => (s.loadBytes core a n).1) b,
      let v : KeyVal := ⟨r.2.2.2.2.2.2.1, r.2.2.2.2.2.2.2.2.2, r.2.2.2.2.2.2.2.1, r.2.2.2.2.2.2.2.2.1, 'N'.toNat, k.kver,
        s.runTenant core, 0, k.nb, k.na, 2, 0, r.2.1⟩
      pairOk gr = true → s.useKey core ka r.2.2.1 (modeList ['X', 'N']) = .inr k → k.alg ∈ r.2.2.2.1 →
      s.operandOk core a r.2.2.2.2.1 = true → r.2.2.2.2.2.1 = true → usageMatch (s.usageRows core) none v = true →
      ∃ t, exec r.1 s = .next t ∧ put t (some v) ∧ t.getG core gr = 0#64) ∧
    (∀ k, ∀ r ∈ deriveRows core kd ka gr k (fun n => (s.loadBytes core a n).1) b,
      pairOk gr = true → s.useKey core ka r.2.2.1 (modeList ['X', 'N']) = .inr k → k.alg ∈ r.2.2.2.1 →
      s.operandOk core a r.2.2.2.2.1 = true → r.2.2.2.2.2.1 = false →
      ∃ t o, exec r.1 s = .next t ∧ o ∈ [2, 5, 6] ∧ put t none ∧ t.getG core gr = (if gr.val = 0 then 0#64 else BitVec.ofNat 64 o)) ∧
    (∀ w o, pairOk gr = true → s.useKey core ka [chars 'K' '0', chars 'K' '1'] (modeList ['D', 'B', 'N']) = .inr w →
      w.alg ≠ 6 → s.operandOk core a b = true → kbUnwrap w.alg w.val (s.loadBytes core a b).1 = .inl o →
      ∃ t, exec (.kunwrap core kd ka gr false) s = .next t ∧ put t none ∧
        t.getG core gr = (if gr.val = 0 then 0#64 else BitVec.ofNat 64 o)) ∧
    (∀ p ∈ [(Instr.kload core kd gr true, Dest.ofK kd), (.kzero core kd true, .ofK kd), (.kzeroAll core true, .allKs),
        (.kattrA core ka gr true, .none), (.kattrB core ka gr true, .none), (.kattrNb core ka gr true, .none),
        (.kattrNa core ka gr true, .none), (.kchk core ka gr true, .none), (.kunwrap core kd ka gr true, .ofK kd),
        (.kwrap core kd ka gr true, .none), (.dukptTdesIk core kd ka gr true, .ofK kd), (.dukptTdesWork core kd ka gr true, .ofK kd),
        (.dukptAesIk core kd ka gr true, .ofK kd), (.dukptAesWork core kd ka gr true, .ofK kd), (.emvIcc core kd ka gr true, .ofK kd),
        (.emvSession core kd ka gr true, .ofK kd), (.kgen core kd gr true, .ofK kd)],
      exec p.1 s = .next ((s.twinDiscard core p.2).exc core .twinMismatch)) ∧
    (∀ bytes s1,
      let alg := bitsAt a 0 8
      let v : KeyVal := ⟨bytes, alg, bitsAt a 8 16, bitsAt a 24 8, bitsAt a 32 8, bitsAt a 40 16, s.runTenant core, 0, none, none,
        3, 0, 0⟩
      1 ≤ alg → alg ≤ 6 → bitsAt a 56 8 = 0 → s.coreDraw core (if alg = 6 then 32 else algLen alg) = some (bytes, s1) →
      usageMatch (s.usageRows core) none v = true →
      ∃ t, exec (.kgen core kd gr false) s = .next t ∧ put t (some v)) ∧
    (let alg := bitsAt a 0 8
     1 ≤ alg → alg ≤ 6 → bitsAt a 56 8 = 0 → s.coreDraw core (if alg = 6 then 32 else algLen alg) = none →
      exec (.kgen core kd gr false) s = .next s)

/-- The instructions on sensitive data: PIN blocks deciphered and enciphered, PINs verified, generated and compared, card values generated and verified, registers
measured and emptied; an answer goes to g(r), 0 for success; a twin mismatch discards (R141 to R143, R145). -/
def Obligations.SensitiveInstructions : Prop :=
  ∀ (s : State) (core : Fin 192) (sd sb ka : Fin 16) (gr : Fin 32), s.runs core = true → s.kdBusy core ka = false →
    sOk sd = true → sOk sb = true →
    let a := (s.getG core gr).toNat
    let b := (s.getG core (gr.val + 1)).toNat
    let tenant := s.runTenant core
    let put (t : State) (v : Option SVal) : Prop := t.sval core sd = v ∧ (∀ q, q ≠ sd.val → t.sval core q = s.sval core q) ∧
      (t.core core).mem = (s.core core).mem ∧ (t.core core).pc = (s.core core).pc + 4 ∧
      (∀ m, m ≠ core.val → t.core m = s.core m) ∧ Frame [.cores, .ent, .free] s t
    let wrote (t : State) (at_ : Nat) (d : Bytes) : Prop := (t.core core).mem = memWrite (s.core core).mem at_ d ∧
      (t.core core).sreg = (s.core core).sreg ∧ (gr.val ≠ 0 → t.getG core gr = 0#64) ∧
      (∀ m, m ≠ core.val → t.core m = s.core m) ∧ Frame [.cores, .ent, .free] s t
    (∀ p ∈ [(0, Instr.pbdecF0 core sd ka gr false), (1, Instr.pbdecF1 core sd ka gr false), (2, Instr.pbdecF2 core sd ka gr false),
        (3, Instr.pbdecF3 core sd ka gr false), (4, Instr.pbdecF4 core sd ka gr false)],
      ∀ k pan pin s0, pairOk gr = true → s.useKey core ka [chars 'P' '0'] (modeList ['D', 'B', 'N']) = .inr k →
      pinAlgOk p.1 k.alg = true → s.operandOk core a (if p.1 = 4 then 16 else 8) = true →
      s.readPan core p.1 b = some (some pan, s0) →
      pinDecode p.1 k.alg k.val (s0.loadBytes core a (if p.1 = 4 then 16 else 8)).1 pan = some pin →
      ∃ t, exec p.2 s = .next t ∧ put t (some ⟨1, pin, tenant⟩) ∧ t.getG core gr = 0#64) ∧
    (∀ k ds, s.useKey core ka [chars 'P' '0'] (modeList ['D', 'B', 'N']) = .inr k → 3 ≤ k.alg → k.alg ≤ 5 →
      s.operandOk core a 16 = true → secretDecode k.val (s.loadBytes core a 16).1 = some ds →
      ∃ t, exec (.pbdecSec core sd ka gr false) s = .next t ∧ put t (some ⟨2, ds, tenant⟩) ∧ t.getG core gr = 0#64) ∧
    (∀ p ∈ [(0, Instr.pbencF0 core ka sb gr false), (1, Instr.pbencF1 core ka sb gr false), (2, Instr.pbencF2 core ka sb gr false),
        (3, Instr.pbencF3 core ka sb gr false), (4, Instr.pbencF4 core ka sb gr false)],
      ∀ k v pan s0 fill, pairOk gr = true → s.useKey core ka [chars 'P' '0'] (modeList ['E', 'B', 'N']) = .inr k →
      pinAlgOk p.1 k.alg = true → s.useS core sb (some 1) = some v → s.operandOk core a (if p.1 = 4 then 16 else 8) = true →
      s.readPan core p.1 b = some (some pan, s0) → (p.1 ≠ 0 → p.1 ≠ 2 → ∃ s1, s0.coreDraw core 16 = some (fill, s1)) →
      ∃ t, exec p.2 s = .next t ∧
        wrote t a (pinEncode p.1 k.alg k.val v.digits pan (if p.1 = 0 ∨ p.1 = 2 then [] else nibbles fill))) ∧
    (∀ v k, s.useS core sb (some 1) = some v → pairOk gr = true → s.operandOk core b 24 = true →
      let d8 := (s.loadBytes core a 8).1
      let p8 := pinParams ((s.loadBytes core a 8).2.loadBytes core b 24).1
      let p11 := pinParams ((s.loadBytes core a 11).2.loadBytes core b 24).1
      (s.useKey core ka [chars 'V' '1'] (modeList ['V', 'C', 'N']) = .inr k → 1 ≤ k.alg → k.alg ≤ 5 → s.operandOk core a 8 = true →
        p8.offsetOk true = true → p8.len ≤ v.digits.length →
        ∃ t, exec (.pverOfs core ka sb gr false) s = .next t ∧ Got s t core gr
          (if addDigits (naturalPin k.alg k.val p8.table d8 p8.len) (p8.offset.take p8.len) = v.digits.take p8.len then 0#64
            else 1#64)) ∧
      (∀ pan, s.useKey core ka [chars 'V' '2'] (modeList ['V', 'C', 'N']) = .inr k → k.alg = 1 → s.operandOk core a 11 = true →
        panDigits (s.loadBytes core a 11).1 = some pan → p11.index ≤ 9 → decimal p11.ref = true → p11.zero = true →
        ∃ t, exec (.pverVal core ka sb gr false) s = .next t ∧ Got s t core gr
          (if pinValue k.val pan v.digits p11.index = p11.ref then 0#64 else 1#64)) ∧
      (s.useKey core ka [chars 'V' '1'] (modeList ['G', 'C', 'N']) = .inr k → 1 ≤ k.alg → k.alg ≤ 5 → s.operandOk core a 8 = true →
        p8.offsetOk false = true → p8.len ≤ v.digits.length →
        ∃ t, exec (.pverGofs core ka sb gr false) s = .next t ∧ wrote t (b + 9) (packNibbles
          (subDigits (v.digits.take p8.len) (naturalPin k.alg k.val p8.table d8 p8.len) ++ p8.offset.drop p8.len)))) ∧
    (∀ fill s1, 4 ≤ a → a ≤ 12 → s.coreDraw core 16 = some (fill, s1) → ∃ t, exec (.pgenRnd core sd gr false) s = .next t ∧
      put t (some ⟨1, (List.range a).map (fun i => (Config.pinDigits fill a).getD i 0 % 10), tenant⟩)) ∧
    (∀ k, pairOk gr = true → s.useKey core ka [chars 'V' '1'] (modeList ['G', 'C', 'N']) = .inr k → k.alg ≠ 6 →
      s.operandOk core a 8 = true → s.operandOk core b 24 = true →
      let q := pinParams ((s.loadBytes core a 8).2.loadBytes core b 24).1
      q.offsetOk false = true → ∃ t, exec (.pgenNat core sd ka gr false) s = .next t ∧
        put t (some ⟨1, naturalPin k.alg k.val q.table (s.loadBytes core a 8).1 q.len, tenant⟩) ∧ t.getG core gr = 0#64) ∧
    (∀ v w, s.useS core sd none = some v → s.useS core sb none = some w → ∃ t, exec (.pcmp core sd sb gr false) s = .next t ∧
      Got s t core gr (if v = w then 0#64 else 1#64)) ∧
    (∀ k ds, s.operandOk core a 15 = true → k.alg = 1 → cardDigits (s.loadBytes core a 15).1 = some ds →
      (pairOk gr = true → s.useKey core ka [chars 'C' '0'] (modeList ['G', 'C', 'N']) = .inr k → s.operandOk core b 2 = true →
        ∃ t, exec (.cvgenGen core ka gr false) s = .next t ∧ wrote t b (cvBytes (cardValue k.val ds))) ∧
      (pairOk gr = true → s.useKey core ka [chars 'C' '0'] (modeList ['V', 'C', 'N']) = .inr k → s.operandOk core b 2 = true →
        ∃ t, exec (.cvgenVer core ka gr false) s = .next t ∧ Got s t core gr
          (if ((s.loadBytes core a 15).2.loadBytes core b 2).1 = cvBytes (cardValue k.val ds) then 0#64 else 1#64)) ∧
      (∀ x, s.useKey core ka [chars 'C' '0'] (modeList ['V', 'C', 'N']) = .inr k → s.useS core sb (some 2) = some x →
        ∃ t, exec (.cvgenVers core ka sb gr false) s = .next t ∧ Got s t core gr
          (if x.digits = cardValue k.val ds then 0#64 else 1#64))) ∧
    (∀ v, s.useS core sb none = some v → ∃ t, exec (.plen core sb gr false) s = .next t ∧
      Got s t core gr (BitVec.ofNat 64 (v.kind * 256 + v.digits.length))) ∧
    (∀ p ∈ [(Instr.pbdecF0 core sd ka gr true, Dest.ofS sd), (.pbdecF1 core sd ka gr true, .ofS sd), (.pbdecF2 core sd ka gr true, .ofS sd),
        (.pbdecF3 core sd ka gr true, .ofS sd), (.pbdecF4 core sd ka gr true, .ofS sd), (.pbdecSec core sd ka gr true, .ofS sd),
        (.pbencF0 core ka sb gr true, .none), (.pbencF1 core ka sb gr true, .none), (.pbencF2 core ka sb gr true, .none),
        (.pbencF3 core ka sb gr true, .none), (.pbencF4 core ka sb gr true, .none), (.pverOfs core ka sb gr true, .none),
        (.pverVal core ka sb gr true, .none), (.pverGofs core ka sb gr true, .none), (.pgenRnd core sd gr true, .ofS sd),
        (.pgenNat core sd ka gr true, .ofS sd), (.pcmp core sd sb gr true, .none), (.cvgenGen core ka gr true, .none),
        (.cvgenVer core ka gr true, .none), (.cvgenVers core ka sb gr true, .none), (.plen core sb gr true, .none),
        (.szero core sd true, .ofS sd), (.szeroAll core true, .allSs)],
      exec p.1 s = .next ((s.twinDiscard core p.2).exc core .twinMismatch)) ∧
    (4 ≤ a → a ≤ 12 → s.coreDraw core 16 = none → exec (.pgenRnd core sd gr false) s = .next s) ∧
    (∃ t, exec (.szero core sd false) s = .next t ∧ put t none) ∧
    (∃ t, exec (.szeroAll core false) s = .next t ∧ (∀ q, t.sval core q = none) ∧ (t.core core).k = (s.core core).k ∧
      (∀ m, m ≠ core.val → t.core m = s.core m) ∧ Frame [.cores] s t)

/-- The Sieve's commands: a prefix inserted is in the Sieve and in its shadow with its filter bit, one deleted is in neither, the filter entry written, a lookup's profile
(R240, R241, R245). The key cache, the terminal table and the shadow: a good record fills a way; an invalidation leaves no fresh key in its scope; a true miss learns its terminal and
S1's insertion enters it; the ager moves on; a block that differs reloads from its shadow; a spilled entry is asked for and read back (R237 to R255, R71). `wantLines` is the wait for lines of the sealed
store. The contents of a block, as its digest covers them, are the model's choice (log entry 60). -/
def Obligations.LookupTables : Prop :=
  (∀ (s : State),
     let u := s.rd Reg.TBL_SV_KEY_TENANT
     let tcam := s.bit Reg.TBL_SV_KEY_TCAM
     let d := s.svDigits
     let p : Prefix_ := ⟨u, d, tcam, s.rd Reg.TBL_SV_VAL_VALUE⟩
     let same (q : Prefix_) : Bool := q.tenant == u && q.tcam == tcam && q.digits == d
     (s.svOk true = true → s.tab.prefixes.any same = true ∨ (tcam = true ∧ prefixCount s.tab.prefixes true < 8192) ∨
         (tcam = false ∧ prefixCount s.tab.prefixes false < 1048576 ∧
           Config.sieveFull ((s.tab.prefixes.filter (fun p => !p.tcam)).map (fun (p : Prefix_) => (p.tenant, p.digits))) u d = false) →
       ∃ t, exec .sieveInsert s = .next t ∧ t.rd Reg.TBL_SV_CMD_RESULT = 0 ∧ p ∈ t.tab.prefixes ∧ p ∈ t.tab.shadow ∧
         (∀ q, same q = false → (q ∈ t.tab.prefixes ↔ q ∈ s.tab.prefixes)) ∧ (∀ q ∈ t.tab.prefixes, same q = true → q = p) ∧
         (tcam = false → bitAt (tabGet 0 t.tab.filter (filterRoot d)) (d.length - 1) = true) ∧ Frame [.tab, .regs] s t) ∧
     (s.svOk true = true → ∃ t, exec .sieveDelete s = .next t ∧
       t.rd Reg.TBL_SV_CMD_RESULT = (if s.tab.prefixes.any same then 0 else 2) ∧ (∀ q ∈ t.tab.prefixes, same q = false) ∧
       (∀ q, same q = false → (q ∈ t.tab.prefixes ↔ q ∈ s.tab.prefixes)) ∧ t.tab.filter = s.tab.filter ∧
       Frame [.tab, .regs] s t) ∧
     (∃ t, exec .sieveFilterWrite s = .next t ∧ t.rd Reg.TBL_SV_CMD_RESULT = 0 ∧
       tabGet 0 t.tab.filter (s.rd Reg.TBL_SV_DIG_DIGITS % 65536) = s.rd Reg.TBL_SV_VAL_VALUE % 2 ^ 19 ∧
       (∀ r, r ≠ s.rd Reg.TBL_SV_DIG_DIGITS % 65536 → tabGet 0 t.tab.filter r = tabGet 0 s.tab.filter r) ∧
       t.tab.prefixes = s.tab.prefixes ∧ Frame [.tab, .regs] s t) ∧
     (s.svOk true = true → s.tab.prefixes.any same = false → tcam = true → 8192 ≤ prefixCount s.tab.prefixes true →
       ∃ t, exec .sieveInsert s = .next t ∧ t.rd Reg.TBL_SV_CMD_RESULT = 1 ∧ Frame [.regs] s t) ∧
     (s.svOk false = true → s.lookupHeld u d = true → exec .sieveLookup s = .next s) ∧
     (s.svOk false = false → ∃ t, exec .sieveLookup s = .next t ∧ t.rd Reg.TBL_SV_CMD_RESULT = 3 ∧ Frame [.regs] s t) ∧
     (s.svOk false = true → s.lookupHeld u d = false → ∃ t, exec .sieveLookup s = .next t ∧
       (sieveLookup s.tab u d = none → t.rd Reg.TBL_SV_CMD_RESULT = 2) ∧
       (∀ r, sieveLookup s.tab u d = some r → t.rd Reg.TBL_SV_CMD_RESULT = 0 ∧ t.rd Reg.TBL_SV_VAL_VALUE = r.1 % 2 ^ 32) ∧
       t.rd (Reg.TBL_CNT_COUNT 2) = (s.rd (Reg.TBL_CNT_COUNT 2) + 1) % 2 ^ 64 ∧ Frame [.regs] s t) ∧
     (s.svOk true = false → (∃ t, exec .sieveInsert s = .next t ∧ t.rd Reg.TBL_SV_CMD_RESULT = 3 ∧ Frame [.regs] s t) ∧
       ∃ t, exec .sieveDelete s = .next t ∧ t.rd Reg.TBL_SV_CMD_RESULT = 3 ∧ Frame [.regs] s t)) ∧
  (∀ (s : State) (u : Fin 64) (handle : BitVec 24) (id : BitVec 64),
     let cached (t : State) (k : KeyVal) : Prop :=
       ∃ c ∈ t.tab.cache, c.tenant = u.val ∧ c.handle = handle.toNat ∧ c.key = k ∧ c.stale = false
     let room : Prop := (s.tab.cache.filter (fun c => s.cacheSetOf c.tenant c.handle == s.cacheSetOf u handle.toNat)).length < 8
     let space : Prop := (s.inBucket (s.bucketOf u id.toNat)).length < 8
     let entered (t : State) : Prop := ∃ x ∈ t.tab.terms, x.tenant = u.val ∧ x.id = id.toNat
     (∀ f d k, s.tab.fetches.find? (fun f => f.tenant == u.val && f.handle == handle.toNat && f.ready.isNone) = some f →
       f.again = false → (s.storeRead? f.read).map (·.res) = some (.good d) → s.checkRecord u handle.toNat d = .inr k → room →
       ∃ t, exec (.keyRecordArrival u handle) s = .next t ∧ cached t k) ∧
     (∀ f, s.tab.fetches.find? (fun f => f.tenant == u.val && f.handle == handle.toNat && f.ready.isNone) = some f →
       (s.storeRead? f.read).map (·.res) = some .waiting → exec (.keyRecordArrival u handle) s = .next s) ∧
     (s.tab.fetches.find? (fun f => f.tenant == u.val && f.handle == handle.toNat && f.ready.isNone) = none →
       exec (.keyRecordArrival u handle) s = .next s) ∧
     (s.tab.fetches.find? (fun f => f.tenant == u.val && f.handle == handle.toNat && f.ready.isSome) = none →
       exec (.keyCacheWayFill u handle) s = .next s) ∧
     (∀ f k, s.tab.fetches.find? (fun f => f.tenant == u.val && f.handle == handle.toNat && f.ready.isSome) = some f →
       f.again = false → f.ready = some k → room → ∃ t, exec (.keyCacheWayFill u handle) s = .next t ∧ cached t k) ∧
     (∀ scope gen : Fin 4, ∃ t, exec (.keyCacheInvalidate scope gen u handle) s = .next t ∧
       (∀ c ∈ t.tab.cache, c.tenant = u.val →
         (scope.val = 0 ∧ c.handle = handle.toNat) ∨ (scope.val = 1 ∧ c.key.gen = gen.val) ∨ scope.val = 2 → c.stale = true) ∧
       (∀ c ∈ s.tab.cache, c.tenant ≠ u.val → c.stale = false → c ∈ t.tab.cache) ∧ Frame [.tab] s t) ∧
     (∀ ins, s.tab.inserts.find? (fun n => n.tenant == u.val && n.id == id.toNat) = some ins → space →
       (ins.step = .probe 0 → ins.read = 0 → s.spillOn = false → s.bit (Reg.TBL_T_POL_LEARN u) = false →
         ∃ t, exec (.terminalSpillProbeDone u id) s = .next t ∧ entered t) ∧
       (ins.step = .probe 0 → ins.read = 0 → s.spillOn = false → s.bit (Reg.TBL_T_POL_LEARN u) = true →
         ∃ t, exec (.terminalSpillProbeDone u id) s = .next t ∧
           ∃ j ∈ t.tab.inserts, j.tenant = u.val ∧ j.id = id.toNat ∧ j.step = .soft 1) ∧
       (∀ x learned, ins.step = .wait x learned → exec (.terminalSpillProbeDone u id) s = .next (s.insertTerm ins x learned)) ∧
       (∀ why, ins.step = .soft why → ∃ t, exec (.terminalSoftInsert u id) s = .next t ∧ entered t ∧
         NewEvent s t .terminalLearnSoft u (loWord id.toNat) why)) ∧
     (s.tab.inserts.find? (fun n => n.tenant == u.val && n.id == id.toNat) = none →
       exec (.terminalSpillProbeDone u id) s = .next s ∧ exec (.terminalSoftInsert u id) s = .next s) ∧
     (s.bit Reg.TBL_CTL_AGER_EN = false → exec .terminalAgerStep s = .next s) ∧
     (s.bit Reg.TBL_CTL_AGER_EN = true → s.time.state ≠ .trusted → ∃ t, exec .terminalAgerStep s = .next t ∧
       t.tab = { s.tab with ager := (s.tab.ager + 1) % 32768 } ∧ Frame [.tab] s t) ∧
     (∀ x, s.bit Reg.TBL_CTL_AGER_EN = true → s.time.state = .trusted → s.rd Reg.TBL_TT_AGE_MAXAGE ≠ 0 →
       (s.inBucket s.tab.ager).filter (fun x => x.refs.isEmpty && decide (x.age + s.rd Reg.TBL_TT_AGE_MAXAGE < s.now)) = [x] →
       let w := s.wantLines (s.chainWants x.tenant x.id)
       w.1 = true → (w.2.spillPut x).1 = true → ∃ t, exec .terminalAgerStep s = .next t ∧ t.tab.ager = (s.tab.ager + 1) % 32768 ∧
         ∀ y ∈ t.tab.terms, ¬(y.tenant = x.tenant ∧ y.id = x.id)) ∧
     (s.bit Reg.TBL_CTL_BC_EN = true → s.tab.reload = none → s.store.st = .opened →
       let n := s.rd Reg.TBL_BC_STAT_BLOCK
       let w := s.wantLines ((s.shadowLines n).map (fun i => ⟨i, true, false, 0⟩))
       (w.1 = false → ∀ b, exec (.backgroundCompareBlock b) s = .next w.2) ∧
       (w.1 = true → (s.blockDigests n).1 = (s.blockDigests n).2 → ∃ t, exec (.backgroundCompareBlock false) s = .next t ∧ t.tab.reload = none ∧
         t.rd Reg.TBL_BC_STAT_BLOCK = (if Config.tableBlocks ≤ n + 1 then 0 else (n + 1) % 4096) ∧
         Frame [.tab, .regs, .store] s t) ∧
       (w.1 = true → ∃ t, exec (.backgroundCompareBlock true) s = .next t ∧ t.tab.reload = some n ∧
         t.rd Reg.TBL_BC_STAT_MISMATCH = min 65535 (s.rd Reg.TBL_BC_STAT_MISMATCH + 1) ∧
         NewEvent s t .tableBlockMismatch n (if n ∈ s.tab.mismatched then 2 else 1) 0 ∧
         (n ∈ s.tab.mismatched → t.rd Reg.TBL_STAT_FATAL = 1) ∧ Frame [.tab, .regs, .store, .evr] s t)) ∧
     (s.bit Reg.TBL_CTL_BC_EN = false ∨ s.tab.reload.isSome = true ∨ s.store.st ≠ .opened → ∀ b, exec (.backgroundCompareBlock b) s = .next s) ∧
     (s.tab.reload = none → exec .blockReloadDone s = .next s) ∧
     (∀ n, s.tab.reload = some n → ∃ t, exec .blockReloadDone s = .next t ∧ t.tab.reload = none ∧
       (∀ v vals, s.tab.shadowKh.filter (fun e => handleBlock e.1 == n) = [(v, vals)] →
         ∀ p ∈ (khFields v).zip vals, t.rd p.1 = p.2 % 2 ^ p.1.width) ∧
       t.tab.filter = s.tab.filter.filter (fun e => filterBlock e.1 != n) ++ s.tab.shadowFilter.filter (fun e => filterBlock e.1 == n) ∧
       t.tab.prefixes = s.tab.prefixes.filter (fun p => !(prefixBlock p.tenant p.digits == n)) ++
           s.tab.shadow.filter (fun p => prefixBlock p.tenant p.digits == n)) ∧
     (∀ e ∈ s.prf.entries, e.spilled = true → (∃ r ∈ s.prf.refills, r.2 = e.id) →
       (∀ r ∈ s.prf.refills, r.2 = e.id → ∃ d, (s.storeRead? r.1).map (·.res) = some (.good d)) →
       ∃ t, exec .refill s = .next t ∧ ∀ x ∈ t.prf.entries, x.id = e.id → x.spilled = false) ∧
     (∀ e, s.onChip + s.refilling < s.rd Reg.PRF_SPILL_CFG_LOW → s.store.st = .opened → s.refillNext = some e → e.places ≠ [] →
       ∃ t, exec .refill s = .next t ∧
         ((∃ r ∈ t.prf.refills, r.2 = e.id) ∨ ∀ x ∈ t.prf.entries, x.id = e.id → x.spilled = false)) ∧
     (s.prf.refills = [] → s.rd Reg.PRF_SPILL_CFG_LOW ≤ s.onChip → exec .refill s = .next s))

/-- A response ends a request: DONE is set, BUSY is clear, RESULT holds the result, once the port has written its last packet, or DMA_ERROR at once where the port
has failed or its MPU refuses the response buffer (R222, R224); nothing but the mailbox, the interrupt path, the link and the reports changes. What S0 answers to the operations that are no ceremonies and no key management: the response carries what the rule of each says (R202, R223, R224, R241, R244, R245, R355,
R419, R438, R454, R465). -/
def Obligations.Mailbox : Prop :=
  (∀ (s : State) (slot : Fin 65) (r : MbResult) (body : Bytes),
     let t := s.respond slot r body
     let m := s.slot slot
     let refused := s.bit (Reg.LNK_STAT_FAILED m.port) ||
       (s.mpuFirst (4 + m.port) .host (mailAccess .write) (m.rsp * 8) ((responseBytes m.bytes r body).take m.rspMax).length).isSome
     let s1 := s.hostWrite m.port .s0 false (m.rsp * 8) ((responseBytes m.bytes r body).take m.rspMax) .s0
     let last := s1.host.nextPkt - 1
     (refused = true → (t.slot slot).done = true ∧ (t.slot slot).busy = false ∧ (t.slot slot).result = MbResult.dmaError.code) ∧
       (refused = false → (s1.port m.port).queued last = false →
         (t.slot slot).done = true ∧ (t.slot slot).busy = false ∧ (t.slot slot).result = r.code) ∧
       (refused = false → (s1.port m.port).queued last = true →
         (t.slot slot).done = m.done ∧ (t.slot slot).busy = m.busy ∧ (t.slot slot).held = true ∧ (t.slot slot).ending = some (r, last)) ∧
       (∀ k, k ≠ slot.val → t.slot k = s.slot k) ∧ t.keys.tenants = s.keys.tenants ∧ t.keys.officers = s.keys.officers ∧
       Frame [.keys, .host, .regs, .evr] s t) ∧
  (∀ (s : State) (slot : Fin 65),
     (∀ p ∈ [(0x01, Instr.getChallenge slot), (0x13, .tenantInfo slot), (0x30, .routeSet slot), (0x31, .routeDelete slot),
         (0x32, .routeLookup slot), (0x50, .pairStatus slot), (0x70, .dmaWindow slot), (0x80, .logRead slot), (0x81, .logExport slot),
         (0xA0, .healthStatus slot)],
       (∀ r, TurnedDown s slot p.1 r → exec p.2 s = .next (s.respond slot r [])) ∧
       (s.mailReady slot = false → exec p.2 s = .next s) ∧ (s.mailTurn slot = false → exec p.2 s = .next s)) ∧
     (∀ op b, s.mailTurn slot = true → (s.slot slot).busy = true → (s.slot slot).held = false → (s.slot slot).reads = 0 → (s.slot slot).failed = false →
       leAt (s.slot slot).bytes 0 2 = op → leAt (s.slot slot).bytes 2 2 = 0 → (s.slot slot).bytes.drop 16 = b →
       leAt (s.slot slot).bytes 4 4 = b.length → s.opKnown op = false →
       exec (.unknownOp slot) s = .next (s.respond slot .unknownOp [])) ∧
     (∀ c s1, Served s slot 0x01 [] → s.newChallenge = some (c, s1) →
       exec (.getChallenge slot) s = .next (s1.respond slot .ok c) ∧ s1.keys.chals.head?.map (·.value) = some c) ∧
     (Served s slot 0x01 [] → s.newChallenge = none → exec (.getChallenge slot) s = .next s) ∧
     (∃ t, exec .challengeExpiry s = .next t ∧ (∀ c, c ∈ t.keys.chals ↔ c ∈ s.keys.chals ∧ s.now < c.until_) ∧
       t.keys.tenants = s.keys.tenants ∧ Frame [.keys] s t) ∧
     (∀ u : Fin 64, ∃ t, exec (.authStateExpiry u) s = .next t ∧
       (∀ n, (s.tenant u).keymgmt = some n → (t.tenant u).keymgmt = (if n ≤ s.now then none else some n)) ∧
       (∀ n, (s.tenant u).export_ = some n → (t.tenant u).export_ = (if n ≤ s.now then none else some n)) ∧
       Frame [.keys, .evr] s t) ∧
     (Served s slot 0x13 [] → ∃ st : Bytes, st.length = 8 ∧ exec (.tenantInfo slot) s = .next (({ s with free := s.free + 1 }).respond
       slot .ok (fitTo 48 (s.tenant slot).block ++ (s.tenant slot).policy.bytes ++ st))) ∧
     (Served s slot 0xA0 [] → exec (.healthStatus slot) s = .next (s.respond slot .ok (natToLe 4 s.ras.inService ++
       natToLe 4 s.ras.retired ++ natToLe 4 s.ras.testing ++ natToLe 4 (s.rd Reg.RAS_ROT_STAT_ROTATIONS)))) ∧
     (Served s slot 0x50 [] → exec (.pairStatus slot) s = .next (s.respond slot .ok (natToLe 8 s.pair.st.val ++
       natToLe 8 s.pair.horizon ++ natToLe 8 s.pair.epoch ++ natToLe 8 s.pair.takeovers))) ∧
     (∀ b, Served s slot 0x70 b → (s.slot slot).mark = none → windowFormat b = true →
       let s1 := s.windowCommit b
       (if byteAt b 0 = 4 then s1.extentRefused else s1.ringRefused (byteAt b 0)) = false →
       s1.issuedBefore (byteAt b 0) s1.host.nextPkt = false →
       ∃ u t : State, exec (.dmaWindow slot) s = .next t ∧ t = u.respond slot .ok [] ∧ t.region (4 + byteAt b 0) (byteAt b 1) =
           regionOf (leAt b 8 8 / 64 % 2 ^ 58) (leAt b 16 8 / 64 % 2 ^ 58)
             (BitVec.ofNat 64 (byteAt b 2 % 8 + 64 * b2n (bitAt (byteAt b 2) 3) + 256 * byteAt b 3 + 65536 * byteAt b 4)) ∧
         NewEvent s t .dmaWindowSet (joined (byteAt b 0) (byteAt b 1)) (hiWord (leAt b 8 8)) (hiWord (leAt b 16 8))) ∧
     (∀ b, Served s slot 0x70 b → (s.slot slot).mark = none → windowFormat b = false →
       exec (.dmaWindow slot) s = .next (s.respond slot .badFormat [])) ∧
     (∀ b m, Served s slot 0x70 b → (s.slot slot).mark = some m → s.issuedBefore (byteAt b 0) m = true → exec (.dmaWindow slot) s = .next s) ∧
     (∀ b first n, Served s slot 0x80 b → s.logBody slot b 2040 0 = some (first, n) →
       exec (.logRead slot) s = .next (s.respond slot .ok ((s.logScan slot first n).flatMap (fun r => r.bytes)))) ∧
     (∀ b first n, Served s slot 0x81 b → s.logBody slot b 1872 5605 = some (first, n) → s.signer.rebuilding = false →
       s.signer.present = true → slot.val = 64 → s.signer.next < attLeaves → s.evr.buf.length < 2048 →
       ∃ t sg, exec (.logExport slot) s = .next t ∧ sg = s.writeSeal.evr.seals.head?.bind (fun z => z.sig) ∧ sg.isSome = true ∧
         t = s.writeSeal.respond slot .ok ((s.writeSeal.logScan slot first n).flatMap (fun r => r.bytes) ++ sg.getD [])) ∧
     (∀ b first n leaf s3, Served s slot 0x81 b → s.logBody slot b 1872 5605 = some (first, n) → s.signer.rebuilding = false →
       s.signer.present = true → slot.val ≠ 64 → s.writeSeal.takeLeaf = (some leaf, s3) →
       let recs := (s.writeSeal.logScan slot first n).flatMap (fun r => r.bytes)
       exec (.logExport slot) s = .next (s3.respond slot .ok (recs ++
         s3.signWith leaf (natToLe 8 s.otp.uid ++ natToLe 8 first ++ natToLe 4 n ++ shake256 32 recs)))) ∧
     (∀ b, (Served s slot 0x30 b → s.authorised slot 0 = false → exec (.routeSet slot) s = .next (s.respond slot .notAuthorised [])) ∧
       (Served s slot 0x31 b → s.authorised slot 0 = false → exec (.routeDelete slot) s = .next (s.respond slot .notAuthorised []))) ∧
     (∀ b tcam d p, s.authorised slot 0 = true → routeBlock b = some (tcam, d, p) →
       (s.store.st ≠ .opened → (Served s slot 0x30 b → exec (.routeSet slot) s = .next (s.respond slot .storeState [])) ∧
         (Served s slot 0x31 b → exec (.routeDelete slot) s = .next (s.respond slot .storeState []))) ∧
       (s.store.st = .opened → (s.wantLines (s.shadowWants (routeBlocks slot d))).1 = false →
         (Served s slot 0x30 b → exec (.routeSet slot) s = .next (s.wantLines (s.shadowWants (routeBlocks slot d))).2) ∧
         (Served s slot 0x31 b → exec (.routeDelete slot) s = .next (s.wantLines (s.shadowWants (routeBlocks slot d))).2))) ∧
     (∀ b tcam d p s1, Served s slot 0x30 b → s.authorised slot 0 = true → routeBlock b = some (tcam, d, p) →
       s.store.st = .opened → (s.wantLines (s.shadowWants (routeBlocks slot d))).1 = true →
       (s.wantLines (s.shadowWants (routeBlocks slot d))).2.sieveInsert slot tcam d p = (0, s1) →
       exec (.routeSet slot) s = .next (((s1.writeShadow (routeBlocks slot d)).mirror ⟨4, 1, slot, 0, b⟩).respondMirrored slot slot []) ∧
         ⟨slot.val, d, tcam, p⟩ ∈ s1.tab.prefixes) ∧
     (∀ b tcam d p s1, Served s slot 0x31 b → s.authorised slot 0 = true → routeBlock b = some (tcam, d, p) →
       s.store.st = .opened → (s.wantLines (s.shadowWants (routeBlocks slot d))).1 = true →
       (s.wantLines (s.shadowWants (routeBlocks slot d))).2.sieveDelete slot tcam d = (0, s1) →
       exec (.routeDelete slot) s = .next (((s1.writeShadow (routeBlocks slot d)).mirror ⟨4, 2, slot, 0, b⟩).respondMirrored slot slot []) ∧
         ∀ q ∈ s1.tab.prefixes, ¬(q.tenant = slot.val ∧ q.digits = d ∧ q.tcam = tcam)) ∧
     (∀ b d p n w, Served s slot 0x32 b → panDigits b = some d → s.lookupHeld slot d = false →
       sieveLookup s.tab slot d = some (p, n, w) →
       exec (.routeLookup slot) s = .next (s.respond slot .ok (natToLe 4 p ++ natToLe 1 n ++ natToLe 1 w ++ zeros 2))) ∧
     (∀ b d, Served s slot 0x32 b → panDigits b = some d → s.lookupHeld slot d = false → sieveLookup s.tab slot d = none →
       exec (.routeLookup slot) s = .next (s.respond slot .notFound [])))

/-- Scale: its statements are numbered and cover the counters, a package is installed with the next seal generation, its key is stated, the array is persisted to alternate
banks, and a start runs the stored package, with a new key where R449 says so (R443 to R454). What its firmware accesses under its MPU is a free value (log entry
63): `scaleAccess` says whether the access was permitted, and a refused one resets the Scale cores alone. -/
def Obligations.ScaleCommands : Prop :=
  ∀ (s : State) (slot : Fin 65),
    (s.hasScale = true → s.scale.up = false →
      ∀ i ∈ [Instr.scaleRead slot, .scaleCut slot, .scaleUpdate slot, .scaleKey slot, .scalePersist false, .scalePersist true, .scaleIntervalExpiry],
        exec i s = .next s) ∧
    (s.scale.up = true → ∀ p ∈ [(0x90, Instr.scaleRead slot), (0x91, .scaleCut slot), (0x92, .scaleUpdate slot), (0x93, .scaleKey slot)],
      ∀ r, TurnedDown s slot p.1 r → exec p.2 s = .next (s.respond slot r [])) ∧
    (∀ b st, Served s slot 0x90 b → s.scale.up = true → b.length = 1 → byteAt b 0 ≤ 1 → s.scale.stmts[byteAt b 0]? = some st →
      exec (.scaleRead slot) s = .next (s.respond slot .ok st)) ∧
    (Served s slot 0x91 [] → s.scale.up = true → (∀ c, s.scale.lastCut = some c → c + s.secRaw 60 ≤ s.now) →
      ∃ u : State, exec (.scaleCut slot) s = .next (u.respond slot .ok (natToLe 8 (s.scale.stmtNum + 1))) ∧
        u.scale.stmtNum = s.scale.stmtNum + 1 ∧ u.scale.lastCut = some s.now ∧ u.scale.counts = s.scale.counts) ∧
    (∀ c, Served s slot 0x91 [] → s.scale.up = true → s.scale.lastCut = some c → s.now < c + s.secRaw 60 →
      exec (.scaleCut slot) s = .next (s.respond slot .busy [])) ∧
    (∀ b, Served s slot 0x92 b → s.scale.up = true → s.scalePkgFault b (s.scale.sgen + 1) = 0 →
      ∃ u t : State, exec (.scaleUpdate slot) s = .next t ∧ t = u.respond slot .ok [] ∧ t.scale.sgen = s.scale.sgen + 1 ∧ t.scale.pkg = some b ∧
        t.scale.interval = leAt b 12 4 ∧ t.scale.romfw = false ∧ t.scale.counts = s.scale.counts ∧
        NewEvent s t .scaleUpdated (s.scale.sgen + 1) (leAt b 16 4) (leAt b 12 4)) ∧
    (∀ b f, Served s slot 0x92 b → s.scale.up = true → f ≠ 0 → s.scalePkgFault b (s.scale.sgen + 1) = f →
      ∃ u t : State, exec (.scaleUpdate slot) s = .next t ∧ t = u.respond slot .scaleRefused [] ∧ t.scale = s.scale ∧
        NewEvent s t .scaleUpdateRefused f 0 0) ∧
    (Served s slot 0x93 [] → s.scale.up = true → s.signer.rebuilding = false → s.signer.present = true → s.signer.next < attLeaves →
      ∃ (t : State) (body : Bytes), exec (.scaleKey slot) s = .next t ∧ t.signer.next = s.signer.next + 1 ∧
        body.take 68 = s.scale.publicKey ∧ ∃ s1 : State, t = s1.respond slot .ok body) ∧
    (Served s slot 0x93 [] → s.scale.up = true → s.signer.rebuilding = true → exec (.scaleKey slot) s = .next s) ∧
    (s.hasScale = true → s.scale.up = true →
      let due := s.scale.start + s.secRaw s.scale.interval ≤ s.now
      let old := s.scale.lastPersist + s.secRaw 10 ≤ s.now
      (∀ fails, old → s.scaleAccess.1 = true → s.scale.bankA.bad = false → s.scale.bankB.bad = false →
        ∃ t, exec (.scalePersist fails) s = .next t ∧ t.scale.lastNum = s.scale.lastNum + 1 ∧ t.scale.restored = s.scale.counts ∧
          t.scale.lastPersist = s.now ∧ t.scale.counts = s.scale.counts ∧ Frame [.scale, .evr, .free] s t) ∧
      (due → s.scaleAccess.1 = true → ∃ t, exec .scaleIntervalExpiry s = .next t ∧
        t.scale.stmtNum = s.scale.stmtNum + 1 ∧ t.scale.start = s.now ∧ t.scale.counts = s.scale.counts ∧
        t.scale.restart = false ∧ Frame [.scale, .evr, .free] s t) ∧
      (s.scaleAccess.1 = false → ∃ t : State, (∀ fails, old → exec (.scalePersist fails) s = .next t) ∧
        (due → exec .scaleIntervalExpiry s = .next t) ∧ t.scale.up = false ∧ t.scale.restart = true ∧
        t.scale.lastRestart = s.now ∧ t.scale.counts = s.scale.counts ∧ (∃ a c, NewEvent s t .scaleFault a c 0) ∧
        Frame [.scale, .evr, .regs, .free] s t) ∧
      (¬ due → exec .scaleIntervalExpiry s = .next s) ∧ (¬ old → ∀ fails, exec (.scalePersist fails) s = .next s) ∧
      exec .scaleStart s = .next s) ∧
    (s.hasScale = true → s.scale.up = false →
      let makes := s.scale.present = false ∧ (s.scale.hadKey = true ∨ s.lc = .integrator)
      (makes → s.drbgBytes 195 96 = none → exec .scaleStart s = .next s) ∧
      (¬ makes ∨ (s.drbgBytes 195 96).isSome = true → ∃ t, exec .scaleStart s = .next t ∧ t.scale.up = true ∧ t.scale.start = s.now ∧
        t.scale.counts = s.scale.counts ∧ (s.scale.pkg = none → t.scale.romfw = true ∧ t.scale.interval = 3600) ∧
        (∀ p, s.scale.pkg = some p → s.scalePkgFault p s.scale.sgen = 0 → t.scale.romfw = false ∧ t.scale.interval = leAt p 12 4) ∧
        (s.scale.present = true → t.scale.next = s.scale.limit ∧ t.scale.seeds = s.scale.seeds) ∧
        (∀ r, makes → s.drbgBytes 195 96 = some r → t.scale.present = true ∧ t.scale.next = 0 ∧ t.scale.seeds = r.1) ∧
        Frame [.scale, .evr, .regs, .mpu, .ent] s t)) ∧
    (s.hasScale = false → (∀ fails, exec (.scalePersist fails) s = .next s) ∧ exec .scaleIntervalExpiry s = .next s ∧
      exec .scaleStart s = .next s)

/-- The custodian serial port: bytes in and out of its FIFOs, frames assembled, acknowledged, resent three times and given up, sessions opened by HELLO and ended by PRESENT,
ATTN or 120 s, with the ceremonies of a session abandoned (R202, R209, R213, R214). The NAK of a frame that no row of R214 lets S0 serve is the model's choice (log
entry 31). `fill` and `give` move S0's bytes into the transmit FIFO as there is room. -/
def Obligations.SerialPort : Prop :=
  ∀ (s : State),
    let c := s.keys.csp
    let over_ (t : State) : Prop := t.keys.csp.terminal = none ∧ t.rd Reg.CSP_STAT_SESSION = 0 ∧
      ((c.terminal.isSome = true) → ∀ o ∈ t.keys.opens, o.csp = false)
    (∀ (byte : BitVec 8) (ok : Bool), s.cspOn = false → exec (.cspByteReceived byte ok) s = .next s) ∧
    (c.rx = [] → exec .cspRxRead s = .next s) ∧
    (∀ byte : BitVec 8, 64 ≤ c.tx.length → exec (.cspTxWrite byte) s = .next s) ∧
    (c.frames = [] → ∀ i ∈ [Instr.cspHello, .cspChallengeRequest, .cspAbort, .cspAck, .cspNak, .cspBadFrame], exec i s = .next s) ∧
    (∀ byte : BitVec 8, s.cspOn = true →
      (c.rx.length < 64 → ∃ t, exec (.cspByteReceived byte true) s = .next t ∧ t.keys.csp = { c with rx := c.rx ++ [byte] } ∧
        Frame [.keys] s t) ∧
      (64 ≤ c.rx.length → ∃ t, exec (.cspByteReceived byte true) s = .next t ∧ t.rd Reg.CSP_STAT_OVERRUN = 1 ∧ Frame [.regs] s t) ∧
      (∃ t, exec (.cspByteReceived byte false) s = .next t ∧ t.rd Reg.CSP_STAT_FRAMING = 1 ∧ Frame [.regs] s t)) ∧
    (∀ b rest, c.rx = b :: rest →
      let a := c.asm ++ [b]
      (c.asm = [] → ∃ t, exec .cspRxRead s = .next t ∧ t.keys.csp = { c with rx := rest, asm := if b = 0x7E#8 then [b] else [] } ∧
        Frame [.keys] s t) ∧
      (5 < a.length → a.length = 7 + leAt a 3 2 → ∃ t, exec .cspRxRead s = .next t ∧
        t.keys.csp = { c with rx := rest, asm := [], frames := c.frames ++ [frameOf a] } ∧ Frame [.keys, .regs] s t)) ∧
    (∀ byte : BitVec 8, c.tx.length < 64 → ∃ t, exec (.cspTxWrite byte) s = .next t ∧ t.keys.csp = { c with tx := c.tx ++ [byte] } ∧
      Frame [.keys] s t) ∧
    (∃ t, exec .cspFlush s = .next t ∧ t.keys.csp = ({ c with rx := [], tx := [], txAcc := 0 } : Csp).fill ∧ Frame [.keys] s t) ∧
    (∀ f rest, c.frames = f :: rest → f.good = true →
      (f.type = 1 → f.data.length = 8 → s.pins.cspPresent = true → ∃ t, exec .cspHello s = .next t ∧
        t.keys.csp.terminal = some (leToNat f.data) ∧ t.keys.csp.frames = rest ∧
        (c.terminal = none → t.rd Reg.CSP_STAT_SESSION = 1 ∧ NewEvent s t .cspSession 1 (loWord (leToNat f.data)) (Config.causeNumber 0xB0D 0)) ∧
        Frame [.keys, .regs, .evr] s t) ∧
      (f.type = 2 → f.data = [] → c.terminal.isSome = true → (s.drbgBytes 192 32).isSome = true →
        ∃ t v, exec .cspChallengeRequest s = .next t ∧ t.keys.chals.head?.map (·.value) = some v ∧ t.keys.csp.frames = rest ∧
          t.keys.csp.given = c.given ++ [cspFrame 6 f.seq (natToLe 1 f.seq), cspFrame 0x82 c.seq v] ∧ Frame [.keys, .ent] s t) ∧
      (f.type = 5 → f.data = [] → c.terminal.isSome = true → ∃ t, exec .cspAbort s = .next t ∧ t.keys.csp.frames = rest ∧
        (∀ o ∈ t.keys.opens, o.csp = false) ∧ (∀ o ∈ s.keys.opens, o.csp = false → o ∈ t.keys.opens)) ∧
      (∀ b, f.data = [b] → ∀ p ∈ [(6, Instr.cspAck), (7, Instr.cspNak)], f.type = p.1 → ∃ t, exec p.2 s = .next t ∧
        t.keys.csp = { c with frames := rest, lastFrame := s.now, sent := c.sent.filter (fun x => x.seq ≠ b.toNat) } ∧
        Frame [.keys] s t)) ∧
    (∀ f rest, c.frames = f :: rest → f.good = false → ∃ t, exec .cspBadFrame s = .next t ∧ t.keys.csp = { c with frames := rest } ∧
      OnlyField s t Reg.CSP_CNT_CRC_ERR (min (2 ^ Reg.CSP_CNT_CRC_ERR.width - 1) (s.rd Reg.CSP_CNT_CRC_ERR + 1)) ∧
      Frame [.keys, .regs] s t) ∧
    (∀ f rest, c.frames = f :: rest → f.good = true → s.cspUnserved f = true → f.type ≠ 6 → f.type ≠ 7 →
      ∃ t, exec .cspBadFrame s = .next t ∧
        t.keys.csp = ({ c with frames := rest } : Csp).give (cspFrame 7 f.seq (natToLe 1 f.seq)) ∧ Frame [.keys] s t) ∧
    (∀ f rest, c.sent = f :: rest → f.at_ + s.msRaw 500 ≤ s.now →
      (f.tries < 3 → ∃ t, exec .cspResendTimeout s = .next t ∧ t.keys.csp = { c.give f.bytes with sent := rest ++ [{ f with tries := f.tries + 1, at_ := s.now }] } ∧ Frame [.keys] s t) ∧
      (3 ≤ f.tries → ∃ t, exec .cspResendTimeout s = .next t ∧ t.keys.csp = { c with sent := rest } ∧ Frame [.keys] s t)) ∧
    (∀ f rest, c.sent = f :: rest → s.now < f.at_ + s.msRaw 500 → exec .cspResendTimeout s = .next s) ∧
    (c.terminal = none ∨ s.now < c.lastFrame + s.secRaw 120 → exec .cspSessionTimeout s = .next s) ∧
    (c.terminal.isSome = true → c.lastFrame + s.secRaw 120 ≤ s.now → ∃ t, exec .cspSessionTimeout s = .next t ∧ over_ t) ∧
    (∀ present, ∃ t, exec (.cspPresentFall present) s = .next t ∧ t.rd Reg.CSP_STAT_PRESENT = b2n present ∧
      t.pins.cspPresent = present ∧ (present = false → over_ t) ∧ (present = true → t.keys = s.keys)) ∧
    (∀ low, ∃ t, exec (.cspAttn low) s = .next t ∧ t.rd Reg.CSP_STAT_ATTN = b2n low ∧ (low = true → over_ t) ∧
      (low = false → t.keys = s.keys))

/-- Device ceremonies, accepted, and what the checks of R206 that come before a kind's own refuse, of every kind (R203, R206, R207, R208, R292, R338, R340, R403, R405, R439): officers are registered and revoked, the device policy and the wall
time are set, the log is cleared up to a sealed record, a partner is named or the pair dissolved, and a SCRAP wipes the unit and starts its move. -/
def Obligations.DeviceCeremonies : Prop :=
  ∀ (s : State) (src : Fin 66),
    (∀ p ∈ [(0x01, Instr.registerOfficer src), (0x02, .revokeOfficer src), (0x04, .deleteTenant src), (0x05, .clearRecorder src 0#32),
        (0x06, .setWallTime src), (0x08, .scrap src), (0x09, .devicePolicy src), (0x10, .registerCustodian src), (0x11, .revokeCustodian src),
        (0x12, .loadMasterKey src), (0x13, .retireGeneration src), (0x14, .setCurrentGeneration src), (0x15, .registerProgramKey src),
        (0x16, .authoriseState src), (0x17, .traceConsent src), (0x18, .tenantPolicy src)],
      ∀ (b : Bytes) (s1 : State), Arrived s src b s1 → 7 ≤ b.length → byteAt b 5 = p.1 →
        let tenant := cerTenant (byteAt b 6)
        (ceremonyFormat s.otp.uid b = none → exec p.2 s = .next (refusal s1 src tenant p.1 .badFormat)) ∧
        (∀ c, ceremonyFormat s.otp.uid b = some c → s1.useChallenge c.challenge = none →
          exec p.2 s = .next (refusal s1 src tenant p.1 .badChallenge)) ∧
        (∀ c s2 r, ceremonyFormat s.otp.uid b = some c → s1.useChallenge c.challenge = some s2 → s2.ceremonyFault c = some r →
          exec p.2 s = .next (refusal s2 src tenant p.1 r))) ∧
   ∀ (c : Cer) (s2 : State), Accepted s src c s2 →
    let p := c.param
    let joint := joined c.signers.1 c.signers.2
    (∀ cr, c.kind = 0x01 → credBlock p s.now (fun i => decide (1 ≤ i ∧ i ≤ 16)) = some cr → (∀ o ∈ s.keys.officers, o.id ≠ cr.id) →
      ∃ t, exec (.registerOfficer src) s = .next t ∧ t.keys.officers = s.keys.officers ++ [cr] ∧ t.keys.tenants = s.keys.tenants ∧
        NewEvent s t .ceremonyAccepted 0xFF 0x01 joint ∧ NewEvent s t .credentialChanged 0xFF cr.id 1) ∧
    (c.kind = 0x02 → p.length = 8 → allZero (p.drop 2) = true → (∃ o ∈ s.keys.officers, o.id = leAt p 0 2) →
      2 ≤ adminsBut s.keys.officers (leAt p 0 2) → ∃ t, exec (.revokeOfficer src) s = .next t ∧
        t.keys.officers = s.keys.officers.filter (fun x => x.id ≠ leAt p 0 2) ∧ t.keys.tenants = s.keys.tenants ∧
        (∀ o ∈ t.keys.opens, o.signers.1 ≠ leAt p 0 2 ∧ o.signers.2 ≠ leAt p 0 2 ∧ ∀ q ∈ o.parts, q.submitter ≠ leAt p 0 2)) ∧
    (c.kind = 0x09 → p.length = 16 → 10 ≤ leAt p 0 4 → leAt p 0 4 ≤ 3600 → 60 ≤ leAt p 4 4 → leAt p 4 4 ≤ 86400 → 60 ≤ leAt p 8 4 →
      leAt p 8 4 ≤ 86400 → byteAt p 12 ≤ 1 → allZero (p.drop 13) = true → ∃ t, exec (.devicePolicy src) s = .next t ∧
        t.keys.policy = ⟨leAt p 0 4, leAt p 4 4, leAt p 8 4, byteAt p 12 == 1⟩ ∧ t.keys.officers = s.keys.officers ∧
        t.rd Reg.CSP_CTL_EN = byteAt p 12) ∧
    (c.kind = 0x06 → p.length = 32 → allZero (slice p 12 4) = true → allZero (slice p 24 8) = true → leAt p 16 8 < 2 ^ 40 →
      100000 ≤ leAt p 8 4 → leAt p 8 4 ≤ 1000000000 → ∃ t, exec (.setWallTime src) s = .next t ∧ t.rd Reg.TIM_WALL0_WALL0 = leAt p 0 8 ∧
        t.time = { s.time with mramWall0 := leAt p 0 8, mramWallValid := true, gap := false
                               pend := some ((s.time.pend.getD (0, 0)).1 + leAt p 16 8, leAt p 8 4) } ∧
        NewEvent s t .wallTimeSet (leAt p 8 4) (hiWord (leAt p 16 8)) (loWord (leAt p 16 8))) ∧
    (∀ pass, c.kind = 0x05 → p.length = 16 → byteAt p 8 ≤ 1 → allZero (slice p 9 7) = true → s.sealedAt (leAt p 0 8) = true →
      ∃ t, exec (.clearRecorder src pass) s = .next t ∧ t.evr.intent = none ∧
        (∀ a ∈ t.evr.archive, ∃ r ∈ a.recs, leAt p 0 8 < r.num)) ∧
    (c.kind = 0x07 → p.length = 48 → byteAt p 0 = 1 → allZero (slice p 1 7) = true → s.keys.pair = none → s.pair.pairing = none →
      s.pair.session = none → ∃ t, exec (.pairingPair src) s = .next t ∧
        t.pair.pairing = some ⟨leAt p 8 8, slice p 16 32, c.window.2, src⟩ ∧ t.keys.pair = none ∧ (src.val < 65 → (t.slot src).held = true)) ∧
    (c.kind = 0x07 → p.length = 48 → byteAt p 0 = 2 → allZero (p.drop 1) = true → s.pair.st ≠ .seedingIn →
      ∃ t, exec (.pairingDissolve src) s = .next t ∧ t.keys.pair = none ∧ t.pair.st = .unpaired ∧ t.pair.session = none ∧
        t.pair.key = none ∧ t.pair.barred = false ∧ t.keys.tenants = s.keys.tenants) ∧
    (c.kind = 0x08 → p = [] → s.lc.code < 4 → s.pins.pwrHold = true → s.pins.pfailN = true → s.life.move = none →
      ∃ t, exec (.scrap src) s = .next t ∧ t.life.marker = some 4 ∧ t.life.move = some ⟨4, s.lc.code, s.lc.code, 0, true, src⟩ ∧
        t.keys.officers = [] ∧ t.keys.tenants = [] ∧ t.keys.root = none ∧ NewEvent s t .lcTransitionStarted s.lc.code 4 0xFF)

/-- Tenant ceremonies, accepted (R192, R193, R207 to R212, R218 to R220, R225, R226, R409): each has the effect that its kind has on the tenant and leaves every
other tenant as it was. -/
def Obligations.TenantCeremonies : Prop :=
  ∀ (s : State) (src : Fin 66) (c : Cer) (s2 : State), Accepted s src c s2 →
    let p := c.param
    let n := c.tenant
    let x := s.tenant n
    let others (t : State) (n : Nat) : Prop := ∀ m, m ≠ n → t.tenant m = s.tenant m
    (c.kind = 0x03 → bitAt (byteAt p 1) 0 = false → levelsFormat p = true → (s.tenant (byteAt p 0)).deleting = false →
      (s.tenant (byteAt p 0)).exist = false → ∃ t, exec (.createTenant src) s = .next t ∧
        t.tenant (byteAt p 0) = { Tenant.absent with exist := true, block := p } ∧ others t (byteAt p 0) ∧
        t.rd (Reg.PRF_T_QUOTA_ENTRIES (byteAt p 0)) = leAt p 16 3 ∧ t.rd (Reg.PRF_T_PLACE_CORE_CAP (byteAt p 0)) = byteAt p 11 ∧
        NewEvent s t .tenantCreated (byteAt p 0) (leAt p 4 4) (leAt p 12 3)) ∧
    (c.kind = 0x03 → bitAt (byteAt p 1) 0 = true → levelsFormat p = true → (s.tenant (byteAt p 0)).exist = true →
      (s.tenant (byteAt p 0)).deleting = false → (∀ q, q < 16 → s.ringsIdle (byteAt p 0) q = true) →
      ∃ t, exec (.updateTenant src) s = .next t ∧ t.tenant (byteAt p 0) = { s.tenant (byteAt p 0) with block := p } ∧
        others t (byteAt p 0) ∧ (byteAt p 0, p) ∈ t.prf.levels ∧
        NewEvent s t .tenantUpdated (byteAt p 0) (leAt p 4 4) (leAt p 12 3)) ∧
    (c.kind = 0x03 → bitAt (byteAt p 1) 0 = true → levelsFormat p = true →
      ((s.tenant (byteAt p 0)).exist = false ∨ (s.tenant (byteAt p 0)).deleting = true →
        exec (.updateTenant src) s = .next (refusal s2 src 0xFF 0x03 .wrongState)) ∧
      ((s.tenant (byteAt p 0)).exist = true → (s.tenant (byteAt p 0)).deleting = false → (∃ q, q < 16 ∧ s.ringsIdle (byteAt p 0) q = false) →
        exec (.updateTenant src) s = .next (refusal s2 src 0xFF 0x03 .inUse))) ∧
    (c.kind = 0x04 → p.length = 1 → byteAt p 0 < 64 → (s.tenant (byteAt p 0)).deleting = false → (s.tenant (byteAt p 0)).exist = true →
      ∃ t, exec (.deleteTenant src) s = .next t ∧ (t.tenant (byteAt p 0)).deleting = true ∧ t.tenantResetting (byteAt p 0) = true ∧
        (src.val < 65 → (t.slot src).held = true)) ∧
    (∀ pol : Policy, c.kind = 0x18 → p = pol.bytes → pol.mirror ≤ 1 → pol.audit ≤ 2 → pol.learn ≤ 1 → pol.evict ≤ 1 → pol.vector ≤ 15 →
      pol.move ≤ 1 → 10 ≤ pol.idle → pol.idle ≤ 10000 → x.exist = true → ∃ t, exec (.tenantPolicy src) s = .next t ∧
        t.tenant n = { x with policy := pol } ∧ others t n ∧ t.rd (Reg.TBL_T_POL_EVICT n) = pol.evict ∧
        NewEvent s t .tenantPolicySet n (leAt p 0 4) (leAt p 8 4)) ∧
    (∀ cr, c.kind = 0x10 → credBlock p s.now (fun i => custodianOf i == some n) = some cr → x.exist = true →
      (∀ k ∈ x.custodians, k.id ≠ cr.id) → ∃ t, exec (.registerCustodian src) s = .next t ∧
        t.tenant n = { x with custodians := x.custodians ++ [cr] } ∧ others t n ∧ NewEvent s t .credentialChanged n cr.id 1) ∧
    (c.kind = 0x11 → p.length = 8 → allZero (p.drop 2) = true → (∃ k ∈ x.custodians, k.id = leAt p 0 2) →
      2 ≤ adminsBut x.custodians (leAt p 0 2) → ∃ t, exec (.revokeCustodian src) s = .next t ∧
        t.tenant n = { x with custodians := x.custodians.filter (fun k => k.id ≠ leAt p 0 2) } ∧ others t n ∧
        NewEvent s t .credentialChanged n (leAt p 0 2) 2) ∧
    (c.kind = 0x12 → p.length = 16 → byteAt p 0 ≤ 3 → byteAt p 1 ≤ 2 → byteAt p 2 = 2 ∨ byteAt p 2 = 3 → byteAt p 3 ≤ 1 →
      allZero (p.drop 9) = true → x.exist = true → s.master n (byteAt p 0) = none → s.keys.opens.length < 4 →
      (∀ o ∈ s.keys.opens, o.tenant ≠ n) → ∃ t, exec (.loadMasterKey src) s = .next t ∧ t.keys.opens = s.keys.opens ++
        [⟨n, byteAt p 0, byteAt p 1, byteAt p 2, byteAt p 3 == 1, slice p 4 5, shake256 32 c.body, c.signers, c.window.2, [],
          decide (src.val = 65)⟩] ∧ t.keys.tenants = s.keys.tenants) ∧
    (∀ m, c.kind = 0x13 → p.length = 8 → byteAt p 0 ≤ 3 → byteAt p 1 ≤ 1 → allZero (p.drop 2) = true → s.master n (byteAt p 0) = some m →
      s.currentGen n m.kind ≠ some (byteAt p 0) → x.migrate = none → (tabGet 0 x.records (byteAt p 0) = 0 ∨ byteAt p 1 = 1) →
      ∃ t, exec (.retireGeneration src) s = .next t ∧ t.master n (byteAt p 0) = none ∧ others t n ∧
        NewEvent s t .generationRetired n (byteAt p 0) (tabGet 0 x.records (byteAt p 0))) ∧
    (∀ m, c.kind = 0x14 → p.length = 8 → byteAt p 0 ≤ 2 → byteAt p 1 ≤ 3 → allZero (p.drop 2) = true →
      s.master n (byteAt p 1) = some m → m.kind = byteAt p 0 → ∃ t, exec (.setCurrentGeneration src) s = .next t ∧
        t.currentGen n (byteAt p 0) = some (byteAt p 1) ∧ (∀ k, k ≠ byteAt p 0 → t.currentGen n k = s.currentGen n k) ∧ others t n) ∧
    (c.kind = 0x15 → byteAt p 0 = 1 ∨ byteAt p 0 = 2 → allZero (slice p 1 3) = true → leAt p 4 4 = (if byteAt p 0 = 1 then 68 else 1952) →
      p.length = 8 + leAt p 4 4 → x.exist = true → ∃ t, exec (.registerProgramKey src) s = .next t ∧
        t.tenant n = { x with progKeys := tabSet [] x.progKeys (byteAt p 0) (p.drop 8) } ∧ others t n) ∧
    (c.kind = 0x16 → p.length = 8 → byteAt p 0 ≤ 3 → allZero (slice p 1 3) = true → leAt p 4 4 ≠ 0 → leAt p 4 4 ≤ s.keys.policy.maxAuth →
      ∃ t, exec (.authoriseState src) s = .next t ∧ others t n ∧
        t.tenant n = { x with keymgmt := if bitAt (byteAt p 0) 0 then some (s.now + s.secRaw (leAt p 4 4)) else x.keymgmt
                              export_ := if bitAt (byteAt p 0) 1 then some (s.now + s.secRaw (leAt p 4 4)) else x.export_ } ∧
        NewEvent s t .authStateEntered n (byteAt p 0) (leAt p 4 4)) ∧
    (c.kind = 0x17 → p.length = 32 → x.exist = true → ∃ t, exec (.traceConsent src) s = .next t ∧
      t.life.consents = s.life.consents ++ [(n, p)] ∧ t.life.token = s.life.token)

/-- The custodians' other requests (R209 to R212, R214, R215): a component of the right length, signer and check value enters its staging buffer, and the last one loads the
key; a signer aborts an open ceremony; authorised states are cancelled; and NOT_AFTER ends what is open. A message for no open ceremony is answered as log entry 34 says. -/
def Obligations.ComponentsAndAborts : Prop :=
  ∀ (s : State) (slot : Fin 65) (b : Bytes),
    (∀ p ∈ [(0x03, Instr.component (slot.castLE (by omega))), (0x04, .abort slot), (0x05, .cancelState slot)],
      (∀ r, TurnedDown s slot p.1 r → exec p.2 s = .next (s.respond slot r [])) ∧
      (s.mailReady slot = false → exec p.2 s = .next s) ∧ (s.mailTurn slot = false → exec p.2 s = .next s)) ∧
    (∀ (src : Fin 66) (s1 : State) (alg : Nat) (pk sig : Bytes),
      let id := leAt b 40 2
      let n := leAt b 42 2
      let known (o : OpenLoad) : Prop := ∃ cr, s.cred? id = some cr ∧ custodianOf id = some o.tenant ∧ bitAt cr.roles roleOne = true ∧
        cr.isKey alg pk = true
      ArrivedAs s src 0x03 4 b s1 → leAt b 0 4 = 0x504D4344 → byteAt b 4 = 1 → 1 ≤ byteAt b 6 → byteAt b 6 ≤ 3 → byteAt b 7 = 0 →
      n = (if byteAt b 6 = 1 then 1616 else if byteAt b 6 = 2 then 384 else 32) → allZero (slice b 44 4) = true → allZero (slice b 53 3) = true →
      signerBlock (b.drop (56 + n)) = some (alg, pk, sig, []) →
      (s.keys.opens.find? (fun o => o.digest == slice b 8 32) = none → exec (.component src) s = .next (s1.answer src .abandoned [])) ∧
      (∀ o : OpenLoad, s.keys.opens.find? (fun o => o.digest == slice b 8 32) = some o → (src.val < 64 → o.tenant = src.val) →
        (byteAt b 6 = 3 → src.val = 65 ∧ o.csp = true) → 1 ≤ byteAt b 5 → byteAt b 5 ≤ o.count →
        (¬known o ∨ (∃ q ∈ o.parts, q.submitter = id) → exec (.component src) s = .next (s1.answer src .badSigner [])) ∧
        (known o → (∀ q ∈ o.parts, q.submitter ≠ id) → credVerify alg pk sig (b.take (56 + n)) = false →
          exec (.component src) s = .next (s1.answer src .badSignature [])) ∧
        (known o → (∀ q ∈ o.parts, q.submitter ≠ id ∧ q.index ≠ byteAt b 5) → credVerify alg pk sig (b.take (56 + n)) = true →
          (s.componentOf o.kind b (slice b 56 n) = none → exec (.component src) s = .next (s1.answer src .badFormat [])) ∧
          (∀ v, s.componentOf o.kind b (slice b 56 n) = some v →
            let o2 : OpenLoad := { o with parts := o.parts ++ [⟨byteAt b 5, id, v⟩] }
            let key := combine o2.parts (masterLen o.kind)
            let kcv := fitTo 5 (keyCheck (masterAlg o.kind) key)
            let good := fitTo 5 (keyCheck (masterAlg o.kind) v) = slice b 48 5
            let weak := o.kind ≠ 2 ∧ weakTdes key = true
            let other := allZero o.expect = false ∧ o.expect ≠ kcv
            (¬good → exec (.component src) s = .next (s1.answer src .componentKcv [])) ∧
            (good → o2.parts.length < o.count → ∃ t, exec (.component src) s = .next t ∧ t.keys.tenants = s.keys.tenants ∧
              t.keys.opens = s.keys.opens.map (fun x => if x = o then o2 else x)) ∧
            (good → o.count ≤ o2.parts.length → weak ∨ other → ∃ t, exec (.component src) s = .next t ∧ t.keys.tenants = s.keys.tenants ∧
              NewEvent s t .ceremonyAbandoned o.tenant 0x12 (Config.causeNumber 0xB05 (if o.kind ≠ 2 ∧ weakTdes key = true then 8 else 9))) ∧
            (good → o.count ≤ o2.parts.length → ¬weak → ¬other → ∃ t, exec (.component src) s = .next t ∧
              (∀ m, m ≠ o.tenant → t.tenant m = s.tenant m) ∧ t.master o.tenant o.slot = some ⟨o.kind, key⟩ ∧
              (o.current = true → t.currentGen o.tenant o.kind = some o.slot) ∧
              NewEvent s t .masterKeyLoaded o.tenant (joined o.slot o.kind) (leToNat kcv)))))) ∧
    (∀ alg pk sig, Served s slot 0x04 b → signerBlock (b.drop 32) = some (alg, pk, sig, []) →
      (s.keys.opens.find? (fun o => o.digest == b.take 32) = none → exec (.abort slot) s = .next (s.respond slot .notFound [])) ∧
      (∀ (o : OpenLoad), s.keys.opens.find? (fun o => o.digest == b.take 32) = some o → (slot.val < 64 → o.tenant = slot.val) →
        let signer : Prop := ∃ cr, (s.cred? o.signers.1 = some cr ∨ s.cred? o.signers.2 = some cr) ∧ cr.isKey alg pk = true
        (¬signer → exec (.abort slot) s = .next (s.respond slot .badSigner [])) ∧
        (signer → credVerify alg pk sig (b.take 32) = false → exec (.abort slot) s = .next (s.respond slot .badSignature [])) ∧
        (signer → credVerify alg pk sig (b.take 32) = true →
          ∃ t, exec (.abort slot) s = .next t ∧ t.keys.opens = s.keys.opens.erase o ∧ t.keys.tenants = s.keys.tenants))) ∧
    (∀ alg pk sig, Served s slot 0x05 b → signerBlock (b.drop 8) = some (alg, pk, sig, []) → byteAt b 0 ≤ 3 → allZero (slice b 1 7) = true →
      let signer : Prop := s.keys.root.isSome = true ∧ ∃ cr ∈ (s.tenant slot).custodians, bitAt cr.roles roleTwo = true ∧ cr.isKey alg pk = true
      (¬signer → exec (.cancelState slot) s = .next (s.respond slot .badSigner [])) ∧
      (signer → credVerify alg pk sig (b.take 8) = false → exec (.cancelState slot) s = .next (s.respond slot .badSignature [])) ∧
      (signer → credVerify alg pk sig (b.take 8) = true → ∃ u t : State, exec (.cancelState slot) s = .next t ∧ t = u.respond slot .ok [] ∧
        t.tenant slot = { s.tenant slot with
          keymgmt := if bitAt (byteAt b 0) 0 then none else (s.tenant slot).keymgmt
          export_ := if bitAt (byteAt b 0) 1 then none else (s.tenant slot).export_ })) ∧
    (∃ t, exec .ceremonyNotAfterExpiry s = .next t ∧ t.keys.opens = s.keys.opens.filter (fun o => decide (s.now < o.notAfter)) ∧
      t.keys.tenants = s.keys.tenants) ∧
    (s.pair.pairing = none → exec .pairingNotAfterExpiry s = .next s) ∧
    (∀ p : Pairing, s.pair.pairing = some p →
      (s.now < p.notAfter → exec .pairingNotAfterExpiry s = .next s) ∧
      (p.notAfter ≤ s.now → ∃ t, exec .pairingNotAfterExpiry s = .next t ∧ t.pair.pairing = none ∧ t.keys.pair = s.keys.pair))

/-- COMMISSION, in INTEGRATOR or FIELDED on a unit without level 1 keys, signed by the integrator's key (R189, R190): the root key is made, the two officers hold ADMIN, every
custodian registry is empty, and the guard is armed again; anything else is refused, and the request waits for S0's random numbers. -/
def Obligations.Commissioning : Prop :=
  ∀ (s : State) (slot : Fin 65) (b : Bytes),
    let d := tabGet [] s.otp.keys 1
    let refused (u : State) (r : MbResult) : State := (u.keyEvent .ceremonyRefused 0xFF 0 r.code).respond slot r []
    (∀ r, TurnedDown s slot 0x07 r → exec (.commission slot) s = .next (s.respond slot r [])) ∧
    (s.mailReady slot = false ∨ s.mailTurn slot = false → exec (.commission slot) s = .next s) ∧
    (Served s slot 0x07 b → commissionFormat s.otp.uid b = none → exec (.commission slot) s = .next (refused s .badFormat)) ∧
    (∀ offs : List (Nat × Nat × Bytes), Served s slot 0x07 b → commissionFormat s.otp.uid b = some offs →
      (s.useChallenge (slice b 16 32) = none → exec (.commission slot) s = .next (refused s .badChallenge)) ∧
      (∀ s2 : State, s.useChallenge (slice b 16 32) = some s2 →
        let state := (s.lc = .integrator ∨ s.lc = .fielded) ∧ s.keys.root = none
        let signer := byteAt b 128 = 1 ∧ d ≠ [] ∧ shake256 32 (slice b 132 68) = d
        let good := Config.xmssVerify (slice b 132 68) (b.take 128) (b.drop 200)
        (¬state → exec (.commission slot) s = .next (refused s2 .wrongState)) ∧
        (state → ¬signer → exec (.commission slot) s = .next (refused s2 .badSigner)) ∧
        (state → signer → good = false → exec (.commission slot) s = .next (refused s2 .badSignature)) ∧
        (state → signer → good = true → s2.drbgBytes 192 288 = none → exec (.commission slot) s = .next s) ∧
        (∀ (rnd : Bytes) (s3 : State), state → signer → good = true → s2.drbgBytes 192 288 = some (rnd, s3) →
          ∃ t, exec (.commission slot) s = .next t ∧ t.keys.root = some (rnd.take 32) ∧
            t.keys.officers = offs.map (fun (o : Nat × Nat × Bytes) => ⟨o.1, 1, o.2.1, o.2.2, s.now⟩) ∧
            (∀ n, n < 64 → (t.tenant n).custodians = []) ∧ t.rd Reg.GRD_STAT_TRIP_ACTIVE = 0 ∧ t.pins.tamperN = true ∧
            t.signer.present = true ∧ t.signer.next = 0 ∧ t.signer.seeds = slice rnd 192 96 ∧
            NewEvent s t .commissioned (joined (leAt b 48 2) (leAt b 84 2)) 0 0)))

/-- Key records (R191 to R198, R201, R244): a request is refused without its authorised state or its format (in the order of log entry 36), and waits for its lines and
for S0's random numbers; a record is made under the current generation of its kind, from random bytes or from an X9.143 block; windows, generation and presence change; the
record is written, its cached key invalidated, and the answer waits for the mirror where the tenant's policy says so. A record that cannot be read gives STORE_STATE,
or BLOCK_INTEGRITY in an open store (log entry 35); one that can be read can be written. What leaves and enters the unit under keys, and the migration (R196 to R201): records and images are exported, imported and wrapped anew, attributes and backups are
read without an authorised state, a migration is noted and ends, and the transport keys are given in a signed statement. The PKCS#8 form is taken from its standard
(log entry 64). -/
def Obligations.KeyManagement : Prop :=
  (∀ (s w : State) (slot : Fin 65) (b : Bytes),
     let h := leAt b 0 4
     let put (s1 : State) (r body : Bytes) (o : Host.Outcome State Fault Refusal) : Prop :=
       ∃ s2, s1.recordPut slot h r = (true, s2) ∧ o = .next ((s2.invalidateHandle slot h).respondMirrored slot slot body)
     (∀ p ∈ [(0x20, Instr.kmGenerate slot), (0x21, .kmImportBlock slot), (0x22, .kmExportBlock slot), (0x23, .kmDelete slot),
         (0x24, .kmSetWindow slot), (0x25, .kmRewrap slot), (0x26, .kmMigrate slot), (0x27, .kmReadAttr slot), (0x28, .kmBackup slot),
         (0x29, .kmRestore slot), (0x2A, .kmImportImage slot), (0x2B, .kmExportImage slot), (0x2C, .kmRewrapImage slot), (0x2D, .kmDevicePubkeys slot)],
       (∀ r, TurnedDown s slot p.1 r → exec p.2 s = .next (s.respond slot r [])) ∧
       (s.mailReady slot = false → exec p.2 s = .next s) ∧ (s.mailTurn slot = false → exec p.2 s = .next s) ∧
       (∀ i, Served s slot p.1 b → kmAuth p.1 = some i → s.authorised slot i = false → exec p.2 s = .next (s.respond slot .notAuthorised [])) ∧
       (Served s slot p.1 b → (∀ i, kmAuth p.1 = some i → s.authorised slot i = true) → ¬KmFormat s slot p.1 b →
         exec p.2 s = .next (s.respond slot .badFormat [])) ∧
       (Served s slot p.1 b → (∀ i, kmAuth p.1 = some i → s.authorised slot i = true) → KmFormat s slot p.1 b →
         s.wantLines (kmLines s slot p.1 b) = (false, w) → exec p.2 s = .next w)) ∧
     (KmRuns s slot 0x20 b w →
       let target := w.kmTarget slot h (byteAt b 5) (leAt b 8 8) (leAt b 24 8) (leAt b 32 8) (byteAt b 4 == 1)
       (∀ r, target = .inl r → exec (.kmGenerate slot) s = .next (w.respond slot r [])) ∧
       (∀ gm, target = .inr gm → w.drbgBytes 192 (byteAt b 16) = none → exec (.kmGenerate slot) s = .next s) ∧
       (∀ gm key s1 field s2, target = .inr gm → w.drbgBytes 192 (byteAt b 16) = some (key, s1) → s1.keyField (byteAt b 5) key = some (field, s2) →
         put s2 (recordSeal gm.2 (recordHead slot h (byteAt b 5) gm.1 (leAt b 8 8) key.length (leAt b 24 8) (leAt b 32 8)
             (fitTo 5 (keyCheck (byteAt b 8) key)) s1.now (slice b 40 8)) field)
           (fitTo 5 (keyCheck (byteAt b 8) key) ++ natToLe 1 gm.1 ++ zeros 2) (exec (.kmGenerate slot) s))) ∧
     (KmRuns s slot 0x21 b w →
       let kbpk := w.kbpk slot (leAt b 8 4) ['D', 'B', 'N']
       (∀ r, kbpk = .inl r → exec (.kmImportBlock slot) s = .next (w.respond slot r [])) ∧
       (∀ kb o, kbpk = .inr kb → kbUnwrap kb.alg kb.val (b.drop 40) = .inl o →
         exec (.kmImportBlock slot) s = .next (w.respond slot (if o = 1 then .blockIntegrity else .blockFormat) [])) ∧
       (∀ kb x, kbpk = .inr kb → kbUnwrap kb.alg kb.val (b.drop 40) = .inr x → letterAlg x.letter x.key.length = none →
         exec (.kmImportBlock slot) s = .next (w.respond slot .blockFormat [])) ∧
       (∀ kb x alg wa, kbpk = .inr kb → kbUnwrap kb.alg kb.val (b.drop 40) = .inr x → letterAlg x.letter x.key.length = some alg →
         wa = alg + x.usage * 2 ^ 8 + x.mode * 2 ^ 24 + x.exportCh * 2 ^ 32 + x.kver * 2 ^ 40 →
         let target := w.kmTarget slot h (byteAt b 5) wa (leAt b 16 8) (leAt b 24 8) (byteAt b 4 == 1)
         (∀ r, target = .inl r → exec (.kmImportBlock slot) s = .next (w.respond slot r [])) ∧
         (∀ gm field s1, target = .inr gm → w.keyField (byteAt b 5) x.key = some (field, s1) →
           put s1 (recordSeal gm.2 (recordHead slot h (byteAt b 5) gm.1 wa x.key.length (leAt b 16 8) (leAt b 24 8)
               (fitTo 5 (keyCheck (wa % 256) x.key)) w.now (slice b 32 8)) field)
             (fitTo 5 (keyCheck (wa % 256) x.key) ++ natToLe 1 gm.1 ++ zeros 2) (exec (.kmImportBlock slot) s)))) ∧
     (∀ r, KmRuns s slot 0x23 b w → w.kmRecord slot h = .inr r → put w (zeros 128) [] (exec (.kmDelete slot) s)) ∧
     (∀ r, (KmRuns s slot 0x23 b w → w.kmRecord slot h = .inl r → exec (.kmDelete slot) s = .next (w.respond slot r [])) ∧
       (KmRuns s slot 0x25 b w → w.kmOpen slot h = .inl r → exec (.kmRewrap slot) s = .next (w.respond slot r []))) ∧
     (KmRuns s slot 0x24 b w → w.badTimes (leAt b 8 8) (leAt b 16 8) = true →
       exec (.kmSetWindow slot) s = .next (w.respond slot .timeUntrusted [])) ∧
     (∀ r f m, KmRuns s slot 0x24 b w → w.badTimes (leAt b 8 8) (leAt b 16 8) = false → w.kmOpen slot h = .inr (r, f) →
       w.master slot (recordGen r) = some m →
       put w (recordSeal m (patch (r.take 64) 24 (slice b 8 16)) f) [] (exec (.kmSetWindow slot) s)) ∧
     (∀ r f m, KmRuns s slot 0x25 b w → w.kmOpen slot h = .inr (r, f) → w.master slot (byteAt b 4) = some m →
       (kindFits m.kind (byteAt r 8) (leAt r 9 2) = false → exec (.kmRewrap slot) s = .next (w.respond slot .kindMismatch [])) ∧
       (∀ field s1, kindFits m.kind (byteAt r 8) (leAt r 9 2) = true → w.keyField m.kind (f.take (byteAt r 16)) = some (field, s1) →
         put s1 (recordSeal m (patch (patch (r.take 64) 2 (natToLe 1 (byteAt b 4 + 4 * m.kind))) 8
             (natToLe 8 (leAt r 8 8 % 2 ^ 62 + byteAt b 4 * 2 ^ 62))) field) [] (exec (.kmRewrap slot) s))) ∧
     (KmRuns s slot 0x29 b w →
       (recordTenant (b.drop 8) ≠ slot.val → exec (.kmRestore slot) s = .next (w.respond slot .blockIntegrity [])) ∧
       (recordTenant (b.drop 8) = slot.val → leAt b 8 2 ≠ 1 → exec (.kmRestore slot) s = .next (w.respond slot .blockFormat [])) ∧
       (∀ m, recordTenant (b.drop 8) = slot.val → leAt b 8 2 = 1 → w.master slot (recordGen (b.drop 8)) = some m →
         (∀ e, recordFault slot h m (b.drop 8) = .inl e → exec (.kmRestore slot) s = .next (w.respond slot .blockIntegrity [])) ∧
         (∀ f old, recordFault slot h m (b.drop 8) = .inr f → w.recordGet slot h = .good old →
           (holdsRecord old = true ∧ byteAt b 4 = 0 → exec (.kmRestore slot) s = .next (w.respond slot .handleInUse [])) ∧
           (holdsRecord old = false ∨ byteAt b 4 = 1 → put w (b.drop 8) [] (exec (.kmRestore slot) s)))))) ∧
  (∀ (s w : State) (slot : Fin 65) (b : Bytes),
     (∀ r, KmRuns s slot 0x27 b w → w.kmRecord slot (leAt b 0 4) = .inr r →
       exec (.kmReadAttr slot) s = .next (w.respond slot .ok (r.take 64))) ∧
     (∀ r, KmRuns s slot 0x28 b w → w.kmRecord slot (leAt b 0 4) = .inr r →
       exec (.kmBackup slot) s = .next (w.respond slot .ok r)) ∧
     (∀ r, w.kmRecord slot (leAt b 0 4) = .inl r →
       (KmRuns s slot 0x27 b w → exec (.kmReadAttr slot) s = .next (w.respond slot r [])) ∧
       (KmRuns s slot 0x28 b w → exec (.kmBackup slot) s = .next (w.respond slot r []))) ∧
     (∀ r f kb, KmRuns s slot 0x22 b w → w.kmOpen slot (leAt b 0 4) = .inr (r, f) → w.kbpk slot (leAt b 4 4) ['E', 'B', 'N'] = .inr kb →
       (exportRefused (recordKey r f) kb = true → exec (.kmExportBlock slot) s = .next (w.respond slot .notExportable [])) ∧
       (∀ pad s1, exportRefused (recordKey r f) kb = false → w.drbgBytes 192 (kbPadLen kb.alg (recordKey r f).val.length) = some (pad, s1) →
         ∃ (t : State) (blk : Bytes), exec (.kmExportBlock slot) s = .next t ∧ NewEvent s t .keyExported slot (leAt b 0 4) (leAt b 4 4) ∧
           blk = kbWrap kb.alg kb.val ⟨algLetter (recordKey r f).alg, (recordKey r f).usage, (recordKey r f).mode, (recordKey r f).kver,
             (recordKey r f).exportCh, (recordKey r f).val⟩ pad ∧
           ∃ s2 : State, t = s2.respond slot .ok (natToLe 4 blk.length ++ zeros 4 ++ blk))) ∧
     (KmRuns s slot 0x26 b w →
       let src := w.master slot (byteAt b 0)
       let dst := w.master slot (byteAt b 1)
       ((src = none ∨ dst = none) → exec (.kmMigrate slot) s = .next (w.respond slot .notFound [])) ∧
       (src.isSome = true → dst.isSome = true → (w.tenant slot).migrate.isSome = true → exec (.kmMigrate slot) s = .next (w.respond slot .busy [])) ∧
       (src.isSome = true → dst.isSome = true → (w.tenant slot).migrate = none → ∃ t, exec (.kmMigrate slot) s = .next t ∧
         t.tenant slot = { w.tenant slot with migrate := some ⟨byteAt b 0, byteAt b 1, 0, 0⟩ })) ∧
     (∀ n : Fin 64,
       let lines := (s.store.tree.lines.map (·.1)).filter (fun i =>
         decide (s.rd (Reg.TBL_KH_BASE_BASE n) ≤ i) && decide (2 * (i - s.rd (Reg.TBL_KH_BASE_BASE n)) < s.handleLimit n))
       let got := s.wantLines (lines.map (fun i => ⟨i, true, true, 0⟩))
       ((s.tenant n).migrate = none ∨ s.store.st ≠ .opened ∨ s.journalFull = true ∨ (s.drbgBytes 192 32).isNone = true →
         exec (.kmMigrateDone n) s = .next s) ∧
       (∀ g : Migration, (s.tenant n).migrate = some g → s.store.st = .opened → s.journalFull = false → (s.drbgBytes 192 32).isSome = true →
         (got.1 = false → exec (.kmMigrateDone n) s = .next got.2) ∧
         (got.1 = true → ∃ t, exec (.kmMigrateDone n) s = .next t ∧ (t.tenant n).migrate = none ∧
           (t.tenant n).masters = (s.tenant n).masters ∧ (t.tenant n).current = (s.tenant n).current ∧
           (∀ m, m ≠ n.val → t.tenant m = s.tenant m) ∧
           (s.store.tree.lines = [] → NewEvent s t .generationMigrated n (joined g.src g.dst) g.moved)))) ∧
     (∀ gm kb x, KmRuns s slot 0x2A b w → w.currentD slot = some gm → w.kbpk slot (leAt b 0 4) ['D', 'B', 'N'] = .inr kb → 3 ≤ kb.alg →
       kbUnwrap kb.alg kb.val (b.drop 8) = .inr x →
       (pkcs8Read x.key = none → exec (.kmImportImage slot) s = .next (w.respond slot .blockFormat [])) ∧
       (∀ alg bits body, pkcs8Read x.key = some (alg, bits, body) →
         (x.letter ≠ (if alg = 1 then 'R'.toNat else 'E'.toNat) ∨ keygenUse x.usage x.mode = false →
           exec (.kmImportImage slot) s = .next (w.respond slot .blockFormat [])) ∧
         (∀ nonce s1, x.letter = (if alg = 1 then 'R'.toNat else 'E'.toNat) → keygenUse x.usage x.mode = true →
           w.drbgBytes 192 12 = some (nonce, s1) → exec (.kmImportImage slot) s = .next (s1.respond slot .ok
             ((⟨alg, slot, x.exportCh, x.usage, x.mode, bits, body⟩ : KeyImage).seal gm.2.key gm.1 nonce))))) ∧
     (∀ kb i, KmRuns s slot 0x2B b w → w.kbpk slot (leAt b 0 4) ['E', 'B', 'N'] = .inr kb → 3 ≤ kb.alg →
       w.imageOpen slot (b.drop 8) = some i →
       (i.exportCh ≠ 'E'.toNat ∨ 5 < i.alg → exec (.kmExportImage slot) s = .next (w.respond slot .notExportable [])) ∧
       (∀ pad s1, i.exportCh = 'E'.toNat → i.alg ≤ 5 →
         w.drbgBytes 192 (kbPadLen kb.alg (pkcs8Write i.alg i.bits i.body).length) = some (pad, s1) →
         ∃ blk : Bytes, exec (.kmExportImage slot) s = .next (s1.respond slot .ok (natToLe 4 blk.length ++ zeros 4 ++ blk)) ∧
           blk = kbWrap kb.alg kb.val ⟨if i.alg = 1 then 'R'.toNat else 'E'.toNat, i.usage, i.mode, chars '0' '0', i.exportCh,
             pkcs8Write i.alg i.bits i.body⟩ pad)) ∧
     (KmRuns s slot 0x2C b w → w.currentD slot = none → exec (.kmRewrapImage slot) s = .next (w.respond slot .wrongState [])) ∧
     (∀ gm, KmRuns s slot 0x2C b w → w.currentD slot = some gm →
       (w.imageOpen slot (b.drop 8) = none → exec (.kmRewrapImage slot) s = .next (w.respond slot .blockIntegrity [])) ∧
       (∀ i nonce s1, w.imageOpen slot (b.drop 8) = some i → w.drbgBytes 192 12 = some (nonce, s1) →
         exec (.kmRewrapImage slot) s = .next (s1.respond slot .ok (i.seal gm.2.key gm.1 nonce)))) ∧
     (KmRuns s slot 0x2D [] w → w.signer.rebuilding = true → exec (.kmDevicePubkeys slot) s = .next s) ∧
     (KmRuns s slot 0x2D [] w → w.signer.rebuilding = false → w.keys.root = none ∨ w.signer.present = false →
       exec (.kmDevicePubkeys slot) s = .next (w.respond slot .wrongState [])) ∧
     (∀ st s1, KmRuns s slot 0x2D [] w → w.signer.rebuilding = false → w.keys.root.isSome = true → w.signer.present = true →
       w.attest (natToLe 4 0x4B555044 ++ natToLe 1 1 ++ zeros 3 ++ natToLe 8 w.otp.uid ++ natToLe 8 w.now
         ++ fitTo 1568 (Config.mlkemPublic 7 w.keys.transport.1) ++ natToBe 4 65537
         ++ natToBe 384 (rsaOfBody 3072 w.keys.transport.2).n) = (some st, s1) →
       exec (.kmDevicePubkeys slot) s = .next (s1.respond slot .ok st)))

/-- The tenant reset and the end of a deletion (R220, R228, R229, R388): a reset starts, by the mailbox or the register, or joins one in progress; a core
that does not go idle in time is reset alone; once the tenant is drained the waiting slots are answered, and a deletion zeroises what the tenant had. A terminal entry
that cannot be spilled stays (log entry 59). Programs (R109 to R115, R267): a package that passes every check is written to the sealed store, loaded for its tenant and raises the rollback floor, one that fails a
check is refused with the reason of that check (their order is the model's, log entry 56), and a program is unloaded. A store that is not OPEN gives STORE_STATE (log entry 35). -/
def Obligations.TenantsAndPrograms : Prop :=
  (∀ (s : State) (slot : Fin 65),
     let started (t : State) (n cause : Nat) : Prop := NewEvent s t .tenantResetStarted n cause 0 ∧ (t.tenant n).keymgmt = none ∧
       (t.tenant n).export_ = none ∧ (∀ o ∈ t.keys.opens, o.tenant ≠ n)
     let busy : Prop := ∃ r ∈ s.keys.resets, r.reg = true
     (∀ p ∈ [(0x12, Instr.tenantReset slot), (0x14, .tenantResetDev slot)],
       (∀ r, TurnedDown s slot p.1 r → exec p.2 s = .next (s.respond slot r [])) ∧
       (s.mailReady slot = false → exec p.2 s = .next s) ∧ (s.mailTurn slot = false → exec p.2 s = .next s)) ∧
     (Served s slot 0x12 [] → ∃ t, exec (.tenantReset slot) s = .next t ∧ t.tenantResetting slot = true ∧ (t.slot slot).held = true ∧
       (s.tenantResetting slot = false → started t slot 1)) ∧
     (∀ b, Served s slot 0x12 b → b ≠ [] → exec (.tenantReset slot) s = .next (s.respond slot .badFormat [])) ∧
     (∀ b, Served s slot 0x14 b →
       (b.length ≠ 8 ∨ allZero (b.drop 1) = false → exec (.tenantResetDev slot) s = .next (s.respond slot .badFormat [])) ∧
       (b.length = 8 → allZero (b.drop 1) = true → 64 ≤ byteAt b 0 ∨ (s.tenant (byteAt b 0)).exist = false →
         exec (.tenantResetDev slot) s = .next (s.respond slot .noTenant [])) ∧
       (b.length = 8 → allZero (b.drop 1) = true → byteAt b 0 < 64 → (s.tenant (byteAt b 0)).exist = true → busy →
         exec (.tenantResetDev slot) s = .next s) ∧
       (b.length = 8 → allZero (b.drop 1) = true → byteAt b 0 < 64 → (s.tenant (byteAt b 0)).exist = true → ¬busy →
         ∃ t, exec (.tenantResetDev slot) s = .next t ∧ t.tenantResetting (byteAt b 0) = true ∧
           (t.slot slot).held = true ∧ t.rd Reg.SYS_TEN_RST_TENANT = byteAt b 0 ∧ (∃ r ∈ t.keys.resets, r.reg = true) ∧
           (s.tenantResetting (byteAt b 0) = false → started t (byteAt b 0) 3))) ∧
     (∀ n : Fin 64, (¬busy → ∃ t, exec (.tenantResetRequest n) s = .next t ∧
         t.tenantResetting n = true ∧ t.rd Reg.SYS_TEN_RST_TENANT = n ∧ (s.tenantResetting n = false → started t n 3)) ∧
       (busy → exec (.tenantResetRequest n) s = .next s)) ∧
     (∀ core : Fin 192,
       let due (r : TenReset) (id : Nat) : Prop := (s.core core).run = some id ∧ ∃ t0, (core.val, id, t0) ∈ r.asked ∧ t0 + s.usRaw r.idle ≤ s.now
       ((∃ r ∈ s.keys.resets, ∃ id, due r id) → ∃ t, exec (.tenantResetIdleTimeout core) s = .next t ∧
         (t.core core).run = none ∧ (t.core core).resetting = some 2 ∧ (t.core core).mem = Core.reset.mem) ∧
       ((∀ r ∈ s.keys.resets, ∀ id, ¬due r id) → exec (.tenantResetIdleTimeout core) s = .next s)) ∧
     (∀ n : Fin 64,
       let got := s.wantLines (s.purgeWants n)
       let flows := got.2.storeFlows n
       ((s.tenantResetting n = false ∨ s.tenantDrained n = false) → exec (.tenantResetFinish n) s = .next s) ∧
       (s.tenantResetting n = true → s.tenantDrained n = true → got.1 = false → exec (.tenantResetFinish n) s = .next got.2) ∧
       (s.tenantResetting n = true → s.tenantDrained n = true → got.1 = true → flows.1 = false → exec (.tenantResetFinish n) s = .next flows.2) ∧
       (∀ r : TenReset, s.keys.resets.find? (fun r => r.tenant == n.val) = some r → s.tenantDrained n = true → got.1 = true → flows.1 = true →
         ∃ t, exec (.tenantResetFinish n) s = .next t ∧ t.tenantResetting n = false ∧ NewEvent s t .tenantResetDone n r.done r.alone ∧
           t.tab.terms = (flows.2.flushTerms.purgeTerms n).tab.terms ∧
           (r.deletion = true → t.tenant n = { Tenant.absent with deleting := true, records := (s.tenant n).records }) ∧
           (r.deletion = false → t.tenant n = s.tenant n))) ∧
     (∀ n : Fin 64,
       let got := s.wantLines ((s.recordLines n ++ s.spillLines.map (·.1)).map (fun i => ⟨i, true, true, 0⟩))
       let ready : Prop := (s.tenant n).deleting = true ∧ (s.tenant n).exist = false ∧ s.tenantResetting n = false ∧ s.store.st ≠ .closed
       (¬ready → exec (.tenantDeleteDone n) s = .next s) ∧ (ready → got.1 = false → exec (.tenantDeleteDone n) s = .next got.2) ∧
       (ready → got.1 = true → ∃ (t : State) (k : Nat), exec (.tenantDeleteDone n) s = .next t ∧ t.tenant n = Tenant.absent ∧
         (∀ m, m ≠ n.val → t.tenant m = s.tenant m) ∧ (∀ x ∈ t.tab.spilled, x.tenant ≠ n) ∧ (∀ x ∈ t.tab.terms, x.tenant ≠ n) ∧
         NewEvent s t .tenantDeleted n k 0))) ∧
  (∀ (s : State) (slot : Fin 65) (b : Bytes),
     let prog := leAt b 6 2
     let got := s.wantLines (s.imageWants b)
     (∀ p ∈ [(0x10, Instr.programLoad slot), (0x11, .programUnload slot)],
       (∀ r, TurnedDown s slot p.1 r → exec p.2 s = .next (s.respond slot r [])) ∧
       (s.mailReady slot = false → exec p.2 s = .next s) ∧ (s.mailTurn slot = false → exec p.2 s = .next s)) ∧
     (Served s slot 0x10 b → s.packageFault slot b = none →
       (s.store.st ≠ .opened → exec (.programLoad slot) s = .next (s.respond slot .storeState [])) ∧
       (s.store.st = .opened → got.1 = false → exec (.programLoad slot) s = .next got.2) ∧
       (s.store.st = .opened → got.1 = true → (got.2.loadProgram slot b).1 = false →
         exec (.programLoad slot) s = .next (s.respond slot .blockIntegrity [])) ∧
       (s.store.st = .opened → got.1 = true → (got.2.loadProgram slot b).1 = true → (∀ i ∈ s.progs.images, i.id < s.progs.next) →
         ∃ t, exec (.programLoad slot) s = .next t ∧ t.loadedImage slot prog = some (imageOf s.progs.next slot s.imageLine b) ∧
           (∀ k, k ≠ slot.val * 65536 + prog → tabGet none t.progs.loaded k = tabGet none s.progs.loaded k ∧
             tabGet 0 t.progs.floors k = tabGet 0 s.progs.floors k) ∧
           tabGet 0 t.progs.floors (slot * 65536 + prog) = max (leAt b 8 4) (tabGet 0 s.progs.floors (slot * 65536 + prog)) ∧
           NewEvent s t .programLoaded slot prog (leAt b 8 4))) ∧
     (∀ f, Served s slot 0x10 b → s.packageFault slot b = some f → ∃ t, exec (.programLoad slot) s = .next t ∧ t.progs = s.progs ∧
       NewEvent s t .programLoadRefused slot prog f) ∧
     (Served s slot 0x11 b → b.length ≠ 2 → exec (.programUnload slot) s = .next (s.respond slot .badFormat [])) ∧
     (Served s slot 0x11 b → b.length = 2 → s.loadedImage slot (leAt b 0 2) = none →
       exec (.programUnload slot) s = .next (s.respond slot .notFound [])) ∧
     (∀ i, Served s slot 0x11 b → b.length = 2 → s.loadedImage slot (leAt b 0 2) = some i → ∃ t, exec (.programUnload slot) s = .next t ∧
       t.loadedImage slot (leAt b 0 2) = none ∧ t.progs.floors = s.progs.floors ∧
       NewEvent s t .programUnloaded slot (leAt b 0 2) i.pver))

/-- The sealed store's operations (R258, R259, R267 to R276): format and open make it OPEN with its extents written, a checkpoint is asked for and cut, an acknowledged one takes the older
durable slot, and the status names them; an operation in another state of the store, or of wrong format, is refused. A format without a root key is refused, and the status
has four bytes a value, as log entries 37 and 38 say. The store's engine (R261, R265, R266, R272, R277, R279, R280, R282): cuts are asked for by interval and register and start in order, line reads end good or poisoned, and a rekey walks
the positions under the next generation. -/
def Obligations.SealedStore : Prop :=
  (∀ (s : State) (slot : Fin 65) (b : Bytes) (n addr num : Nat) (exts : List (Nat × Nat × Nat)),
     let placed (t : State) : Prop := t.rd Reg.SST_CKPT_ADDR_ADDR = addr / 64 ∧ ∀ e, (h : e < exts.length) →
       exts[e].1 < 2 ^ 64 → exts[e].2.1 < 2 ^ 44 → exts[e].2.2 < 2 ^ 44 →
       t.rd (Reg.SST_EXT_HOST_ADDR e) = exts[e].1 / 4096 ∧ t.rd (Reg.SST_EXT_MAP_START e) = exts[e].2.1 / 4096 ∧
       t.rd (Reg.SST_EXT_MAP_PAGES e) = exts[e].2.2 / 4096
     (∀ p ∈ [(0x40, Instr.storeFormat slot), (0x41, .storeOpen slot []), (0x42, .storeCheckpoint slot), (0x43, .storeDurableAck slot),
         (0x44, .storeStatus slot)],
       (∀ r, TurnedDown s slot p.1 r → exec p.2 s = .next (s.respond slot r [])) ∧
       (s.mailReady slot = false → exec p.2 s = .next s) ∧ (s.mailTurn slot = false → exec p.2 s = .next s)) ∧
     (Served s slot 0x40 b → storeBody b = none → exec (.storeFormat slot) s = .next (s.respond slot .badFormat [])) ∧
     (Served s slot 0x40 b → storeBody b = some (n, addr, num, exts) →
       (num ≠ 0 → exec (.storeFormat slot) s = .next (s.respond slot .badFormat [])) ∧
       (num = 0 → s.store.st ≠ .unformatted → exec (.storeFormat slot) s = .next (s.respond slot .storeState [])) ∧
       (num = 0 → s.store.st = .unformatted → s.keys.root = none → exec (.storeFormat slot) s = .next (s.respond slot .wrongState [])) ∧
       (num = 0 → s.store.st = .unformatted → s.keys.root.isSome = true → s.extentsGood n exts = false →
         exec (.storeFormat slot) s = .next (s.respond slot .extentInvalid [])) ∧
       (num = 0 → s.store.st = .unformatted → s.keys.root.isSome = true → s.extentsGood n exts = true →
         ∃ t, exec (.storeFormat slot) s = .next t ∧ t.store.st = .opened ∧ t.store.n = n ∧
           t.store.openNum = 1 ∧ t.store.gen = (1, 1) ∧ t.store.tree = Store.reset.tree ∧ t.store.durA = none ∧ t.store.durB = none ∧
           t.evr.archive = [] ∧ t.tab.spilled = [] ∧ t.tab.prefixes = [] ∧ placed t ∧ NewEvent s t .storeFormatted (hiWord n) (loWord n) 0)) ∧
     (∀ nodes, Served s slot 0x41 b → storeBody b = none → exec (.storeOpen slot nodes) s = .next (s.respond slot .badFormat [])) ∧
     (∀ nodes, Served s slot 0x41 b → storeBody b = some (n, addr, num, exts) →
       (s.store.st ≠ .closed → exec (.storeOpen slot nodes) s = .next (s.respond slot .storeState [])) ∧
       (s.store.st = .closed → s.store.named num = none → exec (.storeOpen slot nodes) s = .next (s.respond slot .notDurable [])) ∧
       (∀ x live, s.store.st = .closed → s.store.named num = some (x, live) →
         (s.extentsGood n exts = false ∨ n ≠ x.n →
           exec (.storeOpen slot nodes) s = .next (s.respond slot .extentInvalid [])) ∧
         (s.extentsGood x.n exts = true → n = x.n → s.imageGood x nodes = false →
           exec (.storeOpen slot nodes) s = .next (s.respond slot .imageInvalid [])) ∧
         (s.extentsGood x.n exts = true → n = x.n → s.imageGood x nodes = true →
           ∃ t, exec (.storeOpen slot nodes) s = .next t ∧ t.store.st = .opened ∧ t.store.n = x.n ∧
             t.store.openNum = s.store.high + 1 ∧ t.store.high = s.store.high + 1 ∧
             (∀ i, (∀ k, k < 64 → i < s.rd (Reg.TBL_KH_BASE_BASE k) ∨ s.rd (Reg.TBL_KH_BASE_BASE k) + 0x800000 ≤ i) →
               (t.store.tree.line i).data = (x.tree.line i).data) ∧
             ((∀ k, k < 64 → (s.tenant k).exist = false) → t.store.tree = x.tree ∧ t.store.gen = (x.gen, x.old) ∧ t.store.ptr = x.ptr) ∧
             t.tab.spilled = x.overflow ∧ t.evr.archive = x.arch ∧ t.progs.loaded = x.loaded ∧ t.tab.prefixes = x.shadow.1 ∧ placed t ∧
             (live = false → t.store.pend = none) ∧
             NewEvent s t .storeOpened x.num (if live ∨ s.store.high ≤ x.num then 0 else x.num + 1)
               (if live ∨ s.store.high ≤ x.num then 0 else s.store.high)))) ∧
     (Served s slot 0x42 [] →
       (s.store.st ≠ .opened → exec (.storeCheckpoint slot) s = .next (s.respond slot .storeState [])) ∧
       (s.store.st = .opened → s.store.pend.isSome = true → exec (.storeCheckpoint slot) s = .next (s.respond slot .cutPending [])) ∧
       (s.store.st = .opened → s.store.pend = none → exec (.storeCheckpoint slot) s =
         .next (({ s with store := { s.store with wantCut := true } } : State).respond slot .ok (natToLe 4 s.store.openNum)))) ∧
     (Served s slot 0x43 b → b.length ≠ 4 → exec (.storeDurableAck slot) s = .next (s.respond slot .badFormat [])) ∧
     (Served s slot 0x43 b → b.length = 4 →
       (s.store.st = .unformatted → exec (.storeDurableAck slot) s = .next (s.respond slot .storeState [])) ∧
       (s.store.st ≠ .unformatted → (∀ x, s.store.pend = some x → x.num ≠ leAt b 0 4) →
         exec (.storeDurableAck slot) s = .next (s.respond slot .notDurable [])) ∧
       (∀ x, s.store.st ≠ .unformatted → s.store.pend = some x → x.num = leAt b 0 4 →
         ∃ t, exec (.storeDurableAck slot) s = .next t ∧ t.store.pend = none ∧
           (rootNum s.store.durA ≤ rootNum s.store.durB → t.store.durA = some x ∧ t.store.durB = s.store.durB) ∧
           (rootNum s.store.durB < rootNum s.store.durA → t.store.durA = s.store.durA ∧ t.store.durB = some x) ∧
           NewEvent s t .checkpointDurable x.num (min (rootNum s.store.durA) (rootNum s.store.durB)) 0)) ∧
     (Served s slot 0x44 [] → exec (.storeStatus slot) s = .next (s.respond slot .ok (natToLe 4 s.store.st.val ++
       natToLe 4 (rootNum s.store.live) ++ natToLe 4 (rootNum s.store.pend) ++ natToLe 4 (rootNum s.store.durA) ++
       natToLe 4 (rootNum s.store.durB) ++ natToLe 4 s.store.openNum)))) ∧
  (∀ s : State,
     let asked : State := if s.store.st = .opened ∧ s.store.pend.isNone then { s with store := { s.store with wantCut := true } } else s
     let terms := s.wantLines s.flushWants
     let p := s.store.ptr
     let g := s.store.gen.1
     let total := nodeTotal s.store.n
     let at_ := nodeAt s.store.n p
     let s0 : State := if p % 4096 = 0 then { s with store := { s.store with mramRekey := some (s.store.gen.2, g, p) } } else s
     let passed : Prop := (s.store.tree.node p).gen = g ∨ s.pathPoisoned (at_.2 * 32 ^ (at_.1 + 1)) = true
     let path := s0.wantLines (s0.rekeyWants p)
     exec .sstCut s = .next asked ∧
     exec .checkpointIntervalExpiry s = .next
       (if s.rd Reg.SST_CKPT_CFG_INTERVAL ≠ 0 ∧ s.rd Reg.SST_CKPT_CFG_INTERVAL ≤ s.sinceCut then asked else s) ∧
     (s.store.wantCut = false ∨ s.store.st ≠ .opened ∨ s.store.pend.isSome = true → exec .checkpointCutStart s = .next s) ∧
     (s.store.wantCut = true → s.store.st = .opened → s.store.pend = none →
       (terms.1 = false ∨ s.store.lock ≠ [] → exec .checkpointCutStart s = .next terms.2) ∧
       (terms.1 = true → s.store.lock = [] → ∃ (t : State) (x : Root) (k : Nat),
         exec .checkpointCutStart s = .next t ∧ t.store.pend = some x ∧ x.num = s.store.openNum ∧ x.n = s.store.n ∧ x.time = s.now ∧
           t.store.openNum = s.store.openNum + 1 ∧ t.store.high = s.store.openNum + 1 ∧ t.store.wantCut = false ∧
           NewEvent s t .checkpointCut s.store.openNum k 0)) ∧
     (s.store.st = .opened → g = s.store.gen.2 → ∃ t, exec .sstRekey s = .next t ∧
       t.store = { s.store with gen := (g + 1, g), ptr := 0, rewritten := 0, mramRekey := some (g, g + 1, 0) } ∧
       NewEvent s t .rekeyStarted g (g + 1) 1 ∧ Frame [.store, .evr] s t) ∧
     (s.store.st ≠ .opened ∨ g ≠ s.store.gen.2 → exec .sstRekey s = .next s) ∧
     (s.store.st ≠ .opened ∨ g = s.store.gen.2 → exec .rekeyPosition s = .next s) ∧
     (s.store.st = .opened → g ≠ s.store.gen.2 →
       (total ≤ p ∨ (p % 4096 = 0 ∧ p ≠ 0) → s.storePending = true → exec .rekeyPosition s = .next s) ∧
       (total ≤ p → s.storePending = false → ∃ t, exec .rekeyPosition s = .next t ∧
         t.store = { s.store with gen := (g, g), mramRekey := none } ∧ NewEvent s t .rekeyDone g s.store.rewritten 0 ∧ Frame [.store, .evr] s t) ∧
       (p < total → (p % 4096 = 0 → p ≠ 0 → s.storePending = false) →
         (¬passed → path.1 = false → exec .rekeyPosition s = .next path.2) ∧
         (passed ∨ path.1 = true → ∃ t, exec .rekeyPosition s = .next t ∧ t.store.ptr = p + 1 ∧ t.store.gen.1 = g ∧
           (passed → t.store.rewritten = s.store.rewritten ∧ t.store.tree = s.store.tree) ∧
           (¬passed → t.store.rewritten = s.store.rewritten + 1 ∧ (t.store.tree.node p).gen = g) ∧
           (∀ i, fitTo 256 (t.store.tree.line i).data = fitTo 256 (s.store.tree.line i).data) ∧
           (p + 1 < total → t.store.gen = s.store.gen ∧ (p % 4096 = 0 → t.store.mramRekey = some (s.store.gen.2, g, p))) ∧
           (total ≤ p + 1 → t.storePending = true → t.store.gen = s.store.gen) ∧
           (total ≤ p + 1 → t.storePending = false → t.store.gen = (g, g) ∧ t.store.mramRekey = none)))) ∧
     (∀ num : Nat, (s.storeRead? num = none → exec (.storeLineReadDone num) s = .next s) ∧
       ∀ r : StoreRead, s.storeRead? num = some r →
         let outcome (i : Instr) (o : ReadResult) : Prop := ∃ t, exec i s = .next t ∧ (t.storeRead? num).map (fun x => x.res) = some o
         let missing : Prop := r.failed = false ∧ ∃ q ∈ r.parts, q.data = none
         (r.res ≠ .waiting ∨ missing → exec (.storeLineReadDone num) s = .next s) ∧
         (r.res = .waiting → ¬missing → s.store.st ≠ .opened → outcome (.storeLineReadDone num) .lost) ∧
         (r.res = .waiting → s.store.st = .opened →
           (r.failed = true → ∃ t, exec (.storeLineReadDone num) s = .next t ∧ (t.storeRead? num).map (fun x => x.res) = some .poisoned ∧
             (s.store.poison.length < 256 → t.isPoisoned 0 r.line = true)) ∧
           (∀ k ver again b, r.failed = false → ¬missing → k < 5 →
             r.parts.find? (fun x => decide (x.part = .node k)) = some ⟨.node k, some b, again, ver⟩ →
             s.nodeGood k (r.line / 32 ^ (k + 1)) ver b = false → outcome (.storeLineReadDone num) .poisoned) ∧
           (∀ c tag a1 a2 v1 v2 d, r.failed = false → r.parts = [⟨.line, some c, a1, v1⟩, ⟨.tag, some tag, a2, v2⟩] →
             s.lineGood r c tag = some d → s.store.cache.length ≤ 4096 → ∃ t, exec (.storeLineReadDone num) s = .next t ∧
               (t.storeRead? num).map (fun x => x.res) = some (.good d) ∧ t.store.poison = s.store.poison) ∧
           (∀ c tag a1 a2 v1 v2, r.failed = false → r.parts = [⟨.line, some c, a1, v1⟩, ⟨.tag, some tag, a2, v2⟩] →
             s.lineGood r c tag = none → outcome (.storeLineReadDone num) .poisoned))))

/-- The claim interlock (R332 to R339, R354): both lines free and the delay over, an eligible unit claims and serves, a standby takes over at epoch H + 8,192; the
partner's claim ends service; contention and fatal conditions make a unit give up. -/
def Obligations.ClaimInterlock : Prop :=
  ∀ s : State,
    let claims : Prop := s.pairEligible = true ∧ s.pair.claim = false ∧ s.linesFree = true
    (s.pair.arb = none → exec .arbitrationDelayExpiry s = .next s) ∧
    (∀ t0, s.pair.arb = some t0 → (¬claims ∨ s.now < t0 + s.usRaw (if s.primary then 10 else 20)) → exec .arbitrationDelayExpiry s = .next s) ∧
    (∀ t0, s.pair.arb = some t0 → claims → t0 + s.usRaw (if s.primary then 10 else 20) ≤ s.now →
      ∃ t, exec .arbitrationDelayExpiry s = .next t ∧ t.pair.claim = true ∧
        t.pair.service = true ∧ t.pair.lastActive = true ∧ t.pins.activeDrive = true ∧ t.pins.claimOut = true ∧
        (s.pair.st = .standby → t.pair.st = .alone ∧ t.pair.epoch = s.pair.acked + 8192 ∧ t.pair.horizon = s.pair.acked ∧
          NewEvent s t .pairTakeover (hiWord s.pair.acked) (loWord s.pair.acked) s.pair.discarded) ∧
        (s.pair.st = .unpaired → t.pair.st = (if s.keys.pair.isSome then .alone else .unpaired))) ∧
    (∃ t, exec .peerClaimRise s = .next t ∧ t.pins.peerClaim = true ∧ t.pair.service = false ∧ t.pair.arb = none ∧
      t.pins.activeDrive = false ∧ (s.pair.service = true → t.pair.st = .gaveUp) ∧ (s.pair.service = false → t.pair.st = s.pair.st)) ∧
    (s.pair.st ≠ .standby → s.pair.claim = false → ∃ t, exec .peerClaimFall s = .next t ∧ t.pins.peerClaim = false ∧
      t.pair.arb = (if s.pins.activeDrive then none else some s.now) ∧ Frame [.pins, .pair] s t) ∧
    (s.pair.st ≠ .standby → s.pair.st ≠ .gaveUp → s.pair.claim = true → ∃ t, exec .peerClaimFall s = .next t ∧ t.pins.peerClaim = false ∧
      t.pair.service = true ∧ t.pins.activeDrive = true ∧ t.pair.arb = none) ∧
    (s.pair.st = .standby → s.pair.claim = false → ∃ t, exec .peerClaimFall s = .next t ∧ t.pins.peerClaim = false ∧
      t.pair.st = .standby ∧ t.pair.discarded = (s.pair.incoming.filter (fun e => e.fin.isNone)).length ∧
      t.pair.incoming = s.pair.incoming.filter (fun e => e.fin.isSome) ∧ t.pair.acked = s.pair.acked) ∧
    (s.pair.claim = false ∨ s.pins.peerClaim = false → exec .claimContention s = .next s) ∧
    (s.pair.claim = true → s.pins.peerClaim = true → ∃ t, exec .claimContention s = .next t ∧ t.pair.claim = false ∧
      t.pins.claimOut = false ∧ NewEvent s t .pairContention (b2n s.pair.had) 0 0 ∧ (s.pair.had = true → t.pair.st = .gaveUp) ∧
      (s.pair.had = false → t.pair.st = s.pair.st)) ∧
    (∀ k, k < 3 ∨ k = 5 ∨ (k = 3 ∧ s.rd Reg.TIM_CTL_UNTRUST_FATAL = 1) ∨ (k = 4 ∧ s.rd Reg.STR_DIAG_CFG_AUDIT_FATAL = 1) →
      bitAt (s.rd Reg.STR_DIAG_COND) k = true → s.pair.st ≠ .gaveUp → ∃ t, exec .fatalCondition s = .next t ∧
      t.pair.st = .gaveUp ∧ t.pair.claim = false ∧ t.pair.service = false ∧ t.pair.lastActive = false ∧ t.pins.claimOut = false) ∧
    (s.rd Reg.STR_DIAG_COND = 0 → s.time.state ≠ .untrusted → s.rd Reg.GRD_STICKY_AUDIT_LOST = 0 → exec .fatalCondition s = .next s) ∧
    (let late : Prop := s.pair.waiting = true ∧ s.linesFree = true ∧ s.pair.since + s.msRaw (s.rd Reg.STR_CFG_BOOT_WAIT) ≤ s.now;
      (late → ∃ t, exec .bootWaitExpiry s = .next t ∧ t.pair.st = .standby ∧ t.pair.barred = false ∧ t.pair.waiting = false ∧
        t.pair.acked = s.pair.acked ∧ Frame [.pair] s t) ∧
      (¬late → exec .bootWaitExpiry s = .next s)) ∧
    (let lost : Prop := s.pair.st = .standby ∧ s.pins.peerClaim = true ∧ s.pair.heard + s.linkTmo ≤ s.now;
      (lost → ∃ t, exec .standbyLinkTimeout s = .next t ∧ t.pair.st = .desync ∧ t.pair.incoming = [] ∧ NewEvent s t .pairDesync 1 0 0 ∧
        Frame [.pair, .evr] s t) ∧
      (¬lost → exec .standbyLinkTimeout s = .next s)) ∧
    (s.pair.st.mirrors = true → s.pair.heard + 2 * s.linkTmo ≤ s.now → ∃ t, exec .partnerLossTimeout s = .next t ∧ t.pair.st = .alone ∧
      t.pair.acked = s.pair.epoch - 1 ∧ t.pair.journal = [] ∧ NewEvent s t .partnerLost s.pair.journal.length 0 0) ∧
    (s.pair.st.mirrors = false ∨ s.now < s.pair.heard + 2 * s.linkTmo → exec .partnerLossTimeout s = .next s)

/-- The session and the pair key (R341, R343 to R345, R295, R301): HELLO starts a session and its key, and waits where its answer needs random bytes that S0 cannot have
yet; IDENT and KEYX make the pair key, a message whose tag fails ends the session, and heartbeats and ticks carry the partner's state. Both derivations' inputs are ordered
as log entry 40 says. -/
def Obligations.PairSession : Prop :=
  ∀ s : State,
    let sealed (seq : BitVec 16) (counter : BitVec 64) (data : Bytes) : List (Nat × Instr) := [((0x10 : Nat), Instr.epochPart seq counter data),
      (0x11, .epochEnd seq counter data), (0x12, .epochAck seq counter data), (0x20, .seedPart seq counter data),
      (0x21, .seedEnd seq counter data), (0x22, .seedAck seq counter data), (0x30, .heartbeat seq counter data), (0x31, .tick seq counter data)]
    let key (k own peer : Bytes) : Bytes := shake256 32 (k ++ (if s.primary then own ++ peer else peer ++ own) ++ ascii "DQ PAIR SESSION")
    (∀ seq counter data, s.rd Reg.STR_CTL_STARTER_EN = 0 ∨ s.pair.key = none → ∀ r ∈ sealed seq counter data, exec r.2 s = .next s) ∧
    (∀ b, s.rd Reg.STR_CTL_STARTER_EN = 0 → exec (.hello b) s = .next s ∧ exec (.ident b) s = .next s ∧ exec (.keyx b) s = .next s) ∧
    (s.rd Reg.STR_CTL_STARTER_EN = 1 →
      (∀ p, p.length ≠ 48 → exec (.hello p) s = .next s) ∧
      (∀ p own, p.length = 48 → s.pair.session = some (own, none) → s.pair.pairing = none → ∃ t, exec (.hello p) s = .next t ∧
        t.pair.session = some (own, some (p.take 32)) ∧ t.pair.heard = s.now ∧
        (∀ k, s.keys.pair = some k → t.pair.key = some (key k own (p.take 32)))) ∧
      (∀ p, p.length = 48 → (∀ own, s.pair.session ≠ some (own, none)) →
        (s.drbgBytes 192 32 = none → exec (.hello p) s = .next { s with pair := { s.pair with hello := some p } }) ∧
        (∀ own s1, s.drbgBytes 192 32 = some (own, s1) → s.pair.pairing = none → ∃ t, exec (.hello p) s = .next t ∧
          t.pair.session = some (own, some (p.take 32)) ∧ t.pair.heard = s.now ∧
          t.pair.sent = s.pair.sent ++ [⟨0x01, 0, own ++ natToLe 1 s.pair.st.val ++ zeros 7 ++ natToLe 8 s.lastEpoch⟩] ∧
          (∀ k, s.keys.pair = some k → t.pair.key = some (key k own (p.take 32))))) ∧
      (∀ b, s.keys.pair.isSome = true → exec (.ident b) s = .next s) ∧
      (∀ b, s.keys.pair = none → s.pair.pairing = none → ∃ t, exec (.ident b) s = .next t ∧ t.pair.peerIdent = some b ∧ t.keys.pair = none) ∧
      (∀ b, s.primary = true ∨ s.pair.pairing = none → exec (.keyx b) s = .next s) ∧
      (∀ (p : Pairing) (rnd seed own id b : Bytes), s.pair.pairing = some p → s.pair.ident = some (rnd, seed, own) → s.pair.peerIdent = some id →
        s.primary = false →
        let good : Prop := b.length = 7213 ∧ leAt b 0 8 = p.uid ∧ slice b 8 32 = rnd ∧ s.identGood p id = true ∧
          Config.xmssVerify (slice id 48 68) (b.take 1608) (b.drop 1608) = true
        (good → ∃ t, exec (.keyx b) s = .next t ∧
          t.keys.pair = some (s.pairKeyOf (fitTo 32 (Config.mlkemDecaps 7 seed (slice b 40 1568))) own (shake256 32 id)) ∧
          t.pair.pairing = none ∧ t.pair.partner = p.uid ∧ NewEvent s t .pairKeyEstablished (hiWord p.uid) (loWord p.uid) 0) ∧
        (¬good → ∃ t, exec (.keyx b) s = .next t ∧ t.pair.pairing = none ∧ t.keys.pair = s.keys.pair ∧
          ∃ u : State, t = u.answer p.src .pairIdentity [])) ∧
      (∀ seq counter data, s.pair.key.isSome = true → ∀ r ∈ sealed seq counter data, s.strOpen r.1 seq.toNat counter.toNat data = none →
        exec r.2 s = .next { s with pair := { s.pair with session := none, key := none, peer := none } }) ∧
      (∀ seq counter data b, Heard s 0x30 seq counter data b → ∃ t, exec (.heartbeat seq counter data) s = .next t ∧
        t.pair.peer = some (byteAt b 0, leAt b 8 8, bitAt (byteAt b 1) 0) ∧ t.pair.heard = s.now ∧ t.pair.counters.2 = counter.toNat + 1 ∧
        Frame [.pair] s t) ∧
      (∀ seq counter data b, Heard s 0x31 seq counter data b → ∃ t, exec (.tick seq counter data) s = .next t ∧
        t.time.peer = some (leAt b 0 8, byteAt b 8 == 0) ∧ t.pair.heard = s.now ∧ t.rd Reg.TIM_PAIR_PEER = loWord (leAt b 0 8) ∧
        Frame [.pair, .time, .regs, .evr] s t ∧
        (s.rd Reg.TIM_CTL_PAIR_CMP_EN = 1 → s.time.state = .trusted → byteAt b 8 = 0 →
          (leAt b 0 8 ≠ (s.now + 2 ^ 23) / 2 ^ 24 → s.rd Reg.TIM_PAIR_N ≤ s.time.diffRun + 1 → t.rd Reg.TIM_STAT_PAIR_MISMATCH = 1) ∧
          (leAt b 0 8 = (s.now + 2 ^ 23) / 2 ^ 24 → s.rd Reg.TIM_PAIR_N ≤ s.time.eqRun + 1 → t.rd Reg.TIM_STAT_PAIR_MISMATCH = 0))) ∧
      (∀ k, s.pair.key = some k → s.pair.beat + s.usRaw 10 ≤ s.now → ∃ t, exec .heartbeatSend s = .next t ∧
        t.pair.sent = s.pair.sent ++ [⟨0x30, s.pair.counters.1, natToLe 1 s.pair.st.val ++
          natToLe 1 (b2n s.pairEligible + 2 * b2n s.pair.service) ++ zeros 6 ++ natToLe 8 s.lastEpoch⟩] ∧ t.pair.beat = s.now ∧
        Frame [.pair] s t)) ∧
    (s.rd Reg.STR_CTL_STARTER_EN = 0 ∨ s.pair.key = none ∨ s.now < s.pair.beat + s.usRaw 10 → exec .heartbeatSend s = .next s)

/-- Epochs and seeding (R344, R347 to R353): an epoch closes and is sent or acknowledged, a standby applies an epoch in order and of good digest or loses the mirror, and seeding
sends every item, ends and makes the unit PROTECTED; a message that the unit's state does not take has no effect but that the partner was heard. From which state of the
partner seeding can start is log entry 39. -/
def Obligations.EpochsAndSeeding : Prop :=
  ∀ s : State,
    let taking : Prop := s.pair.st = .standby ∨ s.pair.st = .seedingIn
    (s.pair.oldest = none → exec .epochClose s = .next s) ∧
    (∀ c0, s.pair.oldest = some c0 →
      let due : Prop := s.rd Reg.STR_EPOCH_CFG_MAXAGE ≤ 4 * (s.time.cyc - c0) ∨
        (s.pair.st.mirrors = true ∧ s.rd Reg.STR_EPOCH_CFG_MAXBYTES * 256 ≤ s.pair.openBytes)
      (¬due → exec .epochClose s = .next s) ∧
      (due → ∃ t, exec .epochClose s = .next t ∧
        t.pair.epoch = s.pair.epoch + 1 ∧ t.pair.oldest = none ∧ t.pair.recs = [] ∧
        (s.pair.st.mirrors = false → t.pair.acked = s.pair.epoch ∧ t.pair.sent = s.pair.sent) ∧
        (s.pair.st.mirrors = true → t.pair.acked = s.pair.acked ∧
          t.pair.journal = s.pair.journal ++ [⟨s.pair.epoch, (s.pair.recs.map (fun c => 16 + c.body.length)).foldl (· + ·) 0⟩]))) ∧
    (∀ seq counter data b, Heard s 0x12 seq counter data b →
      (s.pair.st.mirrors = true → leAt b 0 8 < s.pair.epoch →
        ∃ t, exec (.epochAck seq counter data) s = .next t ∧ t.pair.acked = max s.pair.acked (leAt b 0 8) ∧
          t.pair.journal = s.pair.journal.filter (fun e => decide (leAt b 0 8 < e.num)) ∧ t.pair.st = s.pair.st) ∧
      (s.pair.st.mirrors = false ∨ s.pair.epoch ≤ leAt b 0 8 → exec (.epochAck seq counter data) s = .next (heardAt s counter))) ∧
    (∀ seq counter data b, Heard s 0x10 seq counter data b →
      let part := slice b 16 (leAt b 8 4)
      (taking → (∀ e ∈ s.pair.incoming, e.num ≠ leAt b 0 8) → ∃ t, exec (.epochPart seq counter data) s = .next t ∧
        t.pair.incoming = s.pair.incoming ++ [⟨leAt b 0 8, part, none⟩] ∧ Frame [.pair] s t) ∧
      (taking → (∃ e ∈ s.pair.incoming, e.num = leAt b 0 8) → ∃ t, exec (.epochPart seq counter data) s = .next t ∧
        t.pair.incoming = s.pair.incoming.map (fun (e : InEpoch) => if e.num = leAt b 0 8 then { e with recs := e.recs ++ part } else e) ∧
        Frame [.pair] s t) ∧
      (¬taking → exec (.epochPart seq counter data) s = .next (heardAt s counter))) ∧
    (∀ seq counter data b, Heard s 0x11 seq counter data b →
      let recs := ((s.pair.incoming.find? (fun e => e.num == leAt b 0 8)).map (·.recs)).getD []
      let ordered : Prop := s.pair.synced = true ∨ s.pair.st = .standby → leAt b 0 8 = s.pair.acked + 1
      let whole : Prop := shake256 32 recs = slice b 16 32 ∧ (changesOf recs).2 = [] ∧ (changesOf recs).1.length = leAt b 8 4
      let applied := State.applyChanges (heardAt s counter) (changesOf recs).1
      let lost (cause : Nat) : Prop := ∃ t, exec (.epochEnd seq counter data) s = .next t ∧ t.pair.st = .desync ∧ t.pair.incoming = [] ∧
        NewEvent s t .pairDesync cause 0 0 ∧ Frame [.pair, .evr] s t
      (¬taking → exec (.epochEnd seq counter data) s = .next (heardAt s counter)) ∧
      (taking → ¬ordered → lost 2) ∧ (taking → ordered → ¬whole → lost 3) ∧ (taking → ordered → whole → applied = none → lost 3) ∧
      (∀ s1, taking → ordered → whole → applied = some s1 → ∃ t, exec (.epochEnd seq counter data) s = .next t ∧ t.pair.acked = leAt b 0 8 ∧
        t.keys = s1.keys ∧ t.tab = s1.tab ∧ t.store = s1.store ∧ t.progs = s1.progs ∧
        (t.pair.sent.getLast?).map (fun m => (m.type, m.data)) = some (0x12, natToLe 8 (leAt b 0 8)))) ∧
    (s.pair.st = .alone → s.peerSeedable = true → ∃ t, exec .seedStart s = .next t ∧ t.pair.st = .seedingOut ∧ t.pair.journal = [] ∧
      t.pair.items = s.seedItems.1.length ∧ NewEvent s t .seedStarted ((s.pair.peer.map (·.1)).getD 0) 0 0) ∧
    (s.pair.st ≠ .alone ∨ s.peerSeedable = false → exec .seedStart s = .next s) ∧
    (s.pair.st = .seedingOut → s.pair.seedEnd = none → ∃ t, exec .seedWalkDone s = .next t ∧ t.pair.seedEnd = some s.pair.items ∧
      t.pair.sent = s.pair.sent ++ [⟨0x21, s.pair.counters.1, natToLe 8 s.pair.items⟩] ∧ Frame [.pair] s t) ∧
    (s.pair.st ≠ .seedingOut ∨ s.pair.seedEnd.isSome = true → exec .seedWalkDone s = .next s) ∧
    (∀ seq counter data b, Heard s 0x22 seq counter data b →
      (∀ n, s.pair.st = .seedingOut → s.pair.seedEnd = some n →
        ∃ t, exec (.seedAck seq counter data) s = .next t ∧ t.pair.st = .protected_ ∧ NewEvent s t .seedDone s.pair.items 0 0 ∧
          Frame [.pair, .evr] s t) ∧
      (s.pair.st ≠ .seedingOut ∨ s.pair.seedEnd = none → exec (.seedAck seq counter data) s = .next (heardAt s counter))) ∧
    (∀ seq counter data b, Heard s 0x20 seq counter data b →
      let u := (heardAt s counter).enterSeeding
      let l := changesOf (u.pair.seedPart ++ slice b 8 (leAt b 0 4))
      (u.pair.st ≠ .seedingIn → exec (.seedPart seq counter data) s = .next u) ∧
      (u.pair.st = .seedingIn → u.applyChanges l.1 = none → ∃ t, exec (.seedPart seq counter data) s = .next t ∧ t.pair.st = .desync ∧
        NewEvent s t .pairDesync 3 0 0) ∧
      (∀ s1, u.pair.st = .seedingIn → u.pair.seedEnd = none → u.applyChanges l.1 = some s1 →
        ∃ t, exec (.seedPart seq counter data) s = .next t ∧ t.pair.items = u.pair.items + l.1.length ∧ t.keys = s1.keys ∧
          t.pair.seedPart = l.2 ∧ t.pair.st = .seedingIn)) ∧
    (∀ seq counter data b, Heard s 0x21 seq counter data b →
      let u := (heardAt s counter).enterSeeding
      (u.pair.st ≠ .seedingIn → exec (.seedEnd seq counter data) s = .next u) ∧
      (u.pair.st = .seedingIn → u.pair.items < leAt b 0 8 → ∃ t, exec (.seedEnd seq counter data) s = .next t ∧
        t.pair = { u.pair with seedEnd := some (leAt b 0 8) } ∧ Frame [.pair] s t) ∧
      (u.pair.st = .seedingIn → leAt b 0 8 ≤ u.pair.items →
        ∃ t, exec (.seedEnd seq counter data) s = .next t ∧ t.pair.st = .standby ∧ t.pair.barred = false ∧ t.pair.seedPart = [] ∧
          (t.pair.sent.getLast?).map (fun m => (m.type, m.data)) = some (0x22, natToLe 8 u.pair.items) ∧ Frame [.pair] s t))

/-- The sources of the guard domain (R362, R365, R369 to R373): a source whose response is TRIP clears guard SRAM, drops TAMPER_N and leaves the record; a warning of
a source not latched before is recorded while S0 runs, else kept for the next boot; a Crust channel latches its source after FILT failing steps. -/
def Obligations.GuardSources : Prop :=
  ∀ (s : State) (p : Fin 4) (temp : BitVec 16) (input : Fin 4) (high : Bool),
    let rows : List (Nat × Instr × Bool) := [(8, .dieTemperatureFault temp p, true), (9, .vguardFault p, true),
      (10, .vcoreGlitch p, s.logicOn), (11, .clockMonitorFault p, s.logicOn), (12, .lightDetected p, true), (13, .shieldError p, true),
      (14 + input, .tampInAsserted input high p,
        bitAt (s.rd Reg.GRD_TAMP_CFG_IN / 16 ^ input.val) 3 && bitAt (s.rd Reg.GRD_TAMP_CFG_IN / 16 ^ input.val) 2 == high)]
    (∀ r ∈ rows, r.2.2 = true → ∃ t, exec r.2.1 s = .next t ∧
      bitAt (t.rd Reg.GRD_SRC_LATCHED) r.1 = true ∧
      (s.response r.1 = 2 → s.rd Reg.GRD_STAT_TRIP_ACTIVE = 0 → t.rd Reg.GRD_STAT_TRIP_ACTIVE = 1 ∧ t.rd Reg.GRD_TREC_CAUSE = 2 ^ r.1 ∧
        t.keys.root = none ∧ t.keys.pair = none ∧ t.keys.transport = ([], []) ∧ t.signer.present = false ∧ t.pins.tamperN = false ∧
        t.guard.trip = true ∧ t.store.st = .unformatted ∧ (∀ n, n < 64 → (t.tenant n).masters = [])) ∧
      (s.response r.1 ≠ 2 → bitAt (s.rd Reg.GRD_SRC_LATCHED) r.1 = false → s.logicOn = true → s.winOpen = true → s.response r.1 = 0 ∨ s.fusesLoaded = true →
        NewEvent s t .guardWarning (2 ^ r.1) (s.response r.1) 1 ∧ t.keys.root = s.keys.root) ∧
      (s.response r.1 ≠ 2 → bitAt (s.rd Reg.GRD_SRC_LATCHED) r.1 = false → s.logicOn = false ∨ s.winOpen = false →
        t.guard.warns = s.guard.warns ++ [(2 ^ r.1, s.response r.1, if s.logicOn then 1 else 2)] ∧ Frame [.regs, .guard] s t)) ∧
    (∀ r ∈ rows, r.2.2 = false → exec r.2.1 s = .next s) ∧
    (∀ (ch : Fin 4) (dA dB : BitVec 8), let lo := s.rd (Reg.GRD_MESH_CFG_DLY_MIN ch)
      let hi := s.rd (Reg.GRD_MESH_CFG_DLY_MAX ch)
      let m := tabGet ⟨0, 0⟩ s.guard.mesh ch
      s.rd (Reg.GRD_MESH_CFG_EN ch) = 1 →
      (lo ≤ dA.toNat → dA.toNat ≤ hi → lo ≤ dB.toNat → dB.toNat ≤ hi → ∃ t, exec (.crustStep ch true true dA dB false false p) s = .next t ∧
        tabGet ⟨0, 0⟩ t.guard.mesh ch = ⟨0, 0⟩ ∧ t.rd (Reg.GRD_MESH_STAT_DLY_A ch) = dA.toNat ∧ Frame [.regs, .guard] s t) ∧
      (∀ seenB pairShort supplyShort, m.run + 1 < s.meshFilt ch → m.run < 15 →
        ∃ t, exec (.crustStep ch false seenB dA dB pairShort supplyShort p) s = .next t ∧ (tabGet ⟨0, 0⟩ t.guard.mesh ch).run = m.run + 1 ∧
        t.rd (Reg.GRD_MESH_STAT_FAULT ch) = 1 ∧ Frame [.regs, .guard] s t) ∧
      (∀ seenB pairShort supplyShort, s.meshFilt ch ≤ m.run + 1 → s.rd Reg.GRD_CTL_DISARM = 0 →
        s.rd Reg.GRD_STAT_TRIP_ACTIVE = 0 → ∃ t, exec (.crustStep ch false seenB dA dB pairShort supplyShort p) s = .next t ∧
        bitAt (t.rd Reg.GRD_SRC_LATCHED) ch = true ∧ t.rd Reg.GRD_STAT_TRIP_ACTIVE = 1 ∧ t.keys.root = none ∧ t.pins.tamperN = false)) ∧
    (∀ (ch : Fin 4) a b dA dB c d, s.rd (Reg.GRD_MESH_CFG_EN ch) = 0 → exec (.crustStep ch a b dA dB c d p) s = .next s)

/-- Power and PRESET_N (R362, R374, R376, R380, R381, R389, R434, R473): losses of power reset at once and are never deferred, the return of power and the release of PRESET_N start the
release anew with the straps latched, and PFAIL_N starts the flush of a power failure. The reset sources (R376 to R379, R385, R386, R408, R477): a source that fires while nothing holds resets takes effect at its level, L1 at once and L2 after preparation; during a write pulse or a life-cycle group
it waits; and the end of preparation, of its 5 ms, or of the pulse lets it act. -/
def Obligations.ResetsAndPower : Prop :=
  (∀ s : State,
     (∃ t, exec .vguardPor s = .next t ∧ t.rd Reg.SYS_RST_CAUSE_SOURCES = 1 ∧ t.rd Reg.SYS_RST_CAUSE_LEVEL = 0 ∧ t.rd Reg.GRD_STAT_POR_LOST = 1 ∧
       t.guard = Guard.reset ∧ t.keys.root = none ∧ t.cores = [] ∧ t.sys.stage = 15 ∧ t.sys.window = false ∧ t.pins.tamperN = true) ∧
     (bitAt s.sys.asserted 1 = false → ∀ i ∈ [Instr.pgoodFall, .logicPowerChange false], ∃ t, exec i s = .next t ∧
       t.rd Reg.SYS_RST_CAUSE_SOURCES = 2 ∧ t.rd Reg.SYS_RST_CAUSE_LEVEL = 1 ∧ bitAt t.sys.asserted 1 = true ∧ t.cores = [] ∧ t.sys.stage = 15 ∧
       t.sys.deferred = none ∧ t.pins.resetOutN = false ∧ t.pins.claimOut = false ∧ t.keys.root = s.keys.root ∧ OtpKeeps s.otp t.otp) ∧
     (bitAt s.sys.asserted 1 = true → exec .pgoodFall s = .next { s with pins := { s.pins with pgood := false } } ∧
       exec (.logicPowerChange false) s = .next s) ∧
     (bitAt s.sys.asserted 1 = false → exec (.logicPowerChange true) s = .next s) ∧
     (∀ a, s.sys.asserted = a + 2 → bitAt s.sys.asserted 1 = true → ∃ t, exec (.logicPowerChange true) s = .next t ∧ t.sys.asserted = a ∧
       t.pins.pgood = true ∧ (s.sys.stage = 15 → t.sys.stageAt = max s.time.cyc s.sys.stageAt) ∧ Frame [.pins, .sys] s t) ∧
     (s.pins.presetN = true → s.holdsResets = false → s.sys.prep = none → s.sys.releasing = 0 → ∃ t, exec .presetAssert s = .next t ∧
       t.pins.presetN = false ∧ bitAt t.sys.asserted 2 = true ∧ t.rd Reg.SYS_RST_CAUSE_SOURCES = 4 ∧ t.rd Reg.SYS_RST_CAUSE_LEVEL = 1 ∧
       t.cores = [] ∧ t.sys.stage = 15 ∧ t.pins.resetOutN = false) ∧
     (s.pins.presetN = false → ∃ t, exec .presetAssert s = .next t ∧ bitAt t.sys.asserted 2 = true ∧ t.pins = s.pins ∧ Frame [.sys] s t) ∧
     (∀ bootSrc clkMode pairPri, s.pins.presetN = true → exec (.presetRelease bootSrc clkMode pairPri) s = .next s) ∧
     (∀ bootSrc clkMode pairPri, s.pins.presetN = false → ∃ t, exec (.presetRelease bootSrc clkMode pairPri) s = .next t ∧ t.pins.presetN = true ∧
       t.sys.straps = (bootSrc.val, clkMode.val, pairPri) ∧ bitAt t.sys.asserted 2 = false ∧
       (s.sys.stage = 15 → t.sys.stageAt = max s.time.cyc (s.sys.stageAt + 2500)) ∧ Frame [.pins, .sys] s t) ∧
     (∀ fails, s.pins.pfailN = true → s.evr.volatileOnly = false → ∃ t, exec (.pfailFall fails) s = .next t ∧ t.pins.pfailN = false ∧
       t.evr.flush.map (fun f => f.powerFail) = some true ∧ t.keys = s.keys ∧ t.sys = s.sys) ∧
     (∀ fails, s.pins.pfailN = false → exec (.pfailFall fails) s = .next s) ∧
     (s.pins.pgood = true → exec .pfailRise s = .next { s with pins := { s.pins with pfailN := true } }) ∧
     (s.pins.pgood = false → exec .pfailRise s = .next s)) ∧
  (∀ (s : State) (port : Fin 4) (pair : Fin 2),
     (∀ r ∈ [((8 : Nat), Instr.softwareServiceReset 0x5A, true), (7, .softwareChipReset 0x5A, true), (5, .thermalTrip, true),
         (12, .debugResetRequest, decide (s.lc = .maker) || decide (s.lc = .integrator) || decide (s.lc = .returned)),
         (9, .hotResetReceived port, s.portActive port && s.bit (Reg.LNK_CTL_HOT_RST_EN port)),
         (3, .watchdogExpiry pair, s.bit (Reg.SYS_WDOG_EN pair)
           && decide (tabGet 0 s.sys.wdog pair + 250 * s.rd (Reg.SYS_WDOG_PERIOD pair) ≤ s.time.cyc))],
       (r.2.2 = false → exec r.2.1 s = .next s) ∧
       (r.2.2 = true → ∃ t, exec r.2.1 s = .next t ∧ t.keys.root = s.keys.root ∧
         (s.holdsResets = true → s.sys.deferred = none →
           t = { s with sys := { s.sys with deferred := some ⟨s.sourceLevel r.1, 2 ^ r.1, s.now, s.time.cyc, false⟩ } }) ∧
         (∀ d, s.holdsResets = true → s.sys.deferred = some d → t = { s with sys := { s.sys with
           deferred := some { d with level := min d.level (s.sourceLevel r.1), sources := d.sources ||| 2 ^ r.1 } } }) ∧
         (s.holdsResets = false → s.sys.prep = none → s.sys.releasing = 0 → s.sourceLevel r.1 = 1 →
           t.rd Reg.SYS_RST_CAUSE_SOURCES = 2 ^ r.1 ∧ t.rd Reg.SYS_RST_CAUSE_LEVEL = 1 ∧ t.cores = [] ∧ t.prf.entries = [] ∧ t.mpu = [] ∧
             t.sys.stage = 15 ∧ t.sys.releasing = 1 ∧ t.sys.window = false ∧ t.pins.resetOutN = false) ∧
         (s.holdsResets = false → s.sys.prep = none → s.sys.releasing = 0 → s.sourceLevel r.1 = 2 →
           t.sys.prep = some ⟨2, 2 ^ r.1, s.now, s.time.cyc, false⟩ ∧ t.pair.claim = false ∧ t.pins.claimOut = (s.pins.claimOut && !s.pair.claim)))) ∧
     (∀ (key : BitVec 8), key ≠ 0x5A → exec (.softwareServiceReset key) s = .next s ∧ exec (.softwareChipReset key) s = .next s) ∧
     (∀ d : Fin 5, bitAt s.sys.good d = true → 1 ≤ s.sys.stage → s.sys.stage ≤ 8 → s.holdsResets = false → s.sys.prep = none → s.sys.releasing = 0 →
       s.sourceLevel 13 = 1 → ∃ t, exec (.clockGoodLoss d) s = .next t ∧ t.rd Reg.SYS_RST_CAUSE_SOURCES = 2 ^ 13 ∧
         t.rd Reg.SYS_RST_CAUSE_CLK_DOMAIN = d ∧ t.cores = [] ∧ t.sys.stage = 15) ∧
     (∀ d : Fin 5, bitAt s.sys.good d = false → exec (.clockGoodLoss d) s = .next s) ∧
     (∀ d : Fin 5, bitAt s.sys.good d = true → s.sys.stage = 0 ∨ s.sys.stage = 15 → ∃ t, exec (.clockGoodLoss d) s = .next t ∧
       bitAt t.sys.good d = false ∧ t.rd Reg.SYS_RST_CAUSE_CLK_DOMAIN = d ∧ Frame [.sys, .regs] s t) ∧
     (s.sys.prep = none → exec .resetPrepDone s = .next s ∧ exec .resetPrepTimeout s = .next s) ∧
     (∀ pr, s.sys.prep = some pr → pr.level = 2 →
       let got := s.wantLines s.flushWants
       let u : State := if pr.flushed then s
         else (if bitAt pr.sources 8 then got.2.flushStore else got.2.flushTerms).modSys (fun y => { y with prep := some { pr with flushed := true } })
       (pr.flushed = false → got.1 = false → exec .resetPrepDone s = .next got.2) ∧
       (pr.flushed = true ∨ got.1 = true → u.evr.flush.isSome = true ∨ u.storePending = true → exec .resetPrepDone s = .next u) ∧
       (pr.flushed = true ∨ got.1 = true → u.evr.flush = none → u.storePending = false →
         ∃ t, exec .resetPrepDone s = .next t ∧ t.rd Reg.SYS_RST_CAUSE_SOURCES = pr.sources % 2 ^ 14 ∧
         t.rd Reg.SYS_RST_CAUSE_LEVEL = 2 ∧ t.sys.stage = 2 ∧ t.sys.releasing = 2 ∧ t.sys.prep = none ∧ t.sys.window = false ∧ t.cores = [] ∧
         t.prf.entries = [] ∧ t.keys.root = s.keys.root ∧ t.store.flushed = (bitAt pr.sources 8 && u.store.flushed)) ∧
       (s.time.cyc < pr.cyc + 1250000 → exec .resetPrepTimeout s = .next s) ∧
       (pr.cyc + 1250000 ≤ s.time.cyc → ∃ t, exec .resetPrepTimeout s = .next t ∧ t.rd Reg.SYS_RST_CAUSE_PREP_CUT = 1 ∧
         t.rd Reg.SYS_RST_CAUSE_LEVEL = 2 ∧ t.sys.stage = 2 ∧ t.sys.prep = none ∧ t.cores = [])) ∧
     (∀ w bits d, s.life.prog = some (w, bits) → s.sys.deferred = some d → d.level = 1 → s.sys.prep = none → s.sys.releasing = 0 →
       ∃ t, exec .nvPulseEnd s = .next t ∧ OtpKeeps s.otp t.otp ∧ t.rd Reg.SYS_RST_CAUSE_DEFERRED = 1 ∧ t.sys.deferred = none ∧
         t.sys.stage = 15 ∧ t.life.prog = none) ∧
     (s.life.prog = none → exec .nvPulseEnd s = .next s) ∧
     (∀ w bits, s.life.prog = some (w, bits) → s.sys.deferred = none → bits = lowBit bits → ∃ t, exec .nvPulseEnd s = .next t ∧
       tabGet 0 t.otp.words w = tabGet 0 s.otp.words w ||| bits ∧ t.life.prog = none ∧ t.sys.pulse = false ∧
       NewEvent s t .otpProgrammed w (bitCount (s.rd Reg.LCD_OTP_DATA_DATA)) 0 ∧ Frame [.otp, .life, .sys, .regs, .evr] s t) ∧
     (∀ w bits, s.life.prog = some (w, bits) → s.sys.deferred = none → bits ≠ lowBit bits → ∃ t, exec .nvPulseEnd s = .next t ∧
       tabGet 0 t.otp.words w = tabGet 0 s.otp.words w ||| lowBit bits ∧ t.life.prog = some (w, bits - lowBit bits) ∧ Frame [.otp, .life] s t) ∧
     (∃ t, exec (.watchdogKick pair) s = .next t ∧ tabGet 0 t.sys.wdog pair = s.time.cyc ∧ Frame [.sys] s t) ∧
     (s.rd (Reg.SYS_WDOG_EN pair) = 0 → ∃ t, exec (.watchdogEnable pair) s = .next t ∧ tabGet 0 t.sys.wdog pair = s.time.cyc ∧
       OnlyField s t (Reg.SYS_WDOG_EN pair) 1 ∧ Frame [.sys, .regs] s t) ∧
     (s.rd (Reg.SYS_WDOG_EN pair) = 1 → exec (.watchdogEnable pair) s = .next s))

/-- Release and block resets (R383 to R385, R387): a stage is released when its gap has passed, its clocks are good and no source is asserted, stage 5 lets tenants read the marked event codes, stage 8 raises RESET_OUT_N; in MAKER the gap is overridden; a
block that is asked to go idle is reset when it is, or after TMO. The boot (R381, R391 to R396): GO starts an attempt at the port that it came to, an image that passes every check is measured and launched, one that fails is
rejected with its code, copy B follows copy A, and after copy B every port serves the mailbox. -/
def Obligations.ReleaseAndBoot : Prop :=
  (∀ s : State,
     (∀ i ∈ [Instr.stageRelease, .stageOverride],
       (i = .stageRelease → s.sys.asserted = 0 ∧ s.sys.stageAt + s.refCycles s.nextGap ≤ s.time.cyc) → (i = .stageOverride → s.lc = .maker) →
       s.sys.releasing ≠ 0 → s.stageClocked = true → ∃ t, exec i s = .next t ∧
         (s.sys.next < 7 → s.sys.next ≠ 3 → t.sys.stage = s.sys.next ∧ t.sys.stageAt = s.time.cyc ∧ t.keys = s.keys) ∧
         (s.sys.next = 3 → t.sys.stage = 3 ∧ (s.dead = true → t.keys.root = none) ∧ (s.dead = false → t.keys = s.keys)) ∧
         (s.sys.next = 5 → ∀ e : Ev, t.bit (Reg.EVR_CODE_READ_T e.code) = e.tenantMark) ∧
         (∀ c, s.sys.next = 7 → s.nextCluster = some c → bitAt t.ras.inService c = true ∧ bitAt t.sys.clusters c = true) ∧
         (s.sys.next = 8 → s.sys.phase ≠ .launched → t.sys.stage = 8 ∧ t.sys.releasing = 0 ∧ t.pins.resetOutN = true ∧ t.sys.window = s.sys.window) ∧
         (s.sys.next = 8 → s.sys.phase = .launched →
           (∀ k, k < 4 → s.rd (Reg.SYS_MEAS_VALUE k) = leAt (shake256 32 s.sys.running) (8 * k) 8) → t.sys.window = true)) ∧
     (s.sys.asserted ≠ 0 ∨ s.sys.releasing = 0 ∨ s.stageClocked = false ∨ s.time.cyc < s.sys.stageAt + s.refCycles s.nextGap →
       exec .stageRelease s = .next s) ∧
     (s.lc ≠ .maker ∨ s.sys.releasing = 0 ∨ s.stageClocked = false → exec .stageOverride s = .next s) ∧
     (∀ (block : BitVec 5) (tmo : BitVec 32), s.sys.block = none → 30 < block.toNat → ∃ t, exec (.blockResetRequest block tmo) s = .next t ∧
       t.rd Reg.SYS_BLK_RST_BLOCK = block.toNat ∧ Frame [.regs] s t) ∧
     (s.sys.block = none → exec .blockIdle s = .next s ∧ exec .blockIdleTimeout s = .next s) ∧
     (∀ (block : BitVec 5) (tmo : BitVec 32), s.sys.block = none → block.toNat ≤ 30 → ∃ t, exec (.blockResetRequest block tmo) s = .next t ∧
       t.sys.block = some (block.toNat, s.time.cyc) ∧ t.rd Reg.SYS_BLK_RST_BLOCK = block.toNat ∧ t.keys.tenants = s.keys.tenants) ∧
     (∀ block tmo b, s.sys.block = some b → exec (.blockResetRequest block tmo) s = .next s) ∧
     (∀ b c0, s.sys.block = some (b, c0) →
       (s.blockIdle b = true → (s.wantLines s.flushWants).1 = false → exec .blockIdle s = .next (s.wantLines s.flushWants).2) ∧
       (s.time.cyc < c0 + 250 * s.rd Reg.SYS_BLK_RST_TMO → exec .blockIdleTimeout s = .next s) ∧
       (s.blockIdle b = true → (s.wantLines s.flushWants).1 = true → ∃ t, exec .blockIdle s = .next t ∧ t.sys.block = none ∧ NewEvent s t .blockReset b 1 0 ∧
         (b < 24 → ∀ i, i < 8 → (t.core (b * 8 + i)).run = none)) ∧
       (s.blockIdle b = false → exec .blockIdle s = .next s) ∧
       (c0 + 250 * s.rd Reg.SYS_BLK_RST_TMO ≤ s.time.cyc → ∃ t, exec .blockIdleTimeout s = .next t ∧ t.sys.block = none ∧
         NewEvent s t .blockReset b 2 0 ∧ (b < 24 → ∀ i, i < 8 → (t.core (b * 8 + i)).run = none)))) ∧
  (∀ s : State,
     (∀ port : Fin 4, (s.port port).accepts = true → bitAt s.sys.served port = true → s.dead = false → s.sys.phase = .waiting ∨ s.sys.phase = .failed →
       s.sys.releasing = 0 → ∃ t, exec (.bootGo port) s = .next t ∧ t.sys.phase = .loading ∧ t.sys.copy = 2 ∧ t.sys.port = port ∧
         (s.backingOff = true → t.sys.backoff = some (s.time.cyc + 250000000))) ∧
     (∀ port : Fin 4, (s.port port).accepts = false → exec (.bootGo port) s = .next s) ∧
     (∀ port : Fin 4, (s.port port).accepts = true → bitAt s.sys.served port = false ∨ s.dead = true ∨
       (s.sys.phase ≠ .waiting ∧ s.sys.phase ≠ .failed) ∨ s.sys.releasing ≠ 0 → exec (.bootGo port) s = .next (s.accept port)) ∧
     (s.sys.backoff = none → exec .bootBackoffExpiry s = .next s) ∧
     (∀ c, s.sys.backoff = some c → s.time.cyc < c → exec .bootBackoffExpiry s = .next s) ∧
     (∀ flash, s.sys.phase ≠ .loading ∨ s.sys.backoff.isSome = true → exec (.bootImageReadDone flash) s = .next s) ∧
     (∀ flash, s.sys.phase = .loading → s.sys.backoff = none → 2 ≤ s.sys.copy →
       (s.sys.failed = true → ∃ t, exec (.bootImageReadDone flash) s = .next t ∧ t.sys.result = 6 ∧ t.sys.phase = .failed) ∧
       (s.sys.failed = false → s.sys.reads ≠ 0 → exec (.bootImageReadDone flash) s = .next s)) ∧
     (∀ c, s.sys.backoff = some c → c ≤ s.time.cyc → ∃ t, exec .bootBackoffExpiry s = .next t ∧ t.sys.backoff = none ∧
       (s.sys.source = 0 → t.sys.phase = .loading ∧ t.sys.copy = 0 ∧ t.sys.flashAt = s.time.cyc)) ∧
     (∀ flash, s.sys.phase = .loading → s.sys.backoff = none →
       let b := if s.sys.copy < 2 then flash else s.sys.image
       (s.sys.copy < 2 ∨ (s.sys.failed = false ∧ s.sys.reads = 0)) →
       (s.imageFault b = 0 → ∃ t, exec (.bootImageReadDone flash) s = .next t ∧ t.sys.phase = .launched ∧ t.sys.running = b ∧ t.sys.window = true ∧
         (s.rd (Reg.SYS_MEAS_VALUE 4) < 2 ^ 63 → ∀ i, i < 4 → t.rd (Reg.SYS_MEAS_VALUE i) = leAt (shake256 32 b) (8 * i) 8)) ∧
       (∀ f, f ≠ 0 → s.imageFault b = f → ∃ t, exec (.bootImageReadDone flash) s = .next t ∧ t.sys.result = f ∧ t.sys.window = s.sys.window ∧
         t.sys.rejected = s.sys.rejected ++ [(joined s.sys.source s.sys.copy, f)] ∧
         (s.sys.source = 0 → s.sys.copy = 0 → t.sys.phase = .loading ∧ t.sys.copy = 1) ∧
         (s.sys.source = 0 → s.sys.copy = 1 → t.sys.phase = .failed ∧ t.sys.served = 15))) ∧
     (s.sys.phase = .loading → s.sys.copy < 2 → s.sys.backoff = none → s.sys.flashAt + 25000000 ≤ s.time.cyc →
       ∃ t, exec .flashReadTimeout s = .next t ∧ t.sys.result = 7 ∧ (s.sys.source = 0 → s.sys.copy = 0 → t.sys.copy = 1)) ∧
     (s.sys.phase ≠ .loading ∨ 2 ≤ s.sys.copy ∨ s.sys.backoff.isSome = true ∨ s.time.cyc < s.sys.flashAt + 25000000 →
       exec .flashReadTimeout s = .next s))

/-- Memory errors and lockstep (R102, R254, R336, R458 to R460, R469): corrected errors are counted and recorded, uncorrectable ones are handled by their class, and a supervisor pair that disagrees latches
condition 0 and fires its watchdog's reset. Cluster tests, rotation and retirement (R462 to R464): one test at a time takes its cluster out of dispatch, a drain that takes too long skips it, a pass brings a retired cluster back and a failure
retires it, and rotations queue the clusters in service. -/
def Obligations.ChecksAndTests : Prop :=
  (∀ s : State,
     (∀ (c : Fin 11) (a : BitVec 64), ∃ t, exec (.sramCorrectableError c a) s = .next t ∧
       t.rd (Reg.RAS_CE_CNT_CE c) = (s.rd (Reg.RAS_CE_CNT_CE c) + 1) % 2 ^ 32 ∧
       NewEvent s t .sramCorrected c (loWord a.toNat) (t.rd (Reg.RAS_CE_CNT_CE c)) ∧ Frame [.regs, .evr] s t) ∧
     exec .scrubPass s = .next s ∧
     (∀ (c : Fin 11) (a : BitVec 64) (unit index : Nat), ∃ t, exec (.sramUncorrectableError c a unit index) s = .next t ∧
       (c.val ≠ 2 → NewEvent s t .sramUncorrectable c (loWord a.toNat) (ueCore c unit index)) ∧
       (c.val = 0 → (t.core (unit % 192)).run = none) ∧
       (c.val = 2 → s.holdsResets = false → s.sys.prep = none → s.sys.releasing = 0 → t.rd Reg.SYS_RST_CAUSE_SOURCES = 2 ^ 7 ∧ t.cores = []) ∧
       (c.val = 3 → t.tab.poisoned.contains (unit % 32768) = true ∧ bitAt (t.rd Reg.STR_DIAG_COND) 1 = true ∧ t.rd Reg.TBL_STAT_FATAL = 1) ∧
       (c.val = 4 → t.tab.reload = some unit ∧ (unit ∈ s.tab.mismatched → t.rd Reg.TBL_STAT_FATAL = 1)) ∧
       (c.val = 10 → t.master (unit % 64) (index % 4) = none ∧ (∀ g, g ≠ index % 4 → t.master (unit % 64) g = s.master (unit % 64) g) ∧
         ∀ m, m ≠ unit % 64 → t.tenant m = s.tenant m)) ∧
     (∀ p : Fin 3, p.val < 2 → s.holdsResets = false → s.sys.prep = none → s.sys.releasing = 0 →
       ∃ t, exec (.lockstepMismatchDetected p) s = .next t ∧
         (s.sourceLevel 3 = 1 → t.rd Reg.SYS_RST_CAUSE_SOURCES = 2 ^ 3 ∧ t.rd Reg.SYS_RST_CAUSE_LEVEL = 1 ∧ t.cores = []) ∧
         (s.sourceLevel 3 = 2 → bitAt (t.rd Reg.STR_DIAG_COND) 0 = true ∧ NewEvent s t .lockstepMismatch p 0 0 ∧
           t.sys.prep.map (fun q => q.sources) = some (2 ^ 3))) ∧
     (s.hasScale = true → ∃ t, exec (.lockstepMismatchDetected 2) s = .next t ∧ t.scale = { s.scale with up := false, restart := true, lastRestart := s.now } ∧
       NewEvent s t .lockstepMismatch 2 0 0 ∧ Frame [.scale, .evr] s t) ∧
     (s.hasScale = false → exec (.lockstepMismatchDetected 2) s = .next s)) ∧
  (∀ s : State,
     (∀ c cause rest, s.ras.tests = [] → s.ras.due = (c, cause) :: rest → c < 24 →
       (cause ≠ .boot → s.rd Reg.PRF_DRAIN_REQ = 0 → s.sys.block = none → ∃ t, exec .clusterTestStart s = .next t ∧
         t.ras.tests = [⟨c, cause, s.now⟩] ∧ (c, cause) ∉ t.ras.queue ∧ c ∈ t.prf.drained ∧ t.rd Reg.PRF_DRAIN_REQ = 1 ∧
         t.rd Reg.PRF_DRAIN_CLUSTER = c ∧ Frame [.ras, .prf, .regs] s t) ∧
       (cause = .boot → ∃ t, exec .clusterTestStart s = .next t ∧
         t.ras.tests = ((c, cause) :: rest).map (fun (q : Nat × TestCause) => (⟨q.1, q.2, s.now⟩ : ClusterTest)) ∧ c ∈ t.prf.drained ∧
         Frame [.ras, .prf, .regs] s t)) ∧
     (s.ras.tests ≠ [] ∨ s.ras.due = [] → exec .clusterTestStart s = .next s) ∧
     (∀ c cause rest, s.ras.due = (c, cause) :: rest → cause ≠ .boot → s.rd Reg.PRF_DRAIN_REQ = 1 → exec .clusterTestStart s = .next s) ∧
     (∀ (c : Fin 24) (failed : Fin 6) core modes, (s.ras.tests.find? (fun t => t.cluster == c.val) = none ∨ s.clusterEmpty c = false →
         exec (.clusterTestEnd c failed core modes) s = .next s) ∧
       (s.ras.tests.find? (fun t => t.cluster == c.val) = none ∨ s.clusterEmpty c = true → exec (.clusterTestDrainTimeout c) s = .next s)) ∧
     (∀ (c : Fin 24) (x : ClusterTest), s.ras.tests.find? (fun t => t.cluster == c.val) = some x →
       s.now < x.start + s.msRaw (s.rd Reg.RAS_ROT_CFG_DRAIN_TMO) → exec (.clusterTestDrainTimeout c) s = .next s) ∧
     (s.rd Reg.RAS_CTL_ROT_EN = 0 ∨ s.ras.once = true ∨ s.ras.pass = some [] ∨
       s.now < s.ras.lastRot + s.secRaw (s.rd Reg.RAS_ROT_CFG_INTERVAL) → exec .rotationIntervalExpiry s = .next s) ∧
     (s.ras.once = true → exec .rotStart s = .next s) ∧
     (∀ c : BitVec 5, 24 ≤ c.toNat ∨ bitAt s.ras.retired c.toNat = false ∨ (∃ q ∈ s.ras.queue, q.1 = c.toNat) ∨
       (∃ y ∈ s.ras.tests, y.cluster = c.toNat) → exec (.clusterReturn c) s = .next (s.wr Reg.RAS_RETIRE_CLUSTER c.toNat)) ∧
     (∀ (c : Fin 24) (x : ClusterTest), s.ras.tests.find? (fun t => t.cluster == c.val) = some x →
       (s.clusterEmpty c = false → x.start + s.msRaw (s.rd Reg.RAS_ROT_CFG_DRAIN_TMO) ≤ s.now → ∃ t, exec (.clusterTestDrainTimeout c) s = .next t ∧
         (∀ y ∈ t.ras.tests, y.cluster ≠ c.val) ∧ c.val ∉ t.prf.drained ∧ t.rd (Reg.RAS_CL_HEALTH_LAST c) = 3 ∧
         NewEvent s t .clusterTestSkipped c 1 0) ∧
       (∀ core modes, s.clusterEmpty c = true → ∃ (t : State) (k : Nat), exec (.clusterTestEnd c 0 core modes) s = .next t ∧
         (∀ y ∈ t.ras.tests, y.cluster ≠ c.val) ∧ t.rd (Reg.RAS_CL_HEALTH_LAST c) = 1 ∧ NewEvent s t .clusterTestPassed c x.cause.val k ∧
         (bitAt s.ras.inService c = false → bitAt t.ras.retired c = false)) ∧
       (∀ (failed : Fin 6) core modes, s.clusterEmpty c = true → failed.val ≠ 0 → ∃ t, exec (.clusterTestEnd c failed core modes) s = .next t ∧
         (∀ y ∈ t.ras.tests, y.cluster ≠ c.val) ∧ t.rd (Reg.RAS_CL_HEALTH_LAST c) = 2 ∧ NewEvent s t .clusterTestFailed c x.cause.val failed ∧
         bitAt t.ras.retired c = true ∧ (bitAt s.ras.retired c = false → bitAt t.ras.inService c = false))) ∧
     (∀ c rest, s.rd Reg.RAS_CTL_ROT_EN = 1 → s.ras.once = false → s.ras.pass ≠ some [] →
       s.ras.lastRot + s.secRaw (s.rd Reg.RAS_ROT_CFG_INTERVAL) ≤ s.now →
       (s.ras.pass.getD s.serving).filter (fun c => bitAt s.ras.inService c) = c :: rest → exec .rotationIntervalExpiry s = .next
         { s with ras := { s.ras with queue := s.ras.queue ++ [(c, .rotation)], pass := some rest, lastRot := s.now } }) ∧
     (s.ras.once = false → s.serving ≠ [] → ∃ t, exec .rotStart s = .next t ∧ t.ras.once = true ∧ t.ras.lastRot = s.now ∧
       (∀ c ∈ s.serving, (c, TestCause.rotation) ∈ t.ras.queue) ∧ Frame [.ras] s t) ∧
     (∀ c : BitVec 5, c.toNat < 24 → bitAt s.ras.retired c.toNat = true → (∀ q ∈ s.ras.queue, q.1 ≠ c.toNat) →
       (∀ y ∈ s.ras.tests, y.cluster ≠ c.toNat) → ∃ t, exec (.clusterReturn c) s = .next t ∧
         t.ras = { s.ras with queue := s.ras.queue ++ [(c.toNat, .returned)] } ∧ OnlyField s t Reg.RAS_RETIRE_CLUSTER c.toNat ∧
         Frame [.ras, .regs] s t))

/-- Links under check, and the lanes' generators (R466 to R468): a recalibration takes an ACTIVE port through RECOVERY, lane registers are written where their condition holds, and
checkers lock, count and lose lock. Temperature, power cap and the SMBus target (R475, R477, R491, R492): the warning sets at 105 °C and clears at 100 °C, a cap change drains or releases clusters and ends when they are gone or back,
and the target answers from stage 8. -/
def Obligations.LinkChecksAndPower : Prop :=
  (∀ (s : State) (lane : Fin 18),
     (∀ port : BitVec 3, port.toNat < 4 → s.ras.recal = none → s.maintHolds port.toNat = false → s.portActive port.toNat = true →
       let moved := (s.openRings.filter (fun tq => (s.sq tq.1 tq.2).cur == port.toNat && !(s.sq tq.1 tq.2).held)).filter (fun tq =>
         match (s.sq tq.1 tq.2).other with | some m => s.portActive m | none => false)
       ∃ t, exec (.linkRecalStart port) s = .next t ∧ t.ras.recal = some (port.toNat, s.now, moved.length) ∧ (t.port port.toNat).st = .recovery ∧
         t.rd Reg.RAS_LINK_RECAL_PORT = port.toNat) ∧
     (∀ port : BitVec 3, s.ras.recal.isSome = true → exec (.linkRecalStart port) s = .next s) ∧
     (∀ port : BitVec 3, s.ras.recal = none → (4 < port.toNat → exec (.linkRecalStart port) s = .next s) ∧
       (port.toNat ≤ 4 → s.maintHolds port.toNat = true ∨ (port.toNat < 4 ∧ s.portActive port.toNat = false) ∨
         (port.toNat = 4 ∧ s.pair.session = none) → exec (.linkRecalStart port) s = .next (s.wr Reg.RAS_LINK_RECAL_PORT port.toNat))) ∧
     (s.ras.recal = none → s.maintHolds 4 = false → s.pair.session.isSome = true → ∃ t, exec (.linkRecalStart 4) s = .next t ∧
       t.ras.recal = some (4, s.now, 0) ∧ t.pair.session = none ∧ t.pair.key = none ∧ Frame [.ras, .pair, .regs] s t) ∧
     (∀ (v : BitVec 64) (debug : Bool), let p := bitsAt v.toNat 0 3
       let m := bitsAt v.toNat 8 2
       let allowed : Prop := ((p = 0 ∧ m = 0) ∨ (s.laneAllowed lane = true ∧ (s.lc ≠ .fielded ∨ debug = true))) ∧
         (debug = true → s.debugLane lane = true)
       (¬allowed → exec (.laneCtlWrite lane v debug) s = .next s) ∧
       (allowed → ∃ t, exec (.laneCtlWrite lane v debug) s = .next t ∧ t.rd (Reg.RAS_LANE_CTL_PATTERN lane) = p ∧ t.rd (Reg.RAS_LANE_CTL_LOOP lane) = m ∧
           t.rd (Reg.RAS_LANE_CTL_RATE lane) = bitsAt v.toNat 10 2 ∧ Frame [.regs] s t ∧
           (p ≠ s.rd (Reg.RAS_LANE_CTL_PATTERN lane) ∨ m ≠ s.rd (Reg.RAS_LANE_CTL_LOOP lane) → t.rd (Reg.RAS_LANE_ERR_ERRORS lane) = 0 ∧
             t.rd (Reg.RAS_LANE_BITS_BITS lane) = 0 ∧ t.rd (Reg.RAS_LANE_CTL_LOCK lane) = 0))) ∧
     (s.laneChecks lane = false → exec (.laneCheckerLock lane) s = .next s) ∧
     (∀ errors bits, s.rd (Reg.RAS_LANE_CTL_LOCK lane) = 0 → exec (.laneCheckerLockLoss lane errors bits) s = .next s) ∧
     (exec (.laneInject lane) s = .next (if s.rd (Reg.RAS_LANE_CTL_LOCK lane) = 1 ∧ s.rd (Reg.RAS_LANE_CTL_LOOP lane) = 1
       then s.satInc (Reg.RAS_LANE_ERR_ERRORS lane) else s)) ∧
     (1 ≤ s.rd (Reg.RAS_LANE_CTL_PATTERN lane) → s.rd (Reg.RAS_LANE_CTL_PATTERN lane) ≤ 5 → s.rd (Reg.RAS_LANE_CTL_LOOP lane) ≠ 2 →
       ∃ t, exec (.laneCheckerLock lane) s = .next t ∧ OnlyField s t (Reg.RAS_LANE_CTL_LOCK lane) 1 ∧ Frame [.regs] s t) ∧
     (∀ errors bits, s.rd (Reg.RAS_LANE_CTL_LOCK lane) = 1 → ∃ t, exec (.laneCheckerLockLoss lane errors bits) s = .next t ∧
       t.rd (Reg.RAS_LANE_CTL_LOCK lane) = 0 ∧
       t.rd (Reg.RAS_LANE_ERR_ERRORS lane) = min (2 ^ 48 - 1) (s.rd (Reg.RAS_LANE_ERR_ERRORS lane) + errors.toNat) ∧
       t.rd (Reg.RAS_LANE_ERR_LOSSES lane) = min (2 ^ 16 - 1) (s.rd (Reg.RAS_LANE_ERR_LOSSES lane) + 1) ∧ Frame [.regs] s t)) ∧
  (∀ s : State,
     (∀ (temp : BitVec 16) (sensor : Fin 26), ∃ t, exec (.thermalWarnThreshold temp sensor) s = .next t ∧
       t.rd Reg.SYS_THERM_TEMP = temp.toNat ∧ t.rd Reg.SYS_THERM_SENSOR = sensor ∧ Frame [.regs, .evr, .pins] s t ∧
       (s.rd Reg.SYS_THERM_WARN = 0 → 1680 ≤ temp.toInt → t.rd Reg.SYS_THERM_WARN = 1 ∧ t.pins.pmAlertN = false ∧
         NewEvent s t .thermalWarning temp.toNat sensor 1) ∧
       (s.rd Reg.SYS_THERM_WARN = 1 → temp.toInt ≤ 1600 → t.rd Reg.SYS_THERM_WARN = 0 ∧ t.pins.pmAlertN = true ∧
         NewEvent s t .thermalWarning temp.toNat sensor 0) ∧
       (1600 < temp.toInt → temp.toInt < 1680 → t.rd Reg.SYS_THERM_WARN = s.rd Reg.SYS_THERM_WARN ∧ t.pins = s.pins ∧ t.evr = s.evr)) ∧
     (∀ cap : BitVec 5, s.ras.cap = none → let s1 := s.wr Reg.SYS_PWR_CAP_CAP cap.toNat
       (s1.powerCap < s.powerCap → ∃ t, exec (.powerCapLower cap) s = .next t ∧ t.rd Reg.SYS_PWR_CAP_CAP = cap.toNat ∧
         t.ras.cap = some s.powerCap ∧ ∀ c ∈ s1.leaving, c ∈ t.prf.drained ∧ ∀ q ∈ t.ras.queue, q.1 ≠ c) ∧
       (s.powerCap < s1.powerCap → ∃ t, exec (.powerCapRaise cap) s = .next t ∧ t.rd Reg.SYS_PWR_CAP_CAP = cap.toNat ∧
         t.ras.cap = some s.powerCap ∧ (∀ c ∈ s.ras.held, c < 24 → c ∈ s1.keptClusters → (c, TestCause.returned) ∈ t.ras.queue ∧ c ∉ t.ras.held) ∧
         Frame [.ras, .regs] s t)) ∧
     (∀ cap : BitVec 5, (s.ras.cap.isSome = true ∨ s.powerCap ≤ (s.wr Reg.SYS_PWR_CAP_CAP cap.toNat).powerCap →
         exec (.powerCapLower cap) s = .next s) ∧
       (s.ras.cap.isSome = true ∨ (s.wr Reg.SYS_PWR_CAP_CAP cap.toNat).powerCap ≤ s.powerCap → exec (.powerCapRaise cap) s = .next s)) ∧
     (s.ras.cap = none ∨ (∃ c ∈ s.leaving, s.clusterEmpty c = false) ∨ (∃ c ∈ s.keptClusters, bitAt s.ras.inService c = false) →
       exec .powerCapChangeDone s = .next s) ∧
     (∀ old, s.ras.cap = some old →
       ((∀ c ∈ s.leaving, s.clusterEmpty c = true) → (∀ c ∈ s.keptClusters, bitAt s.ras.inService c = true) →
         ∃ (t : State) (k : Nat), exec .powerCapChangeDone s = .next t ∧ t.ras.cap = none ∧ NewEvent s t .powerCapChanged old s.powerCap k ∧
           ∀ c ∈ s.leaving, bitAt t.ras.inService c = false)) ∧
     (s.sys.stage = 8 → (∀ r ∈ [(Instr.smbusReadTemperature, s.rd Reg.SYS_THERM_TEMP), (.smbusReadClusters, clusterCount s.ras.inService),
         (.smbusReadCap, s.rd Reg.SYS_PWR_CAP_CAP)], exec r.1 s = .next { s with pins := { s.pins with smbus := natToLe 2 r.2 } }) ∧
       (s.pins.pmAlertN = true → exec .smbusAlertResponse s = .next s) ∧
       (s.pins.pmAlertN = false → exec .smbusAlertResponse s = .next { s with pins := { s.pins with smbus := [0x98#8] } })) ∧
     (s.sys.stage ≠ 8 → ∀ i ∈ [Instr.smbusReadTemperature, .smbusReadClusters, .smbusReadCap, .smbusAlertResponse], exec i s = .next s))

/-- Life-cycle moves (R398, R402 to R407): a move that its signers, slots and supply allow begins, wiping the unit on the way to RETURNED or SCRAPPED; each group programs its bits in all three copies, and the
last one ends the move. -/
def Obligations.LifeCycle : Prop :=
  ∀ (s : State) (slot : Fin 65) (b : Bytes),
    let c := s.lc.code
    let signers := (List.range (byteAt b 6)).map (fun i => signerEntry (slice b (64 + 2892 * i) 2892))
    let slots := signers.map (fun e => e.1)
    let good : Prop := b.length = 64 + 2892 * byteAt b 6 ∧ leAt b 0 4 = 0x54434C44 ∧ byteAt b 4 = 1 ∧ (byteAt b 6 = 1 ∨ byteAt b 6 = 2) ∧
      byteAt b 7 = 0 ∧ leAt b 8 8 = s.otp.uid ∧ allZero (slice b 48 16) = true ∧
      (∀ i, i < byteAt b 6 → allZero (slice b (65 + 2892 * i) 3) = true)
    let known : Prop := (∀ e ∈ signers, s.slotKey e = true) ∧ slots.Nodup ∧ (lcMove c (byteAt b 5) = true → lcSlots c (byteAt b 5) slots = true)
    let signed : Prop := ∀ e ∈ signers, Config.xmssVerify e.2.1 (b.take 64) e.2.2 = true
    let powered : Prop := s.pins.pwrHold = true ∧ s.pins.pfailN = true
    let refused (u : State) (r : MbResult) : State := (u.emit .lcTransitionRefused none srcS0 (byteAt b 5) r.code 0).respond slot r []
    (∀ p ∈ [(0x60, Instr.lcTransition slot), (0x61, .lcInstallKey slot), (0x62, .lcStatus slot)],
      (∀ r, TurnedDown s slot p.1 r → exec p.2 s = .next (s.respond slot r [])) ∧
      (s.mailReady slot = false → exec p.2 s = .next s) ∧ (s.mailTurn slot = false → exec p.2 s = .next s)) ∧
    (Served s slot 0x60 b → ¬good → exec (.lcTransition slot) s = .next (refused s .badFormat)) ∧
    (Served s slot 0x60 b → good → s.useChallenge (slice b 16 32) = none → exec (.lcTransition slot) s = .next (refused s .badChallenge)) ∧
    (∀ s2, Served s slot 0x60 b → good → s.useChallenge (slice b 16 32) = some s2 →
      (¬known → exec (.lcTransition slot) s = .next (refused s2 .badSigner)) ∧
      (known → ¬signed → exec (.lcTransition slot) s = .next (refused s2 .badSignature)) ∧
      (known → signed → lcMove c (byteAt b 5) = false → exec (.lcTransition slot) s = .next (refused s2 .lcBackward)) ∧
      (known → signed → lcMove c (byteAt b 5) = true → ¬powered → exec (.lcTransition slot) s = .next (refused s2 .pwrHoldLow)) ∧
      (known → signed → lcMove c (byteAt b 5) = true → powered → s.life.move.isSome = true →
        exec (.lcTransition slot) s = .next (refused s2 .busy))) ∧
    (∀ s2, Served s slot 0x60 b → good → s.useChallenge (slice b 16 32) = some s2 → known → signed → lcMove c (byteAt b 5) = true → powered →
      s.life.move = none → ∃ t, exec (.lcTransition slot) s = .next t ∧ t.life.move = some ⟨byteAt b 5, c, c, 0, true, slot⟩ ∧
        (3 ≤ byteAt b 5 → t.life.marker = some (byteAt b 5) ∧ t.keys.root = none ∧ t.keys.officers = [] ∧ t.store.st = .unformatted) ∧
        (byteAt b 5 < 3 → t.keys.root = s.keys.root) ∧
        NewEvent s t .lcTransitionStarted c (byteAt b 5) (slots.foldl (fun m i => m ||| 2 ^ i) 0)) ∧
    ((s.life.move = none ∨ ∃ m, s.life.move = some m ∧ m.busy = false) → exec .lcGroupProgrammed s = .next s) ∧
    (∀ m, s.life.move = some m → m.busy = true → s.sys.deferred = none → ∃ t, exec .lcGroupProgrammed s = .next t ∧ OtpKeeps s.otp t.otp ∧
      (∀ w k, w < 3 → k < 8 → (tabGet 0 t.otp.words w).testBit (8 * m.group + k) = true) ∧
      (m.group + 1 < m.target → s.pins.pwrHold = true → s.pins.pfailN = true →
        t.life.move = some { m with group := m.group + 1, done := m.done + 1 }) ∧
      (m.group + 1 < m.target → s.pins.pwrHold = false ∨ s.pins.pfailN = false → t.life.move = none ∧ t.life.marker = s.life.marker) ∧
      (m.target ≤ m.group + 1 → t.life.move = none ∧ (t.lc.code = m.target → t.life.marker = none))) ∧
    (Served s slot 0x61 b → b.length ≠ 40 ∨ 2 < byteAt b 0 ∨ allZero (slice b 1 7) = false →
      exec (.lcInstallKey slot) s = .next (s.respond slot .badFormat [])) ∧
    (Served s slot 0x61 b → b.length = 40 → byteAt b 0 ≤ 2 → allZero (slice b 1 7) = true →
      (s.lc ≠ .integrator → exec (.lcInstallKey slot) s = .next (s.respond slot .wrongState [])) ∧
      (s.lc = .integrator → tabGet [] s.otp.keys (byteAt b 0) ≠ [] → exec (.lcInstallKey slot) s = .next (s.respond slot .notEmpty []))) ∧
    (Served s slot 0x61 b → b.length = 40 → byteAt b 0 ≤ 2 → allZero (slice b 1 7) = true → s.lc = .integrator →
      tabGet [] s.otp.keys (byteAt b 0) = [] → ∃ t, exec (.lcInstallKey slot) s = .next t ∧ tabGet [] t.otp.keys (byteAt b 0) = slice b 8 32 ∧
        (∀ i, i ≠ byteAt b 0 → tabGet [] t.otp.keys i = tabGet [] s.otp.keys i) ∧ t.otp.words = s.otp.words) ∧
    (Served s slot 0x62 b → b ≠ [] → exec (.lcStatus slot) s = .next (s.respond slot .badFormat [])) ∧
    (Served s slot 0x62 [] → exec (.lcStatus slot) s = .next (s.respond slot .ok (natToLe 8 s.lcdState ++ natToLe 8 s.lcdLcStat)))

/-- The OTP port and the debug port (R386, R399, R408 to R411): words are read and programmed where the life-cycle state allows, the TAP's registers shift out what they hold, a session opens with a
token and ends, and the debug master's accesses are made or refused. -/
def Obligations.OtpAndDebug : Prop :=
  ∀ s : State,
    (∀ w : Fin 512, s.life.prog = none → s.sys.deferred = none → s.sys.prep = none →
      (Config.otpArea w ≠ 2 → Config.otpArea w ≠ 3 → Config.otpArea w ≠ 4 → 3 ≤ w.val → ∃ t, exec (.otpRead w) s = .next t ∧
        t.rd Reg.LCD_OTP_DATA_DATA = tabGet 0 s.otp.words w % 2 ^ 64 ∧ Frame [.regs] s t) ∧
      (w.val < 3 → ∃ t, exec (.otpRead w) s = .next t ∧ t.rd Reg.LCD_OTP_DATA_DATA = tabGet 0 s.otp.words w % 2 ^ 32 ∧ Frame [.regs] s t) ∧
      (s.otpWritable w = false → ∃ t, exec (.otpProgram w) s = .next t ∧ t.rd Reg.LCD_OTP_CMD_RESULT = 1 ∧ t.otp = s.otp ∧ Frame [.regs] s t) ∧
      (s.otpWritable w = true → s.rd Reg.LCD_OTP_DATA_DATA ≠ 0 → ∃ t, exec (.otpProgram w) s = .next t ∧
        t.life.prog = some (w.val, s.rd Reg.LCD_OTP_DATA_DATA) ∧ t.sys.pulse = true ∧ t.otp = s.otp ∧ Frame [.regs, .life, .sys] s t)) ∧
    (∀ w : Fin 512, s.life.prog = none →
      (Config.otpArea w = 2 → 3 ≤ w.val → ∃ t, exec (.otpRead w) s = .next t ∧
        t.rd Reg.LCD_OTP_DATA_DATA = s.otp.thermometer % 2 ^ 64 ∧ Frame [.regs] s t) ∧
      (Config.otpArea w = 3 → 3 ≤ w.val → ∃ t, exec (.otpRead w) s = .next t ∧
        t.rd Reg.LCD_OTP_DATA_DATA = s.otp.thermometer / 2 ^ 64 % 2 ^ 64 ∧ Frame [.regs] s t) ∧
      (Config.otpArea w = 4 → 3 ≤ w.val → ∃ t, exec (.otpRead w) s = .next t ∧ t.rd Reg.LCD_OTP_CMD_INDEX = w ∧ Frame [.regs, .free] s t) ∧
      (s.otpWritable w = true → s.rd Reg.LCD_OTP_DATA_DATA = 0 → s.sys.deferred = none → s.sys.prep = none →
        ∃ t, exec (.otpProgram w) s = .next t ∧ t.otp = s.otp ∧ t.rd Reg.LCD_OTP_CMD_RESULT = 0 ∧ t.life.prog = none ∧
          NewEvent s t .otpProgrammed w 0 0)) ∧
    (∀ w : Fin 512, (s.life.prog.isSome = true → exec (.otpRead w) s = .next s) ∧
      (s.life.prog.isSome = true ∨ s.sys.deferred.isSome = true ∨ s.sys.prep.isSome = true → exec (.otpProgram w) s = .next s)) ∧
    (∀ good, s.life.prog = none → exec (.otpProgramDone good) s = .next s) ∧
    (∀ w bits good, s.life.prog = some (w, bits) → s.sys.deferred = none → ∃ t, exec (.otpProgramDone good) s = .next t ∧
      tabGet 0 t.otp.words w = tabGet 0 s.otp.words w ||| bits ∧ OtpKeeps s.otp t.otp ∧ t.life.prog = none ∧ t.sys.pulse = false ∧
      t.rd Reg.LCD_OTP_CMD_RESULT = (if good then 0 else 2)) ∧
    (∀ r ∈ [(Instr.unitId, natToLe 8 s.otp.uid), (.bypass, [0#8]), (.tapReset, []),
        (.idcode, natToLe 4 (0x19192001 + Config.jtagMaker % 2048 * 2))],
      exec r.1 s = .next { s with life := { s.life with tdo := r.2 } }) ∧
    (∀ tok d, s.dead = false → tokenFields s.otp.uid tok = some d → d.scope ≠ 2 → s.winOpen = true →
      let e := signerEntry (tok.drop 48)
      s.slotKey e = true → e.1 < 2 → Config.xmssVerify e.2.1 (tok.take 48) e.2.2 = true → s.lc = .fielded → s.timeGood = true → s.now < d.notAfter →
      s.portsFree d.ports = true → ∃ t, exec (.token tok) s = .next t ∧ t.life.session = some d ∧ t.life.token = tok ∧ t.life.consents = [] ∧
        t.keys = s.keys ∧ t.otp = s.otp) ∧
    (∀ tok, (s.dead = true → exec (.token tok) s = .next s) ∧
      (s.dead = false → tokenFields s.otp.uid tok = none ∨ s.lc ≠ .fielded ∨ s.winOpen = false ∨ s.timeGood = false →
        exec (.token tok) s = .next { s with life := { s.life with token := tok, consents := [] } })) ∧
    (s.life.session = none → exec .debugSessionEnd s = .next s ∧ exec .debugSessionExpiry s = .next s) ∧
    (∀ d, s.life.session = some d → s.now < d.notAfter → exec .debugSessionExpiry s = .next s) ∧
    (∀ d, s.life.session = some d → (∃ t, exec .debugSessionEnd s = .next t ∧ t.life.session = none ∧ t.keys = s.keys) ∧
      (d.notAfter ≤ s.now → ∃ t, exec .debugSessionExpiry s = .next t ∧ t.life.session = none ∧ (∀ n, (t.core n).halted = false))) ∧
    (∀ (write : Bool) (addr : BitVec 64) (size : Fin 4) (data : BitVec 64),
      (s.debugReach write addr.toNat = false ∨ internalMapped addr.toNat = false ∨ addr.toNat % 2 ^ size.val ≠ 0 ∨
        (write = false ∧ s.debugQuarantined addr.toNat (2 ^ size.val) = true) → ∃ t, exec (.dmacc write addr size data) s = .next t ∧ t.life.tdo = 1#8 :: zeros 8 ∧
        t.keys = s.keys ∧ t.cores = s.cores ∧ NewEvent s t .debugDenied (loWord addr.toNat) (if write then 2 else 1)
          ((s.life.session.map (·.scope)).getD 0)) ∧
      (∀ b s1, write = false → internalMapped addr.toNat = true → s.debugReach false addr.toNat = true → addr.toNat % 2 ^ size.val = 0 →
        s.debugQuarantined addr.toNat (2 ^ size.val) = false → s.busRead addr.toNat (2 ^ size.val) = some (b, s1) →
        exec (.dmacc write addr size data) s = .next { s1 with life := { s1.life with tdo := 0#8 :: fitTo 8 b } }) ∧
      (∀ s1, write = true → internalMapped addr.toNat = true → s.debugReach true addr.toNat = true → addr.toNat % 2 ^ size.val = 0 →
        s.busWrite true addr.toNat (natToLe (2 ^ size.val) data.toNat) = some s1 →
        exec (.dmacc write addr size data) s = .next { s1 with life := { s1.life with tdo := 0#8 :: zeros 8 } }) ∧
      (internalMapped addr.toNat = true → s.debugReach write addr.toNat = true → addr.toNat % 2 ^ size.val = 0 →
        (write = false → s.debugQuarantined addr.toNat (2 ^ size.val) = false ∧ s.busRead addr.toNat (2 ^ size.val) = none) →
        (write = true → s.busWrite true addr.toNat (natToLe (2 ^ size.val) data.toNat) = none) →
        ∃ t, exec (.dmacc write addr size data) s = .next t ∧ t.life.tdo = 1#8 :: zeros 8 ∧
          NewEvent s t .debugDenied (loWord addr.toNat) (if write then 2 else 1) ((s.life.session.map (·.scope)).getD 0)))

/-- Register accesses from outside (R4, R5, R14, R17, R19, R21, R221, R321, R329, R415, R421): a host read or write of the window is answered, dropped or turned away, and a
supervisor's store sets the fields of a register, writes a memory, or is refused and reported. -/
def Obligations.RegisterAccess : Prop :=
  ∀ (s : State) (port : Fin 4) (addr : BitVec 64),
    let a := addr.toNat
    let x : MpuAccess := ⟨.s, none, .write⟩
    let sup (who : Fin 8) (data : Bytes) : Prop := who.val < 4 ∧ data.length ∈ [1, 2, 4, 8] ∧ a % data.length = 0
    let allowed (who : Fin 8) (data : Bytes) : Prop := sup who data ∧ s.mpuFirst who .supervisor x a data.length = none
    let window : Prop := 0x50000000 ≤ a ∨ (0x20000000 ≤ a ∧ a < 0x26000000 ∧ 0x300000 ≤ a % 0x400000)
    let shadow : Prop := 0x50081000 ≤ a ∧ a < 0x50081A00
    let host (data : Bytes) : Prop := (s.port port).accepts = true ∧ 1 ≤ data.length ∧ data.length ≤ 256
    (∀ (len : BitVec 10) (tag : BitVec 8),
      ((s.port port).accepts = false ∨ len.toNat = 0 ∨ 512 < len.toNat → exec (.mrdReceived port addr len tag) s = .next s) ∧
      ((s.port port).accepts = true → 1 ≤ len.toNat → len.toNat ≤ 512 →
        (winAccess a len.toNat = true → ∃ t, exec (.mrdReceived port addr len tag) s = .next t ∧
          Handed (t.port port) .cpl 0 ((s.accept port).winBytes port a len.toNat)) ∧
        (winAccess a len.toNat = false → ∃ t, exec (.mrdReceived port addr len tag) s = .next t ∧ Handed (t.port port) .cpl 0 [] ∧
          t.keys = s.keys ∧ t.rd (Reg.LNK_ERR_BAD_HOST port) = 1 ∧ NewEvent s t .hostAccessInvalid port (loWord a) (joined 1 len.toNat)))) ∧
    (∀ (who : Fin 8) (data : Bytes), who.val < 4 →
      (data.length ∉ [1, 2, 4, 8] ∨ a % data.length ≠ 0 → exec (.registerWrite who addr data) s = .next s) ∧
      (sup who data → ∀ f, s.mpuFirst who .supervisor x a data.length = some f → exec (.registerWrite who addr data) s = .next (s.mpuReport who x f)) ∧
      (allowed who data → internalMapped a = false ∨ (window ∧ regHit a = none) →
        exec (.registerWrite who addr data) s = .next (s.mpuReport who x ⟨a, .unmapped, 0xFF⟩)) ∧
      (allowed who data → internalMapped a = true → window → ∀ row b off, regHit a = some (row, b, off) →
        (who.val < 2 ∨ ¬shadow → exec (.registerWrite who addr data) s = .next (s.writeReg false row b off data)) ∧
        (2 ≤ who.val → shadow → ∃ k, k < 64 ∧ exec (.registerWrite who addr data) s = .next ((s.writeReg false row b off data).noteHandles k)) ∧
        (row.base ∉ actingRegs → ∃ t, exec (.registerWrite who addr data) s = .next t ∧ FieldsWritten s t row b off data ∧
          Frame ([.regs] ++ (if shadow then [.tab] else []) ++ (if a / 0x10000 = 0x500A then [.time] else [])) s t)) ∧
      (allowed who data → internalMapped a = true → 0x20000000 ≤ a → a < 0x26000000 → a % 0x400000 < 0x100000 →
        exec (.registerWrite who addr data) s =
          .next (s.storeLocal (8 * ((a - 0x20000000) / 0x400000) + a % 0x400000 / 0x20000) (a % 0x400000 % 0x20000) data)) ∧
      (allowed who data → internalMapped a = true → 0x20000000 ≤ a → a < 0x26000000 → 0x100000 ≤ a % 0x400000 → a % 0x400000 < 0x300000 →
        ∃ t, exec (.registerWrite who addr data) s = .next t ∧
          (t.cluster ((a - 0x20000000) / 0x400000)).shared = memWrite (s.cluster ((a - 0x20000000) / 0x400000)).shared (a % 0x400000 - 0x100000) data ∧
          Frame [.clus] s t) ∧
      (allowed who data → internalMapped a = true → ¬window → ¬(0x20000000 ≤ a ∧ a < 0x26000000) → ∃ t, exec (.registerWrite who addr data) s = .next t ∧
        Frame [.tab, .signer, .scale, .sys] s t ∧
        (0x10000480 ≤ a → a < 0x10200000 → ∀ i, i < data.length → tabGet none t.sys.raw (a + i) = some (data.getD i 0#8)))) ∧
    (∀ (data : Bytes), (s.port port).accepts = false ∨ data.length = 0 ∨ 256 < data.length → exec (.registerWrite (port.natAdd 4) addr data) s = .next s) ∧
    (∀ (data : Bytes), host data →
      let go := exec (.registerWrite (port.natAdd 4) addr data) s
      let r := winReg (a - a % 8)
      (winAccess a data.length = false → go = .next ((s.accept port).badHost port 2 a data.length)) ∧
      (winAccess a data.length = true →
        (s.winAnswers port r = false → go = .next (s.accept port)) ∧
        (s.winAnswers port r = true →
          (∀ t q, winReg a = .sqDb t q → go = exec (.sqDoorbell port (Fin.ofNat 64 t) (Fin.ofNat 16 q) (BitVec.ofNat 16 (leToNat data))) s) ∧
          (∀ t q, winReg a = .cqDb t q → go = exec (.cqDoorbell port (Fin.ofNat 64 t) (Fin.ofNat 16 q) (BitVec.ofNat 16 (leToNat data))) s) ∧
          (winReg a = .bootGo → (leToNat data).testBit 0 = true → go = exec (.bootGo port) s) ∧
          (winReg a = .reserved → a % 8 = 0 → go = .next (s.accept port)) ∧
          (∀ t q, r = .sqCfg t q ∨ r = .sqCtl t q ∨ r = .cqCfg t q ∨ r = .ivAddr t q ∨ r = .ivCtrl t q → s.pageOpen t = false → go = .next (s.accept port)) ∧
          (∀ t q, winReg a = .sqCfg t q → data.length = 8 → s.pageOpen t = true → (s.sq t q).enable = true → go = .next (s.accept port)) ∧
          (∀ t q, winReg a = .sqCfg t q → data.length = 8 → s.pageOpen t = true → (s.sq t q).enable = false → ∃ u, go = .next u ∧
            (u.sq t q).base = leToNat data / 4096 % 2 ^ 52 ∧ (u.sq t q).cq = bitsAt (leToNat data) 5 4 ∧ (u.sq t q).d2 = (leToNat data).testBit 4 ∧
            (u.sq t q).log2 = log2Stored (leToNat data % 16) ∧ (u.sq t q).enable = false ∧ u.keys = s.keys ∧ u.cores = s.cores) ∧
          (∀ t v, winReg a = .ivAddr t v → data.length = 8 → s.pageOpen t = true → ∃ u, go = .next u ∧ (u.iv t v).addr = leToNat data / 4 ∧
            (u.iv t v).mask = (s.iv t v).mask ∧ u.keys = s.keys) ∧
          (∀ k, winReg a = .mbReq k ∨ winReg a = .mbRsp k ∨ winReg a = .mbLen k → data.length = 8 → (s.slot k).busy = true → go = .next (s.accept port)) ∧
          (∀ k, winReg a = .mbReq k → data.length = 8 → (s.slot k).busy = false → ∃ u, go = .next u ∧ (u.slot k).req = leToNat data / 8 ∧
            (∀ j, j ≠ k → u.slot j = s.slot j) ∧ u.keys.tenants = s.keys.tenants) ∧
          (∀ k, winReg a = .mbRsp k → data.length = 8 → (s.slot k).busy = false → ∃ u, go = .next u ∧ (u.slot k).rsp = leToNat data / 8) ∧
          (∀ k, winReg a = .mbLen k → data.length = 8 → (s.slot k).busy = false → ∃ u, go = .next u ∧ (u.slot k).reqLen = bitsAt (leToNat data) 0 17 ∧
            (u.slot k).rspMax = bitsAt (leToNat data) 32 17) ∧
          (∀ k, winReg a = .mbCtl k → a % 8 = 0 → (leToNat data).testBit 0 = false ∨ (s.slot k).busy = true → ∃ u, go = .next u ∧
            (u.slot k).vector = bitsAt (leToNat data) 5 4 ∧ (u.slot k).irq = (leToNat data).testBit 4 ∧ (u.slot k).busy = (s.slot k).busy ∧
            ((leToNat data).testBit 2 = true → (u.slot k).done = false)) ∧
          (∀ k, winReg a = .mbCtl k → a % 8 = 0 → (leToNat data).testBit 0 = true → (s.slot k).busy = false → 16 ≤ (s.slot k).reqLen → (s.slot k).reqLen ≤ 65536 →
            16 ≤ (s.slot k).rspMax → (s.slot k).rspMax ≤ 65536 → ∃ u, go = .next u ∧ (u.slot k).busy = true ∧ (u.slot k).port = port.val))))
end

