-- ==== Sys2Proof/Laws/Map.lean ====
section
/-! SUPPORT. The laws of sparse tables, of memories and of the register file: a read after a write gives the value written, every
other key is left alone, and every operation keeps the canonical form. -/

namespace Sys2Proof

variable {α : Type}

@[simp] theorem tabGet_nil (d : α) (i : Nat) : tabGet d [] i = d := rfl

theorem tabGet_erase_same (d : α) (m : Table α) (i : Nat) : tabGet d (tabErase m i) i = d := by
  induction m with
  | nil => rfl
  | cons e m ih =>
    obtain ⟨k, v⟩ := e
    by_cases h : k = i
    · simp [tabErase, h, ih]
    · simp [tabErase, h, tabGet, ih]

theorem tabGet_erase_other (d : α) (m : Table α) {i j : Nat} (h : j ≠ i) : tabGet d (tabErase m i) j = tabGet d m j := by
  induction m with
  | nil => rfl
  | cons e m ih =>
    obtain ⟨k, v⟩ := e
    by_cases hk : k = i
    · subst hk
      simp [tabErase, tabGet, ih, Ne.symm h]
    · simp [tabErase, hk, tabGet, ih]

theorem tabGet_insert (d : α) (m : Table α) (i : Nat) (v : α) (j : Nat) (hm : ∀ e ∈ m, e.1 ≠ i) :
    tabGet d (tabInsert m i v) j = if j = i then v else tabGet d m j := by
  induction m with
  | nil =>
    by_cases h : j = i
    · simp [tabInsert, tabGet, h]
    · simp [tabInsert, tabGet, h, Ne.symm h]
  | cons e m ih =>
    obtain ⟨k, w⟩ := e
    have hk : k ≠ i := hm (k, w) (by simp)
    have hm' : ∀ e ∈ m, e.1 ≠ i := fun e he => hm e (by simp [he])
    by_cases h : j = i
    · subst h
      by_cases hlt : j < k
      · simp [tabInsert, hlt, tabGet]
      · simp [tabInsert, hlt, tabGet, hk, ih hm']
    · by_cases hlt : i < k
      · simp [tabInsert, hlt, tabGet, h, Ne.symm h]
      · simp [tabInsert, hlt, tabGet, h, ih hm']

theorem mem_tabErase {m : Table α} {i : Nat} {e : Nat × α} (h : e ∈ tabErase m i) : e.1 ≠ i ∧ e ∈ m := by
  induction m with
  | nil => simp [tabErase] at h
  | cons x m ih =>
    obtain ⟨k, v⟩ := x
    by_cases hk : k = i
    · simp only [tabErase, hk, if_true] at h
      exact ⟨(ih h).1, by simp [(ih h).2]⟩
    · simp only [tabErase, hk, if_false, List.mem_cons] at h
      rcases h with rfl | h
      · exact ⟨hk, by simp⟩
      · exact ⟨(ih h).1, by simp [(ih h).2]⟩

/-- A read after a write: the value written at the key, the former value at every other key. -/
theorem tabGet_set [DecidableEq α] (d : α) (m : Table α) (i : Nat) (v : α) (j : Nat) :
    tabGet d (tabSet d m i v) j = if j = i then v else tabGet d m j := by
  unfold tabSet
  by_cases hv : v = d
  · by_cases h : j = i
    · simp [hv, h, tabGet_erase_same]
    · simp [hv, h, tabGet_erase_other d m h]
  · rw [if_neg hv, tabGet_insert d _ i v j (fun e he => (mem_tabErase he).1)]
    by_cases h : j = i
    · simp [h]
    · simp [h, tabGet_erase_other d m h]

@[simp] theorem tabGet_set_same [DecidableEq α] (d : α) (m : Table α) (i : Nat) (v : α) :
    tabGet d (tabSet d m i v) i = v := by simp [tabGet_set]

theorem tabGet_set_other [DecidableEq α] (d : α) (m : Table α) {i j : Nat} (v : α) (h : j ≠ i) :
    tabGet d (tabSet d m i v) j = tabGet d m j := by simp [tabGet_set, h]

/-- A value changed by a function: that key alone changes. -/
theorem tabGet_mod [DecidableEq α] (d : α) (m : Table α) (i : Nat) (f : α → α) (j : Nat) :
    tabGet d (tabMod d m i f) j = if j = i then f (tabGet d m i) else tabGet d m j := tabGet_set d m i _ j

@[simp] theorem tabGet_mod_same [DecidableEq α] (d : α) (m : Table α) (i : Nat) (f : α → α) :
    tabGet d (tabMod d m i f) i = f (tabGet d m i) := by simp [tabGet_mod]

theorem tabGet_mod_other [DecidableEq α] (d : α) (m : Table α) {i j : Nat} (f : α → α) (h : j ≠ i) :
    tabGet d (tabMod d m i f) j = tabGet d m j := by simp [tabGet_mod, h]

/-- Removed entries read as the default, the others as before. -/
theorem tabGet_drop (d : α) (p : Nat → Bool) (m : Table α) (j : Nat) :
    tabGet d (tabDrop p m) j = if p j then d else tabGet d m j := by
  induction m with
  | nil => simp [tabDrop]
  | cons e m ih =>
    obtain ⟨k, v⟩ := e
    have hd : tabDrop p ((k, v) :: m) = if p k then tabDrop p m else (k, v) :: tabDrop p m := by
      cases h : p k <;> simp [tabDrop, h]
    rw [hd]
    by_cases hj : k = j
    · subst hj
      by_cases hp : p k = true
      · rw [if_pos hp, ih]; simp [hp]
      · simp [hp, tabGet]
    · by_cases hp : p k = true
      · rw [if_pos hp, ih]; simp [tabGet, hj]
      · rw [if_neg hp]; simp [tabGet, hj, ih]

theorem tabWfFrom_le [DecidableEq α] {d : α} {m : Table α} : ∀ {a b : Nat}, a ≤ b → tabWfFrom d b m = true → tabWfFrom d a m = true := by
  cases m with
  | nil => intros; rfl
  | cons e m =>
    obtain ⟨k, v⟩ := e
    intro a b hab h
    simp only [tabWfFrom, Bool.and_eq_true, decide_eq_true_eq] at h ⊢
    exact ⟨⟨Nat.le_trans hab h.1.1, h.1.2⟩, h.2⟩

theorem tabWfFrom_erase [DecidableEq α] {d : α} {m : Table α} (i : Nat) :
    ∀ {lo : Nat}, tabWfFrom d lo m = true → tabWfFrom d lo (tabErase m i) = true := by
  induction m with
  | nil => intros; rfl
  | cons e m ih =>
    obtain ⟨k, v⟩ := e
    intro lo h
    simp only [tabWfFrom, Bool.and_eq_true, decide_eq_true_eq] at h
    by_cases hk : k = i
    · simp only [tabErase, hk, if_true]
      exact tabWfFrom_le (by omega) (ih h.2)
    · simp only [tabErase, hk, if_false, tabWfFrom, Bool.and_eq_true, decide_eq_true_eq]
      exact ⟨h.1, ih h.2⟩

theorem tabWfFrom_insert [DecidableEq α] {d : α} {m : Table α} {i : Nat} {v : α} (hv : v ≠ d) (hm : ∀ e ∈ m, e.1 ≠ i) :
    ∀ {lo : Nat}, lo ≤ i → tabWfFrom d lo m = true → tabWfFrom d lo (tabInsert m i v) = true := by
  induction m with
  | nil => intro lo hlo _; simp [tabInsert, tabWfFrom, hlo, hv]
  | cons e m ih =>
    obtain ⟨k, w⟩ := e
    intro lo hlo h
    simp only [tabWfFrom, Bool.and_eq_true, decide_eq_true_eq] at h
    have hk : k ≠ i := hm (k, w) (by simp)
    by_cases hlt : i < k
    · simp only [tabInsert, hlt, if_true, tabWfFrom, Bool.and_eq_true, decide_eq_true_eq]
      exact ⟨⟨hlo, hv⟩, ⟨Nat.succ_le_of_lt hlt, h.1.2⟩, h.2⟩
    · simp only [tabInsert, hlt, if_false, tabWfFrom, Bool.and_eq_true, decide_eq_true_eq]
      exact ⟨h.1, ih (fun e he => hm e (by simp [he])) (by omega) h.2⟩

/-- A write keeps the canonical form. -/
theorem tabWf_set [DecidableEq α] {d : α} {m : Table α} (h : tabWf d m = true) (i : Nat) (v : α) :
    tabWf d (tabSet d m i v) = true := by
  unfold tabSet tabWf
  by_cases hv : v = d
  · rw [if_pos hv]; exact tabWfFrom_erase i h
  · rw [if_neg hv]
    exact tabWfFrom_insert hv (fun e he => (mem_tabErase he).1) (Nat.zero_le _) (tabWfFrom_erase i h)

/-- A change of one value keeps the canonical form. -/
theorem tabWf_mod [DecidableEq α] {d : α} {m : Table α} (h : tabWf d m = true) (i : Nat) (f : α → α) :
    tabWf d (tabMod d m i f) = true := tabWf_set h i _

theorem tabWfFrom_filter [DecidableEq α] {d : α} {m : Table α} (p : Nat × α → Bool) :
    ∀ {lo : Nat}, tabWfFrom d lo m = true → tabWfFrom d lo (m.filter p) = true := by
  induction m with
  | nil => intros; rfl
  | cons e m ih =>
    obtain ⟨k, v⟩ := e
    intro lo h
    simp only [tabWfFrom, Bool.and_eq_true, decide_eq_true_eq] at h
    by_cases hp : p (k, v) = true
    · simp only [List.filter, hp, tabWfFrom, Bool.and_eq_true, decide_eq_true_eq]
      exact ⟨h.1, ih h.2⟩
    · have hp' : p (k, v) = false := by simpa using hp
      simp only [List.filter, hp']
      exact tabWfFrom_le (by omega) (ih h.2)

/-- The removal of entries keeps the canonical form. -/
theorem tabWf_filter [DecidableEq α] {d : α} {m : Table α} (h : tabWf d m = true) (p : Nat × α → Bool) :
    tabWf d (m.filter p) = true := tabWfFrom_filter p h

theorem tabWf_drop [DecidableEq α] {d : α} {m : Table α} (h : tabWf d m = true) (p : Nat → Bool) :
    tabWf d (tabDrop p m) = true := tabWf_filter h _

theorem tabWfFrom_map [DecidableEq α] {d : α} {m : Table α} (f : Nat → α → α) :
    ∀ {lo : Nat}, tabWfFrom d lo m = true → tabWfFrom d lo (tabMap d f m) = true := by
  induction m with
  | nil => intros; rfl
  | cons e m ih =>
    obtain ⟨k, v⟩ := e
    intro lo h
    simp only [tabWfFrom, Bool.and_eq_true, decide_eq_true_eq] at h
    have hm : tabMap d f ((k, v) :: m) = if f k v = d then tabMap d f m else (k, f k v) :: tabMap d f m := by
      by_cases hv : f k v = d <;> simp [tabMap, hv]
    rw [hm]
    by_cases hv : f k v = d
    · rw [if_pos hv]
      exact tabWfFrom_le (by omega) (ih h.2)
    · rw [if_neg hv]
      simp only [tabWfFrom, Bool.and_eq_true, decide_eq_true_eq]
      exact ⟨⟨h.1.1, hv⟩, ih h.2⟩

/-- A change of every listed value keeps the canonical form. -/
theorem tabWf_map [DecidableEq α] {d : α} {m : Table α} (h : tabWf d m = true) (f : Nat → α → α) :
    tabWf d (tabMap d f m) = true := tabWfFrom_map f h

@[simp] theorem tabWf_nil [DecidableEq α] (d : α) : tabWf d ([] : Table α) = true := rfl

/-- A byte of memory after a store: the byte stored where the address lies in the range, else the byte before. -/
theorem memByte_write (m : Memory) (b : Bytes) : ∀ (a j : Nat),
    memByte (memWrite m a b) j = if a ≤ j ∧ j < a + b.length then b.getD (j - a) 0#8 else memByte m j := by
  induction b generalizing m with
  | nil => intro a j; simp [memWrite] <;> omega
  | cons x xs ih =>
    intro a j
    simp only [memWrite, ih, List.length_cons]
    by_cases h1 : a + 1 ≤ j ∧ j < a + 1 + xs.length
    · have h2 : a ≤ j ∧ j < a + (xs.length + 1) := by omega
      rw [if_pos h1, if_pos h2]
      have h3 : j - a = (j - (a + 1)) + 1 := by omega
      rw [h3]; simp
    · by_cases h2 : j = a
      · subst h2
        rw [if_neg h1, if_pos (by omega)]
        simp [memByte]
      · rw [if_neg h1, if_neg (by omega)]
        simp [memByte, tabGet_set, h2]

/-- A byte outside a store is left alone. -/
theorem memByte_write_other (m : Memory) (b : Bytes) {a j : Nat} (h : j < a ∨ a + b.length ≤ j) :
    memByte (memWrite m a b) j = memByte m j := by
  rw [memByte_write, if_neg (by omega)]

/-- A byte of memory after a range is written with 0. -/
theorem memByte_zero (m : Memory) (a n j : Nat) :
    memByte (memZero m a n) j = if a ≤ j ∧ j < a + n then 0#8 else memByte m j := by
  unfold memByte memZero
  rw [tabGet_drop]
  by_cases h : a ≤ j ∧ j < a + n
  · simp [h, memDefault]
  · rw [if_neg h, if_neg]; simp; omega

/-- A store keeps the canonical form of memory. -/
theorem memWf_write (b : Bytes) : ∀ {m : Memory} (a : Nat), memWf m = true → memWf (memWrite m a b) = true := by
  induction b with
  | nil => intro m a h; exact h
  | cons x xs ih => intro m a h; exact ih (a + 1) (tabWf_set h a x)

/-- A zero fill keeps the canonical form of memory. -/
theorem memWf_zero {m : Memory} (h : memWf m = true) (a n : Nat) : memWf (memZero m a n) = true := tabWf_drop h _

@[simp] theorem memRead_length (m : Memory) (n : Nat) : ∀ a : Nat, (memRead m a n).length = n := by
  induction n with
  | zero => intro a; rfl
  | succ n ih => intro a; simp [memRead, ih]

/-- A field after a write of it: the value, cut to the field's width. -/
@[simp] theorem regGet_set_same (r : RegFile) (f : Field) (v : Nat) : regGet (regSet r f v) f = v % 2 ^ f.width := by
  simp [regGet, regSet]

/-- A field with another key is left alone by a write. -/
theorem regGet_set_other (r : RegFile) {f g : Field} (v : Nat) (h : g.key ≠ f.key) : regGet (regSet r f v) g = regGet r g := by
  unfold regGet regSet tabSet
  split
  · exact tabGet_erase_other _ _ h
  · rw [tabGet_insert _ _ _ _ _ (fun e he => (mem_tabErase he).1), if_neg h]
    exact tabGet_erase_other _ _ h

end Sys2Proof
end

