-- ==== Sys2Proof/Laws/State.lean ====
section
/-! SUPPORT. The small lemmas of `State`: what each operation that changes one part of the unit does to every part, so that no
later proof unfolds a record update. -/

namespace Sys2Proof.Machine

variable (s : State)

@[simp] theorem State.wr_pending (f : Field) (v : Nat) : (s.wr f v).pending = s.pending := rfl
@[simp] theorem State.wr_free (f : Field) (v : Nat) : (s.wr f v).free = s.free := rfl
@[simp] theorem State.wr_regs (f : Field) (v : Nat) : (s.wr f v).regs = regSet s.regs f v := rfl
@[simp] theorem State.wr_time (f : Field) (v : Nat) : (s.wr f v).time = s.time := rfl
@[simp] theorem State.wr_ent (f : Field) (v : Nat) : (s.wr f v).ent = s.ent := rfl
@[simp] theorem State.wr_mpu (f : Field) (v : Nat) : (s.wr f v).mpu = s.mpu := rfl
@[simp] theorem State.wr_evr (f : Field) (v : Nat) : (s.wr f v).evr = s.evr := rfl
@[simp] theorem State.wr_signer (f : Field) (v : Nat) : (s.wr f v).signer = s.signer := rfl
@[simp] theorem State.wr_otp (f : Field) (v : Nat) : (s.wr f v).otp = s.otp := rfl
@[simp] theorem State.wr_pins (f : Field) (v : Nat) : (s.wr f v).pins = s.pins := rfl
@[simp] theorem State.wr_host (f : Field) (v : Nat) : (s.wr f v).host = s.host := rfl
@[simp] theorem State.wr_prf (f : Field) (v : Nat) : (s.wr f v).prf = s.prf := rfl
@[simp] theorem State.wr_cores (f : Field) (v : Nat) : (s.wr f v).cores = s.cores := rfl
@[simp] theorem State.wr_clus (f : Field) (v : Nat) : (s.wr f v).clus = s.clus := rfl
@[simp] theorem State.wr_progs (f : Field) (v : Nat) : (s.wr f v).progs = s.progs := rfl
@[simp] theorem State.wr_ras (f : Field) (v : Nat) : (s.wr f v).ras = s.ras := rfl
@[simp] theorem State.wr_tab (f : Field) (v : Nat) : (s.wr f v).tab = s.tab := rfl
@[simp] theorem State.wr_keys (f : Field) (v : Nat) : (s.wr f v).keys = s.keys := rfl
@[simp] theorem State.wr_store (f : Field) (v : Nat) : (s.wr f v).store = s.store := rfl
@[simp] theorem State.wr_pair (f : Field) (v : Nat) : (s.wr f v).pair = s.pair := rfl
@[simp] theorem State.wr_guard (f : Field) (v : Nat) : (s.wr f v).guard = s.guard := rfl
@[simp] theorem State.wr_sys (f : Field) (v : Nat) : (s.wr f v).sys = s.sys := rfl
@[simp] theorem State.wr_life (f : Field) (v : Nat) : (s.wr f v).life = s.life := rfl
@[simp] theorem State.wr_scale (f : Field) (v : Nat) : (s.wr f v).scale = s.scale := rfl
@[simp] theorem State.wr_core (f : Field) (v : Nat) (m : Nat) : (s.wr f v).core m = s.core m := rfl

@[simp] theorem State.inc_pending (f : Field) : (s.inc f).pending = s.pending := rfl
@[simp] theorem State.inc_free (f : Field) : (s.inc f).free = s.free := rfl
@[simp] theorem State.inc_regs (f : Field) : (s.inc f).regs = regInc s.regs f := rfl
@[simp] theorem State.inc_time (f : Field) : (s.inc f).time = s.time := rfl
@[simp] theorem State.inc_ent (f : Field) : (s.inc f).ent = s.ent := rfl
@[simp] theorem State.inc_mpu (f : Field) : (s.inc f).mpu = s.mpu := rfl
@[simp] theorem State.inc_evr (f : Field) : (s.inc f).evr = s.evr := rfl
@[simp] theorem State.inc_signer (f : Field) : (s.inc f).signer = s.signer := rfl
@[simp] theorem State.inc_otp (f : Field) : (s.inc f).otp = s.otp := rfl
@[simp] theorem State.inc_pins (f : Field) : (s.inc f).pins = s.pins := rfl
@[simp] theorem State.inc_host (f : Field) : (s.inc f).host = s.host := rfl
@[simp] theorem State.inc_prf (f : Field) : (s.inc f).prf = s.prf := rfl
@[simp] theorem State.inc_cores (f : Field) : (s.inc f).cores = s.cores := rfl
@[simp] theorem State.inc_clus (f : Field) : (s.inc f).clus = s.clus := rfl
@[simp] theorem State.inc_progs (f : Field) : (s.inc f).progs = s.progs := rfl
@[simp] theorem State.inc_ras (f : Field) : (s.inc f).ras = s.ras := rfl
@[simp] theorem State.inc_tab (f : Field) : (s.inc f).tab = s.tab := rfl
@[simp] theorem State.inc_keys (f : Field) : (s.inc f).keys = s.keys := rfl
@[simp] theorem State.inc_store (f : Field) : (s.inc f).store = s.store := rfl
@[simp] theorem State.inc_pair (f : Field) : (s.inc f).pair = s.pair := rfl
@[simp] theorem State.inc_guard (f : Field) : (s.inc f).guard = s.guard := rfl
@[simp] theorem State.inc_sys (f : Field) : (s.inc f).sys = s.sys := rfl
@[simp] theorem State.inc_life (f : Field) : (s.inc f).life = s.life := rfl
@[simp] theorem State.inc_scale (f : Field) : (s.inc f).scale = s.scale := rfl
@[simp] theorem State.inc_core (f : Field) (m : Nat) : (s.inc f).core m = s.core m := rfl

@[simp] theorem State.satInc_pending (f : Field) : (s.satInc f).pending = s.pending := rfl
@[simp] theorem State.satInc_free (f : Field) : (s.satInc f).free = s.free := rfl
@[simp] theorem State.satInc_regs (f : Field) : (s.satInc f).regs = regSatInc s.regs f := rfl
@[simp] theorem State.satInc_time (f : Field) : (s.satInc f).time = s.time := rfl
@[simp] theorem State.satInc_ent (f : Field) : (s.satInc f).ent = s.ent := rfl
@[simp] theorem State.satInc_mpu (f : Field) : (s.satInc f).mpu = s.mpu := rfl
@[simp] theorem State.satInc_evr (f : Field) : (s.satInc f).evr = s.evr := rfl
@[simp] theorem State.satInc_signer (f : Field) : (s.satInc f).signer = s.signer := rfl
@[simp] theorem State.satInc_otp (f : Field) : (s.satInc f).otp = s.otp := rfl
@[simp] theorem State.satInc_pins (f : Field) : (s.satInc f).pins = s.pins := rfl
@[simp] theorem State.satInc_host (f : Field) : (s.satInc f).host = s.host := rfl
@[simp] theorem State.satInc_prf (f : Field) : (s.satInc f).prf = s.prf := rfl
@[simp] theorem State.satInc_cores (f : Field) : (s.satInc f).cores = s.cores := rfl
@[simp] theorem State.satInc_clus (f : Field) : (s.satInc f).clus = s.clus := rfl
@[simp] theorem State.satInc_progs (f : Field) : (s.satInc f).progs = s.progs := rfl
@[simp] theorem State.satInc_ras (f : Field) : (s.satInc f).ras = s.ras := rfl
@[simp] theorem State.satInc_tab (f : Field) : (s.satInc f).tab = s.tab := rfl
@[simp] theorem State.satInc_keys (f : Field) : (s.satInc f).keys = s.keys := rfl
@[simp] theorem State.satInc_store (f : Field) : (s.satInc f).store = s.store := rfl
@[simp] theorem State.satInc_pair (f : Field) : (s.satInc f).pair = s.pair := rfl
@[simp] theorem State.satInc_guard (f : Field) : (s.satInc f).guard = s.guard := rfl
@[simp] theorem State.satInc_sys (f : Field) : (s.satInc f).sys = s.sys := rfl
@[simp] theorem State.satInc_life (f : Field) : (s.satInc f).life = s.life := rfl
@[simp] theorem State.satInc_scale (f : Field) : (s.satInc f).scale = s.scale := rfl
@[simp] theorem State.satInc_core (f : Field) (m : Nat) : (s.satInc f).core m = s.core m := rfl

@[simp] theorem State.addTo_pending (f : Field) (n : Nat) : (s.addTo f n).pending = s.pending := rfl
@[simp] theorem State.addTo_free (f : Field) (n : Nat) : (s.addTo f n).free = s.free := rfl
@[simp] theorem State.addTo_regs (f : Field) (n : Nat) : (s.addTo f n).regs = regMod s.regs f (· + n) := rfl
@[simp] theorem State.addTo_time (f : Field) (n : Nat) : (s.addTo f n).time = s.time := rfl
@[simp] theorem State.addTo_ent (f : Field) (n : Nat) : (s.addTo f n).ent = s.ent := rfl
@[simp] theorem State.addTo_mpu (f : Field) (n : Nat) : (s.addTo f n).mpu = s.mpu := rfl
@[simp] theorem State.addTo_evr (f : Field) (n : Nat) : (s.addTo f n).evr = s.evr := rfl
@[simp] theorem State.addTo_signer (f : Field) (n : Nat) : (s.addTo f n).signer = s.signer := rfl
@[simp] theorem State.addTo_otp (f : Field) (n : Nat) : (s.addTo f n).otp = s.otp := rfl
@[simp] theorem State.addTo_pins (f : Field) (n : Nat) : (s.addTo f n).pins = s.pins := rfl
@[simp] theorem State.addTo_host (f : Field) (n : Nat) : (s.addTo f n).host = s.host := rfl
@[simp] theorem State.addTo_prf (f : Field) (n : Nat) : (s.addTo f n).prf = s.prf := rfl
@[simp] theorem State.addTo_cores (f : Field) (n : Nat) : (s.addTo f n).cores = s.cores := rfl
@[simp] theorem State.addTo_clus (f : Field) (n : Nat) : (s.addTo f n).clus = s.clus := rfl
@[simp] theorem State.addTo_progs (f : Field) (n : Nat) : (s.addTo f n).progs = s.progs := rfl
@[simp] theorem State.addTo_ras (f : Field) (n : Nat) : (s.addTo f n).ras = s.ras := rfl
@[simp] theorem State.addTo_tab (f : Field) (n : Nat) : (s.addTo f n).tab = s.tab := rfl
@[simp] theorem State.addTo_keys (f : Field) (n : Nat) : (s.addTo f n).keys = s.keys := rfl
@[simp] theorem State.addTo_store (f : Field) (n : Nat) : (s.addTo f n).store = s.store := rfl
@[simp] theorem State.addTo_pair (f : Field) (n : Nat) : (s.addTo f n).pair = s.pair := rfl
@[simp] theorem State.addTo_guard (f : Field) (n : Nat) : (s.addTo f n).guard = s.guard := rfl
@[simp] theorem State.addTo_sys (f : Field) (n : Nat) : (s.addTo f n).sys = s.sys := rfl
@[simp] theorem State.addTo_life (f : Field) (n : Nat) : (s.addTo f n).life = s.life := rfl
@[simp] theorem State.addTo_scale (f : Field) (n : Nat) : (s.addTo f n).scale = s.scale := rfl
@[simp] theorem State.addTo_core (f : Field) (n : Nat) (m : Nat) : (s.addTo f n).core m = s.core m := rfl

@[simp] theorem State.emit_pending (e : Ev) (o : Option Nat) (c a b d : Nat) : (s.emit e o c a b d).pending = s.pending := rfl
@[simp] theorem State.emit_free (e : Ev) (o : Option Nat) (c a b d : Nat) : (s.emit e o c a b d).free = s.free := rfl
@[simp] theorem State.emit_regs (e : Ev) (o : Option Nat) (c a b d : Nat) : (s.emit e o c a b d).regs = s.regs := rfl
@[simp] theorem State.emit_time (e : Ev) (o : Option Nat) (c a b d : Nat) : (s.emit e o c a b d).time = s.time := rfl
@[simp] theorem State.emit_ent (e : Ev) (o : Option Nat) (c a b d : Nat) : (s.emit e o c a b d).ent = s.ent := rfl
@[simp] theorem State.emit_mpu (e : Ev) (o : Option Nat) (c a b d : Nat) : (s.emit e o c a b d).mpu = s.mpu := rfl
@[simp] theorem State.emit_signer (e : Ev) (o : Option Nat) (c a b d : Nat) : (s.emit e o c a b d).signer = s.signer := rfl
@[simp] theorem State.emit_otp (e : Ev) (o : Option Nat) (c a b d : Nat) : (s.emit e o c a b d).otp = s.otp := rfl
@[simp] theorem State.emit_pins (e : Ev) (o : Option Nat) (c a b d : Nat) : (s.emit e o c a b d).pins = s.pins := rfl
@[simp] theorem State.emit_host (e : Ev) (o : Option Nat) (c a b d : Nat) : (s.emit e o c a b d).host = s.host := rfl
@[simp] theorem State.emit_prf (e : Ev) (o : Option Nat) (c a b d : Nat) : (s.emit e o c a b d).prf = s.prf := rfl
@[simp] theorem State.emit_cores (e : Ev) (o : Option Nat) (c a b d : Nat) : (s.emit e o c a b d).cores = s.cores := rfl
@[simp] theorem State.emit_clus (e : Ev) (o : Option Nat) (c a b d : Nat) : (s.emit e o c a b d).clus = s.clus := rfl
@[simp] theorem State.emit_progs (e : Ev) (o : Option Nat) (c a b d : Nat) : (s.emit e o c a b d).progs = s.progs := rfl
@[simp] theorem State.emit_ras (e : Ev) (o : Option Nat) (c a b d : Nat) : (s.emit e o c a b d).ras = s.ras := rfl
@[simp] theorem State.emit_tab (e : Ev) (o : Option Nat) (c a b d : Nat) : (s.emit e o c a b d).tab = s.tab := rfl
@[simp] theorem State.emit_keys (e : Ev) (o : Option Nat) (c a b d : Nat) : (s.emit e o c a b d).keys = s.keys := rfl
@[simp] theorem State.emit_store (e : Ev) (o : Option Nat) (c a b d : Nat) : (s.emit e o c a b d).store = s.store := rfl
@[simp] theorem State.emit_pair (e : Ev) (o : Option Nat) (c a b d : Nat) : (s.emit e o c a b d).pair = s.pair := rfl
@[simp] theorem State.emit_guard (e : Ev) (o : Option Nat) (c a b d : Nat) : (s.emit e o c a b d).guard = s.guard := rfl
@[simp] theorem State.emit_sys (e : Ev) (o : Option Nat) (c a b d : Nat) : (s.emit e o c a b d).sys = s.sys := rfl
@[simp] theorem State.emit_life (e : Ev) (o : Option Nat) (c a b d : Nat) : (s.emit e o c a b d).life = s.life := rfl
@[simp] theorem State.emit_scale (e : Ev) (o : Option Nat) (c a b d : Nat) : (s.emit e o c a b d).scale = s.scale := rfl
@[simp] theorem State.emit_rd (e : Ev) (o : Option Nat) (c a b d : Nat) (g : Field) : (s.emit e o c a b d).rd g = s.rd g := rfl
@[simp] theorem State.emit_bit (e : Ev) (o : Option Nat) (c a b d : Nat) (g : Field) : (s.emit e o c a b d).bit g = s.bit g := rfl
@[simp] theorem State.emit_core (e : Ev) (o : Option Nat) (c a b d : Nat) (m : Nat) : (s.emit e o c a b d).core m = s.core m := rfl

@[simp] theorem State.modTime_pending (f : TimeBase → TimeBase) : (s.modTime f).pending = s.pending := rfl
@[simp] theorem State.modTime_free (f : TimeBase → TimeBase) : (s.modTime f).free = s.free := rfl
@[simp] theorem State.modTime_regs (f : TimeBase → TimeBase) : (s.modTime f).regs = s.regs := rfl
@[simp] theorem State.modTime_time (f : TimeBase → TimeBase) : (s.modTime f).time = f s.time := rfl
@[simp] theorem State.modTime_ent (f : TimeBase → TimeBase) : (s.modTime f).ent = s.ent := rfl
@[simp] theorem State.modTime_mpu (f : TimeBase → TimeBase) : (s.modTime f).mpu = s.mpu := rfl
@[simp] theorem State.modTime_evr (f : TimeBase → TimeBase) : (s.modTime f).evr = s.evr := rfl
@[simp] theorem State.modTime_signer (f : TimeBase → TimeBase) : (s.modTime f).signer = s.signer := rfl
@[simp] theorem State.modTime_otp (f : TimeBase → TimeBase) : (s.modTime f).otp = s.otp := rfl
@[simp] theorem State.modTime_pins (f : TimeBase → TimeBase) : (s.modTime f).pins = s.pins := rfl
@[simp] theorem State.modTime_host (f : TimeBase → TimeBase) : (s.modTime f).host = s.host := rfl
@[simp] theorem State.modTime_prf (f : TimeBase → TimeBase) : (s.modTime f).prf = s.prf := rfl
@[simp] theorem State.modTime_cores (f : TimeBase → TimeBase) : (s.modTime f).cores = s.cores := rfl
@[simp] theorem State.modTime_clus (f : TimeBase → TimeBase) : (s.modTime f).clus = s.clus := rfl
@[simp] theorem State.modTime_progs (f : TimeBase → TimeBase) : (s.modTime f).progs = s.progs := rfl
@[simp] theorem State.modTime_ras (f : TimeBase → TimeBase) : (s.modTime f).ras = s.ras := rfl
@[simp] theorem State.modTime_tab (f : TimeBase → TimeBase) : (s.modTime f).tab = s.tab := rfl
@[simp] theorem State.modTime_keys (f : TimeBase → TimeBase) : (s.modTime f).keys = s.keys := rfl
@[simp] theorem State.modTime_store (f : TimeBase → TimeBase) : (s.modTime f).store = s.store := rfl
@[simp] theorem State.modTime_pair (f : TimeBase → TimeBase) : (s.modTime f).pair = s.pair := rfl
@[simp] theorem State.modTime_guard (f : TimeBase → TimeBase) : (s.modTime f).guard = s.guard := rfl
@[simp] theorem State.modTime_sys (f : TimeBase → TimeBase) : (s.modTime f).sys = s.sys := rfl
@[simp] theorem State.modTime_life (f : TimeBase → TimeBase) : (s.modTime f).life = s.life := rfl
@[simp] theorem State.modTime_scale (f : TimeBase → TimeBase) : (s.modTime f).scale = s.scale := rfl
@[simp] theorem State.modTime_rd (f : TimeBase → TimeBase) (g : Field) : (s.modTime f).rd g = s.rd g := rfl
@[simp] theorem State.modTime_bit (f : TimeBase → TimeBase) (g : Field) : (s.modTime f).bit g = s.bit g := rfl
@[simp] theorem State.modTime_core (f : TimeBase → TimeBase) (m : Nat) : (s.modTime f).core m = s.core m := rfl

@[simp] theorem State.modScale_pending (f : Scale → Scale) : (s.modScale f).pending = s.pending := rfl
@[simp] theorem State.modScale_free (f : Scale → Scale) : (s.modScale f).free = s.free := rfl
@[simp] theorem State.modScale_regs (f : Scale → Scale) : (s.modScale f).regs = s.regs := rfl
@[simp] theorem State.modScale_time (f : Scale → Scale) : (s.modScale f).time = s.time := rfl
@[simp] theorem State.modScale_ent (f : Scale → Scale) : (s.modScale f).ent = s.ent := rfl
@[simp] theorem State.modScale_mpu (f : Scale → Scale) : (s.modScale f).mpu = s.mpu := rfl
@[simp] theorem State.modScale_evr (f : Scale → Scale) : (s.modScale f).evr = s.evr := rfl
@[simp] theorem State.modScale_signer (f : Scale → Scale) : (s.modScale f).signer = s.signer := rfl
@[simp] theorem State.modScale_otp (f : Scale → Scale) : (s.modScale f).otp = s.otp := rfl
@[simp] theorem State.modScale_pins (f : Scale → Scale) : (s.modScale f).pins = s.pins := rfl
@[simp] theorem State.modScale_host (f : Scale → Scale) : (s.modScale f).host = s.host := rfl
@[simp] theorem State.modScale_prf (f : Scale → Scale) : (s.modScale f).prf = s.prf := rfl
@[simp] theorem State.modScale_cores (f : Scale → Scale) : (s.modScale f).cores = s.cores := rfl
@[simp] theorem State.modScale_clus (f : Scale → Scale) : (s.modScale f).clus = s.clus := rfl
@[simp] theorem State.modScale_progs (f : Scale → Scale) : (s.modScale f).progs = s.progs := rfl
@[simp] theorem State.modScale_ras (f : Scale → Scale) : (s.modScale f).ras = s.ras := rfl
@[simp] theorem State.modScale_tab (f : Scale → Scale) : (s.modScale f).tab = s.tab := rfl
@[simp] theorem State.modScale_keys (f : Scale → Scale) : (s.modScale f).keys = s.keys := rfl
@[simp] theorem State.modScale_store (f : Scale → Scale) : (s.modScale f).store = s.store := rfl
@[simp] theorem State.modScale_pair (f : Scale → Scale) : (s.modScale f).pair = s.pair := rfl
@[simp] theorem State.modScale_guard (f : Scale → Scale) : (s.modScale f).guard = s.guard := rfl
@[simp] theorem State.modScale_sys (f : Scale → Scale) : (s.modScale f).sys = s.sys := rfl
@[simp] theorem State.modScale_life (f : Scale → Scale) : (s.modScale f).life = s.life := rfl
@[simp] theorem State.modScale_scale (f : Scale → Scale) : (s.modScale f).scale = f s.scale := rfl
@[simp] theorem State.modScale_rd (f : Scale → Scale) (g : Field) : (s.modScale f).rd g = s.rd g := rfl
@[simp] theorem State.modScale_bit (f : Scale → Scale) (g : Field) : (s.modScale f).bit g = s.bit g := rfl
@[simp] theorem State.modScale_core (f : Scale → Scale) (m : Nat) : (s.modScale f).core m = s.core m := rfl

@[simp] theorem State.modEnt_pending (f : Entropy → Entropy) : (s.modEnt f).pending = s.pending := rfl
@[simp] theorem State.modEnt_free (f : Entropy → Entropy) : (s.modEnt f).free = s.free := rfl
@[simp] theorem State.modEnt_regs (f : Entropy → Entropy) : (s.modEnt f).regs = s.regs := rfl
@[simp] theorem State.modEnt_time (f : Entropy → Entropy) : (s.modEnt f).time = s.time := rfl
@[simp] theorem State.modEnt_ent (f : Entropy → Entropy) : (s.modEnt f).ent = f s.ent := rfl
@[simp] theorem State.modEnt_mpu (f : Entropy → Entropy) : (s.modEnt f).mpu = s.mpu := rfl
@[simp] theorem State.modEnt_evr (f : Entropy → Entropy) : (s.modEnt f).evr = s.evr := rfl
@[simp] theorem State.modEnt_signer (f : Entropy → Entropy) : (s.modEnt f).signer = s.signer := rfl
@[simp] theorem State.modEnt_otp (f : Entropy → Entropy) : (s.modEnt f).otp = s.otp := rfl
@[simp] theorem State.modEnt_pins (f : Entropy → Entropy) : (s.modEnt f).pins = s.pins := rfl
@[simp] theorem State.modEnt_host (f : Entropy → Entropy) : (s.modEnt f).host = s.host := rfl
@[simp] theorem State.modEnt_prf (f : Entropy → Entropy) : (s.modEnt f).prf = s.prf := rfl
@[simp] theorem State.modEnt_cores (f : Entropy → Entropy) : (s.modEnt f).cores = s.cores := rfl
@[simp] theorem State.modEnt_clus (f : Entropy → Entropy) : (s.modEnt f).clus = s.clus := rfl
@[simp] theorem State.modEnt_progs (f : Entropy → Entropy) : (s.modEnt f).progs = s.progs := rfl
@[simp] theorem State.modEnt_ras (f : Entropy → Entropy) : (s.modEnt f).ras = s.ras := rfl
@[simp] theorem State.modEnt_tab (f : Entropy → Entropy) : (s.modEnt f).tab = s.tab := rfl
@[simp] theorem State.modEnt_keys (f : Entropy → Entropy) : (s.modEnt f).keys = s.keys := rfl
@[simp] theorem State.modEnt_store (f : Entropy → Entropy) : (s.modEnt f).store = s.store := rfl
@[simp] theorem State.modEnt_pair (f : Entropy → Entropy) : (s.modEnt f).pair = s.pair := rfl
@[simp] theorem State.modEnt_guard (f : Entropy → Entropy) : (s.modEnt f).guard = s.guard := rfl
@[simp] theorem State.modEnt_sys (f : Entropy → Entropy) : (s.modEnt f).sys = s.sys := rfl
@[simp] theorem State.modEnt_life (f : Entropy → Entropy) : (s.modEnt f).life = s.life := rfl
@[simp] theorem State.modEnt_scale (f : Entropy → Entropy) : (s.modEnt f).scale = s.scale := rfl
@[simp] theorem State.modEnt_rd (f : Entropy → Entropy) (g : Field) : (s.modEnt f).rd g = s.rd g := rfl
@[simp] theorem State.modEnt_bit (f : Entropy → Entropy) (g : Field) : (s.modEnt f).bit g = s.bit g := rfl
@[simp] theorem State.modEnt_core (f : Entropy → Entropy) (m : Nat) : (s.modEnt f).core m = s.core m := rfl

@[simp] theorem State.modHost_pending (f : HostSide → HostSide) : (s.modHost f).pending = s.pending := rfl
@[simp] theorem State.modHost_free (f : HostSide → HostSide) : (s.modHost f).free = s.free := rfl
@[simp] theorem State.modHost_regs (f : HostSide → HostSide) : (s.modHost f).regs = s.regs := rfl
@[simp] theorem State.modHost_time (f : HostSide → HostSide) : (s.modHost f).time = s.time := rfl
@[simp] theorem State.modHost_ent (f : HostSide → HostSide) : (s.modHost f).ent = s.ent := rfl
@[simp] theorem State.modHost_mpu (f : HostSide → HostSide) : (s.modHost f).mpu = s.mpu := rfl
@[simp] theorem State.modHost_evr (f : HostSide → HostSide) : (s.modHost f).evr = s.evr := rfl
@[simp] theorem State.modHost_signer (f : HostSide → HostSide) : (s.modHost f).signer = s.signer := rfl
@[simp] theorem State.modHost_otp (f : HostSide → HostSide) : (s.modHost f).otp = s.otp := rfl
@[simp] theorem State.modHost_pins (f : HostSide → HostSide) : (s.modHost f).pins = s.pins := rfl
@[simp] theorem State.modHost_host (f : HostSide → HostSide) : (s.modHost f).host = f s.host := rfl
@[simp] theorem State.modHost_prf (f : HostSide → HostSide) : (s.modHost f).prf = s.prf := rfl
@[simp] theorem State.modHost_cores (f : HostSide → HostSide) : (s.modHost f).cores = s.cores := rfl
@[simp] theorem State.modHost_clus (f : HostSide → HostSide) : (s.modHost f).clus = s.clus := rfl
@[simp] theorem State.modHost_progs (f : HostSide → HostSide) : (s.modHost f).progs = s.progs := rfl
@[simp] theorem State.modHost_ras (f : HostSide → HostSide) : (s.modHost f).ras = s.ras := rfl
@[simp] theorem State.modHost_tab (f : HostSide → HostSide) : (s.modHost f).tab = s.tab := rfl
@[simp] theorem State.modHost_keys (f : HostSide → HostSide) : (s.modHost f).keys = s.keys := rfl
@[simp] theorem State.modHost_store (f : HostSide → HostSide) : (s.modHost f).store = s.store := rfl
@[simp] theorem State.modHost_pair (f : HostSide → HostSide) : (s.modHost f).pair = s.pair := rfl
@[simp] theorem State.modHost_guard (f : HostSide → HostSide) : (s.modHost f).guard = s.guard := rfl
@[simp] theorem State.modHost_sys (f : HostSide → HostSide) : (s.modHost f).sys = s.sys := rfl
@[simp] theorem State.modHost_life (f : HostSide → HostSide) : (s.modHost f).life = s.life := rfl
@[simp] theorem State.modHost_scale (f : HostSide → HostSide) : (s.modHost f).scale = s.scale := rfl
@[simp] theorem State.modHost_rd (f : HostSide → HostSide) (g : Field) : (s.modHost f).rd g = s.rd g := rfl
@[simp] theorem State.modHost_bit (f : HostSide → HostSide) (g : Field) : (s.modHost f).bit g = s.bit g := rfl
@[simp] theorem State.modHost_core (f : HostSide → HostSide) (m : Nat) : (s.modHost f).core m = s.core m := rfl

@[simp] theorem State.modKeys_pending (f : Keys → Keys) : (s.modKeys f).pending = s.pending := rfl
@[simp] theorem State.modKeys_free (f : Keys → Keys) : (s.modKeys f).free = s.free := rfl
@[simp] theorem State.modKeys_regs (f : Keys → Keys) : (s.modKeys f).regs = s.regs := rfl
@[simp] theorem State.modKeys_time (f : Keys → Keys) : (s.modKeys f).time = s.time := rfl
@[simp] theorem State.modKeys_ent (f : Keys → Keys) : (s.modKeys f).ent = s.ent := rfl
@[simp] theorem State.modKeys_mpu (f : Keys → Keys) : (s.modKeys f).mpu = s.mpu := rfl
@[simp] theorem State.modKeys_evr (f : Keys → Keys) : (s.modKeys f).evr = s.evr := rfl
@[simp] theorem State.modKeys_signer (f : Keys → Keys) : (s.modKeys f).signer = s.signer := rfl
@[simp] theorem State.modKeys_otp (f : Keys → Keys) : (s.modKeys f).otp = s.otp := rfl
@[simp] theorem State.modKeys_pins (f : Keys → Keys) : (s.modKeys f).pins = s.pins := rfl
@[simp] theorem State.modKeys_host (f : Keys → Keys) : (s.modKeys f).host = s.host := rfl
@[simp] theorem State.modKeys_prf (f : Keys → Keys) : (s.modKeys f).prf = s.prf := rfl
@[simp] theorem State.modKeys_cores (f : Keys → Keys) : (s.modKeys f).cores = s.cores := rfl
@[simp] theorem State.modKeys_clus (f : Keys → Keys) : (s.modKeys f).clus = s.clus := rfl
@[simp] theorem State.modKeys_progs (f : Keys → Keys) : (s.modKeys f).progs = s.progs := rfl
@[simp] theorem State.modKeys_ras (f : Keys → Keys) : (s.modKeys f).ras = s.ras := rfl
@[simp] theorem State.modKeys_tab (f : Keys → Keys) : (s.modKeys f).tab = s.tab := rfl
@[simp] theorem State.modKeys_keys (f : Keys → Keys) : (s.modKeys f).keys = f s.keys := rfl
@[simp] theorem State.modKeys_store (f : Keys → Keys) : (s.modKeys f).store = s.store := rfl
@[simp] theorem State.modKeys_pair (f : Keys → Keys) : (s.modKeys f).pair = s.pair := rfl
@[simp] theorem State.modKeys_guard (f : Keys → Keys) : (s.modKeys f).guard = s.guard := rfl
@[simp] theorem State.modKeys_sys (f : Keys → Keys) : (s.modKeys f).sys = s.sys := rfl
@[simp] theorem State.modKeys_life (f : Keys → Keys) : (s.modKeys f).life = s.life := rfl
@[simp] theorem State.modKeys_scale (f : Keys → Keys) : (s.modKeys f).scale = s.scale := rfl
@[simp] theorem State.modKeys_rd (f : Keys → Keys) (g : Field) : (s.modKeys f).rd g = s.rd g := rfl
@[simp] theorem State.modKeys_bit (f : Keys → Keys) (g : Field) : (s.modKeys f).bit g = s.bit g := rfl
@[simp] theorem State.modKeys_core (f : Keys → Keys) (m : Nat) : (s.modKeys f).core m = s.core m := rfl

@[simp] theorem State.modPair_pending (f : Pair → Pair) : (s.modPair f).pending = s.pending := rfl
@[simp] theorem State.modPair_free (f : Pair → Pair) : (s.modPair f).free = s.free := rfl
@[simp] theorem State.modPair_regs (f : Pair → Pair) : (s.modPair f).regs = s.regs := rfl
@[simp] theorem State.modPair_time (f : Pair → Pair) : (s.modPair f).time = s.time := rfl
@[simp] theorem State.modPair_ent (f : Pair → Pair) : (s.modPair f).ent = s.ent := rfl
@[simp] theorem State.modPair_mpu (f : Pair → Pair) : (s.modPair f).mpu = s.mpu := rfl
@[simp] theorem State.modPair_evr (f : Pair → Pair) : (s.modPair f).evr = s.evr := rfl
@[simp] theorem State.modPair_signer (f : Pair → Pair) : (s.modPair f).signer = s.signer := rfl
@[simp] theorem State.modPair_otp (f : Pair → Pair) : (s.modPair f).otp = s.otp := rfl
@[simp] theorem State.modPair_pins (f : Pair → Pair) : (s.modPair f).pins = s.pins := rfl
@[simp] theorem State.modPair_host (f : Pair → Pair) : (s.modPair f).host = s.host := rfl
@[simp] theorem State.modPair_prf (f : Pair → Pair) : (s.modPair f).prf = s.prf := rfl
@[simp] theorem State.modPair_cores (f : Pair → Pair) : (s.modPair f).cores = s.cores := rfl
@[simp] theorem State.modPair_clus (f : Pair → Pair) : (s.modPair f).clus = s.clus := rfl
@[simp] theorem State.modPair_progs (f : Pair → Pair) : (s.modPair f).progs = s.progs := rfl
@[simp] theorem State.modPair_ras (f : Pair → Pair) : (s.modPair f).ras = s.ras := rfl
@[simp] theorem State.modPair_tab (f : Pair → Pair) : (s.modPair f).tab = s.tab := rfl
@[simp] theorem State.modPair_keys (f : Pair → Pair) : (s.modPair f).keys = s.keys := rfl
@[simp] theorem State.modPair_store (f : Pair → Pair) : (s.modPair f).store = s.store := rfl
@[simp] theorem State.modPair_pair (f : Pair → Pair) : (s.modPair f).pair = f s.pair := rfl
@[simp] theorem State.modPair_guard (f : Pair → Pair) : (s.modPair f).guard = s.guard := rfl
@[simp] theorem State.modPair_sys (f : Pair → Pair) : (s.modPair f).sys = s.sys := rfl
@[simp] theorem State.modPair_life (f : Pair → Pair) : (s.modPair f).life = s.life := rfl
@[simp] theorem State.modPair_scale (f : Pair → Pair) : (s.modPair f).scale = s.scale := rfl
@[simp] theorem State.modPair_rd (f : Pair → Pair) (g : Field) : (s.modPair f).rd g = s.rd g := rfl
@[simp] theorem State.modPair_bit (f : Pair → Pair) (g : Field) : (s.modPair f).bit g = s.bit g := rfl
@[simp] theorem State.modPair_core (f : Pair → Pair) (m : Nat) : (s.modPair f).core m = s.core m := rfl

@[simp] theorem State.modStore_pending (f : Store → Store) : (s.modStore f).pending = s.pending := rfl
@[simp] theorem State.modStore_free (f : Store → Store) : (s.modStore f).free = s.free := rfl
@[simp] theorem State.modStore_regs (f : Store → Store) : (s.modStore f).regs = s.regs := rfl
@[simp] theorem State.modStore_time (f : Store → Store) : (s.modStore f).time = s.time := rfl
@[simp] theorem State.modStore_ent (f : Store → Store) : (s.modStore f).ent = s.ent := rfl
@[simp] theorem State.modStore_mpu (f : Store → Store) : (s.modStore f).mpu = s.mpu := rfl
@[simp] theorem State.modStore_evr (f : Store → Store) : (s.modStore f).evr = s.evr := rfl
@[simp] theorem State.modStore_signer (f : Store → Store) : (s.modStore f).signer = s.signer := rfl
@[simp] theorem State.modStore_otp (f : Store → Store) : (s.modStore f).otp = s.otp := rfl
@[simp] theorem State.modStore_pins (f : Store → Store) : (s.modStore f).pins = s.pins := rfl
@[simp] theorem State.modStore_host (f : Store → Store) : (s.modStore f).host = s.host := rfl
@[simp] theorem State.modStore_prf (f : Store → Store) : (s.modStore f).prf = s.prf := rfl
@[simp] theorem State.modStore_cores (f : Store → Store) : (s.modStore f).cores = s.cores := rfl
@[simp] theorem State.modStore_clus (f : Store → Store) : (s.modStore f).clus = s.clus := rfl
@[simp] theorem State.modStore_progs (f : Store → Store) : (s.modStore f).progs = s.progs := rfl
@[simp] theorem State.modStore_ras (f : Store → Store) : (s.modStore f).ras = s.ras := rfl
@[simp] theorem State.modStore_tab (f : Store → Store) : (s.modStore f).tab = s.tab := rfl
@[simp] theorem State.modStore_keys (f : Store → Store) : (s.modStore f).keys = s.keys := rfl
@[simp] theorem State.modStore_store (f : Store → Store) : (s.modStore f).store = f s.store := rfl
@[simp] theorem State.modStore_pair (f : Store → Store) : (s.modStore f).pair = s.pair := rfl
@[simp] theorem State.modStore_guard (f : Store → Store) : (s.modStore f).guard = s.guard := rfl
@[simp] theorem State.modStore_sys (f : Store → Store) : (s.modStore f).sys = s.sys := rfl
@[simp] theorem State.modStore_life (f : Store → Store) : (s.modStore f).life = s.life := rfl
@[simp] theorem State.modStore_scale (f : Store → Store) : (s.modStore f).scale = s.scale := rfl
@[simp] theorem State.modStore_rd (f : Store → Store) (g : Field) : (s.modStore f).rd g = s.rd g := rfl
@[simp] theorem State.modStore_bit (f : Store → Store) (g : Field) : (s.modStore f).bit g = s.bit g := rfl
@[simp] theorem State.modStore_core (f : Store → Store) (m : Nat) : (s.modStore f).core m = s.core m := rfl

@[simp] theorem State.modLife_pending (f : LifeDbg → LifeDbg) : (s.modLife f).pending = s.pending := rfl
@[simp] theorem State.modLife_free (f : LifeDbg → LifeDbg) : (s.modLife f).free = s.free := rfl
@[simp] theorem State.modLife_regs (f : LifeDbg → LifeDbg) : (s.modLife f).regs = s.regs := rfl
@[simp] theorem State.modLife_time (f : LifeDbg → LifeDbg) : (s.modLife f).time = s.time := rfl
@[simp] theorem State.modLife_ent (f : LifeDbg → LifeDbg) : (s.modLife f).ent = s.ent := rfl
@[simp] theorem State.modLife_mpu (f : LifeDbg → LifeDbg) : (s.modLife f).mpu = s.mpu := rfl
@[simp] theorem State.modLife_evr (f : LifeDbg → LifeDbg) : (s.modLife f).evr = s.evr := rfl
@[simp] theorem State.modLife_signer (f : LifeDbg → LifeDbg) : (s.modLife f).signer = s.signer := rfl
@[simp] theorem State.modLife_otp (f : LifeDbg → LifeDbg) : (s.modLife f).otp = s.otp := rfl
@[simp] theorem State.modLife_pins (f : LifeDbg → LifeDbg) : (s.modLife f).pins = s.pins := rfl
@[simp] theorem State.modLife_host (f : LifeDbg → LifeDbg) : (s.modLife f).host = s.host := rfl
@[simp] theorem State.modLife_prf (f : LifeDbg → LifeDbg) : (s.modLife f).prf = s.prf := rfl
@[simp] theorem State.modLife_cores (f : LifeDbg → LifeDbg) : (s.modLife f).cores = s.cores := rfl
@[simp] theorem State.modLife_clus (f : LifeDbg → LifeDbg) : (s.modLife f).clus = s.clus := rfl
@[simp] theorem State.modLife_progs (f : LifeDbg → LifeDbg) : (s.modLife f).progs = s.progs := rfl
@[simp] theorem State.modLife_ras (f : LifeDbg → LifeDbg) : (s.modLife f).ras = s.ras := rfl
@[simp] theorem State.modLife_tab (f : LifeDbg → LifeDbg) : (s.modLife f).tab = s.tab := rfl
@[simp] theorem State.modLife_keys (f : LifeDbg → LifeDbg) : (s.modLife f).keys = s.keys := rfl
@[simp] theorem State.modLife_store (f : LifeDbg → LifeDbg) : (s.modLife f).store = s.store := rfl
@[simp] theorem State.modLife_pair (f : LifeDbg → LifeDbg) : (s.modLife f).pair = s.pair := rfl
@[simp] theorem State.modLife_guard (f : LifeDbg → LifeDbg) : (s.modLife f).guard = s.guard := rfl
@[simp] theorem State.modLife_sys (f : LifeDbg → LifeDbg) : (s.modLife f).sys = s.sys := rfl
@[simp] theorem State.modLife_life (f : LifeDbg → LifeDbg) : (s.modLife f).life = f s.life := rfl
@[simp] theorem State.modLife_scale (f : LifeDbg → LifeDbg) : (s.modLife f).scale = s.scale := rfl
@[simp] theorem State.modLife_rd (f : LifeDbg → LifeDbg) (g : Field) : (s.modLife f).rd g = s.rd g := rfl
@[simp] theorem State.modLife_bit (f : LifeDbg → LifeDbg) (g : Field) : (s.modLife f).bit g = s.bit g := rfl
@[simp] theorem State.modLife_core (f : LifeDbg → LifeDbg) (m : Nat) : (s.modLife f).core m = s.core m := rfl

@[simp] theorem State.modSys_pending (f : Sys → Sys) : (s.modSys f).pending = s.pending := rfl
@[simp] theorem State.modSys_free (f : Sys → Sys) : (s.modSys f).free = s.free := rfl
@[simp] theorem State.modSys_regs (f : Sys → Sys) : (s.modSys f).regs = s.regs := rfl
@[simp] theorem State.modSys_time (f : Sys → Sys) : (s.modSys f).time = s.time := rfl
@[simp] theorem State.modSys_ent (f : Sys → Sys) : (s.modSys f).ent = s.ent := rfl
@[simp] theorem State.modSys_mpu (f : Sys → Sys) : (s.modSys f).mpu = s.mpu := rfl
@[simp] theorem State.modSys_evr (f : Sys → Sys) : (s.modSys f).evr = s.evr := rfl
@[simp] theorem State.modSys_signer (f : Sys → Sys) : (s.modSys f).signer = s.signer := rfl
@[simp] theorem State.modSys_otp (f : Sys → Sys) : (s.modSys f).otp = s.otp := rfl
@[simp] theorem State.modSys_pins (f : Sys → Sys) : (s.modSys f).pins = s.pins := rfl
@[simp] theorem State.modSys_host (f : Sys → Sys) : (s.modSys f).host = s.host := rfl
@[simp] theorem State.modSys_prf (f : Sys → Sys) : (s.modSys f).prf = s.prf := rfl
@[simp] theorem State.modSys_cores (f : Sys → Sys) : (s.modSys f).cores = s.cores := rfl
@[simp] theorem State.modSys_clus (f : Sys → Sys) : (s.modSys f).clus = s.clus := rfl
@[simp] theorem State.modSys_progs (f : Sys → Sys) : (s.modSys f).progs = s.progs := rfl
@[simp] theorem State.modSys_ras (f : Sys → Sys) : (s.modSys f).ras = s.ras := rfl
@[simp] theorem State.modSys_tab (f : Sys → Sys) : (s.modSys f).tab = s.tab := rfl
@[simp] theorem State.modSys_keys (f : Sys → Sys) : (s.modSys f).keys = s.keys := rfl
@[simp] theorem State.modSys_store (f : Sys → Sys) : (s.modSys f).store = s.store := rfl
@[simp] theorem State.modSys_pair (f : Sys → Sys) : (s.modSys f).pair = s.pair := rfl
@[simp] theorem State.modSys_guard (f : Sys → Sys) : (s.modSys f).guard = s.guard := rfl
@[simp] theorem State.modSys_sys (f : Sys → Sys) : (s.modSys f).sys = f s.sys := rfl
@[simp] theorem State.modSys_life (f : Sys → Sys) : (s.modSys f).life = s.life := rfl
@[simp] theorem State.modSys_scale (f : Sys → Sys) : (s.modSys f).scale = s.scale := rfl
@[simp] theorem State.modSys_rd (f : Sys → Sys) (g : Field) : (s.modSys f).rd g = s.rd g := rfl
@[simp] theorem State.modSys_bit (f : Sys → Sys) (g : Field) : (s.modSys f).bit g = s.bit g := rfl
@[simp] theorem State.modSys_core (f : Sys → Sys) (m : Nat) : (s.modSys f).core m = s.core m := rfl

@[simp] theorem State.modRas_pending (f : Ras → Ras) : (s.modRas f).pending = s.pending := rfl
@[simp] theorem State.modRas_free (f : Ras → Ras) : (s.modRas f).free = s.free := rfl
@[simp] theorem State.modRas_regs (f : Ras → Ras) : (s.modRas f).regs = s.regs := rfl
@[simp] theorem State.modRas_time (f : Ras → Ras) : (s.modRas f).time = s.time := rfl
@[simp] theorem State.modRas_ent (f : Ras → Ras) : (s.modRas f).ent = s.ent := rfl
@[simp] theorem State.modRas_mpu (f : Ras → Ras) : (s.modRas f).mpu = s.mpu := rfl
@[simp] theorem State.modRas_evr (f : Ras → Ras) : (s.modRas f).evr = s.evr := rfl
@[simp] theorem State.modRas_signer (f : Ras → Ras) : (s.modRas f).signer = s.signer := rfl
@[simp] theorem State.modRas_otp (f : Ras → Ras) : (s.modRas f).otp = s.otp := rfl
@[simp] theorem State.modRas_pins (f : Ras → Ras) : (s.modRas f).pins = s.pins := rfl
@[simp] theorem State.modRas_host (f : Ras → Ras) : (s.modRas f).host = s.host := rfl
@[simp] theorem State.modRas_prf (f : Ras → Ras) : (s.modRas f).prf = s.prf := rfl
@[simp] theorem State.modRas_cores (f : Ras → Ras) : (s.modRas f).cores = s.cores := rfl
@[simp] theorem State.modRas_clus (f : Ras → Ras) : (s.modRas f).clus = s.clus := rfl
@[simp] theorem State.modRas_progs (f : Ras → Ras) : (s.modRas f).progs = s.progs := rfl
@[simp] theorem State.modRas_ras (f : Ras → Ras) : (s.modRas f).ras = f s.ras := rfl
@[simp] theorem State.modRas_tab (f : Ras → Ras) : (s.modRas f).tab = s.tab := rfl
@[simp] theorem State.modRas_keys (f : Ras → Ras) : (s.modRas f).keys = s.keys := rfl
@[simp] theorem State.modRas_store (f : Ras → Ras) : (s.modRas f).store = s.store := rfl
@[simp] theorem State.modRas_pair (f : Ras → Ras) : (s.modRas f).pair = s.pair := rfl
@[simp] theorem State.modRas_guard (f : Ras → Ras) : (s.modRas f).guard = s.guard := rfl
@[simp] theorem State.modRas_sys (f : Ras → Ras) : (s.modRas f).sys = s.sys := rfl
@[simp] theorem State.modRas_life (f : Ras → Ras) : (s.modRas f).life = s.life := rfl
@[simp] theorem State.modRas_scale (f : Ras → Ras) : (s.modRas f).scale = s.scale := rfl
@[simp] theorem State.modRas_rd (f : Ras → Ras) (g : Field) : (s.modRas f).rd g = s.rd g := rfl
@[simp] theorem State.modRas_bit (f : Ras → Ras) (g : Field) : (s.modRas f).bit g = s.bit g := rfl
@[simp] theorem State.modRas_core (f : Ras → Ras) (m : Nat) : (s.modRas f).core m = s.core m := rfl

@[simp] theorem State.modPrf_pending (f : Proofer → Proofer) : (s.modPrf f).pending = s.pending := rfl
@[simp] theorem State.modPrf_free (f : Proofer → Proofer) : (s.modPrf f).free = s.free := rfl
@[simp] theorem State.modPrf_regs (f : Proofer → Proofer) : (s.modPrf f).regs = s.regs := rfl
@[simp] theorem State.modPrf_time (f : Proofer → Proofer) : (s.modPrf f).time = s.time := rfl
@[simp] theorem State.modPrf_ent (f : Proofer → Proofer) : (s.modPrf f).ent = s.ent := rfl
@[simp] theorem State.modPrf_mpu (f : Proofer → Proofer) : (s.modPrf f).mpu = s.mpu := rfl
@[simp] theorem State.modPrf_evr (f : Proofer → Proofer) : (s.modPrf f).evr = s.evr := rfl
@[simp] theorem State.modPrf_signer (f : Proofer → Proofer) : (s.modPrf f).signer = s.signer := rfl
@[simp] theorem State.modPrf_otp (f : Proofer → Proofer) : (s.modPrf f).otp = s.otp := rfl
@[simp] theorem State.modPrf_pins (f : Proofer → Proofer) : (s.modPrf f).pins = s.pins := rfl
@[simp] theorem State.modPrf_host (f : Proofer → Proofer) : (s.modPrf f).host = s.host := rfl
@[simp] theorem State.modPrf_prf (f : Proofer → Proofer) : (s.modPrf f).prf = f s.prf := rfl
@[simp] theorem State.modPrf_cores (f : Proofer → Proofer) : (s.modPrf f).cores = s.cores := rfl
@[simp] theorem State.modPrf_clus (f : Proofer → Proofer) : (s.modPrf f).clus = s.clus := rfl
@[simp] theorem State.modPrf_progs (f : Proofer → Proofer) : (s.modPrf f).progs = s.progs := rfl
@[simp] theorem State.modPrf_ras (f : Proofer → Proofer) : (s.modPrf f).ras = s.ras := rfl
@[simp] theorem State.modPrf_tab (f : Proofer → Proofer) : (s.modPrf f).tab = s.tab := rfl
@[simp] theorem State.modPrf_keys (f : Proofer → Proofer) : (s.modPrf f).keys = s.keys := rfl
@[simp] theorem State.modPrf_store (f : Proofer → Proofer) : (s.modPrf f).store = s.store := rfl
@[simp] theorem State.modPrf_pair (f : Proofer → Proofer) : (s.modPrf f).pair = s.pair := rfl
@[simp] theorem State.modPrf_guard (f : Proofer → Proofer) : (s.modPrf f).guard = s.guard := rfl
@[simp] theorem State.modPrf_sys (f : Proofer → Proofer) : (s.modPrf f).sys = s.sys := rfl
@[simp] theorem State.modPrf_life (f : Proofer → Proofer) : (s.modPrf f).life = s.life := rfl
@[simp] theorem State.modPrf_scale (f : Proofer → Proofer) : (s.modPrf f).scale = s.scale := rfl
@[simp] theorem State.modPrf_rd (f : Proofer → Proofer) (g : Field) : (s.modPrf f).rd g = s.rd g := rfl
@[simp] theorem State.modPrf_bit (f : Proofer → Proofer) (g : Field) : (s.modPrf f).bit g = s.bit g := rfl
@[simp] theorem State.modPrf_core (f : Proofer → Proofer) (m : Nat) : (s.modPrf f).core m = s.core m := rfl

@[simp] theorem State.modTab_pending (f : Tables → Tables) : (s.modTab f).pending = s.pending := rfl
@[simp] theorem State.modTab_free (f : Tables → Tables) : (s.modTab f).free = s.free := rfl
@[simp] theorem State.modTab_regs (f : Tables → Tables) : (s.modTab f).regs = s.regs := rfl
@[simp] theorem State.modTab_time (f : Tables → Tables) : (s.modTab f).time = s.time := rfl
@[simp] theorem State.modTab_ent (f : Tables → Tables) : (s.modTab f).ent = s.ent := rfl
@[simp] theorem State.modTab_mpu (f : Tables → Tables) : (s.modTab f).mpu = s.mpu := rfl
@[simp] theorem State.modTab_evr (f : Tables → Tables) : (s.modTab f).evr = s.evr := rfl
@[simp] theorem State.modTab_signer (f : Tables → Tables) : (s.modTab f).signer = s.signer := rfl
@[simp] theorem State.modTab_otp (f : Tables → Tables) : (s.modTab f).otp = s.otp := rfl
@[simp] theorem State.modTab_pins (f : Tables → Tables) : (s.modTab f).pins = s.pins := rfl
@[simp] theorem State.modTab_host (f : Tables → Tables) : (s.modTab f).host = s.host := rfl
@[simp] theorem State.modTab_prf (f : Tables → Tables) : (s.modTab f).prf = s.prf := rfl
@[simp] theorem State.modTab_cores (f : Tables → Tables) : (s.modTab f).cores = s.cores := rfl
@[simp] theorem State.modTab_clus (f : Tables → Tables) : (s.modTab f).clus = s.clus := rfl
@[simp] theorem State.modTab_progs (f : Tables → Tables) : (s.modTab f).progs = s.progs := rfl
@[simp] theorem State.modTab_ras (f : Tables → Tables) : (s.modTab f).ras = s.ras := rfl
@[simp] theorem State.modTab_tab (f : Tables → Tables) : (s.modTab f).tab = f s.tab := rfl
@[simp] theorem State.modTab_keys (f : Tables → Tables) : (s.modTab f).keys = s.keys := rfl
@[simp] theorem State.modTab_store (f : Tables → Tables) : (s.modTab f).store = s.store := rfl
@[simp] theorem State.modTab_pair (f : Tables → Tables) : (s.modTab f).pair = s.pair := rfl
@[simp] theorem State.modTab_guard (f : Tables → Tables) : (s.modTab f).guard = s.guard := rfl
@[simp] theorem State.modTab_sys (f : Tables → Tables) : (s.modTab f).sys = s.sys := rfl
@[simp] theorem State.modTab_life (f : Tables → Tables) : (s.modTab f).life = s.life := rfl
@[simp] theorem State.modTab_scale (f : Tables → Tables) : (s.modTab f).scale = s.scale := rfl
@[simp] theorem State.modTab_rd (f : Tables → Tables) (g : Field) : (s.modTab f).rd g = s.rd g := rfl
@[simp] theorem State.modTab_bit (f : Tables → Tables) (g : Field) : (s.modTab f).bit g = s.bit g := rfl
@[simp] theorem State.modTab_core (f : Tables → Tables) (m : Nat) : (s.modTab f).core m = s.core m := rfl

@[simp] theorem State.modCore_pending (n : Nat) (f : Core → Core) : (s.modCore n f).pending = s.pending := rfl
@[simp] theorem State.modCore_free (n : Nat) (f : Core → Core) : (s.modCore n f).free = s.free := rfl
@[simp] theorem State.modCore_regs (n : Nat) (f : Core → Core) : (s.modCore n f).regs = s.regs := rfl
@[simp] theorem State.modCore_time (n : Nat) (f : Core → Core) : (s.modCore n f).time = s.time := rfl
@[simp] theorem State.modCore_ent (n : Nat) (f : Core → Core) : (s.modCore n f).ent = s.ent := rfl
@[simp] theorem State.modCore_mpu (n : Nat) (f : Core → Core) : (s.modCore n f).mpu = s.mpu := rfl
@[simp] theorem State.modCore_evr (n : Nat) (f : Core → Core) : (s.modCore n f).evr = s.evr := rfl
@[simp] theorem State.modCore_signer (n : Nat) (f : Core → Core) : (s.modCore n f).signer = s.signer := rfl
@[simp] theorem State.modCore_otp (n : Nat) (f : Core → Core) : (s.modCore n f).otp = s.otp := rfl
@[simp] theorem State.modCore_pins (n : Nat) (f : Core → Core) : (s.modCore n f).pins = s.pins := rfl
@[simp] theorem State.modCore_host (n : Nat) (f : Core → Core) : (s.modCore n f).host = s.host := rfl
@[simp] theorem State.modCore_prf (n : Nat) (f : Core → Core) : (s.modCore n f).prf = s.prf := rfl
@[simp] theorem State.modCore_cores (n : Nat) (f : Core → Core) : (s.modCore n f).cores = tabMod Core.reset s.cores n f := rfl
@[simp] theorem State.modCore_clus (n : Nat) (f : Core → Core) : (s.modCore n f).clus = s.clus := rfl
@[simp] theorem State.modCore_progs (n : Nat) (f : Core → Core) : (s.modCore n f).progs = s.progs := rfl
@[simp] theorem State.modCore_ras (n : Nat) (f : Core → Core) : (s.modCore n f).ras = s.ras := rfl
@[simp] theorem State.modCore_tab (n : Nat) (f : Core → Core) : (s.modCore n f).tab = s.tab := rfl
@[simp] theorem State.modCore_keys (n : Nat) (f : Core → Core) : (s.modCore n f).keys = s.keys := rfl
@[simp] theorem State.modCore_store (n : Nat) (f : Core → Core) : (s.modCore n f).store = s.store := rfl
@[simp] theorem State.modCore_pair (n : Nat) (f : Core → Core) : (s.modCore n f).pair = s.pair := rfl
@[simp] theorem State.modCore_guard (n : Nat) (f : Core → Core) : (s.modCore n f).guard = s.guard := rfl
@[simp] theorem State.modCore_sys (n : Nat) (f : Core → Core) : (s.modCore n f).sys = s.sys := rfl
@[simp] theorem State.modCore_life (n : Nat) (f : Core → Core) : (s.modCore n f).life = s.life := rfl
@[simp] theorem State.modCore_scale (n : Nat) (f : Core → Core) : (s.modCore n f).scale = s.scale := rfl
@[simp] theorem State.modCore_rd (n : Nat) (f : Core → Core) (g : Field) : (s.modCore n f).rd g = s.rd g := rfl
@[simp] theorem State.modCore_bit (n : Nat) (f : Core → Core) (g : Field) : (s.modCore n f).bit g = s.bit g := rfl

@[simp] theorem State.modCluster_pending (n : Nat) (f : Cluster → Cluster) : (s.modCluster n f).pending = s.pending := rfl
@[simp] theorem State.modCluster_free (n : Nat) (f : Cluster → Cluster) : (s.modCluster n f).free = s.free := rfl
@[simp] theorem State.modCluster_regs (n : Nat) (f : Cluster → Cluster) : (s.modCluster n f).regs = s.regs := rfl
@[simp] theorem State.modCluster_time (n : Nat) (f : Cluster → Cluster) : (s.modCluster n f).time = s.time := rfl
@[simp] theorem State.modCluster_ent (n : Nat) (f : Cluster → Cluster) : (s.modCluster n f).ent = s.ent := rfl
@[simp] theorem State.modCluster_mpu (n : Nat) (f : Cluster → Cluster) : (s.modCluster n f).mpu = s.mpu := rfl
@[simp] theorem State.modCluster_evr (n : Nat) (f : Cluster → Cluster) : (s.modCluster n f).evr = s.evr := rfl
@[simp] theorem State.modCluster_signer (n : Nat) (f : Cluster → Cluster) : (s.modCluster n f).signer = s.signer := rfl
@[simp] theorem State.modCluster_otp (n : Nat) (f : Cluster → Cluster) : (s.modCluster n f).otp = s.otp := rfl
@[simp] theorem State.modCluster_pins (n : Nat) (f : Cluster → Cluster) : (s.modCluster n f).pins = s.pins := rfl
@[simp] theorem State.modCluster_host (n : Nat) (f : Cluster → Cluster) : (s.modCluster n f).host = s.host := rfl
@[simp] theorem State.modCluster_prf (n : Nat) (f : Cluster → Cluster) : (s.modCluster n f).prf = s.prf := rfl
@[simp] theorem State.modCluster_cores (n : Nat) (f : Cluster → Cluster) : (s.modCluster n f).cores = s.cores := rfl
@[simp] theorem State.modCluster_clus (n : Nat) (f : Cluster → Cluster) : (s.modCluster n f).clus = tabMod Cluster.reset s.clus n f := rfl
@[simp] theorem State.modCluster_progs (n : Nat) (f : Cluster → Cluster) : (s.modCluster n f).progs = s.progs := rfl
@[simp] theorem State.modCluster_ras (n : Nat) (f : Cluster → Cluster) : (s.modCluster n f).ras = s.ras := rfl
@[simp] theorem State.modCluster_tab (n : Nat) (f : Cluster → Cluster) : (s.modCluster n f).tab = s.tab := rfl
@[simp] theorem State.modCluster_keys (n : Nat) (f : Cluster → Cluster) : (s.modCluster n f).keys = s.keys := rfl
@[simp] theorem State.modCluster_store (n : Nat) (f : Cluster → Cluster) : (s.modCluster n f).store = s.store := rfl
@[simp] theorem State.modCluster_pair (n : Nat) (f : Cluster → Cluster) : (s.modCluster n f).pair = s.pair := rfl
@[simp] theorem State.modCluster_guard (n : Nat) (f : Cluster → Cluster) : (s.modCluster n f).guard = s.guard := rfl
@[simp] theorem State.modCluster_sys (n : Nat) (f : Cluster → Cluster) : (s.modCluster n f).sys = s.sys := rfl
@[simp] theorem State.modCluster_life (n : Nat) (f : Cluster → Cluster) : (s.modCluster n f).life = s.life := rfl
@[simp] theorem State.modCluster_scale (n : Nat) (f : Cluster → Cluster) : (s.modCluster n f).scale = s.scale := rfl
@[simp] theorem State.modCluster_rd (n : Nat) (f : Cluster → Cluster) (g : Field) : (s.modCluster n f).rd g = s.rd g := rfl
@[simp] theorem State.modCluster_bit (n : Nat) (f : Cluster → Cluster) (g : Field) : (s.modCluster n f).bit g = s.bit g := rfl
@[simp] theorem State.modCluster_core (n : Nat) (f : Cluster → Cluster) (m : Nat) : (s.modCluster n f).core m = s.core m := rfl

@[simp] theorem State.nextPc_pending (n : Nat) : (s.nextPc n).pending = s.pending := rfl
@[simp] theorem State.nextPc_free (n : Nat) : (s.nextPc n).free = s.free := rfl
@[simp] theorem State.nextPc_regs (n : Nat) : (s.nextPc n).regs = s.regs := rfl
@[simp] theorem State.nextPc_time (n : Nat) : (s.nextPc n).time = s.time := rfl
@[simp] theorem State.nextPc_ent (n : Nat) : (s.nextPc n).ent = s.ent := rfl
@[simp] theorem State.nextPc_mpu (n : Nat) : (s.nextPc n).mpu = s.mpu := rfl
@[simp] theorem State.nextPc_evr (n : Nat) : (s.nextPc n).evr = s.evr := rfl
@[simp] theorem State.nextPc_signer (n : Nat) : (s.nextPc n).signer = s.signer := rfl
@[simp] theorem State.nextPc_otp (n : Nat) : (s.nextPc n).otp = s.otp := rfl
@[simp] theorem State.nextPc_pins (n : Nat) : (s.nextPc n).pins = s.pins := rfl
@[simp] theorem State.nextPc_host (n : Nat) : (s.nextPc n).host = s.host := rfl
@[simp] theorem State.nextPc_prf (n : Nat) : (s.nextPc n).prf = s.prf := rfl
@[simp] theorem State.nextPc_clus (n : Nat) : (s.nextPc n).clus = s.clus := rfl
@[simp] theorem State.nextPc_progs (n : Nat) : (s.nextPc n).progs = s.progs := rfl
@[simp] theorem State.nextPc_ras (n : Nat) : (s.nextPc n).ras = s.ras := rfl
@[simp] theorem State.nextPc_tab (n : Nat) : (s.nextPc n).tab = s.tab := rfl
@[simp] theorem State.nextPc_keys (n : Nat) : (s.nextPc n).keys = s.keys := rfl
@[simp] theorem State.nextPc_store (n : Nat) : (s.nextPc n).store = s.store := rfl
@[simp] theorem State.nextPc_pair (n : Nat) : (s.nextPc n).pair = s.pair := rfl
@[simp] theorem State.nextPc_guard (n : Nat) : (s.nextPc n).guard = s.guard := rfl
@[simp] theorem State.nextPc_sys (n : Nat) : (s.nextPc n).sys = s.sys := rfl
@[simp] theorem State.nextPc_life (n : Nat) : (s.nextPc n).life = s.life := rfl
@[simp] theorem State.nextPc_scale (n : Nat) : (s.nextPc n).scale = s.scale := rfl
@[simp] theorem State.nextPc_rd (n : Nat) (g : Field) : (s.nextPc n).rd g = s.rd g := rfl
@[simp] theorem State.nextPc_bit (n : Nat) (g : Field) : (s.nextPc n).bit g = s.bit g := rfl

@[simp] theorem State.smbusAnswer_pending (v : Nat) : (s.smbusAnswer v).pending = s.pending := rfl
@[simp] theorem State.smbusAnswer_free (v : Nat) : (s.smbusAnswer v).free = s.free := rfl
@[simp] theorem State.smbusAnswer_regs (v : Nat) : (s.smbusAnswer v).regs = s.regs := rfl
@[simp] theorem State.smbusAnswer_time (v : Nat) : (s.smbusAnswer v).time = s.time := rfl
@[simp] theorem State.smbusAnswer_ent (v : Nat) : (s.smbusAnswer v).ent = s.ent := rfl
@[simp] theorem State.smbusAnswer_mpu (v : Nat) : (s.smbusAnswer v).mpu = s.mpu := rfl
@[simp] theorem State.smbusAnswer_evr (v : Nat) : (s.smbusAnswer v).evr = s.evr := rfl
@[simp] theorem State.smbusAnswer_signer (v : Nat) : (s.smbusAnswer v).signer = s.signer := rfl
@[simp] theorem State.smbusAnswer_otp (v : Nat) : (s.smbusAnswer v).otp = s.otp := rfl
@[simp] theorem State.smbusAnswer_host (v : Nat) : (s.smbusAnswer v).host = s.host := rfl
@[simp] theorem State.smbusAnswer_prf (v : Nat) : (s.smbusAnswer v).prf = s.prf := rfl
@[simp] theorem State.smbusAnswer_cores (v : Nat) : (s.smbusAnswer v).cores = s.cores := rfl
@[simp] theorem State.smbusAnswer_clus (v : Nat) : (s.smbusAnswer v).clus = s.clus := rfl
@[simp] theorem State.smbusAnswer_progs (v : Nat) : (s.smbusAnswer v).progs = s.progs := rfl
@[simp] theorem State.smbusAnswer_ras (v : Nat) : (s.smbusAnswer v).ras = s.ras := rfl
@[simp] theorem State.smbusAnswer_tab (v : Nat) : (s.smbusAnswer v).tab = s.tab := rfl
@[simp] theorem State.smbusAnswer_keys (v : Nat) : (s.smbusAnswer v).keys = s.keys := rfl
@[simp] theorem State.smbusAnswer_store (v : Nat) : (s.smbusAnswer v).store = s.store := rfl
@[simp] theorem State.smbusAnswer_pair (v : Nat) : (s.smbusAnswer v).pair = s.pair := rfl
@[simp] theorem State.smbusAnswer_guard (v : Nat) : (s.smbusAnswer v).guard = s.guard := rfl
@[simp] theorem State.smbusAnswer_sys (v : Nat) : (s.smbusAnswer v).sys = s.sys := rfl
@[simp] theorem State.smbusAnswer_life (v : Nat) : (s.smbusAnswer v).life = s.life := rfl
@[simp] theorem State.smbusAnswer_scale (v : Nat) : (s.smbusAnswer v).scale = s.scale := rfl
@[simp] theorem State.smbusAnswer_rd (v : Nat) (g : Field) : (s.smbusAnswer v).rd g = s.rd g := rfl
@[simp] theorem State.smbusAnswer_bit (v : Nat) (g : Field) : (s.smbusAnswer v).bit g = s.bit g := rfl
@[simp] theorem State.smbusAnswer_core (v : Nat) (m : Nat) : (s.smbusAnswer v).core m = s.core m := rfl

/-- A field after a write of it. -/
@[simp] theorem State.rd_wr_same (f : Field) (v : Nat) : (s.wr f v).rd f = v % 2 ^ f.width := regGet_set_same _ _ _
/-- Another field after a write. -/
theorem State.rd_wr_other {f g : Field} (v : Nat) (h : g.key ≠ f.key) : (s.wr f v).rd g = s.rd g := regGet_set_other _ _ h
/-- A core after a change of a core. -/
theorem State.core_modCore (n m : Nat) (f : Core → Core) :
    (s.modCore n f).core m = if m = n then f (s.core n) else s.core m := tabGet_mod _ _ _ _ _
@[simp] theorem State.core_modCore_same (n : Nat) (f : Core → Core) : (s.modCore n f).core n = f (s.core n) := by
  simp [State.core_modCore]
/-- A cluster after a change of a cluster. -/
theorem State.cluster_modCluster (n m : Nat) (f : Cluster → Cluster) :
    (s.modCluster n f).cluster m = if m = n then f (s.cluster n) else s.cluster m := tabGet_mod _ _ _ _ _
/-- A general register after a write: register 0 discards it (R76). -/
theorem State.getG_setG (n r q : Nat) (v : BitVec 64) :
    (s.setG n r v).getG n q = if q = 0 then 0#64 else if q = r then v else s.getG n q := by
  by_cases hq : q = 0
  · simp [State.getG, hq]
  · by_cases hr : r = 0
    · simp [State.setG, State.getG, hr, hq]
    · simp [State.setG, State.getG, hr, hq, tabGet_set]
/-- An event reported stands last in the inbox and nothing else of the recorder changes (R427). -/
theorem State.emit_evr (e : Ev) (o : Option Nat) (c a b d : Nat) :
    (s.emit e o c a b d).evr = { s.evr with inbox := s.evr.inbox ++
      [⟨e, o, c, a % 2 ^ 32, b % 2 ^ 32, d % 2 ^ 32, s.time.cyc⟩] } := rfl

/-- The step takes the front command and runs it with the rest of the queue. -/
theorem step_cons (c : Instr) (l : List Instr) (s : State) :
    step { s with pending := c :: l } = exec c { s with pending := l } := rfl
/-- The step of an empty queue is one idle cycle (log entry 1). -/
theorem step_idle (s : State) (h : s.pending = []) : step s = .next (s.advance 1) := by simp [step, h]

end Sys2Proof.Machine
end

