-- ==== Sys2Proof/Laws/Frame.lean ====
section
/-! SUPPORT. The frame of the operations that change one part of the unit, and of the shared operations of a core. -/

namespace Sys2Proof

open Sys2Proof.Machine

theorem Part.same_refl (s : State) (p : Part) : Part.same s s p := by cases p <;> rfl

theorem Frame.refl (l : List Part) (s : State) : Frame l s s := ⟨rfl, fun p _ => Part.same_refl s p⟩

theorem Frame.mono {l l' : List Part} {s t : State} (h : Frame l s t) (hl : ∀ p ∈ l, p ∈ l') : Frame l' s t :=
  ⟨h.1, fun p hp => h.2 p (fun hin => hp (hl p hin))⟩

/-- Frames compose: what neither of two changes touches is as before. -/
theorem Frame.trans {l : List Part} {s t u : State} (h : Frame l s t) (k : Frame l t u) : Frame l s u := by
  refine ⟨k.1.trans h.1, fun p hp => ?_⟩
  have a := h.2 p hp
  have b := k.2 p hp
  cases p <;> exact Eq.trans b a

theorem frame_modCore (s : State) (n : Nat) (f : Core → Core) : Frame [.cores] s (s.modCore n f) :=
  ⟨rfl, fun p hp => by cases p <;> first | rfl | exact absurd (by simp) hp⟩

theorem frame_modCluster (s : State) (n : Nat) (f : Cluster → Cluster) : Frame [.clus] s (s.modCluster n f) :=
  ⟨rfl, fun p hp => by cases p <;> first | rfl | exact absurd (by simp) hp⟩

theorem frame_wr (s : State) (f : Field) (v : Nat) : Frame [.regs] s (s.wr f v) :=
  ⟨rfl, fun p hp => by cases p <;> first | rfl | exact absurd (by simp) hp⟩

theorem frame_emit (s : State) (e : Ev) (o : Option Nat) (c a b d : Nat) : Frame [.evr] s (s.emit e o c a b d) :=
  ⟨rfl, fun p hp => by cases p <;> first | rfl | exact absurd (by simp) hp⟩

theorem frame_modPrf (s : State) (f : Proofer → Proofer) : Frame [.prf] s (s.modPrf f) :=
  ⟨rfl, fun p hp => by cases p <;> first | rfl | exact absurd (by simp) hp⟩

theorem frame_modHost (s : State) (f : HostSide → HostSide) : Frame [.host] s (s.modHost f) :=
  ⟨rfl, fun p hp => by cases p <;> first | rfl | exact absurd (by simp) hp⟩

theorem frame_modTab (s : State) (f : Tables → Tables) : Frame [.tab] s (s.modTab f) :=
  ⟨rfl, fun p hp => by cases p <;> first | rfl | exact absurd (by simp) hp⟩

theorem frame_modKeys (s : State) (f : Keys → Keys) : Frame [.keys] s (s.modKeys f) :=
  ⟨rfl, fun p hp => by cases p <;> first | rfl | exact absurd (by simp) hp⟩

/-- An instruction that runs has its effect: nothing stands in its way (R102, R108, R77). -/
theorem issue_runs {s : State} {n : Nat} (h : s.runs n = true) (f : State → State) : s.issue n f = f s := by
  simp only [State.runs, Bool.and_eq_true, Bool.not_eq_true'] at h
  obtain ⟨⟨⟨h1, h2⟩, h3⟩, h4⟩ := h
  have hp : (s.core n).boundary = [] := by simpa using h2
  have hb : ¬((s.core n).user = true ∧ (s.core n).budgetOut = true) := by simpa using h3
  simp [State.issue, h1, hp, boundaryExc, hb, h4]

/-- A core that cannot issue does nothing. -/
theorem issue_stalled {s : State} {n : Nat} (h : (s.core n).canIssue = false) (f : State → State) : s.issue n f = s := by
  simp [State.issue, h]

/-- A core changed alone. -/
theorem onlyCore_modCore (s : State) (n : Nat) (f : Core → Core) : OnlyCore s (s.modCore n f) n (f (s.core n)) :=
  ⟨by simp, fun m hm => by simp [State.core_modCore, hm], frame_modCore s n f⟩

theorem OnlyCore.trans {s t u : State} {n : Nat} {j k : Core} (h : OnlyCore s t n j) (g : OnlyCore t u n k) : OnlyCore s u n k :=
  ⟨g.1, fun m hm => (g.2.1 m hm).trans (h.2.1 m hm), h.2.2.trans g.2.2⟩

/-- A result written and the program counter moved on (R76). -/
theorem ret_result (s : State) (n r : Nat) (v : BitVec 64) : Result s (s.ret n r v) n r v := by
  by_cases hr : r = 0
  · have he : s.ret n r v = s.nextPc n := by simp [State.ret, State.setG, hr]
    rw [he]
    refine ⟨fun q => ?_, by simp [State.nextPc], fun m hm => by simp [State.nextPc, State.core_modCore, hm], frame_modCore s n _⟩
    by_cases hq : q = 0
    · simp [State.getG, hq]
    · simp [State.getG, State.nextPc, hq, hr]
  · have he : s.ret n r v = (s.modCore n (fun c => { c with g := tabSet 0#64 c.g r v })).nextPc n := by
      simp [State.ret, State.setG, hr]
    rw [he]
    refine ⟨fun q => ?_, by simp [State.nextPc], fun m hm => by simp [State.nextPc, State.core_modCore, hm],
      (frame_modCore s n _).trans (frame_modCore _ n _)⟩
    by_cases hq : q = 0
    · simp [State.getG, hq]
    · simp [State.getG, State.nextPc, hq, tabGet_set]

end Sys2Proof
end

