-- ==== Sys2Proof/Laws/Hash.lean ====
section
/-! SUPPORT. What is known of a digest without computing it: its length. -/

namespace Sys2Proof

theorem keccakRound_length (a : List (BitVec 64)) (rc : BitVec 64) : (keccakRound a rc).length = 25 := rfl

theorem keccakF_length (a : List (BitVec 64)) : (keccakF a).length = 25 := by
  show (keccakRound _ _).length = 25
  exact keccakRound_length _ _

theorem keccak_absorbed_length (l : List Bytes) (a : List (BitVec 64)) (h : a.length = 25) : (l.foldl keccakAbsorb a).length = 25 := by
  induction l generalizing a with
  | nil => exact h
  | cons x l ih => exact ih _ (keccakF_length _)

theorem lanes_length (l : List (BitVec 64)) : (l.flatMap (fun w => natToLe 8 w.toNat)).length = 8 * l.length := by
  induction l with
  | nil => rfl
  | cons x l ih =>
    rw [List.flatMap_cons, List.length_append, ih, List.length_cons]
    have : (natToLe 8 x.toNat).length = 8 := rfl
    omega

/-- A digest of SHAKE256 that needs one block of output has the length asked for. -/
theorem shake256_length (n : Nat) (m : Bytes) (h : n < 136) : (shake256 n m).length = n := by
  unfold shake256 keccakSponge
  rw [Nat.div_eq_of_lt h]
  simp only [Nat.zero_add, keccakSqueeze, List.append_nil, List.length_take, lanes_length, keccak_absorbed_length _ _ List.length_replicate]
  omega

end Sys2Proof
end

