-- ==== Sys2Proof/Tests/Slice0.lean ====
section
/-! SUPPORT. Tests: the ill-formed commands that `Instr.malformed` refuses; for every statement with hypotheses, concrete states and operands that meet the
hypotheses of each clause; and small tests of single operations, with values worked out from the spec. -/

set_option Elab.async false

namespace Sys2Proof.Tests

open Sys2Proof Sys2Proof.Machine

/-! ### States that the tests start from -/

/-- A string of bytes, written as numbers. -/
def bytesOf (l : List Nat) : Bytes := l.map (BitVec.ofNat 8)
/-- An image of 64 bytes of code. -/
def im1 : Image := { Image.none with id := 1, tenant := 3, prog := 7, code := zeros 64 }
/-- A command of tenant 3 on ring 2 that waits. -/
def en1 : Entry where
  id := 1
  tenant := 3
  ring := 2
  slot := 0
  prog := 7
  d2 := true
  flow := 0
  mode := .relaxed
  prio := 0
  soe := false
  fence := false
  notify := false
  tctx := false
  tag := 9
  inputs := []
  inline := some (zeros 64)
  outAddr := 0x1000
  outMax := 256
  handles := [none, none, none, none]
  arg := 5
  notBefore := 0
  deadline := 0
  ctxKey := 4
  first := []
  descr := zeros 64
  segs := 1
  msgOpen := false
  cells := 1
  seqNo := 0
  keys := true
  tctxOk := true
  time := true
  token := true
  tokenAt := 0
  segsOk := true
  needRand := false
  resolved := [none, none, none, none]
  image := 1
  route := none
  opStart := 0
  created := 0
  timedOut := false
  cancelled := false
  cancelLate := false
  phase := .waiting
  spilled := false
  places := []
  status := .ok
  pstatus := 0
  outLen := 0
  early := false
  sync := false
  mstate := false
  epoch := 0
  ctrl := false
  noScale := false
  cls := 0
  term := none
/-- The one program loaded. -/
def progs1 : Programs := { Programs.reset with images := [im1] }
/-- Core 0 at K, right after reset but for `f`. -/
def kSt (f : Core → Core) : State := { State.reset with cores := [(0, f Core.reset)] }
/-- A region of a core's whole map with every right for everyone, and the regions of core 0's MPU with it first. -/
def wideRegion : Region := ⟨0, 0xFFFFFFFFC0, true, true, true, true, true, 0, 0, 0, 0⟩
def coreOpen : Table Region := [(12 * 32, wideRegion)]
/-- Core 0 at U at the start of the code of image 1, running command 1, but for `f`. -/
def uSt (f : Core → Core) : State :=
  { State.reset with
      cores := [(0, f { Core.reset with user := true, run := some 1, image := 1, pc := codeBase 0 im1 })]
      mpu := coreOpen
      progs := progs1
      prf := { Proofer.reset with entries := [{ en1 with phase := .running 0 }] } }
/-- A general register set. -/
def setR (r : Nat) (v : BitVec 64) : Core → Core := fun c => { c with g := tabSet 0#64 c.g r v }
/-- Two changes, the left one first. -/
def andThen (f g : Core → Core) : Core → Core := fun c => g (f c)

theorem open_byte (s : State) (kind : AccKind) (t : Option Nat) (a : Nat) (hr : s.regs = []) (hm : s.mpu = coreOpen)
    (h : coreLocal a = true ∨ coreShared a = true) : s.mpuByte 12 .core ⟨.u, t, kind⟩ a = none := by
  have hu : AddrMap.core.unmapped a = false := by rcases h with h | h <;> simp [AddrMap.unmapped, h]
  have hb : s.bit (mpuUpd 12) = false := by rw [State.bit, hr]; rfl
  have hg : s.region 12 0 = wideRegion := by rw [State.region, hm]; rfl
  have hc : wideRegion.covers a = true := by
    have : a < 0x180000 := by rcases h with h | h <;> simp [coreLocal, coreShared] at h <;> omega
    have h2 : a ≤ 0xFFFFFFFFC0 + 63 := by omega
    show (true && decide (0 ≤ a) && decide (a ≤ 0xFFFFFFFFC0 + 63)) = true
    simp only [h2, Nat.zero_le, decide_true, Bool.and_self]
  have hf : s.regionAt 12 a = some 0 := by
    have : List.range (mpuRegions 12) = 0 :: (List.range 15).map (· + 1) := rfl
    rw [State.regionAt, this]
    simp only [List.find?, hg, hc]
  unfold State.mpuByte
  simp only [hu, hb, hf, hg]
  cases kind <;> rfl
theorem open_core (s : State) (kind : AccKind) (a n : Nat) (hr : s.regs = []) (hm : s.mpu = coreOpen) (ha : a % 64 = 0) (hn : 0 < n) (hn' : n ≤ 64)
    (h : coreLocal a = true ∨ coreShared a = true) : s.coreMpu 0 kind a n = true := by
  have hg : (a + n - 1) / 64 - a / 64 + 1 = 1 := by omega
  have hx : max a (a / 64 * 64) = a := by omega
  simp only [State.coreMpu, State.mpuFirst, hg]
  have : List.range 1 = [0] := rfl
  simp [this, Nat.ne_of_gt hn, List.findSome?, hx, open_byte s kind _ a hr hm h]
theorem code_line (im : Image) (h : im.code.length = 64) : codeBase 0 im % 64 = 0 ∧ coreLocal (codeBase 0 im) = true := by
  simp [codeBase, h, coreLocal]
  omega
theorem runs_at_code (s : State) (hu : (s.core 0).user = true) (hc : (s.core 0).canIssue = true) (he : (s.core 0).pendExc = [])
    (hb : (s.core 0).budgetOut = false) (hp : (s.core 0).pc = codeBase 0 (s.coreImage 0)) (hl : (s.coreImage 0).code.length = 64)
    (hr : s.regs = []) (hm : s.mpu = coreOpen) : s.runs 0 = true := by
  have hk := code_line _ hl
  have ho := open_core s .fetch (codeBase 0 (s.coreImage 0)) 4 hr hm hk.1 (by decide) (by decide) (.inl hk.2)
  simp [State.runs, State.fetchOk, Core.boundary, hu, hc, he, hb, hp, hl, ho]

/-- The state that an outcome answers. -/
def out (o : Host.Outcome State Fault Refusal) : State :=
  match o with
  | .next t => t
  | _ => State.reset
/-- The value of a general register of core 0 after a command. -/
def reg0 (r : Nat) (c : Instr) (s : State) : BitVec 64 := (out (exec c s)).getG 0 r

/-! ### Witnesses: the core (chapter 4). Each states, clause by clause, every hypothesis of the statement on one state and operands -/

theorem witness_k : (kSt id).runs 0 = true := by decide
theorem runs_u (f : Core → Core) (hu : ((uSt f).core 0).user = true) (hc : ((uSt f).core 0).canIssue = true) (he : ((uSt f).core 0).pendExc = [])
    (hb : ((uSt f).core 0).budgetOut = false) (hp : ((uSt f).core 0).pc = codeBase 0 ((uSt f).coreImage 0))
    (hl : ((uSt f).coreImage 0).code.length = 64) : (uSt f).runs 0 = true := runs_at_code _ hu hc he hb hp hl rfl rfl
theorem witness_u : (uSt id).runs 0 = true := runs_u id rfl rfl rfl rfl rfl (by decide)

theorem witness_IntegerAndDigits :
    ((kSt (setR 3 1)).runs 0 = true ∧ (kSt (setR 3 1)).getG 0 3 ≠ 0#64 ∧ ((kSt (setR 3 1)).core 0).badAt ≠ some ((kSt (setR 3 1)).core 0).pc) ∧
    (let s := uSt (fun c => { c with badAt := some c.pc })
     s.runs 0 = true ∧ (s.core 0).user = true ∧ (s.core 0).badAt = some (s.core 0).pc) :=
  ⟨⟨by decide, by decide, by decide⟩, runs_u (fun c => { c with badAt := some c.pc }) rfl rfl rfl rfl rfl (by decide), rfl, rfl⟩
theorem witness_DivideByZero : (kSt (setR 2 7)).runs 0 = true ∧ (kSt (setR 2 7)).getG 0 3 = 0#64 ∧
    ((kSt (setR 2 7)).core 0).badAt ≠ some ((kSt (setR 2 7)).core 0).pc := by decide
/-- A digit of g2 and g3 as R87 places it. -/
def dig (s : State) (i : Nat) : Nat :=
  if i < 16 then ((s.getG 0 2).toNat / 2 ^ (8 * (i / 2) + 4 * (1 - i % 2))) % 16
  else ((s.getG 0 3).toNat / 2 ^ (8 * ((i - 16) / 2) + 4 * (1 - (i - 16) % 2))) % 16
/-- n of 1 and 18 with good digits; a bad digit first and last; n of 0 and 19. -/
theorem witness_LuhnCheckDigit :
    ((kSt (setR 2 0x7198739279)).runs 0 = true ∧ (∀ i < 18, dig (kSt (setR 2 0x7198739279)) i ≤ 9)) ∧
    ((kSt (setR 2 0xA0)).runs 0 = true ∧ 9 < dig (kSt (setR 2 0xA0)) 0 ∧ (kSt (setR 3 0x0B)).runs 0 = true ∧ 9 < dig (kSt (setR 3 0x0B)) 17) ∧
    ((kSt id).runs 0 = true ∧ (0 : Fin 32).val = 0 ∧ 18 < (19 : Fin 32).val) := by decide
theorem witness_IntegerImmediate : (kSt id).runs 0 = true ∧ ((kSt id).core 0).badAt ≠ some ((kSt id).core 0).pc ∧ (0x14010000#32).toNat / 2 ^ 26 = 5 ∧
    (0x14010000#32).toNat / 2 ^ 16 % 32 ≠ 0 := by decide

/-- The core address of the constants of image 1 in core 0. -/
def constAddr : Nat := 0x100000 + 64 * (Config.constLine 0 1 % 7168)
/-- A core at U whose image has constants. -/
def cSt : State :=
  { State.reset with
      cores := [(0, { Core.reset with user := true, run := some 1, image := 1, pc := codeBase 0 im1,
                                      g := [(2, BitVec.ofNat 64 constAddr)] })]
      mpu := coreOpen
      progs := { progs1 with images := [{ im1 with consts := zeros 16 }] } }
theorem const_at : ((cSt.getG 0 2) + (0#16).signExtend 64).toNat = cSt.constBase 0 := by
  show (BitVec.ofNat 64 constAddr + 0#64).toNat = constAddr
  simp [constAddr]
  omega
/-- The address that a load or store of g2 plus 0 reaches. -/
def at2 (s : State) : Nat := (s.getG 0 2 + (0#16).signExtend 64).toNat
/-- The last and the first address of eight bytes outside the data area, and the first and the last inside. -/
theorem witness_Loads_user :
    ((uSt (setR 2 1)).runs 0 = true ∧ at2 (uSt (setR 2 1)) % 8 ≠ 0) ∧
    ((uSt (setR 2 0xFFF8)).runs 0 = true ∧ at2 (uSt (setR 2 0xFFF8)) % 8 = 0 ∧ (uSt (setR 2 0xFFF8)).userLoadOk 0 0xFFF8 8 = false ∧
      ((uSt (setR 2 0xFFF8)).core 0).user = true) ∧
    ((uSt (setR 2 0x20000)).runs 0 = true ∧ (uSt (setR 2 0x20000)).userLoadOk 0 (at2 (uSt (setR 2 0x20000))) 1 = false) ∧
    ((uSt (setR 2 0x10000)).runs 0 = true ∧ at2 (uSt (setR 2 0x10000)) = 0x10000 ∧ ((uSt (setR 2 0x10000)).core 0).user = true ∧
      (uSt (setR 2 0x10000)).userLoadOk 0 0x10000 8 = true ∧ (uSt (setR 2 0x10000)).racy 0 0x10000 8 = false) ∧
    ((uSt (setR 2 0x1FFFF)).runs 0 = true ∧ at2 (uSt (setR 2 0x1FFFF)) = 0x1FFFF ∧ (uSt (setR 2 0x1FFFF)).userLoadOk 0 0x1FFFF 1 = true ∧
      (uSt (setR 2 0x1FFFF)).racy 0 0x1FFFF 1 = false) := by
  refine ⟨⟨runs_u _ rfl rfl rfl rfl rfl (by decide), by decide⟩, ⟨runs_u _ rfl rfl rfl rfl rfl (by decide), by decide⟩,
    ⟨runs_u _ rfl rfl rfl rfl rfl (by decide), by decide⟩, ⟨runs_u _ rfl rfl rfl rfl rfl (by decide), by decide⟩,
    ⟨runs_u _ rfl rfl rfl rfl rfl (by decide), by decide⟩⟩
theorem witness_Loads_constants :
    cSt.runs 0 = true ∧ ((cSt.getG 0 2) + (0#16).signExtend 64).toNat = cSt.constBase 0 ∧ cSt.constBase 0 % 8 = 0 ∧ (cSt.core 0).user = true ∧
      cSt.userLoadOk 0 (cSt.constBase 0) 8 = true ∧ cSt.racy 0 (cSt.constBase 0) 8 = false ∧
      inData (cSt.constBase 0) 8 = false ∧ coreShared (cSt.constBase 0) = true := by
  have h : cSt.constBase 0 = constAddr := rfl
  have hl : (cSt.coreImage 0).consts.length = 16 := by decide
  have hs : coreShared constAddr = true := by unfold coreShared; simp; unfold constAddr; omega
  have ha : constAddr % 64 = 0 := by unfold constAddr; omega
  have hm := open_core cSt .read constAddr 8 rfl rfl ha (by decide) (by decide) (.inr hs)
  refine ⟨runs_at_code _ rfl rfl rfl rfl rfl (by decide) rfl rfl, const_at, ?_, rfl, ?_, rfl, ?_, by rw [h]; exact hs⟩
  · rw [h, constAddr]; omega
  · rw [State.userLoadOk, h, hm, hl]; simp [constAddr]
  · simp only [inData, h, constAddr]; simp; omega
/-- Core 0 at K with an address in g2. -/
def kAt (a : BitVec 64) : State := kSt (setR 2 a)
/-- At K: local and shared memory, a register of the core's own MPU window, an unused offset of it, and an address that the MPU refuses; for loads and for stores. -/
theorem witness_LoadsAndStores_k :
    ((kAt 0x1FFF8).runs 0 = true ∧ at2 (kAt 0x1FFF8) = 0x1FFF8 ∧ ((kAt 0x1FFF8).core 0).user = false ∧ (kAt 0x1FFF8).kRefusal 0 .read 0x1FFF8 8 = none ∧
      (kAt 0x1FFF8).racy 0 0x1FFF8 8 = false ∧ (kAt 0x1FFF8).kRefusal 0 .write 0x1FFF8 8 = none ∧ coreLocal 0x1FFF8 = true) ∧
    ((kAt 0x4000).runs 0 = true ∧ at2 (kAt 0x4000) = 0x4000 ∧ ((kAt 0x4000).core 0).user = false ∧ (kAt 0x4000).kRefusal 0 .read 0x4000 8 = none ∧
      (kAt 0x4000).racy 0 0x4000 8 = false ∧ (kAt 0x4000).kRefusal 0 .write 0x4000 8 = none ∧ coreLocal 0x4000 = true) ∧
    ((kAt 0x100000).runs 0 = true ∧ at2 (kAt 0x100000) = 0x100000 ∧ ((kAt 0x100000).core 0).user = false ∧
      (kAt 0x100000).kRefusal 0 .read 0x100000 8 = none ∧ (kAt 0x100000).racy 0 0x100000 8 = false ∧
      (kAt 0x100000).kRefusal 0 .write 0x100000 8 = none ∧ coreShared 0x100000 = true) := by decide +kernel
theorem witness_LoadsAndStores_map :
    ((kAt 0x20305000).runs 0 = true ∧ at2 (kAt 0x20305000) = 0x20305000 ∧ ((kAt 0x20305000).core 0).user = false ∧
      (kAt 0x20305000).kRefusal 0 .read 0x20305000 8 = none ∧ (kAt 0x20305000).kRefusal 0 .write 0x20305000 8 = none) ∧
    ((kAt 0x20304018).runs 0 = true ∧ at2 (kAt 0x20304018) = 0x20304018 ∧ ((kAt 0x20304018).core 0).user = false ∧
      (kAt 0x20304018).kRefusal 0 .read 0x20304018 8 = none ∧ (kAt 0x20304018).kRefusal 0 .write 0x20304018 8 = none) ∧
    ((kAt 0x20305000).busRead 0x20305000 8).isSome = true ∧ ((kAt 0x20304018).busRead 0x20304018 8).isNone = true ∧
    ((kAt 0x20305000).busWrite false 0x20305000 (natToLe 8 0)).isSome = true ∧
    ((kAt 0x20304018).busWrite false 0x20304018 (natToLe 8 0)).isNone = true ∧
    ((kAt 0x20000).runs 0 = true ∧ at2 (kAt 0x20000) % 8 = 0 ∧ ((kAt 0x20000).core 0).user = false ∧
      ((kAt 0x20000).kRefusal 0 .read 0x20000 8).isSome = true ∧ ((kAt 0x20000).kRefusal 0 .write 0x20000 8).isSome = true) := by decide +kernel
theorem witness_Stores_user :
    ((uSt (setR 2 1)).runs 0 = true ∧ at2 (uSt (setR 2 1)) % 8 ≠ 0) ∧
    ((uSt (setR 2 0xFFF8)).runs 0 = true ∧ ((uSt (setR 2 0xFFF8)).core 0).user = true ∧ at2 (uSt (setR 2 0xFFF8)) % 8 = 0 ∧
      (uSt (setR 2 0xFFF8)).userStoreOk 0 0xFFF8 8 = false) ∧
    ((uSt (setR 2 0x20000)).runs 0 = true ∧ (uSt (setR 2 0x20000)).userStoreOk 0 (at2 (uSt (setR 2 0x20000))) 1 = false) ∧
    ((uSt (setR 2 0x1FFF8)).runs 0 = true ∧ at2 (uSt (setR 2 0x1FFF8)) % 8 = 0 ∧ coreLocal 0x1FFF8 = true ∧
      ((uSt (setR 2 0x1FFF8)).core 0).user = true ∧ (uSt (setR 2 0x1FFF8)).userStoreOk 0 0x1FFF8 8 = true) := by
  refine ⟨⟨runs_u _ rfl rfl rfl rfl rfl (by decide), by decide⟩, ⟨runs_u _ rfl rfl rfl rfl rfl (by decide), by decide⟩,
    ⟨runs_u _ rfl rfl rfl rfl rfl (by decide), by decide⟩, ⟨runs_u _ rfl rfl rfl rfl rfl (by decide), by decide⟩⟩
/-- A branch with offset 1 from core address 0 stays in the runtime area; one with offset 0x1000 leaves it. -/
theorem witness_ConditionalBranches :
    (kSt id).runs 0 = true ∧ (branchOf (kSt id) 0 1 2 1 1).map (·.2.1) = [true, false, false, true, false, true] ∧
    (kSt (setR 2 1)).runs 0 = true ∧ (branchOf (kSt (setR 2 1)) 0 1 2 1 1).map (·.2.1) = [false, true, true, false, true, false] ∧
    ((kSt id).modCore 0 (fun c => { c with pc := 4 })).fetchOk 0 = true ∧
    ((kSt id).modCore 0 (fun c => { c with pc := 0x4000 })).fetchOk 0 = false := by decide
theorem witness_Jumps : ((kSt id).runs 0 = true ∧ (((kSt id).setG 0 31 (BitVec.ofNat 64 4)).modCore 0 (fun c => { c with pc := 4 })).fetchOk 0 = true) ∧
    ((kSt (setR 2 0x3FFC)).runs 0 = true ∧ ((kSt (setR 2 0x3FFC)).getG 0 2).toNat % 4 = 0 ∧
      ((kSt (setR 2 0x3FFC)).modCore 0 (fun c => { c with pc := 0x3FFC })).fetchOk 0 = true) ∧
    ((kSt (setR 2 2)).runs 0 = true ∧ ((kSt (setR 2 2)).getG 0 2).toNat % 4 ≠ 0) := by decide
/-- A core with an engine operation queued. -/
def engBusy : Core → Core := fun c => { c with eng := [.load 0 Ctx.empty] }
/-- A core whose cancel flag is set. -/
def cancelled : Core → Core := fun c => { c with cancel := true }
theorem witness_SystemInstructions :
    ((kSt id).runs 0 = true ∧ (7#4).toNat / 8 = 0) ∧ ((kSt id).runs 0 = true ∧ (8#4).toNat / 8 = 1 ∧ (kSt id).unitsBusy 0 = false) ∧
    ((kSt engBusy).runs 0 = true ∧ (8#4).toNat / 8 = 1 ∧ (kSt engBusy).unitsBusy 0 = true) ∧
    ((kSt cancelled).runs 0 = true ∧ ((kSt cancelled).core 0).cancel = true) ∧ ((kSt id).runs 0 = true ∧ ((kSt id).core 0).cancel = false) ∧
    ((uSt id).runs 0 = true ∧ ((uSt id).core 0).user = true ∧ ((uSt id).core 0).cancel = false) ∧
    ((uSt cancelled).runs 0 = true ∧ ((uSt cancelled).core 0).user = true ∧ ((uSt cancelled).core 0).cancel = true) ∧
    ((kSt id).runs 0 = true ∧ ((kSt id).core 0).user = false) :=
  ⟨by decide, by decide, by decide, by decide, by decide, ⟨witness_u, by decide⟩, ⟨runs_u _ rfl rfl rfl rfl rfl (by decide), by decide⟩, by decide⟩
theorem witness_IllegalOpcodeEndsProgram : (uSt id).runs 0 = true ∧ ((uSt id).core 0).user = true ∧
    legalWord true 0xFFFFFFFF#32 = false ∧ legalWord true 0x00000000#32 = false := ⟨witness_u, by decide⟩
/-- MFS: at K the runtime's words from 0x20 to 0x2F; a command with its entry; words refused at U and at K. -/
theorem witness_StatusWordsRead :
    ((kSt id).runs 0 = true ∧ ((kSt id).core 0).user = false ∧ 0x20 ≤ (0x20#16).toNat ∧ (0x2F#16).toNat ≤ 0x2F) ∧
    ((uSt id).runs 0 = true ∧ ((uSt id).coreEntry 0).isSome = true) ∧
    ((uSt id).runs 0 = true ∧ mfsWord ((uSt id).core 0).user (9#16).toNat = false ∧ mfsWord ((uSt id).core 0).user (0x20#16).toNat = false) ∧
    ((kSt id).runs 0 = true ∧ mfsWord ((kSt id).core 0).user (0x30#16).toNat = false) :=
  ⟨by decide, ⟨witness_u, by decide⟩, ⟨witness_u, by decide⟩, by decide⟩
/-- MTS: each status that R95 accepts, one that it refuses, the runtime's words, and words refused at U and at K. -/
theorem witness_StatusWordsWritten :
    (∀ st ∈ [Status.ok, .keyUsage, .keyExpired, .keyBlockIntegrity, .authFail, .replay], (kAt (BitVec.ofNat 64 st.code)).runs 0 = true ∧
      ((kAt (BitVec.ofNat 64 st.code)).core 0).locked = false ∧ ((kAt (BitVec.ofNat 64 st.code)).getG 0 2).toNat = st.code) ∧
    ((kAt 0xFFFF).runs 0 = true ∧ ((kAt 0xFFFF).core 0).locked = false ∧
      (∀ st ∈ [Status.ok, .keyUsage, .keyExpired, .keyBlockIntegrity, .authFail, .replay], ((kAt 0xFFFF).getG 0 2).toNat ≠ st.code)) ∧
    ((kAt 7).runs 0 = true ∧ ((kAt 7).core 0).user = false ∧ 0x20 ≤ (0x20#16).toNat ∧ (0x2F#16).toNat ≤ 0x2F) ∧
    ((uSt id).runs 0 = true ∧ mtsWord ((uSt id).core 0).user (0x20#16).toNat = false ∧ mtsWord ((uSt id).core 0).user (0x13#16).toNat = false) ∧
    ((kSt id).runs 0 = true ∧ mtsWord ((kSt id).core 0).user (8#16).toNat = false) :=
  ⟨by decide, by decide, by decide, ⟨witness_u, by decide⟩, by decide⟩
/-- A terminal context, and the entry of the table that it is a copy of. -/
def term1 : TermCopy := ⟨4, 10, 1, 20, 2⟩
def termE : Term := ⟨4, 3, 10, 20, 1, 2, false, false, 0, [1]⟩
/-- Core 0 at U, its command with a terminal context whose counter write `post` waits. -/
def tSt (post : List Nat) : State :=
  { uSt (fun c => { c with term := some term1, post := post }) with tab := { Tables.reset with terms := [termE] } }
/-- TGET and TPUT with a context at fields 0, 1, 2 and 4, without one, and at field 5; a posted counter that is newer, and one that is not. -/
theorem witness_TerminalContext :
    ((tSt []).runs 0 = true ∧ ((tSt []).core 0).term = some term1 ∧ (0#16).toNat ≤ 4 ∧ (4#16).toNat ≤ 4 ∧ 2 ≤ (2#16).toNat) ∧
    ((uSt id).runs 0 = true ∧ ((uSt id).core 0).term = none ∧ (0#16).toNat ≤ 4 ∧ (4#16).toNat ≤ 4) ∧
    ((uSt id).runs 0 = true ∧ 4 < (5#16).toNat) ∧
    (((tSt []).core 0).run.isSome = true ∧ (tSt []).term? ((tSt []).coreTenant 0) term1.id = some termE) ∧
    ((tSt [11]).runs 0 = true ∧ ((tSt [11]).core 0).term = some term1 ∧ ((tSt [11]).core 0).post = [11] ∧ ((tSt [11]).core 0).run.isSome = true ∧
      (tSt [11]).term? ((tSt [11]).coreTenant 0) term1.id = some termE ∧ termE.counter < 11 ∧ (tSt [11]).bit Reg.TBL_CTL_WT = false) ∧
    ((tSt [10]).runs 0 = true ∧ ((tSt [10]).core 0).term = some term1 ∧ ((tSt [10]).core 0).post = [10] ∧
      (tSt [10]).term? ((tSt [10]).coreTenant 0) term1.id = some termE ∧ 10 ≤ termE.counter) :=
  have h (p : List Nat) : (tSt p).runs 0 = true := runs_at_code _ rfl rfl rfl rfl rfl (show im1.code.length = 64 by decide) rfl rfl
  ⟨⟨h [], by decide⟩, ⟨witness_u, by decide⟩, ⟨witness_u, by decide⟩, by decide, ⟨h [11], by decide⟩, ⟨h [10], by decide⟩⟩
/-- A generator that delivers. -/
def drbg1 : Drbg := { Drbg.empty with st := .ready, key := zeros 32, v := zeros 32 }
/-- Core 0 at K with a generator that delivers. -/
def randSt : State := { kSt id with ent := { Entropy.reset with inst := [(0, drbg1)] } }
theorem witness_RandomNumbers :
    (randSt.runs 0 = true ∧ (randSt.coreDraw 0 8).isSome = true) ∧ ((kSt id).runs 0 = true ∧ (kSt id).coreDraw 0 8 = none) := by
  decide +kernel

/-! ### Small tests: the core (expected values worked out from R85 to R91, by hand) -/

theorem test_add_wraps : reg0 1 (.add 0 1 2 3) (kSt (andThen (setR 2 0xFFFFFFFFFFFFFFFF) (setR 3 2))) = 1 := by decide
theorem test_sub_borrows : reg0 1 (.sub 0 1 2 3) (kSt (setR 3 1)) = 0xFFFFFFFFFFFFFFFF := by decide
theorem test_shl_count_mod_64 : reg0 1 (.shl 0 1 2 3) (kSt (andThen (setR 2 3) (setR 3 65))) = 6 := by decide
theorem test_shr_unsigned : reg0 1 (.shr 0 1 2 3) (kSt (andThen (setR 2 0x8000000000000000) (setR 3 63))) = 1 := by decide
theorem test_sar_sign : reg0 1 (.sar 0 1 2 3) (kSt (andThen (setR 2 0xFFFFFFFFFFFFFFF9) (setR 3 1))) = 0xFFFFFFFFFFFFFFFC := by decide
theorem test_mulh_unsigned :
    reg0 1 (.mulh 0 1 2 2) (kSt (setR 2 0xFFFFFFFFFFFFFFFF)) = 0xFFFFFFFFFFFFFFFE := by decide
theorem test_rem : reg0 1 (.rem 0 1 2 3) (kSt (andThen (setR 2 17) (setR 3 5))) = 2 := by decide
theorem test_cmp_signed : reg0 1 (.cmp 0 1 2 3) (kSt (setR 2 0x8000000000000000)) = 0xFFFFFFFFFFFFFFFF := by decide
/-- g0 reads 0 whatever is written (R76). -/
theorem test_g0_discards : reg0 0 (.addi 0 0 0 5) (kSt id) = 0 := by decide
/-- The account number 7992739871 has the check digit 3; its digits lie two to a byte, high nibble first (R87, R88). -/
theorem test_luhn : reg0 1 (.luhn 0 1 2 3 10) (kSt (setR 2 0x7198739279)) = 3 := by decide
theorem test_digx_first_digit : reg0 1 (.digx 0 1 2 3) (kSt (setR 2 0x7198739279)) = 7 := by decide
theorem test_digx_second_digit : reg0 1 (.digx 0 1 2 3) (kSt (andThen (setR 2 0x7198739279) (setR 3 1))) = 9 := by decide
theorem test_digi : reg0 1 (.digi 0 1 2 3) (kSt (andThen (setR 2 3) (setR 3 0x15))) = 0x500 := by decide
theorem test_lui_sign : reg0 1 (.lui 0 1 0x8000) (kSt id) = 0xFFFFFFFF80000000 := by decide
theorem test_andi_zero_extends : reg0 1 (.andi 0 1 2 0xFFFF) (kSt (setR 2 0xFFFFFFFFFFFFFFFF)) = 0xFFFF := by decide
theorem test_addi_sign_extends : reg0 1 (.addi 0 1 2 0xFFFF) (kSt (setR 2 5)) = 4 := by decide
/-- A store of two bytes, least significant first, and a byte load of the second (R90). -/
theorem test_st_ld_little_endian :
    reg0 1 (.ldB 0 1 2 1) (out (exec (.stH 0 3 2 0) (kSt (andThen (setR 2 0x10000) (setR 3 0x8180))))) = 0x81 := by decide
theorem test_ld_misaligned_resets_k : ((out (exec (.ldH 0 1 2 1) (kSt (setR 2 0x10000)))).core 0).resetting = some 1 := by decide
theorem test_blt_signed :
    ((out (exec (.blt 0 1 0 3) (kSt (setR 1 0xFFFFFFFFFFFFFFFF)))).core 0).pc = 12 ∧
    ((out (exec (.bltu 0 1 0 3) (kSt (setR 1 0xFFFFFFFFFFFFFFFF)))).core 0).pc = 4 := by decide
theorem test_jal_links : ((out (exec (.jal 0 2) (kSt id))).core 0).pc = 8 ∧ reg0 31 (.jal 0 2) (kSt id) = 4 := by decide
theorem test_jr : ((out (exec (.jr 0 2) (kSt (setR 2 0x20)))).core 0).pc = 0x20 := by decide
theorem test_mts_cstatus_refuses_other :
    ((out (exec (.mts 0 2 0x12) (kSt (setR 2 0xFFFF)))).core 0).resetting = some 1 := by decide
theorem test_cancelq : reg0 1 (.cancelq 0 1) (kSt (fun c => { c with cancel := true })) = 1 := by decide

/-! ### Witnesses: host transfers, commands on cores, rings and the Proofer (chapters 2 to 4) -/

/-- A region of every address for everyone. -/
def openRegion : Region := { Region.empty with en := true, limit := 0xFFFFFFFFC0, r := true, w := true, any := true }
/-- An existing tenant. -/
def ten3 : Tenant := { Tenant.absent with exist := true }
/-- The unit with its window open, tenant 3, ring 2 of it with completion ring 1, port 0 ACTIVE and its MPU open, but for `f`. -/
def hSt (f : State → State) : State :=
  f { State.reset with
      sys := { Sys.reset with window := true, stage := 8, releasing := 0 }
      pair := { Pair.reset with service := true }
      keys := { Keys.reset with tenants := [(3, ten3)] }
      mpu := [(128, openRegion)]
      host := { HostSide.reset with
                  sq := [(50, { Sq.reset with enable := true, cq := 1, base := 1 })]
                  cq := [(49, { Cq.reset with enable := true, base := 2 })]
                  port := [(0, { Port.reset with st := .active, gen := 5, width := 2, prev := some (5, 2) })] } }
/-- Ring 2 of tenant 3 changed. -/
def sqW (f : Sq → Sq) (s : State) : State := s.modSq 3 2 f
/-- Entries of the store. -/
def entW (l : List Entry) (s : State) : State := s.modPrf (fun p => { p with entries := l })
/-- Core 0 changed. -/
def coreW (f : Core → Core) (s : State) : State := s.modCore 0 f
/-- Port 0 changed. -/
def portW (f : Port → Port) (s : State) : State := s.modPort 0 f
/-- A device time. -/
def atTime (n : Nat) (s : State) : State := { s with time := { s.time with now := n } }
/-- An outstanding HGET of 64 bytes of input, all of which have arrived. -/
def xfer1 : Xfer := ⟨0, true, 0x10000, 64, 0, false, 0, 0, [(0, zeros 64)], false, none, false⟩

/-- The running command 1 of core 0, which stands at K. -/
def runK (f : Core → Core) : State :=
  hSt (fun s => entW [{ en1 with phase := .running 0 }] (coreW (fun c => f { c with run := some 1, g := [(2, 0x10000), (4, 64)] }) s))
/-- A command whose input is a range of host memory. -/
def enIn : Entry := { en1 with phase := .running 0, inline := none, inputs := [(0x4000, 64)] }
/-- Good and bad ranges, at the ends of the data area and of the output maximum; 16 transfers outstanding; ranges that the MPU permits and refuses. -/
theorem witness_HostTransfersBegin :
    let full : State := runK (fun c => { c with xfers := List.replicate 16 xfer1 })
    let bad : State := runK (fun c => { c with g := [(2, 0x10000), (3, 1), (4, 64)] })
    let late : State := runK (fun c => { c with g := [(2, 0x10000), (3, 193), (4, 64)] })
    let shut : State := { runK id with mpu := [] }
    ((runK id).runs 0 = true ∧ ((runK id).coreEntry 0).isSome = true ∧ (runK id).dmaBad 0 0x10000 0 64 64 false = false ∧ ((runK id).core 0).openXfers < 16 ∧
      en1.inline = some (zeros 64) ∧ inputRanges en1.inputs (en1.inlinePart 0 64).2.1 (en1.inlinePart 0 64).2.2 = []) ∧
    (let s := entW [enIn] (runK id)
     s.runs 0 = true ∧ s.coreEntry 0 = some enIn ∧ s.dmaBad 0 0x10000 0 64 64 false = false ∧ (s.core 0).openXfers < 16 ∧
      (∀ r ∈ inputRanges enIn.inputs (enIn.inlinePart 0 64).2.1 (enIn.inlinePart 0 64).2.2, s.mpuFirst (4 + (s.sq 3 2).cur) .host ⟨.u, some 3, .read⟩ r.1 r.2 = none)) ∧
    (bad.runs 0 = true ∧ (bad.coreEntry 0).isSome = true ∧ bad.dmaBad 0 0x10000 1 64 64 false = true) ∧
    (late.runs 0 = true ∧ (late.coreEntry 0).isSome = true ∧ late.dmaBad 0 0x10000 193 64 256 true = true) ∧
    (full.runs 0 = true ∧ (full.coreEntry 0).isSome = true ∧ full.dmaBad 0 0x10000 0 64 64 false = false ∧ full.dmaBad 0 0x10000 0 64 256 true = false ∧
      16 ≤ (full.core 0).openXfers) ∧
    ((runK id).dmaBad 0 0x10000 192 64 256 true = false ∧ (runK id).dmaBad 0 0x10000 0 64 256 true = false ∧
      (runK id).mpuFirst (4 + ((runK id).cq 3 ((runK id).sq 3 2).cq).cur) .host ⟨.u, some 3, .write⟩ 0x1000 64 = none) ∧
    (shut.runs 0 = true ∧ (shut.coreEntry 0).isSome = true ∧ shut.dmaBad 0 0x10000 0 64 256 true = false ∧ (shut.core 0).openXfers < 16 ∧
      (shut.mpuFirst (4 + (shut.cq 3 (shut.sq 3 2).cq).cur) .host ⟨.u, some 3, .write⟩ 0x1000 64).isSome = true) := by decide +kernel
/-- HWAIT with nothing and with something outstanding; its time-out; an HGET whose bytes are all there; an HPUT. -/
theorem witness_HostTransfersEnd :
    let done : State := runK (fun c => { c with xfers := [{ xfer1 with done := true }] })
    let open_ : State := runK (fun c => { c with xfers := [xfer1] })
    let put : State := runK (fun c => { c with xfers := [{ xfer1 with get := false, got := [] }] })
    let stuck : State := atTime 1000000000000 (uSt (fun c => { c with stall := .hwait 0 }))
    (done.runs 0 = true ∧ (done.core 0).openXfers = 0 ∧ (∀ x ∈ (done.core 0).xfers, x.fail = none)) ∧
    (open_.runs 0 = true ∧ (open_.core 0).openXfers ≠ 0) ∧
    ((stuck.core 0).user = true ∧ (stuck.core 0).stall = .hwait 0 ∧ (stuck.core 0).ending = none ∧ 0 + stuck.opTimeout ≤ stuck.now) ∧
    ((open_.coreEntry 0).isSome = true ∧ (open_.core 0).xfers = [xfer1] ∧ xfer1.get = true ∧ xfer1.done = false ∧ xfer1.parts = 0 ∧ xfer1.fail = none ∧
      (open_.core 0).ending = none ∧ (open_.core 0).stall = .none ∧ xfer1.got = [(0, zeros 64)] ∧ (zeros 64).length = xfer1.len) ∧
    ((put.coreEntry 0).isSome = true ∧ ((put.core 0).xfers.map (fun x => (x.get, x.done, x.raced, x.len))) = [(false, false, false, 64)] ∧
      (put.core 0).stall = .none ∧ put.pair.st ≠ .gaveUp ∧ (0x1000 + xfer1.off) % 256 + 64 ≤ 256) := by decide +kernel

/-- A staged command with a key in slot 0 that its image may use. -/
def key1 : KeyVal := ⟨zeros 16, 3, 0x3042, 0x58, 0x45, 0, 3, 0, none, none, 0, 0, 0⟩
def im3 : Image := { im1 with usage := [⟨0x3042, 0x58, 1⟩] }
def staged1 : State :=
  { hSt (entW [{ en1 with phase := .staged 0, handles := [some 0, none, none, none], resolved := [some key1, none, none, none] }]) with
      progs := { progs1 with images := [im3] } }
/-- The same with its image in line 5 of a sealed store, and with the image resident already but of another usage. -/
def warmStore : Store := { Store.reset with st := .opened, n := 64, tree := ⟨[(5, ⟨1, zeros 256⟩)], []⟩ }
def staged2 (r : Store) : State := { staged1 with store := r, progs := { progs1 with images := [{ im3 with package := zeros 64, line := 5 }] } }
def staged3 : State := { coreW (fun c => { c with res := [1] }) staged1 with progs := progs1 }
theorem witness_CommandStart :
    let free_ (s : State) : Prop := (s.stagedOn 0).isSome = true ∧ (s.core 0).run = none ∧ (s.core 0).ending = none ∧ (s.core 0).resetting = none
    (free_ (staged2 warmStore) ∧ (staged2 warmStore).imageAtHand 0 1 = false ∧
      ((staged2 warmStore).wantLines (((staged2 warmStore).image? 1).getD Image.none).wants).1 = false) ∧
    (free_ (staged2 Store.reset) ∧ (staged2 Store.reset).imageAtHand 0 1 = false ∧
      ((staged2 Store.reset).wantLines (((staged2 Store.reset).image? 1).getD Image.none).wants).1 = true ∧
      (staged2 Store.reset).imageStatus (((staged2 Store.reset).image? 1).getD Image.none) = some .storeLost ∧ ((staged2 Store.reset).entry? 1).isSome = true) ∧
    (free_ staged1 ∧ (staged1.image? 1) = some im3 ∧ (∀ e ∈ (staged1.stagedOn 0).toList, ∀ i < 4, ∀ k ∈ (e.slotKey i).toList, staged1.bindCheck im3.usage i k = none) ∧
      im3.code.length ≤ 49152 ∧ (zeros 64).length ≤ 128 ∧ (staged1.wantLines im3.wants).1 = true ∧ staged1.imageStatus im3 = none ∧
      staged1.resident 0 1 = false) ∧
    (free_ staged3 ∧ staged3.imageAtHand 0 1 = true ∧ (staged3.stagedOn 0).bind (·.slotKey 0) = some key1 ∧
      (staged3.bindCheck ((staged3.image? 1).getD Image.none).usage 0 key1).isSome = true) := by decide +kernel
theorem witness_CommandEnd :
    let s : State := runK (fun c => { c with ending := some .trapEnd })
    s.endReady 0 = true ∧ (s.core 0).run = some 1 ∧ (∀ x ∈ (s.core 0).xfers, x.fail = none) ∧ (s.entry? 1).isSome = true := by decide
theorem witness_CoreRequests :
    let asked : State := runK (fun c => { c with idleReq := some .cancelled })
    ((asked.core 0).idleReq = some .cancelled ∧ (asked.core 0).run.isSome = true ∧ (asked.core 0).ending = none) ∧
    (((uSt id).core 0).user = true ∧ ((uSt id).core 0).run.isSome = true ∧ ((uSt id).core 0).ending = none) ∧
    ((runK id).core 0).resetting = none ∧ ((runK id).core 0).run.isSome = true := by decide

/-- Ring 2 of tenant 3 in reset, and disabled. -/
def resetting2 : State := hSt (sqW (fun r => { r with resetting := true }))
def disabled2 : State := hSt (sqW (fun r => { r with enable := false }))
/-- Tail 16 of a ring of 16 is the last one valid, 17 the first one out of range; a closed page, a ring that is disabled, and one whose traffic runs on another port. -/
theorem witness_SubmissionDoorbell :
    let open_ (s : State) (t : Nat) : Bool := s.pageOpen t && (s.sq t 2).running && (s.sq t 2).cur == 0 && !s.tenantResetting t
    let good (s : State) (tail : Nat) : Bool := decide (diff16 tail (s.sq 3 2).head ≤ ringSize (s.sq 3 2).log2) &&
      decide (diff16 (s.sq 3 2).tail (s.sq 3 2).head ≤ diff16 tail (s.sq 3 2).head)
    (hSt id).hostIn 0 = true ∧ open_ (hSt id) 3 = true ∧ good (hSt id) 16 = true ∧ good (hSt id) 17 = false ∧ good (hSt id) 65535 = false ∧
    open_ (hSt id) 4 = false ∧ (disabled2.hostIn 0 = true ∧ open_ disabled2 3 = false) ∧
    ((hSt (sqW (fun r => { r with port := 1 }))).hostIn 0 = true ∧ open_ (hSt (sqW (fun r => { r with port := 1 }))) 3 = false) := by decide
theorem witness_CompletionDoorbell :
    (hSt id).hostIn 0 = true ∧ (hSt id).pageOpen 3 = true ∧
    diff16 0 ((hSt id).cq 3 1).head ≤ diff16 ((hSt id).cq 3 1).tail ((hSt id).cq 3 1).head ∧
    diff16 ((hSt id).cq 3 1).tail ((hSt id).cq 3 1).head < diff16 1 ((hSt id).cq 3 1).head := by decide
/-- SQ_RING_RESET with and without a waiting command, of a closed page and of a ring in reset; its end with nothing, a fetch or a command outstanding; CQ_RING_RESET where R25 allows it,
and where an enabled submission ring names the completion ring or the page is closed. -/
theorem witness_RingResets :
    ((hSt id).pageOpen 3 = true ∧ ((hSt id).sq 3 2).resetting = false) ∧
    ((hSt (entW [en1])).pageOpen 3 = true ∧ ((hSt (entW [en1])).sq 3 2).resetting = false ∧ en1 ∈ (hSt (entW [en1])).prf.entries ∧ en1.phase = .waiting) ∧
    (hSt id).pageOpen 4 = false ∧ (resetting2.sq 3 2).resetting = true ∧
    ((resetting2.sq 3 2).resetting = true ∧ (resetting2.sq 3 2).fetch = none ∧
      (∀ e ∈ resetting2.prf.entries, ¬ (e.tenant = 3 ∧ e.ring = 2)) ∧ resetting2.entryUnwritten 3 2 = false ∧
      (resetting2.port (resetting2.sq 3 2).altPort).ringUnacked 3 2 = false ∧ resetting2.portActive (resetting2.sq 3 2).port = true) ∧
    ((sqW (fun r => { r with fetch := some ⟨1, none, false⟩ }) resetting2).sq 3 2).fetch.isSome = true ∧
    (∃ e ∈ (entW [en1] resetting2).prf.entries, e.tenant = 3 ∧ e.ring = 2) ∧ ((hSt id).sq 3 2).resetting = false ∧
    (disabled2.pageOpen 3 = true ∧ (∀ k < 16, (disabled2.sq 3 k).cq = 1 → (disabled2.sq 3 k).enable = false ∧ disabled2.entryUnwritten 3 k = false ∧
      ∀ e ∈ disabled2.prf.entries, ¬ (e.tenant = 3 ∧ e.ring = k))) ∧
    (((hSt id).sq 3 2).cq = 1 ∧ ((hSt id).sq 3 2).enable = true) := by decide
/-- ENABLE: a closed page, a ring in reset; cleared; a completion ring bound otherwise; an area that the MPU does not cover, and one that it does. -/
theorem witness_SubmissionRingEnable :
    let bound (s : State) : Prop := (s.cqOf 3 2).port = (s.sq 3 2).port ∧ (s.cqOf 3 2).altValid = (s.sq 3 2).altValid
    let ready (s : State) : Prop := s.pageOpen 3 = true ∧ (s.sq 3 2).resetting = false
    let shut : State := { disabled2 with mpu := [] }
    let apart : State := sqW (fun r => { r with port := 1 }) disabled2
    (hSt id).pageOpen 4 = false ∧ (resetting2.sq 3 2).resetting = true ∧ ready (hSt id) ∧ (ready apart ∧ ¬bound apart) ∧
    (ready shut ∧ bound shut ∧ (shut.sq 3 2).altValid = false ∧ shut.areaCovered 0 none 3 0x1000 1024 false = false) ∧
    (ready disabled2 ∧ bound disabled2 ∧ (disabled2.sq 3 2).altValid = false ∧ (disabled2.sq 3 2).base = 1 ∧ (disabled2.sq 3 2).log2 = 4 ∧
      disabled2.areaCovered 0 none 3 0x1000 1024 false = true) := by decide
/-- Vector 0 of tenant 3 with a counted entry pending. -/
def iv1 (s : State) : State :=
  { s with host := { s.host with iv := [(48, { Iv.reset with enable := true, p := 1, pending := true, addr := 4, counted := [⟨0, 5, some 2⟩] })] } }
/-- A completion entry that waits at port 0. -/
def cplE (n : Bool) : CplEntry := ⟨3, 2, 1, 0, 1, zeros 32, n, false⟩
def cpl1 (n : Bool) (s : State) : State := portW (fun p => { p with entries := [cplE n] }) s
/-- A due message that may go, and a vector with nothing due; DW_IV_CTRL of a closed page, and of an open one with nothing counted, with MASK, and with PENDING written 1. -/
theorem witness_InterruptVectors :
    (((hSt iv1).iv 3 0).due (hSt iv1).now = true ∧ ((((hSt iv1).iv 3 0).counted.getLast?).map (·.port)) = some 0 ∧ (hSt iv1).pair.st ≠ .gaveUp ∧
      ((hSt iv1).iv 3 0).refused ≠ some 0 ∧ (∀ c ∈ ((hSt iv1).iv 3 0).counted, c.port ≠ 0 → ((hSt iv1).port c.port).unacked c.pkt = false) ∧
      (hSt iv1).mpuFirst (4 + 0) .host ⟨.u, some 3, .write⟩ (((hSt iv1).iv 3 0).addr * 4) 4 = none) ∧
    ((hSt id).iv 3 0).due (hSt id).now = false ∧ (hSt id).pageOpen 4 = false ∧ ((hSt id).pageOpen 3 = true ∧ ((hSt id).iv 3 0).p = 0) ∧
    ((hSt iv1).pageOpen 3 = true ∧ (2 ^ 34).testBit 34 = true ∧ (2 ^ 35).testBit 35 = true ∧ (0 : Nat).testBit 33 = false) := by decide
theorem witness_CompletionEntryWritten :
    let ok (s : State) (n : Bool) : Prop := (s.port 0).entries = [cplE n] ∧ (s.port 0).hputsSent 1 = true ∧ (s.sq 3 2).held = false ∧ s.pair.st ≠ .gaveUp
    let shut : State := { hSt (cpl1 true) with mpu := [] }
    let masked : State := (hSt (fun s => iv1 (cpl1 true s))).modIv 3 0 (fun i => { i with mask := true })
    (cplE true).refused = false ∧
    (ok shut true ∧ (shut.mpuFirst (4 + 0) .host ⟨.u, some 3, .write⟩ ((shut.cq 3 1).base * 4096 + 0) 32).isSome = true) ∧
    (ok (hSt (cpl1 false)) false ∧ (hSt (cpl1 false)).mpuFirst (4 + 0) .host ⟨.u, some 3, .write⟩ (2 * 4096) 32 = none ∧ (cplE false).notify = false) ∧
    (ok (hSt (cpl1 true)) true ∧ (hSt (cpl1 true)).mpuFirst (4 + 0) .host ⟨.u, some 3, .write⟩ (2 * 4096) 32 = none ∧
      ((hSt (cpl1 true)).iv 3 ((hSt id).cq 3 1).vector).enable = false) ∧
    (ok masked true ∧ masked.mpuFirst (4 + 0) .host ⟨.u, some 3, .write⟩ (2 * 4096) 32 = none ∧ (masked.iv 3 (masked.cq 3 1).vector).enable = true ∧
      (masked.iv 3 (masked.cq 3 1).vector).mask = true) := by decide +kernel

/-- A register field written. -/
def regW (f : Field) (v : Nat) (s : State) : State := s.wr f v
/-- Two slots covered by the doorbell of ring 2, and the Proofer fetching; ring 50 is the 50th after the pointer. -/
def fetching (f : Sq → Sq) : State :=
  hSt (fun s => regW (Reg.PRF_T_QUOTA_ENTRIES 3) 8 (regW Reg.PRF_CTL_FETCH_EN 1 (sqW (fun r => f { r with tail := 2 }) s)))
/-- A D2 descriptor of program 7 with tag 9: version 2, no reserved bit. -/
def d2Bytes : Bytes := natToLe 4 (2 + 7 * 65536) ++ natToLe 4 9 ++ zeros 56
/-- Two slots covered: the MPU lets the read pass, or refuses it; eight slots at most; the ring's end; and no ring to fetch from. -/
theorem witness_DescriptorFetch :
    let place (s : State) : Prop := (49 : Nat) < 1024 ∧ (s.prf.rr + 1 + 49) % 1024 = 50 ∧ s.mayFetch 3 2 = true ∧
      (∀ j < 49, s.mayFetch ((s.prf.rr + 1 + j) % 1024 / 16) ((s.prf.rr + 1 + j) % 1024 % 16) = false)
    let shut : State := { fetching id with mpu := [] }
    (place (fetching id) ∧ ((fetching id).sq 3 2).fetchable = 2 ∧ (fetching id).mpuFirst 4 .host ⟨.u, some 3, .read⟩ 0x1000 128 = none) ∧
    (place shut ∧ (shut.mpuFirst 4 .host ⟨.u, some 3, .read⟩ 0x1000 128).isSome = true) ∧
    ((fetching (fun r => { r with tail := 16 })).sq 3 2).fetchable = 8 ∧ ((fetching (fun r => { r with head := 14, tail := 20 })).sq 3 2).fetchable = 2 := by
  decide +kernel
theorem witness_DescriptorFetch_none : ∀ i < 1024, (hSt id).mayFetch (i / 16) (i % 16) = false := by decide +kernel
/-- One slot has arrived on a D2 ring whose tenant has program 7 loaded for it. -/
def arrivedOf (b : Bytes) (f : State → State) : State :=
  f { hSt (sqW (fun r => { r with d2 := true, fetch := some ⟨1, some b, false⟩ })) with
      progs := { progs1 with images := [{ im1 with d2 := true }], loaded := [(3 * 65536 + 7, some 1)] } }
def arrived : State := arrivedOf d2Bytes id
/-- The flow context of the ring's D2 commands in line 5 of a sealed store, and a read of another of the tenant's contexts going on. -/
def flowOut : State → State := fun s =>
  { s with store := warmStore, prf := { s.prf with flows := [(3 * 2 ^ 20 + 0xFFFF2, { Flow.fresh with next := 4, oldest := 4, stored := some 5 })] } }
/-- DESCRIPTOR_ARRIVAL with the journal full, with a flow context out, with a descriptor that passes the checks, and with one that fails them (version 0). -/
theorem witness_DescriptorArrival :
    let one (b : Bytes) (s : State) : Prop := (s.sq 3 2).fetch = some ⟨1, some b, false⟩ ∧ s.journalFull = false ∧ (s.sq 3 2).d2 = true ∧
      (s.sq 3 2).carry = none ∧ s.pair.service = true ∧ s.flowsWait 3 = false
    (let s : State := arrivedOf d2Bytes (fun s => { s with pair := { s.pair with st := .protected_, journal := [⟨1, 262144⟩] } })
     (s.sq 3 2).fetch = some ⟨1, some d2Bytes, false⟩ ∧ s.journalFull = true) ∧
    (let s : State := arrivedOf d2Bytes flowOut
     one d2Bytes s ∧ (s.wantFlows 3 2 (chunks 64 (fitTo 64 d2Bytes))).2.flowsWait 3 = true) ∧
    (one d2Bytes arrived ∧ arrived.wantFlows 3 2 (chunks 64 (fitTo 64 d2Bytes)) = (true, arrived) ∧
      arrived.descFault 3 true (fitTo 64 d2Bytes) (descD2 (fitTo 64 d2Bytes) 2) = none ∧ leAt (fitTo 64 d2Bytes) 4 4 = 9) ∧
    (let s : State := arrivedOf (zeros 64) id
     one (zeros 64) s ∧ s.wantFlows 3 2 (chunks 64 (fitTo 64 (zeros 64))) = (true, s) ∧
      (s.descFault 3 true (fitTo 64 (zeros 64)) (descD2 (fitTo 64 (zeros 64)) 2)).isSome = true) := by decide +kernel
/-- Command 1 waits, command 2 runs on core 0; both have tag 9. -/
def two : State :=
  hSt (fun s => entW [en1, { en1 with id := 2, phase := .running 0 }] (coreW (fun c => { c with run := some 2 }) s))
theorem witness_CancelAndRelease :
    ((two.cancelTargets 3 2 9).map (fun e => (e.id, e.phase)) = [(1, .waiting), (2, .running 0)] ∧ (two.core 0).run = some 2) ∧
    ((hSt (entW [{ en1 with phase := .ended }])).entry? 1 = some { en1 with phase := .ended } ∧
      (hSt (entW [{ en1 with phase := .ended }])).mayRelease { en1 with phase := .ended } = true) ∧
    ((hSt (entW [en1])).entry? 1 = some en1 ∧ (hSt (entW [en1])).mayRelease en1 = false) := by decide
/-- The device at a late moment, with command 1; and at a given one. -/
def waits (e : Entry) : State := atTime 1000000000000 (hSt (entW [e]))
theorem witness_TimedOutcomes :
    let has (e : Entry) : Prop := (waits e).entry? 1 = some e ∧ e.inStore = true
    let time : Entry := { en1 with notBefore := 5 }
    let dead : Entry := { en1 with deadline := 5 }
    let late : Entry := { en1 with keys := false }
    let lateSeg : Entry := { en1 with segsOk := false }
    (has time ∧ time.notBefore ≤ (waits time).now) ∧
    (has dead ∧ dead.deadline ≠ 0 ∧ dead.deadline ≤ (waits dead).now ∧ (waits dead).tenantResetting 3 = false ∧ dead.cancelled = false) ∧
    (has late ∧ late.keys = false ∧ late.spilled = false ∧ late.opStart + (waits late).opTimeout ≤ (waits late).now ∧
      (waits late).tenantResetting 3 = false ∧ late.cancelled = false ∧ late.deadline = 0 ∧ late.member = false ∧ (waits late).randOk late = true) ∧
    (has lateSeg ∧ lateSeg.segsOk = false ∧ lateSeg.created + (waits lateSeg).opTimeout ≤ (waits lateSeg).now) ∧
    (has en1 ∧ en1.keys = true ∧ en1.tctxOk = true ∧ en1.segsOk = true ∧ (waits en1).randOk en1 = true) := by decide +kernel
/-- A store full above HIGH, its spill line writable and not yet; one below HIGH; no drain under way. -/
def full1 (r : Store) : State :=
  { hSt (fun s => regW Reg.PRF_SPILL_CFG_HIGH 1 (regW Reg.PRF_SPILL_CFG_LOW 0 (regW Reg.PRF_SPILL_AREA_LINES 1 (entW [en1, { en1 with id := 2 }] s)))) with
      store := r }
theorem witness_SpillClearDrain :
    let wants (s : State) : Bool × State :=
      s.wantLines (((State.spillSome s.prf.entries.length (s.emit .spillStarted none (Config.blockSource 0) s.onChip s.spilledCells 0)).linesOf
        ((s.prf.entries.filter (fun e => !e.spilled)).map (·.id))).map (fun n => ⟨s.rd Reg.PRF_SPILL_AREA_BASE + n, false, true, 0⟩))
    let cold : Store := { warmStore with tree := ⟨[], [(0, ⟨1, 0⟩)]⟩ }
    ((full1 warmStore).spillHigh < (full1 warmStore).onChip ∧ (full1 warmStore).rd Reg.PRF_SPILL_AREA_LINES ≠ 0 ∧ (wants (full1 warmStore)).1 = true) ∧
    ((full1 cold).spillHigh < (full1 cold).onChip ∧ (full1 cold).rd Reg.PRF_SPILL_AREA_LINES ≠ 0 ∧ (wants (full1 cold)).1 = false) ∧
    (hSt id).onChip ≤ (hSt id).spillHigh ∧ (hSt id).bit Reg.PRF_DRAIN_REQ = false := by decide +kernel
/-- Command 1 ready but for TOKEN, with clusters in service and a weight for its tenant. -/
def ready1 (b : Nat) : State :=
  let s := hSt (fun s => regW (Reg.PRF_T_PLACE_CLMASK 3) 1 (regW (Reg.PRF_T_SHARE_WEIGHT 3) 1 (entW [{ en1 with token := false }] s)))
  { s with ras := { s.ras with inService := 1 }, prf := { s.prf with bucket := [(3, b)] } }
theorem witness_Tokens :
    ((ready1 65536).headEntry 3 = some { en1 with token := false } ∧ 65536 ≤ tabGet 0 (ready1 65536).prf.bucket 3) ∧
    ((ready1 65535).headEntry 3 = some { en1 with token := false } ∧ tabGet 0 (ready1 65535).prf.bucket 3 < 65536 ∧ (ready1 65535).nextSurplus = some 3) ∧
    (hSt id).headEntry 3 = none := by decide +kernel
/-- Command 1 with every readiness bit. -/
def ready2 (e : Entry) : State :=
  let s := hSt (fun s => regW (Reg.PRF_T_PLACE_CLMASK 3) 1 (regW Reg.PRF_CTL_DISPATCH_EN 1 (regW (Reg.PRF_T_PLACE_CORE_CAP 3) 4 (entW [e] s))))
  { s with ras := { s.ras with inService := 1 }, progs := progs1 }
theorem witness_Dispatch :
    let gone : Entry := { en1 with cancelled := true }
    let dull : Entry := { en1 with token := false }
    ((ready2 gone).entry? 1 = some gone ∧ gone.inStore = true ∧ (ready2 gone).decided gone = some .cancelled) ∧
    ((ready2 dull).entry? 1 = some dull ∧ dull.inStore = true ∧ (ready2 dull).decided dull = none ∧ (ready2 dull).mayDispatch dull = false) ∧
    ((ready2 en1).entry? 1 = some en1 ∧ en1.inStore = true ∧ (ready2 en1).decided en1 = none ∧ (ready2 en1).mayDispatch en1 = true ∧
      (ready2 en1).coreChoice en1 = some 0 ∧ en1.tenant < 64) := by decide +kernel

/-! ### Witnesses: link ports, memory protection, recorder, time and entropy (chapters 12, 13, 18, 19) -/

/-- Port 0 in a state of R307. -/
def portIn (st : PortState) : State := hSt (portW (fun p => { p with st := st }))
theorem witness_LinkTraining :
    let eq3 : State := hSt (portW (fun p => { p with st := .eq, target := 3 }))
    (((portIn .disabled).port 0).st = .disabled ∧ (portIn .disabled).maintHolds 0 = false) ∧ ((portIn .detect).port 0).st ≠ .disabled ∧
    ((portIn .detect).port 0).st = .detect ∧
    (((portIn .config).port 0).st = .config ∧ min (max 1 ((portIn .config).rd (Reg.LNK_CTL_MAXGEN 0))) (max 1 (3 : Fin 4).val) ≠ 1) ∧
    (((portIn .config).port 0).st = .config ∧ min (max 1 ((portIn .config).rd (Reg.LNK_CTL_MAXGEN 0))) (max 1 (0 : Fin 4).val) = 1) ∧
    ((eq3.port 0).st = .eq ∧ 2 < (eq3.port 0).target) ∧ (((portIn .eq).port 0).st = .eq ∧ ((portIn .eq).port 0).target ≤ 2) := by decide
theorem witness_LinkRecovery :
    ((portIn .active).port 0).st = .active ∧ ((portIn .recovery).port 0).st = .recovery ∧ ((portIn .recovery).port 0).prev = some (5, 2) ∧
    ((portIn .detect).port 0).st ≠ .active := by decide
/-- A packet sent with SEQ 1 and not acknowledged. -/
def pkt1 : Pkt := ⟨1, 1, .mwr, false, 0, 1, 0, true, 0, 0, [], .none, none⟩
def unacked (n : Nat) : State := hSt (portW (fun p => { p with retry := [pkt1, { pkt1 with seq := 2 }], replays := n }))
theorem witness_LinkMessages :
    (((unacked 2).port 0).st = .active ∧ ((unacked 2).port 0).retry = [] ++ pkt1 :: [{ pkt1 with seq := 2 }] ∧ pkt1.seq = (1#16).toNat) ∧
    (((unacked 2).port 0).st = .active ∧ ((unacked 2).port 0).retry = [pkt1] ++ { pkt1 with seq := 2 } :: [] ∧ (∀ x ∈ [pkt1], x.seq ≠ (2#16).toNat)) ∧
    (((unacked 2).port 0).st = .active ∧ ((unacked 2).port 0).retry ≠ [] ∧ ((unacked 2).port 0).replays < 3) ∧
    (((unacked 3).port 0).st = .active ∧ ((unacked 3).port 0).retry ≠ [] ∧ 3 ≤ ((unacked 3).port 0).replays) ∧
    (((hSt id).port 0).st = .active ∧ ((hSt id).port 0).quiet = false) := by decide
/-- A read of a transfer of core 0 outstanding under tag 0. -/
def read1 : Read := ⟨0, .transfer 0 0 0, 0x1000, 64, [], 1, .none, 0⟩
def reading : State := atTime 1000000000000 (hSt (portW (fun p => { p with reads := [read1] })))
def lost1 : State :=
  atTime 1000000000000000 (hSt (fun s => portW (fun p => { p with st := .recovery }) (sqW (fun r => { r with altPort := 1, altValid := true }) s)))
/-- A port that has been out of ACTIVE for FO_TMO, the rings on it with port 1 as their other port; and the same with port 1 ACTIVE. -/
def lost2 (st : PortState) : State :=
  { lost1 with host := { lost1.host with
      port := tabSet Port.reset lost1.host.port 1 { Port.reset with st := st }
      cq := [(49, { Cq.reset with enable := true, base := 2, altPort := 1, altValid := true })] } }
theorem witness_LinkPacketsAndFailures :
    (((hSt id).port 0).accepts = true ∧ 32768 ≤ ((0xFFFF#16).toNat + 65536 - ((hSt id).port 0).rxSeq) % 65536) ∧
    ((reading.port 0).accepts = true ∧ (reading.port 0).reads.find? (fun r => r.tag == (0#8).toNat) = some read1 ∧ read1.use = .transfer 0 0 0 ∧
      read1.start + reading.usRaw (reading.rd (Reg.LNK_TMO_CPL_TMO 0)) ≤ reading.now) ∧
    (∀ st ∈ [PortState.detect, .active], ((lost2 st).port 0).st ≠ .active ∧ (lost2 st).bit (Reg.LNK_STAT_FAILED 0) = false ∧ ((lost2 st).port 0).prev.isSome = true ∧
      ((lost2 st).port 0).leftAt + (lost2 st).usRaw ((lost2 st).rd (Reg.LNK_TMO_FO_TMO 0)) ≤ (lost2 st).now ∧ (lost2 st).pageOpen 3 = true ∧
      ((lost2 st).sq 3 2).cur = 0 ∧ ((lost2 st).sq 3 2).held = false ∧ ((lost2 st).sq 3 2).other = some 1 ∧ ((lost2 st).cq 3 1).cur = 0 ∧
      ((lost2 st).cq 3 1).other = some 1) ∧
    (lost2 .detect).portActive 1 = false ∧ (lost2 .active).portActive 1 = true := by decide +kernel
/-- Region 0 of every MPU kind: supervisor 3 has 32 regions, port 7 has 16, and 10 and 11 are not writable. -/
theorem witness_MpuCommands :
    (hSt id).mpuWritable 3 = true ∧ (31 : Nat) < mpuRegions 3 ∧ mpuRegions 4 = 16 ∧ (hSt id).mpuWritable 9 = true ∧
    (hSt id).mpuWritable 10 = false ∧ (hSt id).mpuWritable 11 = false ∧ (hSt id).mpuWritable 203 = true ∧
    (hSt (regW (mpuLockF 0) 1)).mpuWritable 0 = false ∧ (regionOf 0 0x1000 0x1#64).covers 0x103F = true := by decide
/-- A reported event, and states of the recorder's buckets and buffer. -/
def ev1 : Event := ⟨.linkUp, none, 0xC4, 1, 5, 2, 7⟩
def rec1 : LogRec := ⟨0, 0, Ev.linkUp.code, 0, 0xFF, 0xC4, 1, 5, 2, 0⟩
def evrSt (f : Recorder → Recorder) : State := { State.reset with evr := f { Recorder.reset with inbox := [ev1] } }
theorem witness_EventsEntered :
    nextEvent (evrSt id).evr.inbox = some ev1 ∧ ownCode ev1.ev.code = false ∧ 256 ≤ (evrSt id).evr.level ev1.ev.code ∧
    (evrSt id).evr.ordinary < 1984 ∧ (tabGet (0, 0) (evrSt id).evr.supp ev1.ev.code).1 = 0 ∧
    (let s : State := evrSt (fun r => { r with buckets := [(ev1.ev.code, 255)] })
     nextEvent s.evr.inbox = some ev1 ∧ s.evr.level ev1.ev.code < 256) := by decide
theorem witness_EventsEntered_full :
    let s : State := evrSt (fun r => { r with buf := List.replicate 1984 rec1 })
    nextEvent s.evr.inbox = some ev1 ∧ ownCode ev1.ev.code = false ∧ 256 ≤ s.evr.level ev1.ev.code ∧ 1984 ≤ s.evr.ordinary := by decide +kernel
/-- A buffer of one record in flush, a full segment, a waiting SEAL request. -/
def flushing : State := evrSt (fun r => { r with buf := [rec1], flush := some ⟨0, false, 0⟩, next := 1 })
def fullSeg (n : Nat) : Segment := ⟨.full, false, List.replicate n rec1⟩
def archiving (n : Nat) : State :=
  { regW Reg.EVR_ARCH_LINES 20000 (evrSt (fun r => { r with ring := [(0, fullSeg n)] })) with store := { Store.reset with st := .opened } }
/-- The signer with a key and one request. -/
def sealing : State := { State.reset with signer := { Signer.reset with present := true, waiting := [⟨5, []⟩] } }
theorem witness_LogKept :
    (let s : State := atTime 1000000000000 flushing
     s.evr.volatileOnly = false ∧ s.evr.lastFlush + s.flushInterval ≤ s.now) ∧ flushing.evr.volatileOnly = false ∧
    flushing.now < flushing.evr.lastFlush + flushing.flushInterval ∧ flushing.evr.flush = some ⟨0, false, 0⟩ ∧
    flushing.evr.buf = [rec1] ∧ rec1.num ≤ 0 ∧ flushing.evr.fillSeg = some 0 ∧ flushing.evr.lost = [] ∧ sealing.signerReady = true ∧ sealing.signer.waiting = [⟨5, []⟩] ∧ sealing.signer.next < attLeaves ∧
    tabWf (64 * 256) flushing.evr.buckets = true := by decide +kernel
theorem archiving_full (n : Nat) : (archiving n).evr.fullSegs = [(0, fullSeg n)] ∧
    n ≤ ((archiving n).evr.fullSegs.map (fun x => x.2.recs.length)).foldl (· + ·) 0 := by
  have h : (archiving n).evr.fullSegs = [(0, fullSeg n)] := by
    show List.mergeSort [(0, fullSeg n)] _ = _
    simp
  refine ⟨h, ?_⟩
  rw [h]
  simp [fullSeg]
theorem archiving_rest (n : Nat) : (archiving n).store.st = .opened ∧
    ((archiving n).evr.archive.map ArchSegment.lines).foldl (· + ·) 0 + 72 ≤ (archiving n).rd Reg.EVR_ARCH_LINES ∧
    (archiving n).evr.seals.length ≤ 8 := ⟨rfl, by show 0 + 72 ≤ 20000; decide, Nat.zero_le _⟩
theorem witness_LogKept_archive : (archiving 8192).evr.fullSegs = [(0, fullSeg 8192)] ∧
    8192 ≤ ((archiving 8192).evr.fullSegs.map (fun x => x.2.recs.length)).foldl (· + ·) 0 ∧ (archiving 8192).store.st = .opened ∧
    ((archiving 8192).evr.archive.map ArchSegment.lines).foldl (· + ·) 0 + 72 ≤ (archiving 8192).rd Reg.EVR_ARCH_LINES ∧
    (archiving 8192).evr.seals.length ≤ 8 :=
  ⟨(archiving_full 8192).1, (archiving_full 8192).2, archiving_rest 8192⟩
/-- The time base in a state. -/
def timeSt (f : TimeBase → TimeBase) : State := { State.reset with time := f TimeBase.reset }
def trusted1 : State := timeSt (fun t => { t with state := .trusted })
def held1 : State := timeSt (fun t => { t with state := .holdover })
/-- Untrusted time in a run of pulses. -/
def run1 : State := timeSt (fun t => { t with state := .untrusted, run := 1 })
/-- The edge is due after 250,000 cycles of 4 ns; W at reset is found from TIM_WINDOW. -/
theorem witness_TimeBaseCommands :
    let missed (a : State) (late : Nat) := decide (a.time.lastEdge + a.winHold + a.edgeDue late < a.time.cyc)
    let at_ (s : State) (n : Nat) : State := s.advance n
    (trusted1.time.state = .trusted ∧ (at_ trusted1 250000).expectedEdge ≤ (at_ trusted1 250000).time.cyc + (at_ trusted1 250000).winCyc ∧
      (at_ trusted1 250000).time.cyc ≤ (at_ trusted1 250000).expectedEdge + (at_ trusted1 250000).winCyc) ∧
    (at_ trusted1 200000).time.cyc + (at_ trusted1 200000).winCyc < (at_ trusted1 200000).expectedEdge ∧
    (at_ trusted1 300000).expectedEdge + (at_ trusted1 300000).winCyc < (at_ trusted1 300000).time.cyc ∧
    (held1.time.state = .holdover ∧ (at_ held1 250000).holdoverOver = false ∧ (at_ held1 250000).edgeDistance ≤ (at_ held1 250000).winHold) ∧
    ((at_ held1 375000).holdoverOver = false ∧ (at_ held1 375000).winHold < (at_ held1 375000).edgeDistance) ∧
    (run1.time.state = .untrusted ∧ run1.time.run ≠ 0 ∧
      (at_ run1 250000).periodCyc ≤ (at_ run1 250000).time.cyc - run1.time.lastPulse + (at_ run1 250000).winCyc ∧
      (at_ run1 250000).time.cyc - run1.time.lastPulse ≤ (at_ run1 250000).periodCyc + (at_ run1 250000).winCyc) ∧
    (at_ trusted1 200000).time.cyc < (at_ trusted1 200000).expectedEdge + (at_ trusted1 200000).winCyc ∧
    (held1.time.state = .holdover ∧ (at_ held1 375000).holdoverOver = false ∧ missed (at_ held1 375000) 0 = true) ∧
    (run1.time.state = .untrusted ∧ run1.time.run ≠ 0 ∧ run1.time.lastPulse + (at_ run1 300000).periodCyc + (at_ run1 300000).winCyc ≤ (at_ run1 300000).time.cyc) ∧
    (at_ held1 25000000000000).holdoverOver = true ∧ (timeSt id).second ≤ (timeSt id).time.saveSec ∧
    (atTime (2000 * 2 ^ 24) (timeSt id)).time.saveSec < (atTime (2000 * 2 ^ 24) (timeSt id)).second ∧
    (let s : State := atTime (2 ^ 24) (timeSt id)
     s.time.edgeDone < s.tick ∧ s.time.pend = none ∧ s.bit Reg.TIM_CTL_PAIR_CMP_EN = false) ∧
    (let s : State := atTime (2 ^ 24) (timeSt (fun t => { t with pend := some (3, 1000000) }))
     s.time.edgeDone < s.tick ∧ s.time.pend = some (3, s.periodNs) ∧ s.bit Reg.TIM_CTL_PAIR_CMP_EN = false) ∧
    (let s : State := atTime (2 ^ 24) (timeSt (fun t => { t with pend := some (3, 2000000) }))
     s.time.edgeDone < s.tick ∧ s.time.pend = some (3, 2000000) ∧ 2000000 ≠ s.periodNs ∧ 2000000 < 2 ^ 30 ∧ s.bit Reg.TIM_CTL_PAIR_CMP_EN = false) ∧
    (timeSt id).tick ≤ (timeSt id).time.edgeDone := by decide +kernel
/-- The entropy block with seeds in the pool. -/
def entSt (f : Entropy → Entropy) : State := { State.reset with ent := f { Entropy.reset with pool := [zeros 32, zeros 32], first0 := true } }
theorem witness_EntropyCommands :
    let near : State := entSt (fun e => { e with inst := [(0, { Drbg.empty with st := .ready, reqs := 1048576 })] })
    let shut : State := entSt (fun e => { e with inst := [(0, { Drbg.empty with st := .blocked })] })
    ((entSt id).bit Reg.ENT_STAT_KAT_FAIL = false ∧ (entSt id).ent.pool.length < 64 ∧ (entSt id).ent.first0 = true) ∧
    ((entSt id).ent.pool = zeros 32 :: zeros 32 :: [] ∧ drbgOrder.find? (fun k => decide (((entSt id).drbg k).st = .notInst)) = some 192) ∧
    State.reset.ent.pool.length < 2 ∧ drbgOrder.find? (fun k => decide (((entSt id).drbg k).st = .notInst)) ≠ some 0 ∧
    (near.ent.pool = zeros 32 :: [zeros 32] ∧ (near.drbg 0).st = .ready ∧ near.drbgNearLimit (near.drbg 0) = true ∧ near.drbgAtLimit (near.drbg 0) = true) ∧
    (shut.ent.pool = zeros 32 :: [zeros 32] ∧ drbgOrder.find? (fun k => decide ((shut.drbg k).st = .blocked)) = some 0 ∧ (shut.drbg 0).st ≠ .ready) ∧
    State.reset.lc = .maker ∧ ({ State.reset with otp := { Otp.blank with words := [(0, 0xFF), (1, 0xFF)] } }).lc ≠ .maker := by decide +kernel
/-- A run is no longer than the bits that hold it. -/
theorem longestRun_le (l : List Bool) : longestRun l ≤ l.length := by
  have h : ∀ (l : List Bool) (k : Nat) (st : Nat × Option Bool × Nat), st.1 ≤ k → st.2.2 ≤ k →
      (l.foldl (fun (st : Nat × Option Bool × Nat) b =>
        let r := if st.2.1 = some b then st.1 + 1 else 1
        (r, some b, max r st.2.2)) st).2.2 ≤ k + l.length := by
    intro l
    induction l with
    | nil => intro k st _ h2; simpa using h2
    | cons b l ih =>
      intro k st h1 h2
      have := ih (k + 1) ((if st.2.1 = some b then st.1 + 1 else 1), some b,
        max (if st.2.1 = some b then st.1 + 1 else 1) st.2.2) (by dsimp only; split <;> omega) (by dsimp only; split <;> omega)
      rw [List.foldl_cons, List.length_cons]
      exact Nat.le_trans this (by omega)
  exact Nat.le_trans (h l 0 (0, none, 0) (Nat.le_refl _) (Nat.le_refl _)) (by omega)
/-- A window of zeros fails the run test at a cut-off of 0, and both tests pass at cut-offs that no window reaches. -/
theorem witness_EntropyCommands_window (s : State) (w : Bytes) :
    rctFails 0 (windowBits (s.sourceWindow w)) = true ∧ aptFails 0 (windowBits (s.sourceWindow w)) = true ∧
    rctFails ((windowBits (s.sourceWindow w)).length + 1) (windowBits (s.sourceWindow w)) = false ∧
    aptFails 1025 (windowBits (s.sourceWindow w)) = false := by
  refine ⟨by simp [rctFails], by simp [aptFails, parts1024, List.range_succ], ?_, ?_⟩
  · have := longestRun_le (windowBits (s.sourceWindow w))
    simp only [rctFails]
    simp; omega
  · simp only [aptFails, parts1024, List.any_eq_false, List.mem_map]
    rintro p ⟨i, _, rfl⟩
    have h := List.length_filter_le (fun b => b == ((windowBits (s.sourceWindow w)).drop (1024 * i) |>.take 1024).headD false)
      (((windowBits (s.sourceWindow w)).drop (1024 * i)).take 1024)
    have h2 : (((windowBits (s.sourceWindow w)).drop (1024 * i)).take 1024).length ≤ 1024 := by simp <;> omega
    simp only [decide_eq_true_eq, Nat.not_le]
    omega

/-! ### Witnesses: engines, units, keys, sensitive data (chapters 5 to 7) -/

/-- A point Q of P-256 for which the digest 5 has the signature (5, 5): G + Q has the x-coordinate 5 (made outside the model). -/
def ecPub : Bytes := [4#8] ++ (bytesOf ([243, 50, 250, 81, 32, 222, 98, 115, 95, 66, 152, 99, 122, 153, 4, 250] ++
  [41, 58, 151, 232, 182, 15, 36, 56, 36, 48, 74, 234, 224, 194, 64, 141]))
  ++ (bytesOf ([210, 139, 16, 66, 102, 153, 14, 178, 142, 218, 124, 51, 68, 119, 163, 83] ++
  [72, 250, 140, 232, 90, 146, 234, 105, 213, 9, 18, 255, 183, 40, 1, 107]))
/-- Cells of a string of bytes. -/
def cellsAt (a : Nat) (b : Bytes) : Memory := b.zipIdx.map (fun (x : Byte × Nat) => (a + x.2, x.1))

/-- Core 0 at K with command 1 of tenant 3 and a usage table, but for `f`. -/
def wSt (rows : List UsageRow) (f : Core → Core) : State :=
  { runK (fun c => f { c with image := 1 }) with
      mpu := [(128, openRegion), (12 * 32, wideRegion)]
      progs := { progs1 with images := [{ im1 with usage := rows }] } }
/-- A key of tenant 3. -/
def keyOf (u : Nat) (m : Char) (alg : Nat) : KeyVal := ⟨zeros (algLen alg), alg, u, m.toNat, 'E'.toNat, 0, 3, 0, none, none, 0, 0, 0⟩
/-- Key register 1. -/
def withK (k : KeyVal) : Core → Core := fun c => { c with k := [(1, some k)] }
/-- Local memory that holds bytes. -/
def withMem (a : Nat) (b : Bytes) : Core → Core := fun c => { c with mem := memWrite c.mem a b }
/-- Context 0. -/
def withCtx (x : Ctx) : Core → Core := fun c => { c with ctx := [(0, x)] }
/-- A context of a mode word under an AES key of tenant 3. -/
def ctxOf (w : Nat) (p : CtxPhase) : Ctx := { Ctx.fresh w (keyOf (chars 'D' '0') 'B' 3) with phase := p }
/-- General registers. -/
def withG (l : List (Nat × BitVec 64)) : Core → Core := fun c => { c with g := l }
/-- Operations in the engine's queue. -/
def withEng (l : List EngOp) : Core → Core := fun c => { c with eng := l }
/-- An address, a length and a destination in g2, g3 and g4. -/
def args (a b d : BitVec 64) : Core → Core := withG [(2, a), (3, b), (4, d)]

/-- A clear image of an idle CBC context under the zero AES key, whose check value is 76 3C BC DE 81. -/
def clear1 : Bytes := natToLe 8 1 ++ [1#8, 0#8, 3#8, 3#8] ++ zeros 52 ++ natToBe 5 0x763CBCDE81 ++ zeros 59
/-- A wrapped image that core 0 wrote for program 7 of tenant 3 under the zero key, as it lies in memory. -/
def wrapped1 : Wrapped := ⟨zeros 132, ctxOf 1 .idle⟩
def wrappedBytes : Bytes :=
  let x := gcmSeal (zeros 32) (zeros 12) [3#8, 7#8, 0#8, 0#8] (zeros 132)
  zeros 12 ++ x.1 ++ x.2
/-- CINIT: a good key and mode word; the mismatch; an earlier operation on the context; an empty key register. -/
theorem witness_CipherEngine_cinit :
    let key : KeyVal := keyOf (chars 'D' '0') 'B' 3
    let good : State := wSt [] (andThen (withK key) (withG [(2, 1)]))
    let busy : State := wSt [] (andThen (withEng [.load 0 Ctx.empty]) (withG [(2, 1)]))
    (good.runs 0 = true ∧ (good.getG 0 2).toNat = 1 ∧ good.kdBusy 0 1 = false ∧ good.ctxBusy 0 0 = false ∧ good.cinitCheck 0 1 1 = .inr key) ∧
    (busy.runs 0 = true ∧ busy.ctxBusy 0 0 = true ∧ busy.kdBusy 0 1 = false) ∧
    (let s : State := wSt [] (withG [(2, 1)])
     s.runs 0 = true ∧ s.kdBusy 0 1 = false ∧ s.ctxBusy 0 0 = false ∧ (s.cinitCheck 0 1 1).isLeft = true) := by decide +kernel
/-- Core 0 with a wrapped image of its own at 0x10000. -/
def loadSt : State :=
  wSt [] (andThen (andThen (fun c => { c with images := [wrapped1], ctxKey := zeros 32 }) (withMem 0x10000 wrappedBytes)) (withG [(2, 0x10000)]))
/-- What `wrappedBytes` is, byte by byte: the seal is computed once, here. -/
theorem loadSt_bytes : (loadSt.loadBytes 0 0x10000 160).1 = wrappedBytes := by decide +kernel
theorem wrapped_opens : (gcmOpen (zeros 32) (wrappedBytes.take 12) [3#8, 7#8, 0#8, 0#8] (slice wrappedBytes 12 132) (wrappedBytes.drop 144)).bind (fun m =>
    [wrapped1].find? (fun w => w.bytes == m)) = some wrapped1 := by decide +kernel
/-- CLOAD: a clear image, a wrapped image of the core's own, and one that is not. -/
theorem witness_CipherEngine_load :
    let key : KeyVal := keyOf (chars 'D' '0') 'B' 3
    let at_ : Core → Core := withG [(2, 0x10000)]
    (let s : State := wSt [] (andThen (andThen (withK key) (withMem 0x10000 clear1)) at_)
     s.runs 0 = true ∧ s.kdBusy 0 1 = false ∧ s.engRange 0 .read 0x10000 128 = true ∧ s.engFull 0 = false ∧ (s.loadBytes 0 0x10000 128).1 = clear1 ∧
       s.cinitCheck 0 1 (leAt clear1 0 8) = .inr key ∧ (clearLoad clear1 key).isSome = true) ∧
    (let img := (loadSt.loadBytes 0 0x10000 160).1
     loadSt.runs 0 = true ∧ loadSt.engRange 0 .read 0x10000 160 = true ∧ loadSt.engFull 0 = false ∧
       (gcmOpen (loadSt.core 0).ctxKey (img.take 12) (loadSt.imageBound 0) (slice img 12 132) (img.drop 144)).bind (fun m =>
         (loadSt.core 0).images.find? (fun w => w.bytes == m)) = some wrapped1) ∧
    (let s : State := wSt [] at_
     let img := (s.loadBytes 0 0x10000 160).1
     s.runs 0 = true ∧ s.engRange 0 .read 0x10000 160 = true ∧ s.engFull 0 = false ∧
       (gcmOpen (s.core 0).ctxKey (img.take 12) (s.imageBound 0) (slice img 12 132) (img.drop 144)).bind (fun m =>
         (s.core 0).images.find? (fun w => w.bytes == m)) = none) := by
  refine ⟨by decide +kernel, ⟨by decide +kernel, by decide +kernel, by decide +kernel, ?_⟩, by decide +kernel⟩
  rw [loadSt_bytes]
  exact wrapped_opens
/-- Core 0 with a context and its operands. -/
def opSt (x : Ctx) (a b d : BitVec 64) : State := wSt [] (andThen (withCtx x) (args a b d))
/-- Mode words: 1 CBC, 5 GCM, 0x25 GCM deciphering, 7 CMAC, 0x27 CMAC verifying, 11 FF1 of radix 10. -/
theorem witness_CipherEngine_civ :
    (∀ r ∈ [(ctxOf 1 .idle, 0, 16#64), (ctxOf 5 .opened, 1, 65536), (ctxOf (11 + 10 * 65536) .idle, 2, 32)],
      let s : State := opSt r.1 0x10000 r.2.2 0
      s.runs 0 = true ∧ s.ctxView 0 0 = r.1 ∧ r.1.phase ≠ .empty ∧ r.1.tenant = s.runTenant 0 ∧ civAllowed r.1 r.2.1 = true ∧
        civLenOk r.1 r.2.1 r.2.2.toNat = true ∧ s.engRange 0 .read 0x10000 r.2.2.toNat = true ∧ s.engFull 0 = false) := by decide +kernel
/-- CRUN: CBC in place; the last one of GCM with no bytes; GCM deciphering into another range, held in quarantine and released early; CMAC with g0. -/
theorem witness_CipherEngine_crun :
    (∀ r ∈ [(ctxOf 1 .opened, 0x10000#64, 16#64, 0x10000#64, false, false, 4), (ctxOf 5 .run, 0x10000, 0, 0x10000, true, false, 4),
        (ctxOf 0x25 .opened, 0x10000, 64, 0x10040, false, false, 4), (ctxOf 0x25 .opened, 0x10000, 64, 0x10040, false, true, 4),
        (ctxOf 0x25 .opened, 0x10000, 64, 0x10040, true, true, 4), (ctxOf 7 .opened, 0x10000, 16, 0, false, false, 0)],
      let s : State := opSt r.1 r.2.1 r.2.2.1 r.2.2.2.1
      let final := r.2.2.2.2.1
      let early := r.2.2.2.2.2.1
      let dst := (s.getG 0 r.2.2.2.2.2.2).toNat
      let b := r.2.2.1.toNat
      let out := crunOutLen r.1 b final
      s.runs 0 = true ∧ s.ctxView 0 0 = r.1 ∧ r.1.phase ≠ .empty ∧ r.1.phase ≠ .idle ∧ r.1.tenant = s.runTenant 0 ∧ crunAllowed r.1 final = true ∧
        crunLenOk r.1 b final = true ∧ (early = true → r.1.authDec = true) ∧ (isMac (mwMode r.1.mode) = false → dst = 0x10000 ∨ overlaps dst out 0x10000 b = false) ∧
        (r.1.authDec = true → 0 < out → s.otherWindow 0 0 dst out = false) ∧ (addExtent r.1.extents dst out).length ≤ 16 ∧
        s.engRange 0 .read 0x10000 b = true ∧ s.engRange 0 .write dst out = true ∧ s.engFull 0 = false) := by decide +kernel
/-- The tag of an empty GCM message under a zero key and a zero IV (test case 1 of the GCM specification). -/
def gcm1 : Ctx := { ctxOf 0x25 .done with nonce := zeros 12 }
def gcmTag : Bytes := bytesOf ([88, 226, 252, 206, 250, 126, 48, 97, 54, 127, 29, 87, 164, 231, 69, 90])
theorem test_gcm_tag : gcm1.tag = gcmTag := by decide +kernel
theorem witness_CipherEngine_tag :
    let ok (s : State) (x : Ctx) (kind : AccKind) : Prop := s.runs 0 = true ∧ s.ctxView 0 0 = x ∧ x.phase = .done ∧ x.tenant = s.runTenant 0 ∧
      16 = x.tagLen ∧ s.engRange 0 kind 0x10000 16 = true ∧ s.engFull 0 = false ∧ s.ctxBusy 0 0 = false
    (ok (opSt (ctxOf 5 .done) 0x10000 16 0) (ctxOf 5 .done) .write ∧ mwDir (ctxOf 5 .done).mode = 0) ∧
    (let s : State := wSt [] (andThen (andThen (withCtx gcm1) (args 0x10000 16 0)) (withMem 0x10000 gcmTag))
     ok s gcm1 .read ∧ gcm1.authDec = true ∧ (s.loadBytes 0 0x10000 16).1 = gcm1.tag) ∧
    (let s : State := opSt gcm1 0x10000 16 0
     ok s gcm1 .read ∧ gcm1.authDec = true ∧ (s.loadBytes 0 0x10000 16).1 ≠ gcm1.tag) ∧
    (ok (opSt (ctxOf 0x27 .done) 0x10000 16 0) (ctxOf 0x27 .done) .read ∧ mwDir (ctxOf 0x27 .done).mode ≠ 0 ∧ isMac (mwMode (ctxOf 0x27 .done).mode) = true) := by
  decide +kernel
theorem witness_CipherEngine_save :
    (let s : State := opSt (ctxOf 1 .idle) 0x10000 0 0
     s.runs 0 = true ∧ s.ctxView 0 0 = ctxOf 1 .idle ∧ (ctxOf 1 .idle).tenant = s.runTenant 0 ∧ mwMode (ctxOf 1 .idle).mode ≤ 4 ∧
       (ctxOf 1 .idle).usage = chars 'D' '0' ∧ (ctxOf 1 .idle).extents = [] ∧ s.engRange 0 .write 0x10000 128 = true ∧ s.engRange 0 .write 0x10000 160 = true ∧
       s.engFull 0 = false) ∧
    (let x : Ctx := { ctxOf 0x25 .run with extents := [(0x10000, 64)] }
     let s : State := opSt x 0x10000 0 0
     s.runs 0 = true ∧ s.ctxView 0 0 = x ∧ x.phase ≠ .empty ∧ x.tenant = s.runTenant 0 ∧ x.extents ≠ []) := by decide +kernel
/-- Operations at the head of the engine's queue: none; one that waits for its context key; each kind that does not wait, among them a CRUN that wraps its counter. -/
theorem witness_EngineOperations :
    let at_ (o : EngOp) (x : Ctx) : State := wSt [] (andThen (withCtx x) (andThen (withEng [o]) (fun c => { c with ctxKey := zeros 32 })))
    let first (o : EngOp) (x : Ctx) : Prop := ((at_ o x).core 0).eng = o :: [] ∧ (at_ o x).opWaits 0 o = false ∧ (at_ o x).ctx 0 0 = x
    let wrap : Ctx := { ctxOf 5 .opened with chain := zeros 12 ++ [255#8, 255#8, 255#8, 255#8], nonce := zeros 12 }
    ((wSt [] id).core 0).eng = [] ∧
    (let o := EngOp.save 0 0x10000 true .idle 0
     ((wSt [] (withEng [o])).core 0).eng = o :: [] ∧ (wSt [] (withEng [o])).opWaits 0 o = true) ∧
    first (.save 0 0x10000 false .idle 0) (ctxOf 1 .idle) ∧ first (.save 0 0x10000 true .idle 0) (ctxOf 1 .idle) ∧
    first (.load 0 (ctxOf 1 .idle)) Ctx.empty ∧ first (.tag 0 0x10000 16) (ctxOf 5 .done) ∧
    (first (.crun 0 0x10000 0x10000 16 false false none) (ctxOf 1 .run) ∧
      ((ctxOf 1 .run).crun (memRead ((at_ (.crun 0 0x10000 0x10000 16 false false none) (ctxOf 1 .run)).core 0).mem 0x10000 16) false).isRight = true) ∧
    (first (.civ 0 0 0x10000 12) (ctxOf 5 .idle) ∧ ((ctxOf 5 .idle).civ 0 (zeros 12)).isRight = true) ∧
    (first (.crun 0 0x10000 0x10000 80 false false none) wrap ∧ (wrap.crun (zeros 80) false).isLeft = true) := by decide +kernel
theorem witness_EngineOperations_kat :
    (let s : State := hSt (fun s => regW Reg.PRF_DRAIN_REQ 1 (regW Reg.PRF_DRAIN_CLUSTER 0 s))
     s.bit (Reg.CLU_ENG_KAT_START 0 0) = false ∧ (s.core 0).run = none ∧ s.drainDone 0 = true) ∧
    (hSt (regW (Reg.CLU_ENG_KAT_START 23 7) 1)).bit (Reg.CLU_ENG_KAT_START (191 / 8) (191 % 8)) = true ∧
    (hSt id).bit (Reg.CLU_ENG_KAT_START 0 0) = false := by decide +kernel
/-- A request to verify the signature: digest at 0x10100, signature at 0x10200, key at 0x10400, block at 0x10000. -/
def ecReq : UnitReq :=
  ⟨0x009, false, 0, 0x10000, natToLe 4 0 ++ natToLe 4 32 ++ natToLe 8 0x10100 ++ natToLe 4 64 ++ natToLe 4 0 ++ natToLe 8 0x10200
    ++ natToLe 8 0x10600 ++ natToLe 8 0x10400 ++ zeros 8 ++ natToLe 8 2, 0⟩
def ecSt : State :=
  let s := wSt [] (fun c => { c with mem := [(0x1011F, 5#8), (0x1021F, 5#8), (0x1023F, 5#8)] ++ cellsAt 0x10400 ecPub })
  { s with clus := [(0, { Cluster.reset with busy := some (0, ecReq) })] }
theorem witness_UnitsEnd :
    (ecSt.cluster 0).busy = some (0, ecReq) ∧ ((ecSt.unitResult 0 0 ecReq).map (·.1)) = some (.good [] none none) := by decide +kernel
/-- A request waits at requester 2 of cluster 0. -/
def mauSt : State := { hSt id with clus := [(0, { Cluster.reset with mau := [(2, [ecReq])] })] }
theorem witness_UnitsEnd_start :
    (mauSt.cluster 0).busy = none ∧
    (List.range 9).findSome? (fun k => (mauSt.mauHead 0 (((mauSt.cluster 0).turn + 1 + k) % 9)).map (fun r =>
      (((mauSt.cluster 0).turn + 1 + k) % 9, r))) = some (2, ecReq) := by
  decide +kernel
/-- A hash request of SHA-256 over 3 bytes. -/
def hashReq : UnitReq :=
  ⟨1, false, 0, 0x10000, natToLe 4 0 ++ natToLe 4 3 ++ natToLe 8 0x10100 ++ natToLe 4 0 ++ natToLe 4 32 ++ zeros 8 ++ natToLe 8 0x10600 ++ zeros 24, 0⟩
theorem witness_UnitsEnd_hash :
    let s : State := wSt [] (fun c => { c with hreqs := [hashReq] })
    (s.core 0).hreqs = hashReq :: [] ∧ hashReq.more = false ∧ (s.core 0).hashHeld = none ∧ s.unitRange 0 0 .read hashReq.in0 hashReq.in0Len = true ∧
    hashReq.in0Len ≤ 65536 ∧ s.unitRange 0 0 .write hashReq.out hashReq.outLen = true ∧ hashLen hashReq.func = some 32 ∧
    32 ≤ hashReq.outLen ∧ (s.core 0).eng = [] := by decide +kernel
theorem witness_UnitRequests :
    (let s : State := wSt [] (withG [(2, 0x1FFC0)])
     s.runs 0 = true ∧ (s.getG 0 2).toNat % 8 = 0 ∧ s.userStoreOk 0 0x1FFC0 64 = true ∧ (tabGet [] (s.cluster 0).mau 0).length < 2 ∧ s.kdBusy 0 15 = false ∧
       1 ≤ (1#8).toNat ∧ (7#8).toNat ≤ 7 ∧ (s.core 0).hreqs.length < 2) ∧
    (tabGet [] ((hSt id).cluster 23).mau 8).length < 16 ∧
    16 ≤ (tabGet [] (({ hSt id with clus := [(23, { Cluster.reset with mau := [(8, List.replicate 16 ecReq)] })] } : State).cluster 23).mau 8).length := by
  decide +kernel

/-- The usage table rows that keys made by a program match. -/
def rows1 : List UsageRow := [⟨chars 'D' '0', 0x2A, 0⟩, ⟨chars 'E' '0', 0x2A, 0⟩]
/-- g2 and g3. -/
def g23 (a b : BitVec 64) : Core → Core := fun c => { c with g := [(2, a), (3, b)] }
/-- Command 1 with the key `key1` in slot 3, which its image may use. -/
def slotSt : State :=
  let s := wSt [⟨key1.usage, 0x58, 8⟩] (g23 3 0)
  entW [{ en1 with phase := .running 0, handles := [none, none, none, some 0], resolved := [none, none, none, some key1] }] s
/-- The hypotheses that every key instruction has. -/
def keyOk (s : State) : Bool := s.runs 0 && !s.kdBusy 0 0 && !s.kdBusy 0 1
theorem witness_KeyInstructions_load :
    keyOk slotSt = true ∧ (slotSt.getG 0 2).toNat = 3 ∧ (slotSt.coreEntry 0).isSome = true ∧
    (slotSt.coreEntry 0).bind (fun e => (e.slotKey 3)) = some { key1 with slot := 3 } ∧
    slotSt.bindCheck (slotSt.usageRows 0) 3 { key1 with slot := 3 } = none := by decide +kernel
/-- Key register 1 with a protection key, key register 0 with a key that may leave, random bytes at hand. -/
def kbpk1 : KeyVal := keyOf (chars 'K' '0') 'B' 3
def wrapOf (m : Bytes) (a : Nat) : State :=
  { wSt rows1 (andThen (withMem 0x10000 m) (fun c => { c with k := [(0, some (keyOf (chars 'D' '0') 'B' 3)), (1, some kbpk1)], g := [(2, BitVec.ofNat 64 a), (3, 112)] })) with
      ent := { Entropy.reset with inst := [(0, drbg1)] } }
def wrapSt : State := wrapOf [] 0x10000
/-- KATTR and KCHK of a key of the running tenant, and of an empty register. -/
theorem witness_KeyInstructions_attributes :
    (keyOk wrapSt = true ∧ wrapSt.kreg 0 1 = some kbpk1 ∧ kbpk1.tenant = wrapSt.runTenant 0) ∧
    (let s : State := wSt [] id
     keyOk s = true ∧ s.kreg 0 1 = none) := by decide +kernel
theorem witness_KeyInstructions_wrap :
    keyOk wrapSt = true ∧ pairOk 2 = true ∧ wrapSt.kreg 0 0 = some (keyOf (chars 'D' '0') 'B' 3) ∧ (keyOf (chars 'D' '0') 'B' 3).tenant = wrapSt.runTenant 0 ∧
    wrapSt.useKey 0 1 [chars 'K' '0', chars 'K' '1'] (modeList ['E', 'B', 'N']) = .inr kbpk1 ∧ kbpk1.alg ≠ 6 ∧
    exportRefused (keyOf (chars 'D' '0') 'B' 3) kbpk1 = false ∧ kbLen 3 16 ≤ (wrapSt.getG 0 3).toNat ∧ wrapSt.operandOk 0 0x10000 (kbLen 3 16) = true ∧
    (wrapSt.coreDraw 0 (kbPadLen 3 16)).isSome = true := by decide +kernel
/-- A key block of the key of sixteen zero bytes under the zero AES key. -/
def block1 : Bytes := ascii "D0112D0AB00E00003A3792CB7CDD4E15AA4E97E7CA23490B57BE501B2E55CA02EF619D384D079DA9068EDCF9C5BBF6A062E21E713B57972E"
theorem witness_KeyInstructions_unwrap :
    let ok (s : State) : Prop := keyOk s = true ∧ pairOk 2 = true ∧ s.useKey 0 1 [chars 'K' '0', chars 'K' '1'] (modeList ['D', 'B', 'N']) = .inr kbpk1 ∧
      kbpk1.alg ≠ 6 ∧ s.operandOk 0 0x10000 112 = true ∧ (s.getG 0 3).toNat = 112
    (ok (wrapOf block1 0x10000) ∧ ((wrapOf block1 0x10000).loadBytes 0 0x10000 112).1 = block1 ∧
      kbUnwrap 3 (zeros 16) block1 = .inr ⟨0x41, chars 'D' '0', 'B'.toNat, chars '0' '0', 'E'.toNat, zeros 16⟩ ∧ letterAlg 0x41 16 = some 3 ∧
      usageMatch ((wrapOf block1 0x10000).usageRows 0) none ⟨zeros 16, 3, chars 'D' '0', 'B'.toNat, 'E'.toNat, chars '0' '0', 3, 0, none, none, 1, 0, 0⟩ = true) ∧
    (ok wrapSt ∧ (kbUnwrap 3 (zeros 16) (wrapSt.loadBytes 0 0x10000 112).1).isLeft = true) := by decide +kernel
/-- The operands of the six rows of KDERIVE: source key, operand bytes, a good parameter and a bad one. -/
def deriveArgs : List (KeyVal × Bytes × Nat × Nat) :=
  let ksn (n : Nat) : Bytes := zeros (n - 1) ++ [1#8]
  [(keyOf (chars 'B' '0') 'X' 1, ksn 10, 0, 1), (keyOf (chars 'B' '1') 'X' 1, ksn 10, 0, 5), (keyOf (chars 'B' '0') 'X' 3, ksn 12, 0, 1),
    (keyOf (chars 'B' '1') 'X' 3, ksn 12, 2 * 65536 + 0x1000, 0x1000), (keyOf (chars 'E' '0') 'X' 3, [16#8] ++ natToBe 8 0x4111111111111111 ++ [0xFF#8, 0xFF#8, 1#8], 0, 1),
    (keyOf (chars 'E' '6') 'X' 3, [0#8, 1#8], 0, 1)]
/-- A state for one of them: the source key in k1, its operand at 0x10000, and usage rows that the derived key matches. -/
def deriveSt (i : Nat) (k : KeyVal) (m : Bytes) (p : Nat) : State :=
  let row := (deriveRows 0 0 1 2 k (fun _ => m) p)[i]?
  wSt [⟨(row.map (fun r => r.2.2.2.2.2.2.2.1)).getD 0, 0x2A, 0⟩] (andThen (andThen (withK k) (withMem 0x10000 m)) (withG [(2, 0x10000), (3, BitVec.ofNat 64 p)]))
/-- Whether the hypotheses of one of the rows hold but for the operand, and whether operand, parameter and derived key are good. -/
def deriveOk (i : Nat) (k : KeyVal) (m : Bytes) (p : Nat) (good : Bool) : Bool :=
  let s := deriveSt i k m p
  match (deriveRows 0 0 1 2 k (fun n => (s.loadBytes 0 0x10000 n).1) (s.getG 0 3).toNat)[i]? with
  | none => false
  | some r =>
    let v : KeyVal := ⟨r.2.2.2.2.2.2.1, r.2.2.2.2.2.2.2.2.2, r.2.2.2.2.2.2.2.1, r.2.2.2.2.2.2.2.2.1, 'N'.toNat, k.kver,
      s.runTenant 0, 0, k.nb, k.na, 2, 0, r.2.1⟩
    keyOk s && pairOk 2 && decide (s.useKey 0 1 r.2.2.1 (modeList ['X', 'N']) = .inr k) && r.2.2.2.1.contains k.alg && s.operandOk 0 0x10000 r.2.2.2.2.1 &&
      r.2.2.2.2.2.1 == good && (!good || usageMatch (s.usageRows 0) none v)
theorem witness_KeyInstructions_derive : (deriveArgs.zipIdx.all (fun x => deriveOk x.2 x.1.1 x.1.2.1 x.1.2.2.1 true)) = true ∧
    (deriveArgs.zipIdx.all (fun x => deriveOk x.2 x.1.1 x.1.2.1 x.1.2.2.2 false)) = true := by decide +kernel
/-- KGEN of an AES key with random bytes at hand, and with none. -/
theorem witness_KeyInstructions_generate :
    let w : Nat := 3 + chars 'D' '0' * 256 + 0x42 * 2 ^ 24
    let dry : State := { wrapOf [] w with ent := Entropy.reset }
    (keyOk (wrapOf [] w) = true ∧ ((wrapOf [] w).getG 0 2).toNat = w ∧ bitsAt w 0 8 = 3 ∧ bitsAt w 56 8 = 0 ∧ ((wrapOf [] w).coreDraw 0 (algLen 3)).isSome = true ∧
      usageMatch ((wrapOf [] w).usageRows 0) none ⟨[], 3, bitsAt w 8 16, bitsAt w 24 8, bitsAt w 32 8, bitsAt w 40 16, 3, 0, none, none, 3, 0, 0⟩ = true) ∧
    (keyOk dry = true ∧ (dry.getG 0 2).toNat = w ∧ dry.coreDraw 0 (algLen 3) = none) := by decide +kernel

/-- A PIN of tenant 3 in sensitive register 0 and a card secret in register 1, a key in k1, operands at 0x10000 and 0x10040, random bytes at hand. -/
def pin1 : SVal := ⟨1, [1, 2, 3, 4], 3⟩
def card1 : SVal := ⟨2, [1, 2, 3], 3⟩
def sensSt (k : KeyVal) (m m2 : Bytes) : State :=
  { wSt [] (andThen (andThen (withMem 0x10000 m) (withMem 0x10040 m2)) (fun c => { c with
      k := [(1, some k)], sreg := [(0, some pin1), (1, some card1)], g := [(2, 0x10000), (3, 0x10040)] })) with
      ent := { Entropy.reset with inst := [(0, drbg1)] } }
/-- The hypotheses that every instruction on sensitive data has. -/
def sensOk (s : State) : Bool := s.runs 0 && !s.kdBusy 0 1 && sOk 0 && sOk 1 && sOk 7 && pairOk 2
/-- The account number 4111111111111111 as an operand. -/
def pan1 : Bytes := [16#8] ++ natToBe 8 0x4111111111111111 ++ [0xFF#8, 0xFF#8]
def panList : List Nat := [4, 1, 1, 1, 1, 1, 1, 1, 1, 1, 1, 1, 1, 1, 1, 1]
/-- PIN 1234 for that account in format 4 under the zero AES key, and the card secret 123. -/
def pinBlock4 : Bytes := (bytesOf ([195, 182, 14, 188, 140, 18, 120, 38, 39, 139, 9, 151, 9, 21, 226, 62]))
def cardBlock : Bytes := (bytesOf ([218, 219, 74, 188, 32, 23, 233, 194, 95, 224, 161, 142, 239, 223, 23, 137]))
theorem test_pin_block_4 : pinDecode 4 3 (zeros 16) pinBlock4 panList = some [1, 2, 3, 4] := by decide +kernel
/-- A key for PIN blocks of a format, and the account number that the format needs. -/
def pinKey (m : Char) (f : Nat) : KeyVal := keyOf (chars 'P' '0') m (if f = 4 then 3 else 1)
def pinPan (f : Nat) : List Nat := if f = 1 ∨ f = 2 then [] else panList
/-- Whether the hypotheses of PBDEC of a format hold on a block at 0x10000. -/
def decOk (f : Nat) (blk : Bytes) : Bool :=
  let s : State := sensSt (pinKey 'D' f) blk pan1
  let n : Nat := if f = 4 then 16 else 8
  sensOk s && decide (s.useKey 0 1 [chars 'P' '0'] (modeList ['D', 'B', 'N']) = .inr (pinKey 'D' f)) && pinAlgOk f (pinKey 'D' f).alg && s.operandOk 0 0x10000 n &&
    (s.readPan 0 f 0x10040).map (·.1) == some (some (pinPan f)) && (s.loadBytes 0 0x10000 n).1 == blk
/-- Blocks of PIN 1234 in formats 0 to 3 under the zero key. -/
def pinBlk (f : Nat) : Bytes :=
  bytesOf (match f with
    | 0 => [82, 67, 194, 176, 152, 191, 137, 33]
    | 1 => [112, 114, 178, 74, 203, 58, 120, 31]
    | 2 => [170, 246, 77, 36, 170, 184, 182, 23]
    | _ => [244, 15, 124, 37, 251, 17, 75, 250])
theorem pinBlk0_decodes : pinDecode 0 1 (zeros 16) (pinBlk 0) panList = some [1, 2, 3, 4] := by decide +kernel
theorem pinBlk1_decodes : pinDecode 1 1 (zeros 16) (pinBlk 1) [] = some [1, 2, 3, 4] := by decide +kernel
theorem pinBlk2_decodes : pinDecode 2 1 (zeros 16) (pinBlk 2) [] = some [1, 2, 3, 4] := by decide +kernel
theorem pinBlk3_decodes : pinDecode 3 1 (zeros 16) (pinBlk 3) panList = some [1, 2, 3, 4] := by decide +kernel
theorem witness_SensitiveInstructions_decipher :
    (decOk 0 (pinBlk 0) = true ∧ decOk 1 (pinBlk 1) = true ∧ decOk 2 (pinBlk 2) = true ∧ decOk 3 (pinBlk 3) = true ∧ decOk 4 pinBlock4 = true) ∧
    (pinDecode 0 1 (zeros 16) (pinBlk 0) panList = some [1, 2, 3, 4] ∧ pinDecode 1 1 (zeros 16) (pinBlk 1) [] = some [1, 2, 3, 4] ∧
      pinDecode 2 1 (zeros 16) (pinBlk 2) [] = some [1, 2, 3, 4] ∧ pinDecode 3 1 (zeros 16) (pinBlk 3) panList = some [1, 2, 3, 4]) :=
  ⟨by decide +kernel, pinBlk0_decodes, pinBlk1_decodes, pinBlk2_decodes, pinBlk3_decodes⟩
theorem witness_SensitiveInstructions_secret :
    let s : State := sensSt (pinKey 'D' 4) cardBlock []
    sensOk s = true ∧ s.useKey 0 1 [chars 'P' '0'] (modeList ['D', 'B', 'N']) = .inr (pinKey 'D' 4) ∧ s.operandOk 0 0x10000 16 = true ∧
      (s.loadBytes 0 0x10000 16).1 = cardBlock ∧ secretDecode (zeros 16) cardBlock = some [1, 2, 3] := by decide +kernel
/-- Whether the hypotheses of PBENC of a format hold. -/
def encOk (f : Nat) : Bool :=
  let s : State := sensSt (pinKey 'E' f) [] pan1
  sensOk s && decide (s.useKey 0 1 [chars 'P' '0'] (modeList ['E', 'B', 'N']) = .inr (pinKey 'E' f)) && pinAlgOk f (pinKey 'E' f).alg &&
    decide (s.useS 0 0 (some 1) = some pin1) && s.operandOk 0 0x10000 (if f = 4 then 16 else 8) &&
    (s.readPan 0 f 0x10040).map (·.1) == some (some (pinPan f)) && ((s.readPan 0 f 0x10040).bind (fun r => r.2.coreDraw 0 16)).isSome
theorem witness_SensitiveInstructions_encipher : encOk 0 = true ∧ encOk 1 = true ∧ encOk 2 = true ∧ encOk 3 = true ∧ encOk 4 = true := by decide +kernel
/-- PIN parameters: the decimal table 0123456789012345, length 4, an offset; and value parameters: index 1 and reference value 1234. -/
def pinPar (offset : Nat) : Bytes := natToBe 8 0x0123456789012345 ++ [4#8] ++ natToBe 6 offset ++ zeros 9
def valPar : Bytes := zeros 15 ++ [1#8, 0x12#8, 0x34#8] ++ zeros 6
/-- Whether the hypotheses of PVER.OFS, PVER.GOFS and PGEN.NAT hold with a V1 key of a mode. -/
def offsOk (m : Char) : Bool :=
  let k : KeyVal := keyOf (chars 'V' '1') m 3
  let s : State := sensSt k [] (pinPar 0)
  let q := pinParams ((s.loadBytes 0 0x10000 8).2.loadBytes 0 0x10040 24).1
  sensOk s && decide (s.useS 0 0 (some 1) = some pin1) && s.operandOk 0 0x10040 24 && decide (s.useKey 0 1 [chars 'V' '1'] (modeList [m, 'C', 'N']) = .inr k) &&
    s.operandOk 0 0x10000 8 && q.offsetOk true && q.offsetOk false && decide (q.len ≤ pin1.digits.length)
theorem witness_SensitiveInstructions_verify : offsOk 'V' = true ∧ offsOk 'G' = true ∧
    (let k : KeyVal := keyOf (chars 'V' '2') 'V' 1
     let s : State := sensSt k pan1 valPar
     let q := pinParams ((s.loadBytes 0 0x10000 11).2.loadBytes 0 0x10040 24).1
     sensOk s = true ∧ s.useS 0 0 (some 1) = some pin1 ∧ s.operandOk 0 0x10040 24 = true ∧ s.useKey 0 1 [chars 'V' '2'] (modeList ['V', 'C', 'N']) = .inr k ∧
       s.operandOk 0 0x10000 11 = true ∧ panDigits (s.loadBytes 0 0x10000 11).1 = some panList ∧ q.index ≤ 9 ∧ decimal q.ref = true ∧ q.zero = true) := by
  decide +kernel
/-- PGEN.RND of 4 and 12 digits with random bytes at hand, and of 4 with none; PCMP and PLEN. -/
theorem witness_SensitiveInstructions_generate :
    let s (n : BitVec 64) : State := coreW (setR 2 n) (sensSt key1 [] [])
    let dry : State := { s 4 with ent := Entropy.reset }
    (sensOk (s 4) = true ∧ ((s 4).getG 0 2).toNat = 4 ∧ ((s 4).coreDraw 0 16).isSome = true) ∧ ((s 12).getG 0 2).toNat = 12 ∧
    (sensOk dry = true ∧ (dry.getG 0 2).toNat = 4 ∧ dry.coreDraw 0 16 = none) ∧
    ((s 4).useS 0 0 none = some pin1 ∧ (s 4).useS 0 1 none = some card1) := by decide +kernel
/-- Whether the hypotheses of the card values hold with a C0 key of a mode. -/
def cardOk (m : Char) : Bool :=
  let k : KeyVal := keyOf (chars 'C' '0') m 1
  let s : State := sensSt k (pan1 ++ natToBe 4 0x2512101F) []
  sensOk s && s.operandOk 0 0x10000 15 && (cardDigits (s.loadBytes 0 0x10000 15).1).isSome &&
    decide (s.useKey 0 1 [chars 'C' '0'] (modeList [m, 'C', 'N']) = .inr k) && s.operandOk 0 0x10040 2 && decide (s.useS 0 1 (some 2) = some card1)
theorem witness_SensitiveInstructions_card : cardOk 'G' = true ∧ cardOk 'V' = true := by decide +kernel

/-! ### Witnesses: tables, mailbox, Scale, serial port (chapters 8 to 10, 20) -/

/-- The tables changed. -/
def tabW (f : Tables → Tables) (s : State) : State := s.modTab f
/-- A prefix of four digits 4111 of tenant 3, in the TCAM or in the hash tables. -/
def svSt (tcam : Nat) (len : Nat) : State :=
  hSt (fun s => regW Reg.TBL_SV_KEY_TENANT 3 (regW Reg.TBL_SV_KEY_TCAM tcam (regW Reg.TBL_SV_KEY_LEN len (regW Reg.TBL_SV_DIG_DIGITS 0x4111000000000000 s))))
/-- With the prefix present in one or the other half of the Sieve. -/
def held (tcam : Bool) : State → State := tabW (fun t => { t with prefixes := [⟨3, [4, 1, 1, 1], tcam, 9⟩] })
/-- With the TCAM full of another tenant's prefix. -/
def fullTcam : State → State := tabW (fun t => { t with prefixes := List.replicate 8192 ⟨4, [5], true, 9⟩ })
/-- The prefix that the registers of `svSt` name. -/
def sameAs (tcam : Bool) (q : Prefix_) : Bool := q.tenant == 3 && q.tcam == tcam && q.digits == [4, 1, 1, 1]
theorem witness_SieveCommands :
    ((held false (svSt 0 4)).svOk true = true ∧ (held false (svSt 0 4)).bit Reg.TBL_SV_KEY_TCAM = false ∧
      (held false (svSt 0 4)).svDigits = [4, 1, 1, 1] ∧ (held false (svSt 0 4)).tab.prefixes.any (sameAs false) = true) ∧
    ((svSt 1 4).svOk true = true ∧ (svSt 1 4).bit Reg.TBL_SV_KEY_TCAM = true ∧ prefixCount (svSt 1 4).tab.prefixes true < 8192 ∧
      (svSt 1 4).svDigits = [4, 1, 1, 1] ∧ (svSt 1 4).tab.prefixes.any (sameAs true) = false) ∧
    ((svSt 0 3).svOk true = false ∧ (svSt 0 3).svOk false = true ∧ (svSt 0 3).tab.reload = none ∧ sieveLookup (svSt 0 3).tab 3 [4, 1, 1] = none) ∧
    ((svSt 1 20).svOk true = false ∧ (svSt 1 20).svOk false = false) ∧
    ((held true (svSt 0 4)).svOk false = true ∧ (held true (svSt 0 4)).svDigits = [4, 1, 1, 1] ∧ (held true (svSt 0 4)).tab.reload = none ∧
      sieveLookup (held true (svSt 0 4)).tab 3 [4, 1, 1, 1] = some (9, 4, 1)) := by decide +kernel
theorem not_held (s : State) (t : Nat) (d : List Nat) (h : s.tab.reload = none) : s.lookupHeld t d = false := by
  simp [State.lookupHeld, State.blockHeld, h]
theorem witness_SieveCommands_full :
    (fullTcam (svSt 1 4)).svOk true = true ∧ (fullTcam (svSt 1 4)).bit Reg.TBL_SV_KEY_TCAM = true ∧
    (fullTcam (svSt 1 4)).tab.prefixes.any (sameAs true) = false ∧ 8192 ≤ prefixCount (fullTcam (svSt 1 4)).tab.prefixes true := by
  refine ⟨by decide, by decide, ?_, ?_⟩
  · show (List.replicate 8192 (⟨4, [5], true, 9⟩ : Prefix_)).any (sameAs true) = false
    rw [List.any_replicate]; decide
  · have hc (n : Nat) : prefixCount (List.replicate n (⟨4, [5], true, 9⟩ : Prefix_)) true = n := by simp [prefixCount, List.filter_replicate]
    exact Nat.le_of_eq (hc 8192).symm
/-- A lookup is held while the block of one of its prefixes reloads. -/
theorem witness_SieveCommands_held :
    let s : State := tabW (fun t => { t with reload := some (prefixBlock 3 []) }) (svSt 0 4)
    s.svOk false = true ∧ s.lookupHeld (s.rd Reg.TBL_SV_KEY_TENANT) s.svDigits = true := by
  refine ⟨by decide, ?_⟩
  apply List.any_eq_true.2
  exact ⟨0, by decide, by simp only [State.blockHeld, decide_eq_true_eq]; rfl⟩
/-- The hash tables take a prefix where the open placement of log entry 2 has room. -/
theorem witness_SieveCommands_hash (h : Config.sieveFull [] 3 [4, 1, 1, 1] = false) :
    (svSt 0 4).svOk true = true ∧ (svSt 0 4).bit Reg.TBL_SV_KEY_TCAM = false ∧ prefixCount (svSt 0 4).tab.prefixes false < 1048576 ∧
    Config.sieveFull (((svSt 0 4).tab.prefixes.filter (fun p => !p.tcam)).map (fun (p : Prefix_) => (p.tenant, p.digits)))
      ((svSt 0 4).rd Reg.TBL_SV_KEY_TENANT) (svSt 0 4).svDigits = false := by
  refine ⟨by decide, by decide, by decide, ?_⟩
  have : (svSt 0 4).svDigits = [4, 1, 1, 1] := by decide
  rw [this]
  exact h
/-- The master key of slot 1: an AES-256 key of zeros; a record of it under handle 2 of tenant 3. -/
def mkD : MasterKey := ⟨2, zeros 32⟩
/-- A store of 64 lines that is OPEN, and one whose read 9 has come to a result. -/
def openStore : Store := { Store.reset with st := .opened, n := 64 }
def readStore (r : ReadResult) : Store := { openStore with reads := [⟨9, 1, [], false, (0, 0), r⟩] }
/-- A fetch of handle 2 whose key waits for a way, and one whose line is read. -/
def fetchSt (ready : Option KeyVal) : State :=
  { hSt (tabW (fun t => { t with fetches := [⟨3, 2, [], 9, false, ready⟩] })) with store := readStore .waiting }
/-- A learning of terminal 4. -/
def learnSt (st : InsertStep) : State := hSt (tabW (fun t => { t with inserts := [⟨3, 4, [1], st, 0⟩] }))
/-- A terminal that has aged in the bucket that the ager looks at, with a spill table of one line. -/
def aged : Term := ⟨4, 3, 1, 0, 0, 0, false, false, 0, []⟩
def ageSt : State :=
  let s := hSt (fun s => regW Reg.TBL_CTL_AGER_EN 1 (regW Reg.TBL_TT_AGE_MAXAGE 1 (regW Reg.TBL_TT_SPILL_LINES 1 (regW Reg.TBL_TT_SPILL_CHAIN 1 s))))
  { s with store := openStore, time := { s.time with state := .trusted, now := 100 }
           tab := { Tables.reset with terms := [aged], ager := s.bucketOf 3 4 } }
/-- Fetches waiting for their line and for a way of their set, none pending, and every kind of learning. -/
theorem witness_TableUpkeep_arrivals :
    let waits (s : State) : Bool := (s.inBucket (s.bucketOf 3 4)).length < 8 && !s.spillOn
    ((fetchSt none).tab.fetches.find? (fun f => f.tenant == 3 && f.handle == 2 && f.ready.isNone) = some ⟨3, 2, [], 9, false, none⟩ ∧
      ((fetchSt none).storeRead? 9).map (·.res) = some .waiting) ∧
    ((hSt id).tab.fetches.find? (fun f => f.tenant == 3 && f.handle == 2 && f.ready.isNone) = none ∧
      (hSt id).tab.fetches.find? (fun f => f.tenant == 3 && f.handle == 2 && f.ready.isSome) = none) ∧
    ((fetchSt (some key1)).tab.fetches.find? (fun f => f.tenant == 3 && f.handle == 2 && f.ready.isSome) = some ⟨3, 2, [], 9, false, some key1⟩ ∧
      ((fetchSt (some key1)).tab.cache.filter (fun c => (fetchSt (some key1)).cacheSetOf c.tenant c.handle == (fetchSt (some key1)).cacheSetOf 3 2)).length < 8) ∧
    ((learnSt (.probe 0)).tab.inserts.find? (fun n => n.tenant == 3 && n.id == 4) = some ⟨3, 4, [1], .probe 0, 0⟩ ∧
      waits (learnSt (.probe 0)) = true ∧ (learnSt (.probe 0)).bit (Reg.TBL_T_POL_LEARN 3) = false) ∧
    (let s : State := regW (Reg.TBL_T_POL_LEARN 3) 1 (learnSt (.probe 0))
     s.tab.inserts.find? (fun n => n.tenant == 3 && n.id == 4) = some ⟨3, 4, [1], .probe 0, 0⟩ ∧ waits s = true ∧ s.bit (Reg.TBL_T_POL_LEARN 3) = true) ∧
    ((learnSt (.wait aged true)).tab.inserts.find? (fun n => n.tenant == 3 && n.id == 4) = some ⟨3, 4, [1], .wait aged true, 0⟩ ∧
      waits (learnSt (.wait aged true)) = true) ∧
    ((learnSt (.soft 1)).tab.inserts.find? (fun n => n.tenant == 3 && n.id == 4) = some ⟨3, 4, [1], .soft 1, 0⟩ ∧ waits (learnSt (.soft 1)) = true) ∧
    (hSt id).tab.inserts.find? (fun n => n.tenant == 3 && n.id == 4) = none := by decide
/-- The ager off, and on without trusted time; a block whose lines must first be read, one equal to its shadow; the compare off, held and without a store; a block that
reloads. -/
theorem witness_TableUpkeep_walks :
    let bc (f : State → State) (r : Store) : State := { hSt (fun s => f (regW Reg.TBL_CTL_BC_EN 1 s)) with store := r }
    (hSt id).bit Reg.TBL_CTL_AGER_EN = false ∧
    ((hSt (regW Reg.TBL_CTL_AGER_EN 1)).bit Reg.TBL_CTL_AGER_EN = true ∧ (hSt (regW Reg.TBL_CTL_AGER_EN 1)).time.state ≠ .trusted) ∧
    ((bc id openStore).bit Reg.TBL_CTL_BC_EN = true ∧ (bc id openStore).tab.reload = none ∧ (bc id openStore).store.st = .opened ∧
      ((bc id openStore).wantLines (((bc id openStore).shadowLines 0).map (fun i => ⟨i, true, false, 0⟩))).1 = true) ∧
    ((bc id warmStore).bit Reg.TBL_CTL_BC_EN = true ∧ (bc id warmStore).tab.reload = none ∧ (bc id warmStore).store.st = .opened ∧
      ((bc id warmStore).wantLines (((bc id warmStore).shadowLines 0).map (fun i => ⟨i, true, false, 0⟩))).1 = false) ∧
    (hSt id).bit Reg.TBL_CTL_BC_EN = false ∧ ((hSt (tabW (fun t => { t with reload := some 5 }))).tab.reload = some 5 ∧ (hSt id).tab.reload = none) ∧
    (hSt id).store.st ≠ .opened := by decide +kernel
theorem digests_equal (s : State) (n : Nat) (h1 : s.tab.prefixes = s.tab.shadow) (h2 : s.tab.filter = s.tab.shadowFilter)
    (h3 : s.liveKh = s.tab.shadowKh) : (s.blockDigests n).1 = (s.blockDigests n).2 := by
  simp only [State.blockDigests, h1, h2, h3]
theorem witness_TableUpkeep_equal (s : State) (n : Nat) (h : s.tab = Tables.reset) : (s.blockDigests n).1 = (s.blockDigests n).2 :=
  digests_equal s n (by rw [h]; rfl) (by rw [h]; rfl) (by rw [State.liveKh, h]; rfl)
/-- The registers of tenant 3 are the shadow of their block. -/
theorem witness_TableUpkeep_reload :
    ([(3, [1, 2, 3])] : Table (List Nat)).filter (fun e => handleBlock e.1 == handleBlock 3) = [(3, [1, 2, 3])] := by simp
/-- An entry spilled to place 0, with its line read, and one that is to be read. -/
def spilledSt (refills : List (Nat × Nat)) : State :=
  { hSt (fun s => regW Reg.PRF_SPILL_CFG_LOW 2 ((entW [{ en1 with spilled := true, places := [0] }] s).modPrf (fun p => { p with refills := refills }))) with
      store := readStore (.good (zeros 256)) }
theorem witness_TableUpkeep_refill :
    ({ en1 with spilled := true, places := [0] } ∈ (spilledSt [(9, 1)]).prf.entries ∧ (∃ r ∈ (spilledSt [(9, 1)]).prf.refills, r.2 = en1.id) ∧
      ∀ r ∈ (spilledSt [(9, 1)]).prf.refills, r.2 = en1.id → ((spilledSt [(9, 1)]).storeRead? r.1).map (·.res) = some (.good (zeros 256))) ∧
    ((spilledSt []).onChip + (spilledSt []).refilling < (spilledSt []).rd Reg.PRF_SPILL_CFG_LOW ∧ (spilledSt []).store.st = .opened ∧
      (spilledSt []).refillNext = some { en1 with spilled := true, places := [0] } ∧ [0] ≠ ([] : List Nat)) := by
  refine ⟨⟨List.mem_singleton.2 rfl, by decide, ?_⟩, by decide, rfl, ?_, by decide⟩
  · intro r hr _
    have : r = (9, 1) := List.mem_singleton.1 hr
    rw [this]; rfl
  · rfl
theorem witness_TableUpkeep_no_refill : (hSt (regW Reg.PRF_SPILL_CFG_LOW 0)).prf.refills = [] ∧
    (hSt (regW Reg.PRF_SPILL_CFG_LOW 0)).rd Reg.PRF_SPILL_CFG_LOW ≤ (hSt (regW Reg.PRF_SPILL_CFG_LOW 0)).onChip := by decide
theorem witness_TableUpkeep_ager :
    ageSt.bit Reg.TBL_CTL_AGER_EN = true ∧ ageSt.time.state = .trusted ∧ ageSt.rd Reg.TBL_TT_AGE_MAXAGE ≠ 0 ∧
    (ageSt.inBucket ageSt.tab.ager).filter (fun x => x.refs.isEmpty && decide (x.age + ageSt.rd Reg.TBL_TT_AGE_MAXAGE < ageSt.now)) = [aged] ∧
    (ageSt.wantLines (ageSt.chainWants aged.tenant aged.id)).1 = true ∧ ((ageSt.wantLines (ageSt.chainWants aged.tenant aged.id)).2.spillPut aged).1 = true := by
  have hl : ageSt.chainLine 3 4 0 = 0 := by
    show 0 + (Config.spillHome (ageSt.rd Reg.TBL_TT_SALT_SALT) 3 4 % 1) = 0
    rw [Nat.mod_one]
  have hb : ageSt.inBucket ageSt.tab.ager = [aged] := by
    show List.filter (fun x => ageSt.bucketOf x.tenant x.id == ageSt.bucketOf 3 4) [aged] = [aged]
    simp [aged]
  have hw : ageSt.chainWants 3 4 = [⟨0, true, true, 0⟩] := by
    show [(⟨ageSt.chainLine 3 4 0, true, true, 0⟩ : Want)] = _
    rw [hl]
  have hq : (ageSt.wantLines (ageSt.chainWants 3 4)).1 = true := by rw [hw]; decide +kernel
  have hs : (ageSt.wantLines (ageSt.chainWants 3 4)).2 = ageSt := by
    rw [hw]
    have : ageSt.store = openStore := rfl
    simp only [State.wantLines]
    rw [if_pos (by decide +kernel)]
    rfl
  refine ⟨by decide, by decide, by decide, ?_, hq, ?_⟩
  · rw [hb]; decide
  · show ((ageSt.wantLines (ageSt.chainWants 3 4)).2.spillPut aged).1 = true
    rw [hs]
    have hc : ageSt.chainLines 3 4 = some [(0, zeros 256)] := by
      show (match (some [] : Option (List (Nat × Bytes))), ageSt.lineGet (ageSt.chainLine 3 4 0) with
        | some l, .good d => some ((ageSt.chainLine 3 4 0, d) :: l)
        | _, _ => none) = _
      rw [hl]
      decide +kernel
    unfold State.spillPut
    rw [if_neg (by decide)]
    dsimp only [aged]
    rw [hc]
    decide +kernel
/-- A record of the key of sixteen zero bytes, sealed under `mkD`, in the low half of its line. -/
def rec2 : Bytes :=
  (bytesOf ([1, 0, 9, 0, 2, 0, 0, 3, 3, 68, 48, 66, 69, 0, 0, 67] ++
  [16, 0, 0, 0, 0, 0, 0, 0, 0, 0, 0, 0, 0, 0, 0, 0] ++
  [0, 0, 0, 0, 0, 0, 0, 0, 118, 60, 188, 222, 129, 0, 0, 0] ++
  [0, 0, 0, 0, 0, 0, 0, 0, 0, 0, 0, 0, 0, 0, 0, 0]))
  ++ (bytesOf ([177, 195, 104, 111, 61, 241, 207, 251, 232, 24, 255, 118, 225, 211, 25, 18] ++
  [225, 85, 101, 10, 1, 217, 244, 210, 155, 208, 254, 206, 17, 80, 7, 85] ++
  [155, 29, 170, 241, 221, 60, 182, 23, 180, 181, 150, 145, 3, 115, 247, 24] ++
  [0, 0, 0, 0, 0, 0, 0, 0, 0, 0, 0, 0, 0, 0, 0, 0]))
/-- Tenant 3 with the master key in slot 1, its generation occupied and current, and an open store; but for `f`. -/
def kmSt (f : State → State) : State :=
  f { hSt (regW (Reg.TBL_KH_CFG_GENOCC 3) 2) with
      store := openStore
      keys := { Keys.reset with tenants := [(3, { ten3 with masters := [(1, some mkD)], current := [(2, some 1)], keymgmt := some 1000, export_ := some 1000 })]
                                root := some (zeros 32) } }
/-- The keys that the master key gives its records (R195). -/
def encD : Bytes := bytesOf ([24, 7, 76, 207, 213, 159, 236, 125, 136, 184, 146, 210, 126, 76, 105, 42] ++ [232, 251, 198, 100, 69, 111, 76, 169, 106, 10, 162, 245, 28, 188, 193, 241])
def macD : Bytes := bytesOf ([128, 86, 29, 208, 39, 48, 93, 1, 30, 26, 203, 4, 213, 245, 138, 176] ++ [10, 148, 224, 170, 176, 168, 90, 197, 247, 74, 76, 141, 95, 30, 3, 6])
theorem derive_encD : kbDerive (masterAlg mkD.kind) mkD.key 0 = encD := by decide +kernel
theorem derive_macD : kbDerive (masterAlg mkD.kind) mkD.key 1 = macD := by decide +kernel
theorem record2_opens : recordOpen mkD rec2 = some (zeros 32) := by
  simp only [recordOpen, derive_encD, derive_macD]
  decide +kernel
theorem record2_fault : recordFault 3 2 mkD rec2 = .inr (zeros 32) := by
  unfold recordFault
  rw [record2_opens]
  decide +kernel
theorem checkRecord_of (s : State) (t h : Nat) (line r c : Bytes) (m : MasterKey) (h1 : recordIn h line = r) (h2 : holdsRecord r = true)
    (h3 : bitAt (s.rd (Reg.TBL_KH_CFG_GENOCC t)) (recordGen r) = true) (h4 : s.master t (recordGen r) = some m) (h5 : recordFault t h m r = .inr c) :
    s.checkRecord t h line = .inr (recordKey r c) := by
  unfold State.checkRecord
  rw [h1]
  simp only [h2, h3, h4, h5]
  rfl
theorem record2_key : (kmSt id).checkRecord 3 2 (fitTo 256 rec2) = .inr (recordKey rec2 (zeros 32)) :=
  checkRecord_of _ _ _ _ rec2 _ mkD (by decide +kernel) (by decide +kernel) (by decide +kernel) rfl record2_fault
/-- The fetch of the record, whose line has arrived. -/
def arriveSt : State :=
  kmSt (fun s => { tabW (fun t => { t with fetches := [⟨3, 2, [], 9, false, none⟩] }) s with store := readStore (.good (fitTo 256 rec2)) })
theorem witness_TableUpkeep_record :
    arriveSt.tab.fetches.find? (fun f => f.tenant == 3 && f.handle == 2 && f.ready.isNone) = some ⟨3, 2, [], 9, false, none⟩ ∧
    (arriveSt.storeRead? 9).map (·.res) = some (.good (fitTo 256 rec2)) ∧ arriveSt.checkRecord 3 2 (fitTo 256 rec2) = .inr (recordKey rec2 (zeros 32)) ∧
    (arriveSt.tab.cache.filter (fun c => arriveSt.cacheSetOf c.tenant c.handle == arriveSt.cacheSetOf 3 2)).length < 8 :=
  ⟨by decide, by decide +kernel,
    checkRecord_of _ _ _ _ rec2 _ mkD (by decide +kernel) (by decide +kernel) (by decide +kernel) rfl record2_fault, by decide⟩

/-- A mailbox slot with a whole request. -/
def mbSlot (op : Nat) (b : Bytes) : MbSlot :=
  { MbSlot.reset with busy := true, port := 0, rspMax := 65536, reqLen := 16 + b.length
                      bytes := natToLe 2 op ++ zeros 2 ++ natToLe 4 b.length ++ natToLe 8 7 ++ b }
/-- A request put in a slot. -/
def served (k op : Nat) (b : Bytes) (s : State) : State := { s with keys := { s.keys with mb := tabSet MbSlot.reset s.keys.mb k (mbSlot op b) } }
/-- What `Served` asks for, in the form that can be decided. -/
def servedB (s : State) (k op : Nat) (b : Bytes) : Bool :=
  let m := s.slot k
  s.mailTurn k && m.busy && !m.held && decide (m.reads = 0) && !m.failed && decide (leAt m.bytes 0 2 = op) && decide (leAt m.bytes 2 2 = 0)
    && decide (m.bytes.drop 16 = b) && decide (leAt m.bytes 4 4 = b.length) && decide (s.gate k op b = none)
    && decide ((s.journalFull && opMirrored op b) = false)
theorem served_of (s : State) (k op : Nat) (b : Bytes) (h : servedB s k op b = true) : Served s k op b := by
  simp only [servedB, Bool.and_eq_true, decide_eq_true_eq, Bool.not_eq_true', and_assoc] at h
  exact h
/-- What `TurnedDown` asks for, in the form that can be decided. -/
def turnedB (s : State) (k op : Nat) (r : MbResult) : Bool :=
  let m := s.slot k
  s.mailReady k && s.mailTurn k && decide (leAt m.bytes 0 2 = op) &&
    ((m.failed && decide (r = .dmaError)) ||
     (!m.failed && (decide (leAt m.bytes 2 2 ≠ 0) || decide (leAt m.bytes 4 4 ≠ (m.bytes.drop 16).length)) && decide (r = .badFormat)) ||
     (!m.failed && decide (leAt m.bytes 2 2 = 0) && decide (leAt m.bytes 4 4 = (m.bytes.drop 16).length) && decide (s.gate k op (m.bytes.drop 16) = some r)))
theorem turned_of (s : State) (k op : Nat) (r : MbResult) (h : turnedB s k op r = true) : TurnedDown s k op r := by
  simp only [turnedB, Bool.and_eq_true, Bool.or_eq_true, decide_eq_true_eq, Bool.not_eq_true', and_assoc, or_assoc] at h
  exact h
/-- A slot changed. -/
def slotW (k : Nat) (f : MbSlot → MbSlot) (s : State) : State := s.modSlot k f
/-- A request turned down in each of its ways: a read that failed, a reserved field, a wrong length, and a tenant's reset, scope or absence. -/
def downOk (k op : Nat) : Bool :=
  turnedB (slotW k (fun m => { m with failed := true }) (served k op [] (hSt id))) k op .dmaError &&
  turnedB (slotW k (fun m => { m with bytes := patch m.bytes 2 [1#8] }) (served k op [] (hSt id))) k op .badFormat &&
  turnedB (slotW k (fun m => { m with bytes := patch m.bytes 4 [1#8] }) (served k op [] (hSt id))) k op .badFormat &&
  (if opDevice op ∨ k = 64 then turnedB (served 3 op [] (hSt id)) 3 op .scope || turnedB (served 64 op [] (hSt (fun s => { s with life := { s.life with wiped := true } }))) 64 op .wrongState
   else turnedB (served 4 op [] (hSt id)) 4 op .noTenant)
/-- A slot with nothing, and a slot before which another stands in the round robin. -/
def idleOk (k op : Nat) : Bool := !(hSt id).mailReady k && !(served k op [] (served 0 op [] (hSt id))).mailTurn k
theorem witness_MailboxResponse :
    let answer (s : State) : State := s.hostWrite 0 .s0 false ((s.slot 64).rsp * 8) ((responseBytes (s.slot 64).bytes .ok []).take (s.slot 64).rspMax) .s0
    (served 64 0xA0 [] (hSt (regW (Reg.LNK_STAT_FAILED 0) 1))).bit (Reg.LNK_STAT_FAILED ((served 64 0xA0 [] (hSt id)).slot 64).port) = true ∧
    ((served 64 0xA0 [] { hSt id with mpu := [(128, { openRegion with w := false })] }).mpuFirst 4 .host (mailAccess .write) 0 16).isSome = true ∧
    ((served 64 0xA0 [] (hSt id)).bit (Reg.LNK_STAT_FAILED 0) = false ∧ (served 64 0xA0 [] (hSt id)).mpuFirst 4 .host (mailAccess .write) 0 16 = none ∧
      ((responseBytes (mbSlot 0xA0 []).bytes .ok []).take 65536).length = 16) ∧
    ((answer (served 64 0xA0 [] (hSt id))).port 0).queued ((answer (served 64 0xA0 [] (hSt id))).host.nextPkt - 1) = true ∧
    (let s : State := slotW 64 (fun m => { m with rspMax := 0 }) (served 64 0xA0 [] (hSt id))
     s.mpuFirst 4 .host (mailAccess .write) 0 0 = none ∧ ((answer s).port 0).queued ((answer s).host.nextPkt - 1) = false) := by decide +kernel
theorem witness_Mailbox_down : downOk 64 0x01 = true ∧ downOk 3 0x13 = true ∧ downOk 3 0x30 = true ∧ downOk 3 0x31 = true ∧ downOk 3 0x32 = true ∧
    downOk 3 0x50 = true ∧ downOk 64 0x70 = true ∧ downOk 3 0x80 = true ∧ downOk 3 0x81 = true ∧ downOk 64 0xA0 = true := by decide +kernel
theorem witness_Mailbox_idle : idleOk 64 0x01 = true ∧ idleOk 3 0x13 = true ∧ idleOk 3 0x30 = true ∧ idleOk 3 0x31 = true ∧ idleOk 3 0x32 = true ∧
    idleOk 3 0x50 = true ∧ idleOk 64 0x70 = true ∧ idleOk 3 0x80 = true ∧ idleOk 3 0x81 = true ∧ idleOk 64 0xA0 = true := by decide +kernel
/-- The generator of S0 delivers. -/
def rngW (s : State) : State := { s with ent := { Entropy.reset with inst := [(192, drbg1)] } }
/-- A window of a region of port 0: R and W for tenant 3. -/
def winBytes : Bytes := [0#8, 2#8, 3#8, 3#8, 0#8, 0#8, 0#8, 0#8] ++ natToLe 8 0x10000 ++ natToLe 8 0x1FFFF
theorem witness_Mailbox_plain :
    (let s := served 64 0x99 [] (hSt id)
     s.mailTurn 64 = true ∧ (s.slot 64).busy = true ∧ (s.slot 64).held = false ∧ (s.slot 64).reads = 0 ∧ (s.slot 64).failed = false ∧
      leAt (s.slot 64).bytes 0 2 = 0x99 ∧ leAt (s.slot 64).bytes 2 2 = 0 ∧ (s.slot 64).bytes.drop 16 = [] ∧ leAt (s.slot 64).bytes 4 4 = 0 ∧
      s.opKnown 0x99 = false) ∧
    (servedB (served 64 0x01 [] (hSt rngW)) 64 0x01 [] = true ∧ (served 64 0x01 [] (hSt rngW)).newChallenge.isSome = true) ∧
    (servedB (served 64 0x01 [] (hSt id)) 64 0x01 [] = true ∧ (served 64 0x01 [] (hSt id)).newChallenge = none) ∧
    servedB (served 3 0x13 [] (hSt id)) 3 0x13 [] = true ∧ servedB (served 64 0xA0 [] (hSt id)) 64 0xA0 [] = true ∧
    servedB (served 3 0x50 [] (hSt id)) 3 0x50 [] = true := by decide +kernel
/-- The states of tenant 3 at a time before and after their ends. -/
theorem witness_Mailbox_expiry :
    let s : State := { hSt id with keys := { Keys.reset with tenants := [(3, { ten3 with keymgmt := some 10, export_ := some 20 })] } }
    (s.tenant 3).keymgmt = some 10 ∧ (s.tenant 3).export_ = some 20 := by decide
/-- A write of port 0, numbered 1, that it has not sent. -/
def oldWrite : State → State := portW (fun p => { p with qCore := [⟨1, 0, .mwr, false, 0, 64, 0, false, 0, 0x10000, zeros 64, .ring 3 2 0, none⟩] })
theorem witness_Mailbox_window :
    let s : State := served 64 0x70 winBytes (hSt id)
    let bad : Bytes := winBytes.take 23
    (servedB s 64 0x70 winBytes = true ∧ (s.slot 64).mark = none ∧ windowFormat winBytes = true ∧ byteAt winBytes 0 = 0 ∧
      (s.windowCommit winBytes).ringRefused 0 = false ∧ (s.windowCommit winBytes).issuedBefore 0 (s.windowCommit winBytes).host.nextPkt = false) ∧
    (servedB (served 64 0x70 bad (hSt id)) 64 0x70 bad = true ∧ windowFormat bad = false) ∧
    (let s : State := slotW 64 (fun m => { m with mark := some 2 }) (served 64 0x70 winBytes (hSt oldWrite))
     servedB s 64 0x70 winBytes = true ∧ (s.slot 64).mark = some 2 ∧ s.issuedBefore (byteAt winBytes 0) 2 = true) := by decide +kernel
/-- LOG_READ and LOG_EXPORT of the record 0. -/
def logBytes : Bytes := natToLe 8 0 ++ natToLe 4 1 ++ zeros 4
def withSigner (k : Nat) : State := served k 0x81 logBytes { hSt id with signer := sealing.signer }
theorem witness_Mailbox_log :
    (servedB (served 64 0x80 logBytes (hSt id)) 64 0x80 logBytes = true ∧ (served 64 0x80 logBytes (hSt id)).logBody 64 logBytes 2040 0 = some (0, 1)) ∧
    (servedB (withSigner 64) 64 0x81 logBytes = true ∧ (withSigner 64).logBody 64 logBytes 1872 5605 = some (0, 1) ∧
      (withSigner 64).signer.rebuilding = false ∧ (withSigner 64).signer.present = true ∧ (withSigner 64).signer.next < attLeaves ∧
      (withSigner 64).evr.buf.length < 2048) ∧
    (servedB (withSigner 3) 3 0x81 logBytes = true ∧ (withSigner 3).logBody 3 logBytes 1872 5605 = some (0, 1) ∧
      (withSigner 3).signer.rebuilding = false ∧ (withSigner 3).signer.present = true ∧ (withSigner 3).writeSeal.takeLeaf.1.isSome = true) := by
  decide +kernel
/-- A route of the prefix 4111 in the TCAM to profile 9, and a lookup of an account number. -/
def routeBytes : Bytes := [4#8, 1#8, 0x41#8, 0x11#8] ++ List.replicate 8 0xFF#8 ++ natToLe 4 9
/-- Time is good and the tenant is in KEYMGMT. -/
def mayW (s : State) : State := { s with time := { s.time with state := .trusted }, keys := { s.keys with tenants := [(3, { ten3 with keymgmt := some 1000 })] } }
/-- The same with a store: a blank one, or one in which a node has been written. -/
def mayOpen (r : Store) (s : State) : State := { mayW s with store := r }
/-- Lines whose path was never written are ready for a write, and giving up their reads changes nothing. -/
theorem blank_ready_n (n : Nat) (s : State) (l : List Nat) (h : s.store = { openStore with n := n }) :
    s.wantLines (l.map (fun i => (⟨i, false, true, 0⟩ : Want))) = (true, s) := by
  have hr : ∀ i, s.wantReady ⟨i, false, true, 0⟩ = true := by
    intro i
    have hp : s.pathLevels 0 i = [] := by
      have : ∀ k, (s.store.tree.node k).ver = 0 := by intro k; rw [h]; rfl
      simp [State.pathLevels, this]
    have hw : s.writeWaits i = false := by simp [State.writeWaits, Store.rekeying, h, openStore, Store.reset]
    unfold State.wantReady
    split
    · simp [State.needs, hp, hw]
    · rfl
  have hd : ∀ (l : List Want) (r : Store), r.reads = [] → r.checks = [] → l.foldl (fun r q => r.dropChecks q.line) r = r := by
    intro l
    induction l with
    | nil => intros; rfl
    | cons q l ih =>
      intro r h1 h2
      have : r.dropChecks q.line = r := by cases r; simp only at h1 h2; subst h1 h2; rfl
      rw [List.foldl_cons, this, ih r h1 h2]
  rw [State.wantLines, if_pos (by simp [hr])]
  have : s.modStore (fun r => (l.map (fun i => (⟨i, false, true, 0⟩ : Want))).foldl (fun r q => r.dropChecks q.line) r) = s := by
    cases s
    simp only at h
    simp only [State.modStore]
    rw [hd _ _ (by rw [h]; rfl) (by rw [h]; rfl)]
  rw [this]
theorem blank_ready (s : State) (l : List Nat) (h : s.store = openStore) :
    s.wantLines (l.map (fun i => (⟨i, false, true, 0⟩ : Want))) = (true, s) := blank_ready_n 64 s l h
/-- A store of which the counter block of its last line has been written. -/
def pathStore (L : Nat) : Store :=
  { Store.reset with st := .opened, n := L + 1, tree := ⟨[], [(nodePos (L + 1) 0 (L / 32), ⟨1, 0⟩)]⟩ }
/-- A line of which the path must be read first is not ready. -/
theorem path_waits (L : Nat) (rd : Bool) (s : State) (l : List Want) (h : s.store = pathStore L) (hl : (⟨L, rd, true, 0⟩ : Want) ∈ l) :
    (s.wantLines l).1 = false := by
  have hn : (0 : Nat) ∈ s.pathLevels 0 L := by
    have h1 : (s.store.tree.node (nodePos s.store.n 0 (L / 32 ^ 1))).ver = 1 := by
      rw [h]
      show (tabGet Node.zero [(nodePos (L + 1) 0 (L / 32), (⟨1, 0⟩ : Node))] (nodePos (L + 1) 0 (L / 32 ^ 1))).ver = 1
      rw [Nat.pow_one]
      simp [tabGet]
    have h2 : s.store.cache = [] := by rw [h]; rfl
    simp only [State.pathLevels, List.mem_filter]
    have h3 : (s.store.tree.node (nodePos s.store.n 0 (L / 32))).ver = 1 := by rw [← Nat.pow_one 32]; exact h1
    refine ⟨?_, by simp [h1, h3]⟩
    have : ∀ q : Nat → Bool, (∀ k, q k = true) → ∀ l : List Nat, l.takeWhile q = l := by
      intro q hq l
      induction l with
      | nil => rfl
      | cons a l ih => rw [List.takeWhile_cons, if_pos (hq a), ih]
    rw [this _ (by intro k; simp [h2])]
    decide
  have ⟨d, hg⟩ : ∃ d, s.lineGet L = .good d := by
    simp only [State.lineGet, h]
    rw [if_neg (by simp [pathStore]), if_neg (by simp [State.isPoisoned, State.pathPoisoned, h, pathStore, Store.reset])]
    exact ⟨_, rfl⟩
  have hw : s.wantReady ⟨L, rd, true, 0⟩ = false := by
    have hnn : s.needs ⟨L, rd, true, 0⟩ ≠ [] := by
      simp only [State.needs]
      rw [if_neg (by rw [h]; simp [pathStore, Tree.line, tabGet, Line.zero]), if_pos trivial]
      intro h0
      rw [List.map_eq_nil_iff] at h0
      rw [h0] at hn
      exact absurd hn (by simp)
    unfold State.wantReady
    rw [hg]
    have hc : s.store.checks = [] := by rw [h]; rfl
    have he : (s.needs ⟨L, rd, true, 0⟩).isEmpty = false := by simpa [List.isEmpty_iff] using hnn
    simp [he, hc]
  have ha : ¬ l.all s.wantReady = true := by
    intro ha
    have := List.all_eq_true.1 ha _ hl
    rw [hw] at this
    exact absurd this (by decide)
  rw [State.wantLines, if_neg ha]
/-- The first line of the shadow of the prefix, and a store of which that line's counter block has been written. -/
def routeLine : Nat := 16 * prefixBlock 3 [4, 1, 1, 1]
def busyStore : Store := pathStore routeLine
/-- ROUTE_SET and ROUTE_DELETE: without authority, with the store closed, with lines to be read first, and with a result. -/
theorem witness_Mailbox_routes :
    (servedB (served 3 0x30 routeBytes (hSt id)) 3 0x30 routeBytes = true ∧ (served 3 0x30 routeBytes (hSt id)).authorised 3 0 = false ∧
      servedB (served 3 0x31 routeBytes (hSt id)) 3 0x31 routeBytes = true ∧ (served 3 0x31 routeBytes (hSt id)).authorised 3 0 = false) ∧
    routeBlock routeBytes = some (true, [4, 1, 1, 1], 9) ∧
    (∀ op ∈ [0x30, 0x31], servedB (served 3 op routeBytes (hSt mayW)) 3 op routeBytes = true ∧ (served 3 op routeBytes (hSt mayW)).authorised 3 0 = true ∧
      (served 3 op routeBytes (hSt mayW)).store.st ≠ .opened) ∧
    (servedB (served 3 0x32 pan1 (hSt id)) 3 0x32 pan1 = true ∧ panDigits pan1 = some [4, 1, 1, 1, 1, 1, 1, 1, 1, 1, 1, 1, 1, 1, 1, 1] ∧
      (served 3 0x32 pan1 (hSt id)).tab.reload = none ∧ sieveLookup (served 3 0x32 pan1 (hSt id)).tab 3 [4, 1, 1, 1, 1, 1, 1, 1, 1, 1, 1, 1, 1, 1, 1, 1] = none) ∧
    (servedB (served 3 0x32 pan1 (hSt (held true))) 3 0x32 pan1 = true ∧ (served 3 0x32 pan1 (hSt (held true))).tab.reload = none ∧
      sieveLookup (served 3 0x32 pan1 (hSt (held true))).tab 3 [4, 1, 1, 1, 1, 1, 1, 1, 1, 1, 1, 1, 1, 1, 1, 1] = some (9, 4, 1)) := by decide +kernel
theorem witness_Mailbox_routes_open (op : Nat) (h : op = 0x30 ∨ op = 0x31) (f : State → State) (hf : f = id ∨ f = held true) :
    let s : State := served 3 op routeBytes (hSt (fun s => f (mayOpen openStore s)))
    servedB s 3 op routeBytes = true ∧ s.authorised 3 0 = true ∧ s.store.st = .opened ∧
      s.wantLines (s.shadowWants (routeBlocks 3 [4, 1, 1, 1])) = (true, s) := by
  refine ⟨?_, ?_, ?_, blank_ready _ _ ?_⟩ <;> rcases h with rfl | rfl <;> rcases hf with rfl | rfl <;> decide +kernel
theorem witness_Mailbox_routes_done :
    ((served 3 0x30 routeBytes (hSt (mayOpen openStore))).sieveInsert 3 true [4, 1, 1, 1] 9).1 = 0 ∧
    ((served 3 0x31 routeBytes (hSt (fun s => held true (mayOpen openStore s)))).sieveDelete 3 true [4, 1, 1, 1]).1 = 0 := by decide +kernel
theorem witness_Mailbox_routes_wait (op : Nat) :
    let s : State := served 3 op routeBytes (hSt (mayOpen busyStore))
    (s.wantLines (s.shadowWants (routeBlocks 3 [4, 1, 1, 1]))).1 = false := by
  intro s
  refine path_waits routeLine false s _ rfl ?_
  simp only [State.shadowWants, List.mem_map, List.mem_flatMap]
  refine ⟨routeLine, ⟨prefixBlock 3 [4, 1, 1, 1], ?_, ?_⟩, rfl⟩
  · simp [routeBlocks, List.mem_eraseDups]
  · simp only [State.shadowLines, List.mem_map]
    refine ⟨0, by decide, ?_⟩
    have : s.rd Reg.TBL_BC_CFG_BASE = 0 := rfl
    rw [this]
    simp [routeLine]
/-- A Scale package of generation 1 with 4 bytes of code. -/
def pkgBytes : Bytes :=
  natToLe 4 0x50554C53 ++ natToLe 2 1 ++ zeros 2 ++ natToLe 4 1 ++ natToLe 4 60 ++ natToLe 4 4 ++ zeros 44 ++ zeros 4 ++ zeros 2820
/-- A unit with Scale's cores up, and one with the seal key's digest in OTP. -/
def scaleW (f : Scale → Scale) : State := { hSt id with scale := f { Scale.reset with up := true } }
def sealedUnit : State := { scaleW id with otp := { Otp.blank with keys := [(2, [1#8])] } }
theorem witness_ScaleCommands_package (h : Config.xmssVerifyDigest [1#8] (pkgBytes.take 68) (pkgBytes.drop 68) = true) :
    (served 64 0x92 pkgBytes sealedUnit).scalePkgFault pkgBytes 1 = 0 := by
  unfold State.scalePkgFault
  rw [if_neg (by decide +kernel), if_neg (by decide +kernel)]
  exact if_pos h
theorem witness_Scale_down :
    downOk 64 0x90 = true ∧ downOk 64 0x91 = true ∧ downOk 64 0x92 = true ∧ downOk 64 0x93 = true ∧
    ((hSt id).hasScale = true ∧ (hSt id).scale.up = false) ∧
    (∀ op ∈ [0x90, 0x91, 0x92, 0x93], (slotW 64 (fun m => { m with failed := true }) (served 64 op [] (scaleW id))).scale.up = true) := by decide +kernel
theorem witness_ScaleCommands_requests :
    (let s : State := served 64 0x90 [1#8] (scaleW (fun c => { c with stmts := [[1#8], [2#8]] }))
     servedB s 64 0x90 [1#8] = true ∧ s.scale.up = true ∧ s.scale.stmts[byteAt [1#8] 0]? = some [2#8]) ∧
    (let s : State := served 64 0x91 [] (scaleW id)
     servedB s 64 0x91 [] = true ∧ s.scale.up = true ∧ s.scale.lastCut = none) ∧
    (let s : State := atTime 1000000000000000 (served 64 0x91 [] (scaleW (fun c => { c with lastCut := some 0 })))
     servedB s 64 0x91 [] = true ∧ s.scale.up = true ∧ s.scale.lastCut = some 0 ∧ 0 + s.secRaw 60 ≤ s.now) ∧
    (let s : State := served 64 0x91 [] (scaleW (fun c => { c with lastCut := some 0 }))
     servedB s 64 0x91 [] = true ∧ s.scale.up = true ∧ s.scale.lastCut = some 0 ∧ s.now < 0 + s.secRaw 60) ∧
    (servedB (served 64 0x92 pkgBytes sealedUnit) 64 0x92 pkgBytes = true ∧ (served 64 0x92 pkgBytes sealedUnit).scale.up = true ∧
      (served 64 0x92 pkgBytes sealedUnit).scale.sgen + 1 = 1) ∧
    (servedB (served 64 0x92 pkgBytes (scaleW id)) 64 0x92 pkgBytes = true ∧ (served 64 0x92 pkgBytes (scaleW id)).scale.up = true ∧
      (served 64 0x92 pkgBytes (scaleW id)).scalePkgFault pkgBytes ((scaleW id).scale.sgen + 1) = 1) ∧
    (let s : State := served 64 0x93 [] { scaleW id with signer := sealing.signer }
     servedB s 64 0x93 [] = true ∧ s.scale.up = true ∧ s.signer.rebuilding = false ∧ s.signer.present = true ∧ s.signer.next < attLeaves) ∧
    (let s : State := served 64 0x93 [] { scaleW id with signer := { sealing.signer with rebuilding := true } }
     servedB s 64 0x93 [] = true ∧ s.scale.up = true ∧ s.signer.rebuilding = true) := by decide +kernel
/-- Scale's firmware at work after a long time, with its default map. -/
def scaleLate : State := { atTime 1000000000000000 (scaleW id) with mpu := [] }
theorem witness_ScaleCommands_work :
    (scaleLate.hasScale = true ∧ scaleLate.scale.up = true ∧ scaleLate.scale.lastPersist + scaleLate.secRaw 10 ≤ scaleLate.now ∧
      scaleLate.scale.bankA.bad = false ∧ scaleLate.scale.bankB.bad = false ∧ scaleLate.scale.start + scaleLate.secRaw scaleLate.scale.interval ≤ scaleLate.now) ∧
    ((scaleW id).hasScale = true ∧ (scaleW id).scale.up = true ∧ (scaleW id).now < (scaleW id).scale.lastPersist + (scaleW id).secRaw 10 ∧
      (scaleW id).now < (scaleW id).scale.start + (scaleW id).secRaw (scaleW id).scale.interval) ∧
    ({ hSt id with otp := { Otp.blank with part := .cn } } : State).hasScale = false := by decide +kernel
/-- Without a region no access of Scale's firmware is permitted, whatever the open value of log entry 63 is. -/
theorem witness_ScaleCommands_refused : scaleLate.scaleAccess.1 = false := by
  have hb : ∀ x : MpuAccess, x.level = .u → ∀ a, (scaleLate.mpuByte 10 .supervisor x a).isSome = true := by
    intro x hx a
    have hr : scaleLate.regionAt 10 a = none := by
      have : List.range (mpuRegions 10) = [0, 1, 2, 3, 4, 5, 6, 7] := rfl
      rw [State.regionAt, this]; rfl
    unfold State.mpuByte
    rw [hr, hx]
    by_cases hu : AddrMap.supervisor.unmapped a = true
    · rw [if_pos hu]; rfl
    · rw [if_neg hu]
      cases scaleLate.bit (mpuUpd 10) <;> simp
  have hf : ∀ x : MpuAccess, x.level = .u → ∀ a, (scaleLate.mpuFirst 10 .supervisor x a 1).isSome = true := by
    intro x hx a
    have h1 : (a + 1 - 1) / 64 - a / 64 + 1 = 1 := by simp
    have h2 : List.range 1 = [0] := rfl
    rw [State.mpuFirst, if_neg (by decide), h1, h2]
    have := hb x hx (max a ((a / 64 + 0) * 64))
    obtain ⟨f, hf⟩ := Option.isSome_iff_exists.1 this
    simp only [List.findSome?, hf, Option.isSome_some]
  simp only [State.scaleAccess, State.fresh]
  split
  · rename_i h
    have := hf ⟨.u, none, if bitAt (Config.freeValue scaleLate.free).toNat 32 = true then .write else .read⟩ rfl ((Config.freeValue scaleLate.free).toNat % 2 ^ 32)
    exact absurd h (by intro hn; exact absurd (this.symm.trans (congrArg Option.isSome hn)) (by decide))
  · rfl
/-- With a region of its whole map, a read of address 0 is permitted. -/
theorem witness_ScaleCommands_access (h : Config.freeValue 0 = 0#64) : ({ scaleLate with mpu := [(320, wideRegion)] } : State).scaleAccess.1 = true := by
  have : ({ scaleLate with mpu := [(320, wideRegion)] } : State).mpuFirst 10 .supervisor ⟨.u, none, .read⟩ 0 1 = none := by decide +kernel
  show (match ({ scaleLate with mpu := [(320, wideRegion)] } : State).mpuFirst 10 .supervisor
      ⟨.u, none, if bitAt (Config.freeValue 0).toNat 32 = true then .write else .read⟩ ((Config.freeValue 0).toNat % 2 ^ 32) 1 with
    | none => (true, _)
    | some f => (false, _) : Bool × State).1 = true
  rw [h]
  have h2 : ({ scaleLate with free := 1, mpu := [(320, wideRegion)] } : State).mpuFirst 10 .supervisor ⟨.u, none, .read⟩ 0 1 = none := this
  rfl
/-- A start of Scale: with a first key to make and no generator, with one, with a key present, with a package, and up already. -/
def scaleGen (s : State) : State := { s with ent := { Entropy.reset with inst := [(195, drbg1)] } }
def restW (f : Scale → Scale) : State := { hSt id with scale := f { Scale.reset with hadKey := true } }
theorem witness_ScaleStart :
    ((restW id).hasScale = true ∧ (restW id).scale.up = false ∧ (restW id).scale.present = false ∧ (restW id).scale.hadKey = true ∧
      (restW id).drbgBytes 195 96 = none) ∧
    ((scaleGen (restW id)).hasScale = true ∧ (scaleGen (restW id)).scale.up = false ∧ (scaleGen (restW id)).scale.present = false ∧
      (scaleGen (restW id)).scale.hadKey = true ∧ ((scaleGen (restW id)).drbgBytes 195 96).isSome = true ∧ (restW id).scale.pkg = none) ∧
    (let s := restW (fun c => { c with present := true, pkg := some pkgBytes, sgen := 1 })
     s.hasScale = true ∧ s.scale.up = false ∧ s.scale.present = true ∧ s.scale.pkg = some pkgBytes ∧ s.scale.sgen = 1) := by decide +kernel
/-- The serial port in a state, enabled, with a terminal's session. -/
def cspSt (f : Csp → Csp) : State :=
  hSt (fun s => regW Reg.CSP_CTL_EN 1 (regW Reg.CSP_STAT_PRESENT 1
    { rngW s with keys := { s.keys with csp := f { Csp.reset with terminal := some 7 } }, pins := { s.pins with cspPresent := true } }))
/-- With one frame that S0 has not served. -/
def frameSt (ty : Nat) (d : Bytes) : State := cspSt (fun c => { c with frames := [⟨true, ty, 0, d⟩] })
theorem witness_SerialPort_bytes :
    ((hSt id).cspOn = false ∧ (hSt id).keys.csp.rx = [] ∧ (hSt id).keys.csp.frames = []) ∧
    ((cspSt id).cspOn = true ∧ (cspSt id).keys.csp.rx.length < 64 ∧ (cspSt id).keys.csp.tx.length < 64) ∧
    (let s := cspSt (fun c => { c with rx := zeros 64, tx := zeros 64 })
     s.cspOn = true ∧ 64 ≤ s.keys.csp.rx.length ∧ 64 ≤ s.keys.csp.tx.length) ∧
    (∀ b ∈ [0x7E#8, 0#8], (cspSt (fun c => { c with rx := [b] })).keys.csp.rx = [b] ∧ (cspSt (fun c => { c with rx := [b] })).keys.csp.asm = []) ∧
    (let s := cspSt (fun c => { c with rx := [0#8], asm := [0x7E#8, 5#8, 1#8, 0#8, 0#8, 0#8] })
     s.keys.csp.rx = [0#8] ∧ 5 < (s.keys.csp.asm ++ [0#8]).length ∧ (s.keys.csp.asm ++ [0#8]).length = 7 + leAt (s.keys.csp.asm ++ [0#8]) 3 2) := by
  decide +kernel
/-- Every frame that S0 serves, with and without a session before a HELLO, one with a bad CRC, and one that no row serves. -/
theorem witness_SerialPort_frames :
    ((frameSt 1 (zeros 8)).keys.csp.frames = [⟨true, 1, 0, zeros 8⟩] ∧ (zeros 8).length = 8 ∧ (frameSt 1 (zeros 8)).pins.cspPresent = true) ∧
    (let s := cspSt (fun c => { c with frames := [⟨true, 1, 0, zeros 8⟩], terminal := none })
     s.keys.csp.frames = [⟨true, 1, 0, zeros 8⟩] ∧ s.pins.cspPresent = true ∧ s.keys.csp.terminal = none) ∧
    ((frameSt 2 []).keys.csp.frames = [⟨true, 2, 0, []⟩] ∧ (frameSt 2 []).keys.csp.terminal.isSome = true ∧
      ((frameSt 2 []).drbgBytes 192 32).isSome = true) ∧
    ((frameSt 5 []).keys.csp.frames = [⟨true, 5, 0, []⟩] ∧ (frameSt 5 []).keys.csp.terminal.isSome = true) ∧
    (∀ n ∈ [6, 7], (frameSt n [3#8]).keys.csp.frames = [⟨true, n, 0, [3#8]⟩]) ∧
    (cspSt (fun c => { c with frames := [⟨false, 0, 0, []⟩] })).keys.csp.frames = [⟨false, 0, 0, []⟩] ∧
    ((frameSt 9 []).keys.csp.frames = [⟨true, 9, 0, []⟩] ∧ (frameSt 9 []).cspUnserved ⟨true, 9, 0, []⟩ = true) := by decide +kernel
theorem witness_SerialPort_times :
    let s (n : Nat) : State := cspSt (fun c => { c with sent := [⟨[], 0, n, 0⟩] })
    let late (s : State) : State := atTime 1000000000000000 s
    (∀ n ∈ [0, 2, 3, 4], (late (s n)).keys.csp.sent = [⟨[], 0, n, 0⟩] ∧ 0 + (late (s n)).msRaw 500 ≤ (late (s n)).now) ∧
    ((s 0).keys.csp.sent = [⟨[], 0, 0, 0⟩] ∧ (s 0).now < 0 + (s 0).msRaw 500) ∧
    ((hSt id).keys.csp.terminal = none) ∧ ((cspSt id).now < (cspSt id).keys.csp.lastFrame + (cspSt id).secRaw 120) ∧
    ((late (cspSt id)).keys.csp.terminal.isSome = true ∧ (late (cspSt id)).keys.csp.lastFrame + (late (cspSt id)).secRaw 120 ≤ (late (cspSt id)).now) := by
  decide +kernel

/-! ### Witnesses: ceremonies and commissioning (chapters 8 and 9) -/

/-- A SCRAP request of officers 1 and 2, with their common key on P-384 and their signatures, made outside the model. -/
def bodyScrap : Bytes :=
  bytesOf ([68, 67, 69, 81, 1, 8, 255, 0, 0, 0, 0, 0, 0, 0, 0, 0] ++
  [0, 0, 0, 0, 0, 0, 0, 0, 0, 0, 0, 0, 0, 0, 0, 0] ++
  [0, 0, 0, 0, 0, 0, 0, 0, 0, 0, 0, 0, 0, 0, 0, 5] ++
  [1, 0, 0, 0, 0, 0, 0, 0, 100, 0, 0, 0, 0, 0, 0, 0] ++
  [70, 185, 221, 43, 11, 168, 141, 19, 35, 59, 63, 235, 116, 62, 235, 36] ++
  [63, 205, 82, 234, 98, 184, 27, 130, 181, 12, 39, 100, 110, 213, 118, 47] ++
  [1, 0, 2, 0, 0, 0, 0, 0, 0, 0, 0, 0, 0, 0, 0, 0] ++
  [0, 0, 0, 0, 0, 0, 0, 0, 0, 0, 0, 0, 0, 0, 0, 0])
def pubScrap : Bytes :=
  bytesOf ([4, 11, 134, 75, 35, 54, 212, 74, 174, 45, 21, 227, 57, 2, 108, 24] ++
  [166, 125, 212, 91, 161, 168, 111, 144, 253, 165, 230, 240, 152, 61, 31, 219] ++
  [95, 171, 191, 26, 183, 55, 82, 15, 254, 29, 100, 24, 3, 248, 223, 139] ++
  [187, 51, 249, 190, 208, 26, 150, 23, 75, 133, 221, 31, 46, 209, 88, 88] ++
  [37, 96, 86, 162, 67, 242, 7, 242, 185, 196, 39, 64, 64, 226, 5, 143] ++
  [246, 161, 254, 61, 241, 237, 184, 50, 157, 131, 237, 246, 40, 154, 81, 208] ++
  [99])
def sigScrap : Bytes :=
  bytesOf ([39, 45, 125, 88, 139, 128, 112, 9, 35, 77, 197, 159, 180, 113, 106, 182] ++
  [151, 6, 81, 162, 231, 164, 200, 131, 46, 59, 64, 231, 207, 11, 174, 213] ++
  [32, 58, 102, 53, 197, 219, 63, 208, 126, 43, 16, 247, 177, 125, 248, 23] ++
  [39, 45, 125, 88, 139, 128, 112, 9, 35, 77, 197, 159, 180, 113, 106, 182] ++
  [151, 6, 81, 162, 231, 164, 200, 131, 46, 59, 64, 231, 207, 11, 174, 213] ++
  [32, 58, 102, 53, 197, 219, 63, 208, 126, 43, 16, 247, 177, 125, 248, 23])
def digScrap : Bytes :=
  bytesOf ([73, 20, 153, 121, 163, 161, 189, 218, 4, 35, 202, 131, 11, 194, 239, 179] ++
  [156, 214, 75, 212, 100, 108, 211, 194, 140, 175, 45, 225, 117, 197, 10, 7])
def chalScrap : Bytes := zeros 31 ++ [5#8]
def blkScrap : Bytes := [1#8, 0#8, 0#8, 0#8] ++ pubScrap ++ sigScrap
def cerScrap : Cer :=
  ⟨8, 0xFF, chalScrap, (1, 100), slice bodyScrap 64 32, (1, 2), bodyScrap, [], ((1, pubScrap, sigScrap), (1, pubScrap, sigScrap))⟩
def reqScrap : Bytes := bodyScrap ++ blkScrap ++ blkScrap
/-- The unit at device time 10, its time trusted, with a challenge outstanding, and two officers. -/
def cerSt (ch : Bytes) : State :=
  let s := hSt id
  { s with
      time := { s.time with state := .trusted, now := 10 }
      keys := { s.keys with
                  root := some (zeros 32), chals := [⟨ch, 1000⟩]
                  officers := [⟨1, 7, 1, digScrap, 0⟩, ⟨2, 7, 1, digScrap, 0⟩]
                  tenants := [(3, ten3)] } }
def stScrap : State := served 64 0x02 reqScrap (cerSt chalScrap)
theorem scrap_signature : credVerify 1 pubScrap sigScrap bodyScrap = true := by decide +kernel
theorem scrap_digest : shake256 32 pubScrap = digScrap ∧ shake256 32 [] = slice bodyScrap 64 32 := by decide +kernel
/-- The state once the challenge is used up. -/
def used (s : State) (x : Challenge) : State := s.modKeys (fun k => { k with chals := k.chals.erase x })
/-- The request is accepted: everything that `Accepted` asks for, from the two facts about its signatures and digests. -/
theorem accepted_of (s : State) (src : Nat) (b : Bytes) (c : Cer) (x : Challenge) (hsrc : src < 65) (hs : servedB s src 0x02 b = true)
    (hf : ceremonyFormat s.otp.uid b = some c)
    (hx : s.keys.chals.find? (fun x => x.value == c.challenge && decide (s.now < x.until_)) = some x) (ht : s.timeGood = true)
    (hw : ¬((used s x).now < c.window.1 ∨ c.window.2 ≤ (used s x).now ∨
      (used s x).secRaw (used s x).keys.policy.maxWin < c.window.2 - c.window.1))
    (hi : c.signers.1 ≠ c.signers.2) (h1 : (used s x).signerOk c c.signers.1 c.blocks.1 = true)
    (h2 : (used s x).signerOk c c.signers.2 c.blocks.2 = true) (g1 : credVerify c.blocks.1.1 c.blocks.1.2.1 c.blocks.1.2.2 c.body = true)
    (g2 : credVerify c.blocks.2.1 c.blocks.2.2.1 c.blocks.2.2.2 c.body = true) (hd : shake256 32 c.param = c.digest) :
    Accepted s src c (used s x) := by
  refine ⟨b, s, Or.inl ⟨hsrc, served_of s src 0x02 b hs, rfl⟩, hf, ?_, ?_⟩
  · unfold State.useChallenge; rw [hx]; rfl
  · have ht2 : (used s x).timeGood = true := ht
    simp only [State.ceremonyFault, ht2, h1, h2, g1, g2, hd, hi]
    rw [if_neg (by simp), if_neg hw]
    simp
theorem signer_ok (s : State) (c : Cer) (id : Nat) (blk : Nat × Bytes × Bytes) (cr : Credential) (hc : s.cred? id = some cr)
    (ha : cr.alg = blk.1) (hk : shake256 32 blk.2.1 = cr.digest)
    (hr : (if c.tenant = 0xFF then custodianOf id == none && bitAt cr.roles (kindRole c.kind)
       else (custodianOf id == some c.tenant && bitAt cr.roles (kindRole c.kind))
         || (decide (c.kind = 0x10) && custodianOf id == none && bitAt cr.roles roleAdmin
              && decide ((s.custodianAdmins c.tenant).length < 2))) = true) : s.signerOk c id blk = true := by
  simp only [State.signerOk, hc, Credential.isKey, ha, hk, hr]
  simp
/-- SCRAP from slot 64 is accepted, and its own conditions hold. -/
theorem witness_DeviceCeremonies :
    (∃ s2, Accepted stScrap 64 cerScrap s2) ∧ cerScrap.kind = 0x08 ∧ cerScrap.param = [] ∧ stScrap.lc.code < 4 ∧
      stScrap.pins.pwrHold = true ∧ stScrap.pins.pfailN = true ∧ stScrap.life.move = none := by
  refine ⟨⟨_, accepted_of stScrap 64 reqScrap cerScrap ⟨chalScrap, 1000⟩ (by decide) (by decide +kernel) (by decide +kernel) (by decide +kernel)
    (by decide) (by decide +kernel) (by decide) ?_ ?_ scrap_signature scrap_signature scrap_digest.2⟩, ?_⟩
  · exact signer_ok _ _ _ _ ⟨1, 7, 1, digScrap, 0⟩ (by decide +kernel) rfl scrap_digest.1 (by decide)
  · exact signer_ok _ _ _ _ ⟨2, 7, 1, digScrap, 0⟩ (by decide +kernel) rfl scrap_digest.1 (by decide)
  · decide +kernel
/-! The other kinds: a request of either signer on the open scheme of log entry 2, whose verification is the premise. -/

theorem slice_left (a b : Bytes) (o n : Nat) (h : o + n ≤ a.length) : slice (a ++ b) o n = slice a o n := by
  simp only [slice]
  rw [List.drop_append_of_le_length (by omega), List.take_append_of_le_length (by simp; omega)]
theorem leAt_left (a b : Bytes) (o n : Nat) (h : o + n ≤ a.length) : leAt (a ++ b) o n = leAt a o n := by
  simp only [leAt, slice_left a b o n h]
theorem byteAt_left (a b : Bytes) (i : Nat) (h : i < a.length) : byteAt (a ++ b) i = byteAt a i := by
  simp only [byteAt, List.getD_eq_getElem?_getD, List.getElem?_append_left h]
/-- A key and a signature of the second scheme, as strings; what they hold is in no way used. -/
def pkN : Bytes := zeros 1952
def sigN : Bytes := zeros 3309
def blkN : Bytes := [2#8, 0#8, 0#8, 0#8] ++ pkN ++ sigN
theorem pkN_length : pkN.length = 1952 := List.length_replicate
theorem sigN_length : sigN.length = 3309 := List.length_replicate
theorem blkN_length : blkN.length = 5265 := by simp only [blkN, List.length_append, pkN_length, sigN_length, List.length_cons, List.length_nil]
theorem signerBlock_blkN (rest : Bytes) : signerBlock (blkN ++ rest) = some (2, pkN, sigN, rest) := by
  have h1 : slice (blkN ++ rest) 1 3 = zeros 3 := rfl
  have h2 : byteAt (blkN ++ rest) 0 = 2 := rfl
  have e : blkN ++ rest = ([2#8, 0#8, 0#8, 0#8] ++ pkN) ++ (sigN ++ rest) := by simp only [blkN, List.append_assoc]
  have hl : ([2#8, 0#8, 0#8, 0#8] ++ pkN).length = 1956 := by simp only [List.length_append, pkN_length, List.length_cons, List.length_nil]
  have h3 : slice (blkN ++ rest) 4 1952 = pkN := by
    rw [e, slice_left _ _ _ _ (by omega)]
    show List.take 1952 pkN = pkN
    rw [List.take_of_length_le (by rw [pkN_length] <;> omega)]
  have h4 : slice (blkN ++ rest) 1956 3309 = sigN := by
    rw [e, slice, List.drop_append_of_le_length (by omega), List.drop_eq_nil_of_le (by omega), List.nil_append,
      List.take_append_of_le_length (by rw [sigN_length] <;> omega), List.take_of_length_le (by rw [sigN_length] <;> omega)]
  have h5 : (blkN ++ rest).drop 5265 = rest := by
    rw [List.drop_append_of_le_length (by rw [blkN_length] <;> omega), List.drop_eq_nil_of_le (by rw [blkN_length] <;> omega), List.nil_append]
  have h6 : 5265 ≤ (blkN ++ rest).length := by rw [List.length_append, blkN_length] <;> omega
  unfold signerBlock
  simp only [h1, h2]
  rw [if_neg (fun h => by rcases h with h | h; (· omega); (· exact absurd h (by decide))), if_neg (by decide), if_pos trivial]
  simp only [Nat.reduceAdd]
  rw [if_neg (by omega), h3, h4, h5]
/-- The 128 bytes of a request of a kind for a tenant by two signers, with its parameter block's digest: what stands before and after it. -/
def headA (kind tenant : Nat) : Bytes :=
  natToLe 4 0x51454344 ++ natToLe 1 1 ++ natToLe 1 kind ++ natToLe 1 tenant ++ zeros 9 ++ zeros 32 ++ natToLe 8 1 ++ natToLe 8 100
def headB (i j : Nat) (param : Bytes) : Bytes := natToLe 2 i ++ natToLe 2 j ++ natToLe 4 param.length ++ zeros 24
def headN (kind tenant i j : Nat) (param : Bytes) : Bytes := headA kind tenant ++ (shake256 32 param ++ headB i j param)
def reqN (h param : Bytes) : Bytes := h ++ (param ++ (blkN ++ blkN))
def cerN (kind tenant i j : Nat) (param : Bytes) : Cer :=
  ⟨kind, tenant, zeros 32, (1, 100), shake256 32 param, (i, j), headN kind tenant i j param, param, ((2, pkN, sigN), (2, pkN, sigN))⟩
/-- What the head of a request must say, in the form that can be decided. -/
def headOk (kind tenant i j : Nat) (param : Bytes) : Bool :=
  let a := headA kind tenant
  let b := headB i j param
  decide (a.length = 64) && decide (b.length = 32) && decide (leAt b 4 4 = param.length) && decide (byteAt a 5 = kind) && decide (byteAt a 6 = tenant)
    && decide (leAt a 0 4 = 0x51454344) && decide (byteAt a 4 = 1) && decide (byteAt a 7 = 0) && decide (leAt a 8 8 = 0) && decide (param.length ≤ 8192)
    && allZero (slice b 8 24) && decide (slice a 16 32 = zeros 32) && decide (leAt a 48 8 = 1) && decide (leAt a 56 8 = 100)
    && decide (leAt b 0 2 = i) && decide (leAt b 2 2 = j)
    && decide (kindDevice kind = some true ∧ tenant = 0xFF ∨ kindDevice kind = some false ∧ tenant < 64)
theorem slice_right (a b : Bytes) (o n k : Nat) (h : a.length = k) : slice (a ++ b) (k + o) n = slice b o n := by
  simp only [slice]
  rw [← h, List.drop_append]
  rw [List.drop_eq_nil_of_le (by omega), List.nil_append]
  congr 2
  omega
theorem format_reqN (kind tenant i j : Nat) (param : Bytes) (h : headOk kind tenant i j param = true) :
    ceremonyFormat 0 (reqN (headN kind tenant i j param) param) = some (cerN kind tenant i j param) ∧ (headN kind tenant i j param).length = 128 ∧
      param.length ≤ 8192 := by
  simp only [headOk, Bool.and_eq_true, decide_eq_true_eq, and_assoc] at h
  obtain ⟨la, lb, hn, hk, ht, hm, hv, hr, hu, hp, hz, hc, hw1, hw2, hi, hj, hs⟩ := h
  have ls : (shake256 32 param).length = 32 := shake256_length 32 param (by omega)
  have hl : (headN kind tenant i j param).length = 128 := by simp only [headN, List.length_append, la, lb, ls]
  have hd : slice (headN kind tenant i j param) 64 32 = shake256 32 param := by
    rw [headN, slice_right _ _ 0 32 64 la, slice_left _ _ _ _ (by omega), slice, List.drop_zero, List.take_of_length_le (by omega)]
  have hB (o n : Nat) : slice (headN kind tenant i j param) (96 + o) n = slice (headB i j param) o n := by
    rw [headN, ← List.append_assoc, slice_right _ _ o n 96 (by simp only [List.length_append, la, ls])]
  have hA (o n : Nat) (h : o + n ≤ 64) : slice (headN kind tenant i j param) o n = slice (headA kind tenant) o n :=
    slice_left _ _ _ _ (by omega)
  have hA1 (o : Nat) (h : o < 64) : byteAt (headN kind tenant i j param) o = byteAt (headA kind tenant) o := byteAt_left _ _ _ (by omega)
  simp only [leAt] at hn hm hu hw1 hw2 hi hj
  rw [← hB 4 4] at hn
  rw [← hB 8 24] at hz
  rw [← hB 0 2] at hi
  rw [← hB 2 2] at hj
  rw [← hA 0 4 (by omega)] at hm
  rw [← hA 8 8 (by omega)] at hu
  rw [← hA 48 8 (by omega)] at hw1
  rw [← hA 56 8 (by omega)] at hw2
  rw [← hA 16 32 (by omega)] at hc
  rw [← hA1 4 (by omega)] at hv
  rw [← hA1 5 (by omega)] at hk
  rw [← hA1 6 (by omega)] at ht
  rw [← hA1 7 (by omega)] at hr
  refine ⟨?_, hl, hp⟩
  have hd1 : (reqN (headN kind tenant i j param) param).drop (128 + param.length) = blkN ++ blkN := by
    rw [reqN, ← List.append_assoc, List.drop_append_of_le_length (by simp [hl]), List.drop_eq_nil_of_le (by simp [hl]), List.nil_append]
  have hpar : slice (reqN (headN kind tenant i j param) param) 128 param.length = param := by
    rw [reqN, slice, List.drop_append_of_le_length (by omega), List.drop_eq_nil_of_le (by omega), List.nil_append,
      List.take_append_of_le_length (Nat.le_refl _), List.take_of_length_le (Nat.le_refl _)]
  have htk : (reqN (headN kind tenant i j param) param).take 128 = headN kind tenant i j param := by
    rw [reqN, List.take_append_of_le_length (by omega), List.take_of_length_le (by omega)]
  have hlen : (reqN (headN kind tenant i j param) param).length = 128 + param.length + 10530 := by
    simp only [reqN, List.length_append, hl, blkN_length]; omega
  unfold ceremonyFormat
  rw [reqN] at hpar htk ⊢
  simp only [leAt, slice_left _ _ 100 4 (show 100 + 4 ≤ (headN kind tenant i j param).length by omega), hn,
    slice_left _ _ 0 4 (show 0 + 4 ≤ (headN kind tenant i j param).length by omega), hm,
    slice_left _ _ 8 8 (show 8 + 8 ≤ (headN kind tenant i j param).length by omega), hu,
    slice_left _ _ 48 8 (show 48 + 8 ≤ (headN kind tenant i j param).length by omega), hw1,
    slice_left _ _ 56 8 (show 56 + 8 ≤ (headN kind tenant i j param).length by omega), hw2,
    slice_left _ _ 96 2 (show 96 + 2 ≤ (headN kind tenant i j param).length by omega), hi,
    slice_left _ _ 98 2 (show 98 + 2 ≤ (headN kind tenant i j param).length by omega), hj,
    byteAt_left _ _ 4 (show 4 < (headN kind tenant i j param).length by omega), hv,
    byteAt_left _ _ 5 (show 5 < (headN kind tenant i j param).length by omega), hk,
    byteAt_left _ _ 6 (show 6 < (headN kind tenant i j param).length by omega), ht,
    byteAt_left _ _ 7 (show 7 < (headN kind tenant i j param).length by omega), hr,
    slice_left _ _ 104 24 (show 104 + 24 ≤ (headN kind tenant i j param).length by omega), hz,
    slice_left _ _ 16 32 (show 16 + 32 ≤ (headN kind tenant i j param).length by omega), hc,
    slice_left _ _ 64 32 (show 64 + 32 ≤ (headN kind tenant i j param).length by omega), hd, hpar, htk]
  rw [reqN] at hd1 hlen
  rw [hd1, if_neg ?_, signerBlock_blkN]
  · have e := signerBlock_blkN []
    rw [List.append_nil] at e
    simp only [e]
    rfl
  · rw [hlen]
    rcases hs with ⟨hs, ht2⟩ | ⟨hs, ht2⟩ <;> simp [hs, ht2] <;> omega
theorem leAt_length4 (n : Nat) (rest : Bytes) (h : n < 2 ^ 32) : leAt (natToLe 4 n ++ rest) 0 4 = n := by
  rw [leAt_left _ _ _ _ (Nat.le_refl 4)]
  show leToNat (natToLe 4 n) = n
  simp only [natToLe, leToNat, BitVec.toNat_ofNat]
  omega
theorem served_slot (k op : Nat) (b : Bytes) (s : State) : (served k op b s).slot k = mbSlot op b := by
  show tabGet MbSlot.reset (tabSet MbSlot.reset s.keys.mb k (mbSlot op b)) k = _
  exact tabGet_set_same _ _ _ _
/-- A slot that alone holds a request is next. -/
theorem served_turn (k op : Nat) (b : Bytes) (s : State) (h : s.keys.mb = []) : (served k op b s).mailTurn k = true := by
  unfold State.mailTurn
  rw [List.all_eq_true]
  intro j hj
  have hne : j ≠ k := by
    have hall : ∀ (q : Nat → Bool) (l : List Nat), ∀ x ∈ l.takeWhile q, q x = true := by
      intro q l
      induction l with
      | nil => intro x hx; exact absurd hx (by simp)
      | cons a l ih =>
        intro x hx
        rw [List.takeWhile_cons] at hx
        split at hx
        · rcases List.mem_cons.1 hx with rfl | hx
          · assumption
          · exact ih x hx
        · exact absurd hx (by simp)
    simpa using hall _ _ j hj
  have : (served k op b s).slot j = MbSlot.reset := by
    show tabGet MbSlot.reset (tabSet MbSlot.reset s.keys.mb k (mbSlot op b)) j = _
    rw [tabGet_set_other _ _ _ hne, h]
    rfl
  simp only [State.mailReady, this]
  rfl
/-- A request of any kind that has arrived in a slot, of good format. -/
theorem arrived_reqN (base : State) (k kind tenant i j : Nat) (param : Bytes) (ho : headOk kind tenant i j param = true) (hk : k < 65)
    (hg : base.gate k 2 (headN kind tenant i j param) = none) (hj : base.journalFull = false) (hm : base.keys.mb = []) :
    Arrived (served k 2 (reqN (headN kind tenant i j param) param) base) k (reqN (headN kind tenant i j param) param)
      (served k 2 (reqN (headN kind tenant i j param) param) base) ∧
    ceremonyFormat 0 (reqN (headN kind tenant i j param) param) = some (cerN kind tenant i j param) ∧
    7 ≤ (reqN (headN kind tenant i j param) param).length ∧ byteAt (reqN (headN kind tenant i j param) param) 5 = kind := by
  obtain ⟨hf, hl, hp⟩ := format_reqN kind tenant i j param ho
  have hlen : (reqN (headN kind tenant i j param) param).length = 128 + param.length + 10530 := by
    simp only [reqN, List.length_append, hl, blkN_length]; omega
  have b5 := byteAt_left (headN kind tenant i j param) (param ++ (blkN ++ blkN)) 5 (by omega)
  have b6 := byteAt_left (headN kind tenant i j param) (param ++ (blkN ++ blkN)) 6 (by omega)
  have h5 : byteAt (headN kind tenant i j param) 5 = kind := by
    simp only [headOk, Bool.and_eq_true, decide_eq_true_eq, and_assoc] at ho
    obtain ⟨la, -, -, h5, -⟩ := ho
    rw [headN, byteAt_left _ _ _ (by omega)]
    exact h5
  generalize hb : reqN (headN kind tenant i j param) param = b at *
  rw [reqN] at hb
  rw [hb] at b5 b6
  refine ⟨Or.inl ⟨hk, ?_, rfl⟩, hf, by omega, by rw [b5, h5]⟩
  unfold Served
  rw [served_slot]
  refine ⟨served_turn k 2 b base hm, rfl, rfl, rfl, rfl, rfl, rfl, rfl, ?_, ?_, ?_⟩
  · show leAt (natToLe 4 b.length ++ (natToLe 8 7 ++ b)) 0 4 = b.length
    exact leAt_length4 _ _ (by omega)
  · rw [← hg]
    unfold State.gate opMirrored opAudited ceremonyScope
    rw [b5, b6]
    rfl
  · show (base.journalFull && opMirrored 2 b) = false
    rw [hj]; rfl
/-- A ceremony of any kind, accepted in a slot of a state that holds its signers, when the open scheme verifies its two signatures. -/
theorem accepted_reqN (base : State) (k kind tenant i j : Nat) (param : Bytes) (ci cj : Credential) (hv : Config.mldsaVerify 8 pkN (headN kind tenant i j param) sigN = true)
    (ho : headOk kind tenant i j param = true) (hk : k < 65) (hu : base.otp.uid = 0) (hg : base.gate k 2 (headN kind tenant i j param) = none)
    (hj : base.journalFull = false) (hm : base.keys.mb = []) (hc : base.keys.chals = [⟨zeros 32, 1000⟩]) (ht : base.timeGood = true) (hn : base.now = 10)
    (hw : 99 ≤ base.secRaw base.keys.policy.maxWin) (hij : i ≠ j) (h1 : base.cred? i = some ci) (h2 : base.cred? j = some cj)
    (a1 : ci.alg = 2) (a2 : cj.alg = 2) (d1 : ci.digest = shake256 32 pkN) (d2 : cj.digest = shake256 32 pkN)
    (r1 : (if tenant = 0xFF then custodianOf i == none && bitAt ci.roles (kindRole kind)
       else (custodianOf i == some tenant && bitAt ci.roles (kindRole kind))) = true)
    (r2 : (if tenant = 0xFF then custodianOf j == none && bitAt cj.roles (kindRole kind)
       else (custodianOf j == some tenant && bitAt cj.roles (kindRole kind))) = true) :
    ∃ s2, Accepted (served k 2 (reqN (headN kind tenant i j param) param) base) k (cerN kind tenant i j param) s2 := by
  obtain ⟨harr, hf, -, -⟩ := arrived_reqN base k kind tenant i j param ho hk hg hj hm
  generalize reqN (headN kind tenant i j param) param = b at *
  refine ⟨used (served k 2 b base) ⟨zeros 32, 1000⟩, b, served k 2 b base, harr, ?_, ?_, ?_⟩
  · show ceremonyFormat base.otp.uid b = _
    rw [hu]; exact hf
  · unfold State.useChallenge
    have e : (served k 2 b base).keys.chals = [⟨zeros 32, 1000⟩] := hc
    have e2 : (served k 2 b base).now = 10 := hn
    rw [e, e2]
    rfl
  · have s1 := signer_ok (used (served k 2 b base) ⟨zeros 32, 1000⟩) (cerN kind tenant i j param) i (2, pkN, sigN) ci h1 a1 d1.symm (by
      simp only [cerN]
      by_cases h : tenant = 0xFF
      · rw [if_pos h] at r1; exact (if_pos h).trans r1
      · rw [if_neg h] at r1; exact (if_neg h).trans (by rw [r1]; rfl))
    have s2 := signer_ok (used (served k 2 b base) ⟨zeros 32, 1000⟩) (cerN kind tenant i j param) j (2, pkN, sigN) cj h2 a2 d2.symm (by
      simp only [cerN]
      by_cases h : tenant = 0xFF
      · rw [if_pos h] at r2; exact (if_pos h).trans r2
      · rw [if_neg h] at r2; exact (if_neg h).trans (by rw [r2]; rfl))
    have t1 : (used (served k 2 b base) ⟨zeros 32, 1000⟩).timeGood = true := ht
    have n1 : (used (served k 2 b base) ⟨zeros 32, 1000⟩).now = 10 := hn
    have w1 : 99 ≤ (used (served k 2 b base) ⟨zeros 32, 1000⟩).secRaw (used (served k 2 b base) ⟨zeros 32, 1000⟩).keys.policy.maxWin := hw
    have v1 : credVerify 2 pkN sigN (headN kind tenant i j param) = true := hv
    unfold State.ceremonyFault
    simp only [cerN] at s1 s2 ⊢
    simp only [t1, n1, s1, s2, v1]
    rw [if_neg (by decide), if_neg (by omega), if_neg (by simp [hij]), if_neg (by decide)]
    exact if_neg (fun h => h rfl)
/-- The credential of a signer of the open scheme. -/
def crN (id : Nat) : Credential := ⟨id, 7, 2, shake256 32 pkN, 0⟩
theorem crN_digest (id : Nat) : (crN id).digest = shake256 32 pkN := by simp only [crN]
theorem crN_alg (id : Nat) : (crN id).alg = 2 := by simp only [crN]
/-- The unit at device time 10, its time trusted, a challenge outstanding, three officers, three custodians of tenant 3, and two master keys. -/
def sgSt (f : State → State) : State :=
  f { hSt id with
      time := { (hSt id).time with state := .trusted, now := 10 }
      keys := { (hSt id).keys with
                  root := some (zeros 32), chals := [⟨zeros 32, 1000⟩], officers := [crN 1, crN 2, crN 3]
                  tenants := [(3, { ten3 with custodians := [crN 0x1030, crN 0x1031, crN 0x1032], masters := [(1, some mkD), (2, some mkD)]
                                              current := [(2, some 1)] })] } }
/-- A request of a kind to the device's slot by officers 1 and 2, and one to the page of tenant 3 by its custodians 0 and 1. -/
def devSt (kind : Nat) (param : Bytes) (f : State → State) : State := served 64 2 (reqN (headN kind 0xFF 1 2 param) param) (sgSt f)
def tenSt (kind : Nat) (param : Bytes) (f : State → State) : State := served 3 2 (reqN (headN kind 3 0x1030 0x1031 param) param) (sgSt f)
def devCer (kind : Nat) (param : Bytes) : Cer := cerN kind 0xFF 1 2 param
def tenCer (kind : Nat) (param : Bytes) : Cer := cerN kind 3 0x1030 0x1031 param
/-- What the state of a request must hold, in the form that can be decided. -/
def baseOk (base : State) (k : Nat) (h : Bytes) : Bool :=
  decide (base.otp.uid = 0) && decide (base.gate k 2 h = none) && !base.journalFull && decide (base.keys.mb = []) && decide (base.keys.chals = [⟨zeros 32, 1000⟩]) && base.timeGood
    && decide (base.now = 10) && decide (99 ≤ base.secRaw base.keys.policy.maxWin)
/-- The open scheme verifies the signatures of a request. -/
def SignedN (h : Bytes) : Prop := Config.mldsaVerify 8 pkN h sigN = true
theorem accepted_dev (kind : Nat) (param : Bytes) (f : State → State) (hv : SignedN (headN kind 0xFF 1 2 param)) (ho : headOk kind 0xFF 1 2 param = true)
    (hb : baseOk (sgSt f) 64 (headN kind 0xFF 1 2 param) = true) (h1 : (sgSt f).cred? 1 = some (crN 1)) (h2 : (sgSt f).cred? 2 = some (crN 2))
    (hk : bitAt 7 (kindRole kind) = true) : ∃ s2, Accepted (devSt kind param f) 64 (devCer kind param) s2 := by
  simp only [baseOk, Bool.and_eq_true, decide_eq_true_eq, Bool.not_eq_true', and_assoc] at hb
  obtain ⟨hu, hg, hj, hm, hc, ht, hn, hw⟩ := hb
  exact accepted_reqN (sgSt f) 64 kind 0xFF 1 2 param (crN 1) (crN 2) hv ho (by omega) hu hg hj hm hc ht hn hw (by omega) h1 h2 (crN_alg _) (crN_alg _)
    (crN_digest _) (crN_digest _) (by rw [if_pos rfl]; simp only [crN, hk]; rfl) (by rw [if_pos rfl]; simp only [crN, hk]; rfl)
theorem accepted_ten (kind : Nat) (param : Bytes) (f : State → State) (hv : SignedN (headN kind 3 0x1030 0x1031 param))
    (ho : headOk kind 3 0x1030 0x1031 param = true) (hb : baseOk (sgSt f) 3 (headN kind 3 0x1030 0x1031 param) = true)
    (h1 : (sgSt f).cred? 0x1030 = some (crN 0x1030)) (h2 : (sgSt f).cred? 0x1031 = some (crN 0x1031)) (hk : bitAt 7 (kindRole kind) = true) :
    ∃ s2, Accepted (tenSt kind param f) 3 (tenCer kind param) s2 := by
  simp only [baseOk, Bool.and_eq_true, decide_eq_true_eq, Bool.not_eq_true', and_assoc] at hb
  obtain ⟨hu, hg, hj, hm, hc, ht, hn, hw⟩ := hb
  exact accepted_reqN (sgSt f) 3 kind 3 0x1030 0x1031 param (crN 0x1030) (crN 0x1031) hv ho (by omega) hu hg hj hm hc ht hn hw (by omega) h1 h2 (crN_alg _)
    (crN_alg _) (crN_digest _) (crN_digest _) (by rw [if_neg (by omega)]; simp only [crN, hk]; rfl) (by rw [if_neg (by omega)]; simp only [crN, hk]; rfl)

/-- A log sealed at record 3. -/
def sealAt3 (s : State) : State := { s with evr := { s.evr with seals := [⟨3, 1, 0, some []⟩] } }
/-- A service-level block: port 0 with the alternate 1, not valid, for every ring. -/
def levelsOf (t flags : Nat) : Bytes :=
  natToLe 1 t ++ natToLe 3 flags ++ natToLe 4 1000 ++ natToLe 2 1 ++ natToLe 2 0x0101 ++ natToLe 4 1 ++ natToLe 4 1 ++ zeros 4 ++ List.replicate 16 4#8 ++ zeros 8
def polN : Policy := ⟨1, 2, 1, 1, 15, 1, 10000⟩
def pRegisterOfficer : Bytes := natToLe 2 16 ++ [7#8, 2#8] ++ zeros 36
theorem witness_DeviceCeremonies_registerOfficer (hv : SignedN (headN 0x01 0xFF 1 2 pRegisterOfficer)) :
    (∃ s2, Accepted (devSt 0x01 pRegisterOfficer id) 64 (devCer 0x01 pRegisterOfficer) s2) ∧
    (let s := devSt 0x01 pRegisterOfficer id
     let p := pRegisterOfficer
     credBlock p s.now (fun i => decide (1 ≤ i ∧ i ≤ 16)) = some ⟨16, 7, 2, zeros 32, 10⟩ ∧ ∀ o ∈ s.keys.officers, o.id ≠ 16) :=
  ⟨accepted_dev _ _ _ hv (by decide +kernel) (by decide +kernel) rfl rfl rfl, by decide +kernel⟩
def pRevokeOfficer : Bytes := natToLe 2 3 ++ zeros 6
theorem witness_DeviceCeremonies_revokeOfficer (hv : SignedN (headN 0x02 0xFF 1 2 pRevokeOfficer)) :
    (∃ s2, Accepted (devSt 0x02 pRevokeOfficer id) 64 (devCer 0x02 pRevokeOfficer) s2) ∧
    (let s := devSt 0x02 pRevokeOfficer id
     let p := pRevokeOfficer
     p.length = 8 ∧ allZero (p.drop 2) = true ∧ (∃ o ∈ s.keys.officers, o.id = leAt p 0 2) ∧ 2 ≤ adminsBut s.keys.officers (leAt p 0 2)) :=
  ⟨accepted_dev _ _ _ hv (by decide +kernel) (by decide +kernel) rfl rfl rfl, by decide +kernel⟩
def pDevicePolicy : Bytes := natToLe 4 10 ++ natToLe 4 60 ++ natToLe 4 86400 ++ natToLe 4 1
theorem witness_DeviceCeremonies_devicePolicy (hv : SignedN (headN 0x09 0xFF 1 2 pDevicePolicy)) :
    (∃ s2, Accepted (devSt 0x09 pDevicePolicy id) 64 (devCer 0x09 pDevicePolicy) s2) ∧
    (let p := pDevicePolicy
     p.length = 16 ∧ 10 ≤ leAt p 0 4 ∧ leAt p 0 4 ≤ 3600 ∧ 60 ≤ leAt p 4 4 ∧ leAt p 4 4 ≤ 86400 ∧ 60 ≤ leAt p 8 4 ∧
      leAt p 8 4 ≤ 86400 ∧ byteAt p 12 ≤ 1 ∧ allZero (p.drop 13) = true) :=
  ⟨accepted_dev _ _ _ hv (by decide +kernel) (by decide +kernel) rfl rfl rfl, by decide +kernel⟩
def pDevicePolicyOff : Bytes := natToLe 4 3600 ++ natToLe 4 86400 ++ natToLe 4 60 ++ natToLe 4 0
theorem witness_DeviceCeremonies_devicePolicyOff (hv : SignedN (headN 0x09 0xFF 1 2 pDevicePolicyOff)) :
    (∃ s2, Accepted (devSt 0x09 pDevicePolicyOff id) 64 (devCer 0x09 pDevicePolicyOff) s2) ∧
    (let p := pDevicePolicyOff
     p.length = 16 ∧ leAt p 0 4 ≤ 3600 ∧ 60 ≤ leAt p 4 4 ∧ leAt p 4 4 ≤ 86400 ∧ 60 ≤ leAt p 8 4 ∧ byteAt p 12 = 0) :=
  ⟨accepted_dev _ _ _ hv (by decide +kernel) (by decide +kernel) rfl rfl rfl, by decide +kernel⟩
def pSetWallTime : Bytes := natToLe 8 5 ++ natToLe 8 100000 ++ natToLe 8 (2 ^ 40 - 1) ++ zeros 8
theorem witness_DeviceCeremonies_setWallTime (hv : SignedN (headN 0x06 0xFF 1 2 pSetWallTime)) :
    (∃ s2, Accepted (devSt 0x06 pSetWallTime id) 64 (devCer 0x06 pSetWallTime) s2) ∧
    (let p := pSetWallTime
     p.length = 32 ∧ allZero (slice p 12 4) = true ∧ allZero (slice p 24 8) = true ∧ leAt p 16 8 < 2 ^ 40 ∧ 100000 ≤ leAt p 8 4 ∧
      leAt p 8 4 ≤ 1000000000) :=
  ⟨accepted_dev _ _ _ hv (by decide +kernel) (by decide +kernel) rfl rfl rfl, by decide +kernel⟩
def pClearRecorder : Bytes := natToLe 8 3 ++ natToLe 8 1
theorem witness_DeviceCeremonies_clearRecorder (hv : SignedN (headN 0x05 0xFF 1 2 pClearRecorder)) :
    (∃ s2, Accepted (devSt 0x05 pClearRecorder sealAt3) 64 (devCer 0x05 pClearRecorder) s2) ∧
    (let s := devSt 0x05 pClearRecorder sealAt3
     let p := pClearRecorder
     p.length = 16 ∧ byteAt p 8 ≤ 1 ∧ allZero (slice p 9 7) = true ∧ s.sealedAt (leAt p 0 8) = true) :=
  ⟨accepted_dev _ _ _ hv (by decide +kernel) (by decide +kernel) rfl rfl rfl, by decide +kernel⟩
def pPairingPair : Bytes := natToLe 8 1 ++ natToLe 8 9 ++ zeros 32
theorem witness_DeviceCeremonies_pairingPair (hv : SignedN (headN 0x07 0xFF 1 2 pPairingPair)) :
    (∃ s2, Accepted (devSt 0x07 pPairingPair id) 64 (devCer 0x07 pPairingPair) s2) ∧
    (let s := devSt 0x07 pPairingPair id
     let p := pPairingPair
     p.length = 48 ∧ byteAt p 0 = 1 ∧ allZero (slice p 1 7) = true ∧ s.keys.pair = none ∧ s.pair.pairing = none ∧ s.pair.session = none) :=
  ⟨accepted_dev _ _ _ hv (by decide +kernel) (by decide +kernel) rfl rfl rfl, by decide +kernel⟩
def pPairingDissolve : Bytes := natToLe 8 2 ++ zeros 40
theorem witness_DeviceCeremonies_pairingDissolve (hv : SignedN (headN 0x07 0xFF 1 2 pPairingDissolve)) :
    (∃ s2, Accepted (devSt 0x07 pPairingDissolve id) 64 (devCer 0x07 pPairingDissolve) s2) ∧
    (let s := devSt 0x07 pPairingDissolve id
     let p := pPairingDissolve
     p.length = 48 ∧ byteAt p 0 = 2 ∧ allZero (p.drop 1) = true ∧ s.pair.st ≠ .seedingIn) :=
  ⟨accepted_dev _ _ _ hv (by decide +kernel) (by decide +kernel) rfl rfl rfl, by decide +kernel⟩
def pCreateTenant : Bytes := levelsOf 63 0
theorem witness_TenantCeremonies_createTenant (hv : SignedN (headN 0x03 0xFF 1 2 pCreateTenant)) :
    (∃ s2, Accepted (devSt 0x03 pCreateTenant id) 64 (devCer 0x03 pCreateTenant) s2) ∧
    (let s := devSt 0x03 pCreateTenant id
     let p := pCreateTenant
     bitAt (byteAt p 1) 0 = false ∧ levelsFormat p = true ∧ (s.tenant (byteAt p 0)).deleting = false ∧ (s.tenant (byteAt p 0)).exist = false) :=
  ⟨accepted_dev _ _ _ hv (by decide +kernel) (by decide +kernel) rfl rfl rfl, by decide +kernel⟩
def pUpdateTenant : Bytes := levelsOf 3 1
/-- No ring of tenant 3 is enabled; it is being deleted. -/
def ringsOff (s : State) : State := { s with host := HostSide.reset }
def goneW (s : State) : State := s.modTenant 3 (fun x => { x with deleting := true })
theorem witness_TenantCeremonies_updateTenant (hv : SignedN (headN 0x03 0xFF 1 2 pUpdateTenant)) :
    (∃ s2, Accepted (devSt 0x03 pUpdateTenant ringsOff) 64 (devCer 0x03 pUpdateTenant) s2) ∧
    (let s := devSt 0x03 pUpdateTenant ringsOff
     let p := pUpdateTenant
     bitAt (byteAt p 1) 0 = true ∧ levelsFormat p = true ∧ (s.tenant (byteAt p 0)).exist = true ∧ (s.tenant (byteAt p 0)).deleting = false ∧
      (∀ q, q < 16 → s.ringsIdle (byteAt p 0) q = true)) :=
  ⟨accepted_dev _ _ _ hv (by decide +kernel) (by decide +kernel) rfl rfl rfl, by decide +kernel⟩
theorem witness_TenantCeremonies_updateInUse (hv : SignedN (headN 0x03 0xFF 1 2 pUpdateTenant)) :
    (∃ s2, Accepted (devSt 0x03 pUpdateTenant id) 64 (devCer 0x03 pUpdateTenant) s2) ∧
    (let s := devSt 0x03 pUpdateTenant id
     let p := pUpdateTenant
     bitAt (byteAt p 1) 0 = true ∧ levelsFormat p = true ∧ (s.tenant (byteAt p 0)).exist = true ∧ (s.tenant (byteAt p 0)).deleting = false ∧
      s.ringsIdle (byteAt p 0) 2 = false) :=
  ⟨accepted_dev _ _ _ hv (by decide +kernel) (by decide +kernel) rfl rfl rfl, by decide +kernel⟩
theorem witness_TenantCeremonies_updateGone (hv : SignedN (headN 0x03 0xFF 1 2 pUpdateTenant)) (hv5 : SignedN (headN 0x03 0xFF 1 2 (levelsOf 5 1))) :
    ((∃ s2, Accepted (devSt 0x03 pUpdateTenant goneW) 64 (devCer 0x03 pUpdateTenant) s2) ∧ levelsFormat pUpdateTenant = true ∧
      ((devSt 0x03 pUpdateTenant goneW).tenant (byteAt pUpdateTenant 0)).deleting = true) ∧
    ((∃ s2, Accepted (devSt 0x03 (levelsOf 5 1) id) 64 (devCer 0x03 (levelsOf 5 1)) s2) ∧ bitAt (byteAt (levelsOf 5 1) 1) 0 = true ∧
      levelsFormat (levelsOf 5 1) = true ∧ ((devSt 0x03 (levelsOf 5 1) id).tenant (byteAt (levelsOf 5 1) 0)).exist = false) :=
  ⟨⟨accepted_dev _ _ _ hv (by decide +kernel) (by decide +kernel) rfl rfl rfl, by decide +kernel⟩,
    ⟨accepted_dev _ _ _ hv5 (by decide +kernel) (by decide +kernel) rfl rfl rfl, by decide +kernel⟩⟩
def pDeleteTenant : Bytes := natToLe 1 3
theorem witness_TenantCeremonies_deleteTenant (hv : SignedN (headN 0x04 0xFF 1 2 pDeleteTenant)) :
    (∃ s2, Accepted (devSt 0x04 pDeleteTenant id) 64 (devCer 0x04 pDeleteTenant) s2) ∧
    (let s := devSt 0x04 pDeleteTenant id
     let p := pDeleteTenant
     p.length = 1 ∧ byteAt p 0 < 64 ∧ (s.tenant (byteAt p 0)).deleting = false ∧ (s.tenant (byteAt p 0)).exist = true) :=
  ⟨accepted_dev _ _ _ hv (by decide +kernel) (by decide +kernel) rfl rfl rfl, by decide +kernel⟩
def pTenantPolicy : Bytes := polN.bytes
theorem witness_TenantCeremonies_tenantPolicy (hv : SignedN (headN 0x18 3 0x1030 0x1031 pTenantPolicy)) :
    (∃ s2, Accepted (tenSt 0x18 pTenantPolicy id) 3 (tenCer 0x18 pTenantPolicy) s2) ∧
    (let s := tenSt 0x18 pTenantPolicy id
     let p := pTenantPolicy
     p = polN.bytes ∧ polN.mirror ≤ 1 ∧ polN.audit ≤ 2 ∧ polN.learn ≤ 1 ∧ polN.evict ≤ 1 ∧ polN.vector ≤ 15 ∧ polN.move ≤ 1 ∧ 10 ≤ polN.idle ∧
      polN.idle ≤ 10000 ∧ (s.tenant 3).exist = true) :=
  ⟨accepted_ten _ _ _ hv (by decide +kernel) (by decide +kernel) rfl rfl rfl, by decide +kernel⟩
def pRegisterCustodian : Bytes := natToLe 2 0x1037 ++ [1#8, 1#8] ++ zeros 36
theorem witness_TenantCeremonies_registerCustodian (hv : SignedN (headN 0x10 3 0x1030 0x1031 pRegisterCustodian)) :
    (∃ s2, Accepted (tenSt 0x10 pRegisterCustodian id) 3 (tenCer 0x10 pRegisterCustodian) s2) ∧
    (let s := tenSt 0x10 pRegisterCustodian id
     let p := pRegisterCustodian
     credBlock p s.now (fun i => custodianOf i == some 3) = some ⟨0x1037, 1, 1, zeros 32, 10⟩ ∧ (s.tenant 3).exist = true ∧
      ∀ k ∈ (s.tenant 3).custodians, k.id ≠ 0x1037) :=
  ⟨accepted_ten _ _ _ hv (by decide +kernel) (by decide +kernel) rfl rfl rfl, by decide +kernel⟩
def pRevokeCustodian : Bytes := natToLe 2 0x1032 ++ zeros 6
theorem witness_TenantCeremonies_revokeCustodian (hv : SignedN (headN 0x11 3 0x1030 0x1031 pRevokeCustodian)) :
    (∃ s2, Accepted (tenSt 0x11 pRevokeCustodian id) 3 (tenCer 0x11 pRevokeCustodian) s2) ∧
    (let s := tenSt 0x11 pRevokeCustodian id
     let p := pRevokeCustodian
     p.length = 8 ∧ allZero (p.drop 2) = true ∧ (∃ k ∈ (s.tenant 3).custodians, k.id = leAt p 0 2) ∧
      2 ≤ adminsBut (s.tenant 3).custodians (leAt p 0 2)) :=
  ⟨accepted_ten _ _ _ hv (by decide +kernel) (by decide +kernel) rfl rfl rfl, by decide +kernel⟩
def pLoadMasterKey : Bytes := [3#8, 2#8, 3#8, 1#8] ++ zeros 12
theorem witness_TenantCeremonies_loadMasterKey (hv : SignedN (headN 0x12 3 0x1030 0x1031 pLoadMasterKey)) :
    (∃ s2, Accepted (tenSt 0x12 pLoadMasterKey id) 3 (tenCer 0x12 pLoadMasterKey) s2) ∧
    (let s := tenSt 0x12 pLoadMasterKey id
     let p := pLoadMasterKey
     p.length = 16 ∧ byteAt p 0 ≤ 3 ∧ byteAt p 1 ≤ 2 ∧ (byteAt p 2 = 2 ∨ byteAt p 2 = 3) ∧ byteAt p 3 ≤ 1 ∧
      allZero (p.drop 9) = true ∧ (s.tenant 3).exist = true ∧ s.master 3 (byteAt p 0) = none ∧ s.keys.opens.length < 4 ∧ ∀ o ∈ s.keys.opens, o.tenant ≠ 3) :=
  ⟨accepted_ten _ _ _ hv (by decide +kernel) (by decide +kernel) rfl rfl rfl, by decide +kernel⟩
def pRetireGeneration : Bytes := natToLe 8 2
theorem witness_TenantCeremonies_retireGeneration (hv : SignedN (headN 0x13 3 0x1030 0x1031 pRetireGeneration)) :
    (∃ s2, Accepted (tenSt 0x13 pRetireGeneration id) 3 (tenCer 0x13 pRetireGeneration) s2) ∧
    (let s := tenSt 0x13 pRetireGeneration id
     let p := pRetireGeneration
     p.length = 8 ∧ byteAt p 0 ≤ 3 ∧ byteAt p 1 ≤ 1 ∧ allZero (p.drop 2) = true ∧ s.master 3 (byteAt p 0) = some mkD ∧
      s.currentGen 3 mkD.kind ≠ some (byteAt p 0) ∧ (s.tenant 3).migrate = none ∧ tabGet 0 (s.tenant 3).records (byteAt p 0) = 0) :=
  ⟨accepted_ten _ _ _ hv (by decide +kernel) (by decide +kernel) rfl rfl rfl, by decide +kernel⟩
def pSetCurrentGeneration : Bytes := natToLe 8 0x0202
theorem witness_TenantCeremonies_setCurrentGeneration (hv : SignedN (headN 0x14 3 0x1030 0x1031 pSetCurrentGeneration)) :
    (∃ s2, Accepted (tenSt 0x14 pSetCurrentGeneration id) 3 (tenCer 0x14 pSetCurrentGeneration) s2) ∧
    (let s := tenSt 0x14 pSetCurrentGeneration id
     let p := pSetCurrentGeneration
     p.length = 8 ∧ byteAt p 0 ≤ 2 ∧ byteAt p 1 ≤ 3 ∧ allZero (p.drop 2) = true ∧ s.master 3 (byteAt p 1) = some mkD ∧ mkD.kind = byteAt p 0) :=
  ⟨accepted_ten _ _ _ hv (by decide +kernel) (by decide +kernel) rfl rfl rfl, by decide +kernel⟩
def pRegisterProgramKey : Bytes := natToLe 4 1 ++ natToLe 4 68 ++ zeros 68
theorem witness_TenantCeremonies_registerProgramKey (hv : SignedN (headN 0x15 3 0x1030 0x1031 pRegisterProgramKey)) :
    (∃ s2, Accepted (tenSt 0x15 pRegisterProgramKey id) 3 (tenCer 0x15 pRegisterProgramKey) s2) ∧
    (let s := tenSt 0x15 pRegisterProgramKey id
     let p := pRegisterProgramKey
     byteAt p 0 = 1 ∧ allZero (slice p 1 3) = true ∧ leAt p 4 4 = 68 ∧ p.length = 8 + leAt p 4 4 ∧ (s.tenant 3).exist = true) :=
  ⟨accepted_ten _ _ _ hv (by decide +kernel) (by decide +kernel) rfl rfl rfl, by decide +kernel⟩
def pTraceConsent : Bytes := zeros 32
theorem witness_TenantCeremonies_traceConsent (hv : SignedN (headN 0x17 3 0x1030 0x1031 pTraceConsent)) :
    (∃ s2, Accepted (tenSt 0x17 pTraceConsent id) 3 (tenCer 0x17 pTraceConsent) s2) ∧
    (let s := tenSt 0x17 pTraceConsent id
     let p := pTraceConsent
     p.length = 32 ∧ (s.tenant 3).exist = true) :=
  ⟨accepted_ten _ _ _ hv (by decide +kernel) (by decide +kernel) rfl rfl rfl, by decide +kernel⟩
def pAuthoriseState : Bytes := natToLe 4 3 ++ natToLe 4 60
theorem witness_TenantCeremonies_authoriseState (hv : SignedN (headN 0x16 3 0x1030 0x1031 pAuthoriseState)) :
    (∃ s2, Accepted (tenSt 0x16 pAuthoriseState id) 3 (tenCer 0x16 pAuthoriseState) s2) ∧
    (let s := tenSt 0x16 pAuthoriseState id
     let p := pAuthoriseState
     p.length = 8 ∧ byteAt p 0 ≤ 3 ∧ allZero (slice p 1 3) = true ∧ leAt p 4 4 ≠ 0 ∧ leAt p 4 4 ≤ s.keys.policy.maxAuth) :=
  ⟨accepted_ten _ _ _ hv (by decide +kernel) (by decide +kernel) rfl rfl rfl, by decide +kernel⟩
/-- Each kind of ceremony with the slot and the tenant of its scope. -/
def cerKinds : List (Nat × Nat × Nat × Nat × Nat) :=
  [(0x01, 64, 0xFF, 1, 2), (0x02, 64, 0xFF, 1, 2), (0x04, 64, 0xFF, 1, 2), (0x05, 64, 0xFF, 1, 2), (0x06, 64, 0xFF, 1, 2), (0x08, 64, 0xFF, 1, 2),
   (0x09, 64, 0xFF, 1, 2), (0x10, 3, 3, 0x1030, 0x1031), (0x11, 3, 3, 0x1030, 0x1031), (0x12, 3, 3, 0x1030, 0x1031), (0x13, 3, 3, 0x1030, 0x1031),
   (0x14, 3, 3, 0x1030, 0x1031), (0x15, 3, 3, 0x1030, 0x1031), (0x16, 3, 3, 0x1030, 0x1031), (0x17, 3, 3, 0x1030, 0x1031), (0x18, 3, 3, 0x1030, 0x1031)]
/-- A request of seven bytes, and what one of good format needs, with no challenge outstanding and with untrusted time. -/
def shortReq (kind tenant : Nat) : Bytes := zeros 5 ++ natToLe 1 kind ++ natToLe 1 tenant
def noChal (s : State) : State := s.modKeys (fun k => { k with chals := [] })
def noTime (s : State) : State := { s with time := { s.time with state := .untrusted } }
def refusedOk (x : Nat × Nat × Nat × Nat × Nat) : Bool :=
  let b := shortReq x.1 x.2.2.1
  servedB (served x.2.1 2 b (sgSt id)) x.2.1 2 b && decide (7 ≤ b.length) && decide (byteAt b 5 = x.1) && decide (ceremonyFormat 0 b = none) &&
  headOk x.1 x.2.2.1 x.2.2.2.1 x.2.2.2.2 [] && decide ((sgSt noChal).gate x.2.1 2 (headN x.1 x.2.2.1 x.2.2.2.1 x.2.2.2.2 []) = none) &&
  decide ((sgSt noTime).gate x.2.1 2 (headN x.1 x.2.2.1 x.2.2.2.1 x.2.2.2.2 []) = none)
theorem refused_all : cerKinds.all refusedOk = true := by decide +kernel
/-- Every kind: a request of bad format, one whose challenge is not outstanding, and one that check 3 of R206 refuses. -/
theorem witness_Ceremonies_refused (x : Nat × Nat × Nat × Nat × Nat) (hx : x ∈ cerKinds) (hk : x.2.1 < 65) :
    (∃ (s : State) (b : Bytes), Arrived s x.2.1 b s ∧ 7 ≤ b.length ∧ byteAt b 5 = x.1 ∧ ceremonyFormat s.otp.uid b = none) ∧
    (∃ (s : State) (b : Bytes) (c : Cer), Arrived s x.2.1 b s ∧ 7 ≤ b.length ∧ byteAt b 5 = x.1 ∧ ceremonyFormat s.otp.uid b = some c ∧
      s.useChallenge c.challenge = none) ∧
    (∃ (s : State) (b : Bytes) (c : Cer) (s2 : State), Arrived s x.2.1 b s ∧ 7 ≤ b.length ∧ byteAt b 5 = x.1 ∧
      ceremonyFormat s.otp.uid b = some c ∧ s.useChallenge c.challenge = some s2 ∧ s2.ceremonyFault c = some .timeUntrusted) := by
  have h := List.all_eq_true.1 refused_all x hx
  simp only [refusedOk, Bool.and_eq_true, decide_eq_true_eq, and_assoc] at h
  obtain ⟨h1, h2, h3, h4, h5, h6, h7⟩ := h
  obtain ⟨a1, a2, a3, a4⟩ := arrived_reqN (sgSt noChal) x.2.1 x.1 x.2.2.1 x.2.2.2.1 x.2.2.2.2 [] h5 hk h6 (by decide) (by decide)
  obtain ⟨b1, b2, b3, b4⟩ := arrived_reqN (sgSt noTime) x.2.1 x.1 x.2.2.1 x.2.2.2.1 x.2.2.2.2 [] h5 hk h7 (by decide) (by decide)
  exact ⟨⟨_, _, Or.inl ⟨hk, served_of _ _ _ _ h1, rfl⟩, h2, h3, h4⟩, ⟨_, _, _, a1, a3, a4, a2, rfl⟩, ⟨_, _, _, _, b1, b3, b4, b2, rfl, rfl⟩⟩
/-- A request that has arrived in the serial port's session. -/
theorem witness_Ceremonies_serial :
    Arrived (cspSt (fun c => { c with frames := [⟨true, 3, 0, shortReq 1 0xFF⟩] })) 65 (shortReq 1 0xFF)
      (((cspSt (fun c => { c with frames := [⟨true, 3, 0, shortReq 1 0xFF⟩] })).modCsp (fun x => { x with frames := [], lastFrame := 0 })).cspReply
        ⟨true, 3, 0, shortReq 1 0xFF⟩ true) :=
  Or.inr ⟨rfl, by decide, by decide +kernel, by decide, ⟨true, 3, 0, shortReq 1 0xFF⟩, [], rfl, rfl, rfl, rfl, rfl⟩

/-! ### Witnesses: components, aborts, commissioning (chapter 9) -/

theorem leAt_length2 (n : Nat) (rest : Bytes) (h : n < 2 ^ 16) : leAt (natToLe 2 n ++ rest) 0 2 = n := by
  rw [leAt_left _ _ _ _ (Nat.le_refl 2)]
  show leToNat (natToLe 2 n) = n
  simp only [natToLe, leToNat, BitVec.toNat_ofNat]
  omega
/-- A long request is served when the gate lets its first bytes pass. -/
theorem served_big (base : State) (k op : Nat) (h r : Bytes) (hl : 7 ≤ h.length) (hr : (h ++ r).length < 2 ^ 32) (ho : op < 2 ^ 16)
    (hg : base.gate k op h = none) (hj : base.journalFull = false) (hm : base.keys.mb = []) : Served (served k op (h ++ r) base) k op (h ++ r) := by
  have b5 := byteAt_left h r 5 (by omega)
  have b6 := byteAt_left h r 6 (by omega)
  unfold Served
  rw [served_slot]
  refine ⟨served_turn k op _ base hm, rfl, rfl, rfl, rfl, leAt_length2 op _ ho, rfl, rfl, leAt_length4 _ _ hr, ?_, ?_⟩
  · rw [← hg]
    unfold State.gate opMirrored opAudited ceremonyScope
    rw [b5, b6]
    rfl
  · show (base.journalFull && opMirrored op (h ++ r)) = false
    rw [hj]; rfl
theorem signerBlock_tail (h : Bytes) (n : Nat) (hl : h.length = n) : signerBlock ((h ++ blkN).drop n) = some (2, pkN, sigN, []) := by
  rw [List.drop_append_of_le_length (by omega), List.drop_eq_nil_of_le (by omega), List.nil_append]
  have := signerBlock_blkN []
  rwa [List.append_nil] at this
theorem take_head (h r : Bytes) (n : Nat) (hl : h.length = n) : (h ++ r).take n = h := by
  rw [List.take_append_of_le_length (by omega), List.take_of_length_le (by omega)]
/-- The first 48 bytes of a component: of index `idx`, by method `meth`, from a signer, with a field of `n` bytes, for the ceremony of digest zero. -/
def cmpA (idx meth id n : Nat) : Bytes :=
  natToLe 4 0x504D4344 ++ natToLe 1 1 ++ natToLe 1 idx ++ natToLe 1 meth ++ zeros 1 ++ zeros 32 ++ natToLe 2 id ++ natToLe 2 n ++ zeros 4
def cmpBody (idx meth id n : Nat) (kc fld : Bytes) : Bytes := cmpA idx meth id n ++ (kc ++ (zeros 3 ++ (fld ++ blkN)))
/-- What those bytes must say, in the form that can be decided. -/
def cmpOk (idx meth id n : Nat) : Bool :=
  let a := cmpA idx meth id n
  decide (a.length = 48) && decide (leAt a 0 4 = 0x504D4344) && decide (byteAt a 4 = 1) && decide (byteAt a 5 = idx) && decide (byteAt a 6 = meth)
    && decide (byteAt a 7 = 0) && decide (slice a 8 32 = zeros 32) && decide (leAt a 40 2 = id) && decide (leAt a 42 2 = n) && allZero (slice a 44 4)
    && decide (1 ≤ meth) && decide (meth ≤ 3) && decide (n = if meth = 1 then 1616 else if meth = 2 then 384 else 32)
/-- What every clause about a component asks of its bytes. -/
def CmpIn (b : Bytes) (alg : Nat) (pk sig : Bytes) : Prop :=
  leAt b 0 4 = 0x504D4344 ∧ byteAt b 4 = 1 ∧ 1 ≤ byteAt b 6 ∧ byteAt b 6 ≤ 3 ∧ byteAt b 7 = 0 ∧
    leAt b 42 2 = (if byteAt b 6 = 1 then 1616 else if byteAt b 6 = 2 then 384 else 32) ∧ allZero (slice b 44 4) = true ∧ allZero (slice b 53 3) = true ∧
    signerBlock (b.drop (56 + leAt b 42 2)) = some (alg, pk, sig, [])
theorem cmp_in (idx meth id n : Nat) (kc fld : Bytes) (h : cmpOk idx meth id n = true) (hk : kc.length = 5) (hf : fld.length = n) :
    let b := cmpBody idx meth id n kc fld
    CmpIn b 2 pkN sigN ∧ byteAt b 5 = idx ∧ byteAt b 6 = meth ∧ slice b 8 32 = zeros 32 ∧ leAt b 40 2 = id ∧ leAt b 42 2 = n ∧ slice b 48 5 = kc ∧
      slice b 56 n = fld ∧ b.take (56 + n) = cmpA idx meth id n ++ (kc ++ (zeros 3 ++ fld)) := by
  intro b
  simp only [cmpOk, Bool.and_eq_true, decide_eq_true_eq, and_assoc] at h
  obtain ⟨la, h0, h4, h5, h6, h7, h8, h40, h42, h44, m1, m3, hn⟩ := h
  have f (o k : Nat) (h : o + k ≤ 48) : slice b o k = slice (cmpA idx meth id n) o k := slice_left _ _ _ _ (by omega)
  have fb (o : Nat) (h : o < 48) : byteAt b o = byteAt (cmpA idx meth id n) o := byteAt_left _ _ _ (by omega)
  have l3 : (zeros 3).length = 3 := List.length_replicate
  have e1 : b = (cmpA idx meth id n ++ (kc ++ zeros 3)) ++ (fld ++ blkN) := by simp only [b, cmpBody, List.append_assoc]
  have e2 : b = (cmpA idx meth id n ++ (kc ++ (zeros 3 ++ fld))) ++ blkN := by simp only [b, cmpBody, List.append_assoc]
  have l56 : (cmpA idx meth id n ++ (kc ++ zeros 3)).length = 56 := by simp only [List.length_append, la, hk, l3]
  have l2 : (cmpA idx meth id n ++ (kc ++ (zeros 3 ++ fld))).length = 56 + n := by simp only [List.length_append, la, hk, l3, hf]; omega
  have s48 : slice b 48 5 = kc := by
    show slice (cmpA idx meth id n ++ _) (48 + 0) 5 = kc
    rw [slice_right _ _ 0 5 48 la, slice_left _ _ _ _ (by omega), slice, List.drop_zero, List.take_of_length_le (by omega)]
  have s53 : slice b 53 3 = zeros 3 := by
    show slice (cmpA idx meth id n ++ _) (48 + 5) 3 = zeros 3
    rw [slice_right _ _ 5 3 48 la]
    show slice (kc ++ _) (5 + 0) 3 = zeros 3
    rw [slice_right _ _ 0 3 5 hk, slice_left _ _ _ _ (by omega)]
    rfl
  have s56 : slice b 56 n = fld := by
    rw [e1]
    show slice _ (56 + 0) n = fld
    rw [slice_right _ _ 0 n 56 l56, slice_left _ _ _ _ (by omega), slice, List.drop_zero, List.take_of_length_le (by omega)]
  have b42 : leAt b 42 2 = n := by rw [leAt, f _ _ (by omega)]; exact h42
  refine ⟨⟨by rw [leAt, f _ _ (by omega)]; exact h0, by rw [fb _ (by omega)]; exact h4, by rw [fb _ (by omega), h6]; exact m1,
    by rw [fb _ (by omega), h6]; exact m3, by rw [fb _ (by omega)]; exact h7, by rw [b42, fb _ (by omega), h6]; exact hn,
    by rw [f _ _ (by omega)]; exact h44, by rw [s53]; rfl, ?_⟩, by rw [fb _ (by omega)]; exact h5, by rw [fb _ (by omega)]; exact h6,
    by rw [f _ _ (by omega)]; exact h8, by rw [leAt, f _ _ (by omega)]; exact h40, b42, s48, s56, ?_⟩
  · rw [b42, e2]; exact signerBlock_tail _ _ l2
  · rw [e2]; exact take_head _ _ _ l2
/-- The ceremony that is open, and the unit in which it is, with a component in the serial port's session. -/
def cmpOpen (kind count : Nat) (expect : Bytes) (parts : List Component) : OpenLoad :=
  ⟨3, 0, kind, count, true, expect, zeros 32, (0x1030, 0x1031), 100, parts, true⟩
def cmpCsp (opens : List OpenLoad) (b : Bytes) : State :=
  sgSt (fun s => { s with keys := { s.keys with opens := opens, csp := { Csp.reset with terminal := some 7, frames := [⟨true, 4, 0, b⟩] } } })
theorem cmp_arrived (opens : List OpenLoad) (b : Bytes) : ∃ s1, ArrivedAs (cmpCsp opens b) 65 0x03 4 b s1 :=
  ⟨_, Or.inr ⟨rfl, rfl, fun _ => ⟨rfl, rfl⟩, rfl, ⟨true, 4, 0, b⟩, [], rfl, rfl, rfl, rfl, rfl⟩⟩
theorem cmp_found (s : State) (o : OpenLoad) (d : Bytes) (h : s.keys.opens = [o]) (hd : d = o.digest) : s.keys.opens.find? (fun o => o.digest == d) = some o := by
  rw [h, hd]; simp
/-- The custodian 0 of tenant 3, whom the statement's `known` names. -/
theorem cmp_known (opens : List OpenLoad) (b : Bytes) :
    ∃ cr, (cmpCsp opens b).cred? 0x1030 = some cr ∧ custodianOf 0x1030 = some 3 ∧ bitAt cr.roles roleOne = true ∧ cr.isKey 2 pkN = true :=
  ⟨crN 0x1030, rfl, by decide, rfl, by simp only [Credential.isKey, crN_alg, crN_digest]; simp⟩
/-- A clear component: the key of zero bytes, with its check value. -/
def kcvOf (kind : Nat) : Bytes := fitTo 5 (keyCheck (masterAlg kind) (zeros (masterLen kind)))
theorem kcvOf_length (kind : Nat) : (kcvOf kind).length = 5 := by simp only [kcvOf, fitTo, zeros, List.length_take, List.length_append, List.length_replicate]; omega
def clearBody (kind : Nat) : Bytes := cmpBody 1 3 0x1030 32 (kcvOf kind) (zeros 32)
theorem clear_in (kind : Nat) : let b := clearBody kind
    CmpIn b 2 pkN sigN ∧ byteAt b 5 = 1 ∧ byteAt b 6 = 3 ∧ slice b 8 32 = zeros 32 ∧ leAt b 40 2 = 0x1030 ∧ leAt b 42 2 = 32 ∧ slice b 48 5 = kcvOf kind ∧
      slice b 56 32 = zeros 32 ∧ b.take (56 + 32) = cmpA 1 3 0x1030 32 ++ (kcvOf kind ++ (zeros 3 ++ zeros 32)) :=
  cmp_in 1 3 0x1030 32 (kcvOf kind) (zeros 32) (by decide +kernel) (kcvOf_length kind) List.length_replicate
theorem clear_value (s : State) (kind : Nat) (h : kind ≤ 2) : s.componentOf kind (clearBody kind) (slice (clearBody kind) 56 32) = some (zeros (masterLen kind)) := by
  obtain ⟨-, -, h6, -, -, -, -, h56, -⟩ := clear_in kind
  rw [h56]
  unfold State.componentOf
  rw [h6]
  have : kind = 0 ∨ kind = 1 ∨ kind = 2 := by omega
  rcases this with rfl | rfl | rfl <;> rfl
/-- The message that the signer of a clear component signs. -/
def clearMsg (kind : Nat) : Bytes := cmpA 1 3 0x1030 32 ++ (kcvOf kind ++ (zeros 3 ++ zeros 32))
theorem witness_Component_none :
    let b := clearBody 2
    (∃ s1, ArrivedAs (cmpCsp [] b) 65 0x03 4 b s1) ∧ CmpIn b 2 pkN sigN ∧ (cmpCsp [] b).keys.opens.find? (fun o => o.digest == slice b 8 32) = none :=
  ⟨cmp_arrived _ _, (clear_in 2).1, rfl⟩
/-- The hypotheses that all clauses on an open ceremony share. -/
def CmpOf (s : State) (b : Bytes) (o : OpenLoad) : Prop :=
  (∃ s1, ArrivedAs s 65 0x03 4 b s1) ∧ CmpIn b 2 pkN sigN ∧ s.keys.opens.find? (fun o => o.digest == slice b 8 32) = some o ∧
    (byteAt b 6 = 3 → o.csp = true) ∧ 1 ≤ byteAt b 5 ∧ byteAt b 5 ≤ o.count ∧ leAt b 40 2 = 0x1030
theorem clear_of (kind bk count : Nat) (expect : Bytes) (parts : List Component) (t : Nat) (hc : 1 ≤ count) :
    CmpOf (cmpCsp [{ cmpOpen kind count expect parts with tenant := t }] (clearBody bk)) (clearBody bk) { cmpOpen kind count expect parts with tenant := t } := by
  obtain ⟨h1, h5, h6, h8, h40, -, -, -, -⟩ := clear_in bk
  exact ⟨cmp_arrived _ _, h1, cmp_found _ _ _ rfl h8, fun _ => rfl, by rw [h5] <;> omega, by rw [h5]; exact hc, h40⟩
/-- A signer of another tenant, and one whose component is there already. -/
theorem witness_Component_signer :
    (CmpOf (cmpCsp [{ cmpOpen 2 2 (zeros 5) [] with tenant := 4 }] (clearBody 2)) (clearBody 2) { cmpOpen 2 2 (zeros 5) [] with tenant := 4 } ∧
      custodianOf 0x1030 ≠ some 4) ∧
    (CmpOf (cmpCsp [{ cmpOpen 2 2 (zeros 5) [⟨2, 0x1030, zeros 32⟩] with tenant := 3 }] (clearBody 2)) (clearBody 2)
      { cmpOpen 2 2 (zeros 5) [⟨2, 0x1030, zeros 32⟩] with tenant := 3 } ∧ ∃ q ∈ (cmpOpen 2 2 (zeros 5) [⟨2, 0x1030, zeros 32⟩]).parts, q.submitter = 0x1030) :=
  ⟨⟨clear_of _ _ _ _ _ _ (by decide), by decide⟩, ⟨clear_of _ _ _ _ _ _ (by decide), _, List.mem_cons_self, rfl⟩⟩
/-- A signature that does not verify, where the open scheme says so. -/
theorem witness_Component_signature (hv : Config.mldsaVerify 8 pkN (clearMsg 2) sigN = false) :
    CmpOf (cmpCsp [cmpOpen 2 2 (zeros 5) []] (clearBody 2)) (clearBody 2) (cmpOpen 2 2 (zeros 5) []) ∧
    (∃ cr, (cmpCsp [cmpOpen 2 2 (zeros 5) []] (clearBody 2)).cred? 0x1030 = some cr ∧ custodianOf 0x1030 = some 3 ∧ bitAt cr.roles roleOne = true ∧
      cr.isKey 2 pkN = true) ∧ credVerify 2 pkN sigN ((clearBody 2).take (56 + 32)) = false :=
  ⟨clear_of 2 2 2 (zeros 5) [] 3 (by decide), cmp_known _ _, by rw [(clear_in 2).2.2.2.2.2.2.2.2]; exact hv⟩
/-- A component whose field is not padded with zeros. -/
def badPad : Bytes := List.replicate 32 1#8
theorem witness_Component_padding (hv : Config.mldsaVerify 8 pkN (cmpA 1 3 0x1030 32 ++ (kcvOf 0 ++ (zeros 3 ++ badPad))) sigN = true) :
    let b := cmpBody 1 3 0x1030 32 (kcvOf 0) badPad
    let o := cmpOpen 0 2 (zeros 5) []
    CmpOf (cmpCsp [o] b) b o ∧ (∀ q ∈ o.parts, q.submitter ≠ 0x1030 ∧ q.index ≠ byteAt b 5) ∧ credVerify 2 pkN sigN (b.take (56 + 32)) = true ∧
      (cmpCsp [o] b).componentOf 0 b (slice b 56 32) = none := by
  intro b o
  obtain ⟨h1, h5, h6, h8, h40, -, -, h56, ht⟩ := cmp_in 1 3 0x1030 32 (kcvOf 0) badPad (by decide +kernel) (kcvOf_length 0) List.length_replicate
  refine ⟨⟨cmp_arrived _ _, h1, cmp_found _ _ _ rfl h8, fun _ => rfl, ?_, ?_, h40⟩, by intro q hq; exact absurd hq (by simp [o, cmpOpen]), ?_, ?_⟩
  · show 1 ≤ byteAt (cmpBody 1 3 0x1030 32 (kcvOf 0) badPad) 5
    rw [h5] <;> decide
  · show byteAt (cmpBody 1 3 0x1030 32 (kcvOf 0) badPad) 5 ≤ 2
    rw [h5] <;> decide
  · show credVerify 2 pkN sigN ((cmpBody 1 3 0x1030 32 (kcvOf 0) badPad).take (56 + 32)) = true
    rw [ht]; exact hv
  · show (cmpCsp [o] b).componentOf 0 (cmpBody 1 3 0x1030 32 (kcvOf 0) badPad) (slice (cmpBody 1 3 0x1030 32 (kcvOf 0) badPad) 56 32) = none
    rw [h56]
    unfold State.componentOf
    rw [h6]
    rfl
/-- What the clauses on a component's value share, for the clear component of the zero key. -/
def CmpValue (kind bk : Nat) (o : OpenLoad) (v : Bytes) : Prop :=
  let b := clearBody bk
  CmpOf (cmpCsp [o] b) b o ∧ o.kind = kind ∧ (∃ cr, (cmpCsp [o] b).cred? 0x1030 = some cr ∧ custodianOf 0x1030 = some o.tenant ∧ bitAt cr.roles roleOne = true ∧
    cr.isKey 2 pkN = true) ∧ (∀ q ∈ o.parts, q.submitter ≠ 0x1030 ∧ q.index ≠ byteAt b 5) ∧ credVerify 2 pkN sigN (b.take (56 + 32)) = true ∧
    (cmpCsp [o] b).componentOf o.kind b (slice b 56 32) = some v
theorem clear_known (kind count : Nat) (expect : Bytes) (hc : 1 ≤ count) (hk : kind ≤ 2) (hv : Config.mldsaVerify 8 pkN (clearMsg kind) sigN = true) :
    CmpValue kind kind (cmpOpen kind count expect []) (zeros (masterLen kind)) :=
  ⟨clear_of kind kind count expect [] 3 hc, rfl, cmp_known _ _, by intro q hq; exact absurd hq (by simp [cmpOpen]),
    by rw [(clear_in kind).2.2.2.2.2.2.2.2]; exact hv, clear_value _ _ hk⟩
/-- A component with a good check value, of two and of one; a weak key of two equal parts; a key of another expected value; and the key loaded. -/
theorem witness_Component_good (kind : Nat) (hk : kind ≤ 2) (hv : Config.mldsaVerify 8 pkN (clearMsg kind) sigN = true) :
    fitTo 5 (keyCheck (masterAlg kind) (zeros (masterLen kind))) = slice (clearBody kind) 48 5 ∧
    (CmpValue kind kind (cmpOpen kind 2 (zeros 5) []) (zeros (masterLen kind)) ∧ ([] ++ [(⟨1, 0x1030, zeros (masterLen kind)⟩ : Component)]).length < 2) ∧
    (CmpValue kind kind (cmpOpen kind 1 (zeros 5) []) (zeros (masterLen kind)) ∧ 1 ≤ ([] ++ [(⟨1, 0x1030, zeros (masterLen kind)⟩ : Component)]).length) ∧
    CmpValue kind kind (cmpOpen kind 1 (List.replicate 5 0xFF#8) []) (zeros (masterLen kind)) :=
  ⟨by rw [(clear_in kind).2.2.2.2.2.2.1]; rfl, ⟨clear_known _ _ _ (by decide) hk hv, by simp⟩, ⟨clear_known _ _ _ (by decide) hk hv, by simp⟩,
    clear_known _ _ _ (by decide) hk hv⟩
theorem witness_Component_keys :
    weakTdes (combine [⟨1, 0x1030, zeros 24⟩] 24) = true ∧ allZero (List.replicate 5 0xFF#8) = false ∧
    List.replicate 5 0xFF#8 ≠ fitTo 5 (keyCheck (masterAlg 2) (combine [⟨1, 0x1030, zeros 32⟩] 32)) ∧ allZero (zeros 5) = true := by decide +kernel
/-- A component with the wrong check value. -/
theorem witness_Component_check (hv : Config.mldsaVerify 8 pkN (cmpA 1 3 0x1030 32 ++ (zeros 5 ++ (zeros 3 ++ zeros 32))) sigN = true) :
    let b := cmpBody 1 3 0x1030 32 (zeros 5) (zeros 32)
    let o := cmpOpen 2 2 (zeros 5) []
    CmpOf (cmpCsp [o] b) b o ∧ credVerify 2 pkN sigN (b.take (56 + 32)) = true ∧
      (cmpCsp [o] b).componentOf 2 b (slice b 56 32) = some (zeros 32) ∧ fitTo 5 (keyCheck (masterAlg 2) (zeros 32)) ≠ slice b 48 5 := by
  intro b o
  obtain ⟨h1, h5, h6, h8, h40, -, h48, h56, ht⟩ := cmp_in 1 3 0x1030 32 (zeros 5) (zeros 32) (by decide +kernel) List.length_replicate List.length_replicate
  refine ⟨⟨cmp_arrived _ _, h1, cmp_found _ _ _ rfl h8, fun _ => rfl, ?_, ?_, h40⟩, ?_, ?_, ?_⟩
  · show 1 ≤ byteAt (cmpBody 1 3 0x1030 32 (zeros 5) (zeros 32)) 5
    rw [h5] <;> decide
  · show byteAt (cmpBody 1 3 0x1030 32 (zeros 5) (zeros 32)) 5 ≤ 2
    rw [h5] <;> decide
  · show credVerify 2 pkN sigN ((cmpBody 1 3 0x1030 32 (zeros 5) (zeros 32)).take (56 + 32)) = true
    rw [ht]; exact hv
  · show (cmpCsp [o] b).componentOf 2 (cmpBody 1 3 0x1030 32 (zeros 5) (zeros 32)) (slice (cmpBody 1 3 0x1030 32 (zeros 5) (zeros 32)) 56 32) = _
    rw [h56]
    unfold State.componentOf
    rw [h6]
    rfl
  · show _ ≠ slice (cmpBody 1 3 0x1030 32 (zeros 5) (zeros 32)) 48 5
    rw [h48]
    decide +kernel
/-- A component in a tenant's slot, which RSA-OAEP deciphers: a fact taken as the premise. -/
def oaepBody : Bytes := cmpBody 1 2 0x1030 384 (kcvOf 2) (zeros 384)
def cmpSt (o : OpenLoad) : State := sgSt (fun s => { s with keys := { s.keys with opens := [o] } })
theorem witness_Component_slot (hc : (served 3 3 oaepBody (cmpSt (cmpOpen 2 2 (zeros 5) []))).componentOf 2 oaepBody (zeros 384) = some (zeros 32))
    (hv : Config.mldsaVerify 8 pkN (cmpA 1 2 0x1030 384 ++ (kcvOf 2 ++ (zeros 3 ++ zeros 384))) sigN = true) :
    let o := cmpOpen 2 2 (zeros 5) []
    let s := served 3 3 oaepBody (cmpSt o)
    ArrivedAs s 3 0x03 4 oaepBody s ∧ CmpIn oaepBody 2 pkN sigN ∧ s.keys.opens.find? (fun o => o.digest == slice oaepBody 8 32) = some o ∧
      o.tenant = 3 ∧ byteAt oaepBody 6 = 2 ∧ byteAt oaepBody 5 = 1 ∧ leAt oaepBody 40 2 = 0x1030 ∧
      credVerify 2 pkN sigN (oaepBody.take (56 + leAt oaepBody 42 2)) = true ∧
      s.componentOf o.kind oaepBody (slice oaepBody 56 (leAt oaepBody 42 2)) = some (zeros 32) ∧
      fitTo 5 (keyCheck (masterAlg o.kind) (zeros 32)) = slice oaepBody 48 5 := by
  intro o s
  obtain ⟨h1, h5, h6, h8, h40, h42, h48, h56, ht⟩ := cmp_in 1 2 0x1030 384 (kcvOf 2) (zeros 384) (by decide +kernel) (kcvOf_length 2) List.length_replicate
  have hl : oaepBody.length = 5705 := by
    simp only [oaepBody, cmpBody, List.length_append, blkN_length, kcvOf_length, zeros, List.length_replicate]
    rw [show (cmpA 1 2 0x1030 384).length = 48 by decide +kernel]
  refine ⟨Or.inl ⟨by omega, ?_, rfl⟩, h1, cmp_found _ _ _ rfl h8, rfl, h6, h5, h40, ?_, ?_, ?_⟩
  · exact served_big (cmpSt o) 3 3 (cmpA 1 2 0x1030 384) _ (by decide +kernel) (by rw [← cmpBody]; show oaepBody.length < _; omega) (by omega)
      (by decide +kernel) (by decide +kernel) rfl
  · show credVerify 2 pkN sigN ((cmpBody 1 2 0x1030 384 (kcvOf 2) (zeros 384)).take (56 + leAt (cmpBody 1 2 0x1030 384 (kcvOf 2) (zeros 384)) 42 2)) = true
    rw [h42, ht]; exact hv
  · show s.componentOf 2 oaepBody (slice (cmpBody 1 2 0x1030 384 (kcvOf 2) (zeros 384)) 56 (leAt (cmpBody 1 2 0x1030 384 (kcvOf 2) (zeros 384)) 42 2)) = _
    rw [h42, h56]; exact hc
  · show _ = slice (cmpBody 1 2 0x1030 384 (kcvOf 2) (zeros 384)) 48 5
    rw [h48]; rfl
theorem witness_Components_down : downOk 3 0x03 = true ∧ downOk 3 0x04 = true ∧ downOk 3 0x05 = true ∧ idleOk 3 0x03 = true ∧ idleOk 3 0x04 = true ∧
    idleOk 3 0x05 = true := by decide +kernel
/-- ABORT: of no open ceremony, by no signer of it, with a signature that does not verify, and with one that does. -/
def abortBody : Bytes := zeros 32 ++ blkN
theorem abort_served (o : OpenLoad) : Served (served 3 4 abortBody (cmpSt o)) 3 4 abortBody ∧ signerBlock (abortBody.drop 32) = some (2, pkN, sigN, []) ∧
    abortBody.take 32 = zeros 32 :=
  ⟨served_big (cmpSt o) 3 4 (zeros 32) blkN (by decide) (by rw [List.length_append, blkN_length]; decide) (by omega) (by rfl) (by rfl) rfl,
    signerBlock_tail _ _ rfl, take_head _ _ _ rfl⟩
theorem witness_ComponentsAndAborts_abort (v : Bool) (hv : Config.mldsaVerify 8 pkN (zeros 32) sigN = v) :
    (let o := cmpOpen 2 2 (zeros 5) []
     let s := served 3 4 abortBody (cmpSt o)
     Served s 3 4 abortBody ∧ signerBlock (abortBody.drop 32) = some (2, pkN, sigN, []) ∧ s.keys.opens.find? (fun o => o.digest == abortBody.take 32) = some o ∧
      o.tenant = 3 ∧ (∃ cr, s.cred? o.signers.1 = some cr ∧ cr.isKey 2 pkN = true) ∧ credVerify 2 pkN sigN (abortBody.take 32) = v) ∧
    (let o := { cmpOpen 2 2 (zeros 5) [] with digest := badPad }
     let s := served 3 4 abortBody (cmpSt o)
     Served s 3 4 abortBody ∧ s.keys.opens.find? (fun o => o.digest == abortBody.take 32) = none) ∧
    (let o := { cmpOpen 2 2 (zeros 5) [] with signers := (0x1035, 0x1036) }
     let s := served 3 4 abortBody (cmpSt o)
     Served s 3 4 abortBody ∧ s.keys.opens.find? (fun o => o.digest == abortBody.take 32) = some o ∧ s.cred? o.signers.1 = none ∧ s.cred? o.signers.2 = none) := by
  refine ⟨⟨(abort_served _).1, (abort_served (cmpOpen 2 2 (zeros 5) [])).2.1, cmp_found _ _ _ rfl (abort_served (cmpOpen 2 2 (zeros 5) [])).2.2, rfl,
    ⟨crN 0x1030, rfl, by simp only [Credential.isKey, crN_alg, crN_digest]; simp⟩, ?_⟩, ⟨(abort_served _).1, ?_⟩,
    ⟨(abort_served _).1, cmp_found _ _ _ rfl (abort_served (cmpOpen 2 2 (zeros 5) [])).2.2, rfl, rfl⟩⟩
  · rw [(abort_served (cmpOpen 2 2 (zeros 5) [])).2.2]; exact hv
  · rw [(abort_served (cmpOpen 2 2 (zeros 5) [])).2.2]; rfl
/-- CANCEL_STATE: by a custodian with the role, the signature good or not, and where no custodian holds it. -/
def cancelBody : Bytes := natToLe 8 3 ++ blkN
def lessRoles (s : State) : State := s.modTenant 3 (fun x => { x with custodians := [] })
theorem cancel_served (f : State → State) (hf : f = id ∨ f = lessRoles) : Served (served 3 5 cancelBody (sgSt f)) 3 5 cancelBody := by
  rcases hf with rfl | rfl
  · exact served_big (sgSt id) 3 5 (natToLe 8 3) blkN (by decide) (by rw [List.length_append, blkN_length]; decide) (by omega) (by rfl) (by rfl) rfl
  · exact served_big (sgSt lessRoles) 3 5 (natToLe 8 3) blkN (by decide) (by rw [List.length_append, blkN_length]; decide) (by omega) (by rfl) (by rfl) rfl
theorem witness_ComponentsAndAborts_cancel (v : Bool) (hv : Config.mldsaVerify 8 pkN (natToLe 8 3) sigN = v) :
    (let s := served 3 5 cancelBody (sgSt id)
     Served s 3 5 cancelBody ∧ signerBlock (cancelBody.drop 8) = some (2, pkN, sigN, []) ∧ byteAt cancelBody 0 ≤ 3 ∧ allZero (slice cancelBody 1 7) = true ∧
      s.keys.root.isSome = true ∧ (∃ cr ∈ (s.tenant 3).custodians, bitAt cr.roles roleTwo = true ∧ cr.isKey 2 pkN = true) ∧
      credVerify 2 pkN sigN (cancelBody.take 8) = v) ∧
    (let s := served 3 5 cancelBody (sgSt lessRoles)
     Served s 3 5 cancelBody ∧ (s.tenant 3).custodians = []) := by
  have e : cancelBody.take 8 = natToLe 8 3 := take_head _ _ _ rfl
  refine ⟨⟨cancel_served _ (Or.inl rfl), signerBlock_tail _ _ rfl, Nat.le_refl 3, rfl, rfl,
    ⟨crN 0x1030, List.mem_cons_self, by decide, by simp only [Credential.isKey, crN_alg, crN_digest]; simp⟩, by rw [e]; exact hv⟩,
    ⟨cancel_served _ (Or.inr rfl), rfl⟩⟩
/-- A pairing whose time is over, one whose time is not, and none. -/
def pairW (f : Pair → Pair) (s : State) : State := { s with pair := f s.pair }
def pairing1 : Pairing := ⟨9, zeros 32, 5, 64⟩
theorem witness_ComponentsAndAborts_pairing :
    ((sgSt (pairW (fun p => { p with pairing := some pairing1 }))).pair.pairing = some pairing1 ∧ pairing1.notAfter ≤ (sgSt id).now) ∧
    ((sgSt (pairW (fun p => { p with pairing := some { pairing1 with notAfter := 11 } }))).pair.pairing = some { pairing1 with notAfter := 11 } ∧
      (sgSt id).now < 11) ∧ (sgSt id).pair.pairing = none := by decide +kernel
/-- A COMMISSION request of the integrator for officers 1 and 2, on a unit FIELDED and without a root key. -/
def comKey : Bytes := zeros 68
def comHead : Bytes :=
  natToLe 4 0x4D4F4344 ++ [1#8] ++ zeros 11 ++ zeros 32 ++ natToLe 2 1 ++ [1#8, 0#8] ++ zeros 32 ++ natToLe 2 2 ++ [2#8, 0#8] ++ zeros 32 ++ zeros 8
    ++ natToLe 4 1 ++ comKey
def comBody : Bytes := comHead ++ zeros 2820
def comSt (f : State → State) : State :=
  let s := sgSt rngW
  f { s with
      otp := { s.otp with keys := [(1, shake256 32 comKey)], words := [(0, 0xFFFF), (1, 0xFFFF), (2, 0xFFFF)] }
      keys := { s.keys with root := none } }
theorem comHead_length : comHead.length = 200 := by decide +kernel
/-- The request, in any state that has its slot open. -/
theorem com_served (s : State) (hu : s.otp.uid = 0) (hg : s.gate 64 7 comHead = none) (hj : s.journalFull = false) (hm : s.keys.mb = []) :
    Served (served 64 7 comBody s) 64 7 comBody ∧ commissionFormat (served 64 7 comBody s).otp.uid comBody = some [(1, 1, zeros 32), (2, 2, zeros 32)] ∧
      slice comBody 16 32 = zeros 32 ∧ byteAt comBody 128 = 1 ∧ slice comBody 132 68 = comKey ∧ comBody.take 128 = comHead.take 128 ∧
      comBody.drop 200 = zeros 2820 := by
  have l := comHead_length
  have f (o n : Nat) (h : o + n ≤ 200) : slice comBody o n = slice comHead o n := slice_left _ _ _ _ (by omega)
  have fb (o : Nat) (h : o < 200) : byteAt comBody o = byteAt comHead o := byteAt_left _ _ _ (by omega)
  have hb : comBody.length = 3020 := by
    show (comHead ++ zeros 2820).length = 3020
    rw [List.length_append, l, zeros, List.length_replicate]
  refine ⟨served_big s 64 7 comHead _ (by omega) (by show comBody.length < _; rw [hb]; omega) (by omega) hg hj hm, ?_, ?_, ?_, ?_, ?_, ?_⟩
  · show commissionFormat s.otp.uid comBody = _
    rw [hu]
    unfold commissionFormat
    simp only [leAt, f _ _ (show 0 + 4 ≤ 200 by omega), f _ _ (show 5 + 3 ≤ 200 by omega), f _ _ (show 8 + 8 ≤ 200 by omega),
      f _ _ (show 120 + 8 ≤ 200 by omega), f _ _ (show 129 + 3 ≤ 200 by omega), f _ _ (show 48 + 2 ≤ 200 by omega), f _ _ (show 48 + 4 + 32 ≤ 200 by omega),
      f _ _ (show 84 + 2 ≤ 200 by omega), f _ _ (show 84 + 4 + 32 ≤ 200 by omega), fb 4 (by omega), fb 51 (by omega), fb 87 (by omega),
      fb (48 + 2) (by omega), fb (84 + 2) (by omega)]
    rw [if_pos ⟨hb, by decide +kernel⟩]
    decide +kernel
  · rw [f 16 32 (by omega)]; decide +kernel
  · rw [fb 128 (by omega)]; decide +kernel
  · rw [f 132 68 (by omega)]; decide +kernel
  · exact List.take_append_of_le_length (by omega)
  · show (comHead ++ zeros 2820).drop 200 = _
    rw [List.drop_append_of_le_length (by omega), List.drop_eq_nil_of_le (by omega), List.nil_append]
/-- The unit without a generator, with a root key, without the integrator's key, and without a challenge. -/
def noGen (s : State) : State := { s with ent := Entropy.reset }
def noKey (s : State) : State := { s with otp := { s.otp with keys := [] } }
theorem com_key (f : State → State) (h : (comSt f).otp.keys = [(1, shake256 32 comKey)]) : tabGet [] (served 64 7 comBody (comSt f)).otp.keys 1 = shake256 32 comKey := by
  show tabGet [] (comSt f).otp.keys 1 = _
  rw [h]
  simp only [tabGet, if_true]
theorem com_key_there : shake256 32 comKey ≠ [] := by
  intro h
  have := shake256_length 32 comKey (by omega)
  rw [h] at this
  exact absurd this (by decide)
/-- Everything in order, with a signature that the open scheme verifies or not. -/
theorem witness_Commissioning (v : Bool) (hv : Config.xmssVerify comKey (comHead.take 128) (zeros 2820) = v) :
    let s := served 64 7 comBody (comSt id)
    Served s 64 7 comBody ∧ commissionFormat s.otp.uid comBody = some [(1, 1, zeros 32), (2, 2, zeros 32)] ∧
      s.useChallenge (slice comBody 16 32) = some (used s ⟨zeros 32, 1000⟩) ∧ (s.lc = .integrator ∨ s.lc = .fielded) ∧ s.keys.root = none ∧
      byteAt comBody 128 = 1 ∧ tabGet [] s.otp.keys 1 ≠ [] ∧ shake256 32 (slice comBody 132 68) = tabGet [] s.otp.keys 1 ∧
      Config.xmssVerify (slice comBody 132 68) (comBody.take 128) (comBody.drop 200) = v ∧ ((used s ⟨zeros 32, 1000⟩).drbgBytes 192 288).isSome = true := by
  intro s
  obtain ⟨h1, h2, h16, h128, h132, ht, hd⟩ := com_served (comSt id) (by rfl) (by decide +kernel) (by decide +kernel) rfl
  refine ⟨h1, h2, by rw [h16]; rfl, by decide +kernel, rfl, h128, by rw [com_key id rfl]; exact com_key_there, by rw [h132, com_key id rfl],
    by rw [h132, ht, hd]; exact hv, by decide +kernel⟩
/-- The same without random numbers. -/
theorem witness_Commissioning_waits (hv : Config.xmssVerify comKey (comHead.take 128) (zeros 2820) = true) :
    let s := served 64 7 comBody (comSt noGen)
    Served s 64 7 comBody ∧ commissionFormat s.otp.uid comBody = some [(1, 1, zeros 32), (2, 2, zeros 32)] ∧
      s.useChallenge (slice comBody 16 32) = some (used s ⟨zeros 32, 1000⟩) ∧ (s.lc = .integrator ∨ s.lc = .fielded) ∧ s.keys.root = none ∧
      byteAt comBody 128 = 1 ∧ tabGet [] s.otp.keys 1 ≠ [] ∧ shake256 32 (slice comBody 132 68) = tabGet [] s.otp.keys 1 ∧
      Config.xmssVerify (slice comBody 132 68) (comBody.take 128) (comBody.drop 200) = true ∧ (used s ⟨zeros 32, 1000⟩).drbgBytes 192 288 = none := by
  intro s
  obtain ⟨h1, h2, h16, h128, h132, ht, hd⟩ := com_served (comSt noGen) (by rfl) (by decide +kernel) (by decide +kernel) rfl
  refine ⟨h1, h2, by rw [h16]; rfl, by decide +kernel, rfl, h128, by rw [com_key noGen rfl]; exact com_key_there, by rw [h132, com_key noGen rfl],
    by rw [h132, ht, hd]; exact hv, rfl⟩
/-- Turned down, not its turn, of bad format, without its challenge, with a root key, and without the integrator's key. -/
theorem witness_Commissioning_refused :
    downOk 64 0x07 = true ∧ idleOk 64 0x07 = true ∧
    (servedB (served 64 7 [] (comSt id)) 64 7 [] = true ∧ commissionFormat (comSt id).otp.uid [] = none) ∧
    (let s := served 64 7 comBody (comSt noChal)
     Served s 64 7 comBody ∧ commissionFormat s.otp.uid comBody = some [(1, 1, zeros 32), (2, 2, zeros 32)] ∧ s.useChallenge (slice comBody 16 32) = none) ∧
    (let s := served 64 7 comBody (comSt (fun s => { s with keys := { s.keys with root := some (zeros 32) } }))
     Served s 64 7 comBody ∧ commissionFormat s.otp.uid comBody = some [(1, 1, zeros 32), (2, 2, zeros 32)] ∧
      (s.useChallenge (slice comBody 16 32)).isSome = true ∧ s.keys.root.isSome = true) ∧
    (let s := served 64 7 comBody (comSt noKey)
     Served s 64 7 comBody ∧ commissionFormat s.otp.uid comBody = some [(1, 1, zeros 32), (2, 2, zeros 32)] ∧
      (s.useChallenge (slice comBody 16 32)).isSome = true ∧ s.lc = .fielded ∧ s.keys.root = none ∧ tabGet [] s.otp.keys 1 = []) := by
  refine ⟨by decide +kernel, by decide +kernel, by decide +kernel, ?_, ?_, ?_⟩
  · obtain ⟨h1, h2, h16, -⟩ := com_served (comSt noChal) (by rfl) (by decide +kernel) (by decide +kernel) rfl
    exact ⟨h1, h2, by rw [h16]; rfl⟩
  · obtain ⟨h1, h2, h16, -⟩ := com_served (comSt (fun s => { s with keys := { s.keys with root := some (zeros 32) } })) (by rfl) (by decide +kernel) (by decide +kernel) rfl
    exact ⟨h1, h2, by rw [h16]; rfl, rfl⟩
  · obtain ⟨h1, h2, h16, -⟩ := com_served (comSt noKey) (by rfl) (by decide +kernel) (by decide +kernel) rfl
    exact ⟨h1, h2, by rw [h16]; rfl, by decide +kernel, rfl, rfl⟩

/-! ### Witnesses: key management (chapter 9) -/

/-- A key block protection key of sixteen zero bytes under handle 4 of tenant 3, and its block of the key of `rec2`, of usage D0. -/
def rec4 : Bytes :=
  bytesOf ([1, 0, 9, 0, 4, 0, 0, 3, 3, 75, 49, 66, 78, 0, 0, 67] ++
  [16, 0, 0, 0, 0, 0, 0, 0, 0, 0, 0, 0, 0, 0, 0, 0] ++
  [0, 0, 0, 0, 0, 0, 0, 0, 118, 60, 188, 222, 129, 0, 0, 0] ++
  [0, 0, 0, 0, 0, 0, 0, 0, 0, 0, 0, 0, 0, 0, 0, 0] ++
  [37, 20, 188, 119, 243, 179, 104, 46, 155, 123, 77, 224, 114, 62, 14, 25] ++
  [209, 76, 22, 74, 227, 204, 57, 138, 51, 218, 244, 161, 24, 184, 69, 40] ++
  [208, 21, 118, 188, 5, 107, 63, 7, 140, 19, 122, 16, 28, 67, 135, 140] ++
  [0, 0, 0, 0, 0, 0, 0, 0, 0, 0, 0, 0, 0, 0, 0, 0])
def blk1 : Bytes :=
  bytesOf ([68, 48, 49, 49, 50, 68, 48, 65, 66, 48, 48, 69, 48, 48, 48, 48] ++
  [51, 65, 51, 55, 57, 50, 67, 66, 55, 67, 68, 68, 52, 69, 49, 53] ++
  [65, 65, 52, 69, 57, 55, 69, 55, 67, 65, 50, 51, 52, 57, 48, 66] ++
  [53, 55, 66, 69, 53, 48, 49, 66, 50, 69, 53, 53, 67, 65, 48, 50] ++
  [69, 70, 54, 49, 57, 68, 51, 56, 52, 68, 48, 55, 57, 68, 65, 57] ++
  [48, 54, 56, 69, 68, 67, 70, 57, 67, 53, 66, 66, 70, 54, 65, 48] ++
  [54, 50, 69, 50, 49, 69, 55, 49, 51, 66, 53, 55, 57, 55, 50, 69])
/-- A block of the same key block protection key for an elliptic curve, and an image of such a key under generation 1. -/
def blkE : Bytes :=
  bytesOf ([68, 48, 48, 56, 48, 83, 48, 69, 83, 48, 48, 69, 48, 48, 48, 48] ++
  [55, 56, 54, 49, 54, 53, 53, 65, 69, 53, 49, 50, 67, 52, 69, 50] ++
  [55, 50, 53, 50, 52, 51, 68, 48, 57, 51, 55, 57, 49, 51, 66, 56] ++
  [48, 48, 67, 51, 65, 53, 67, 56, 48, 49, 69, 54, 70, 51, 65, 56] ++
  [67, 70, 70, 70, 68, 48, 48, 70, 54, 56, 54, 50, 50, 54, 55, 67])
def img1 : Bytes :=
  bytesOf ([77, 73, 75, 49, 2, 3, 1, 69, 83, 48, 83, 0, 0, 0, 32, 0] ++
  [0, 0, 0, 0, 0, 0, 0, 0, 0, 0, 0, 0, 0, 0, 0, 0] ++
  [96, 26, 180, 68, 105, 61, 11, 155, 227, 106, 98, 135, 192, 231, 126, 74] ++
  [53, 150, 8, 129, 91, 191, 219, 76, 2, 126, 152, 130, 169, 248, 74, 38] ++
  [63, 131, 59, 173, 197, 73, 224, 121, 59, 21, 165, 151, 170, 252, 94, 236])
/-- A record under handle 8 that may not be exported, an image that may not, the PKCS#8 structure of the key 1 on P-256, and two blocks of it: of usage S0 and of usage D0. -/
def rec8 : Bytes :=
  bytesOf ([1, 0, 9, 0, 8, 0, 0, 3, 3, 68, 48, 66, 78, 0, 0, 67] ++
  [16, 0, 0, 0, 0, 0, 0, 0, 0, 0, 0, 0, 0, 0, 0, 0] ++
  [0, 0, 0, 0, 0, 0, 0, 0, 118, 60, 188, 222, 129, 0, 0, 0] ++
  [0, 0, 0, 0, 0, 0, 0, 0, 0, 0, 0, 0, 0, 0, 0, 0] ++
  [224, 130, 149, 233, 192, 249, 73, 206, 253, 190, 131, 197, 196, 139, 47, 117] ++
  [67, 231, 159, 92, 45, 173, 179, 103, 130, 66, 207, 221, 104, 76, 89, 181] ++
  [43, 243, 15, 99, 1, 162, 18, 105, 183, 204, 128, 42, 10, 165, 141, 150] ++
  [0, 0, 0, 0, 0, 0, 0, 0, 0, 0, 0, 0, 0, 0, 0, 0])
def imgN : Bytes :=
  bytesOf ([77, 73, 75, 49, 2, 3, 1, 78, 83, 48, 83, 0, 0, 0, 32, 0] ++
  [0, 0, 0, 0, 0, 0, 0, 0, 0, 0, 0, 0, 0, 0, 0, 0] ++
  [96, 26, 180, 68, 105, 61, 11, 155, 227, 106, 98, 135, 192, 231, 126, 74] ++
  [53, 150, 8, 129, 91, 191, 219, 76, 2, 126, 152, 130, 169, 248, 74, 38] ++
  [95, 154, 150, 29, 161, 62, 64, 20, 34, 208, 193, 223, 24, 118, 243, 157])
def p8 : Bytes :=
  bytesOf ([48, 65, 2, 1, 0, 48, 19, 6, 7, 42, 134, 72, 206, 61, 2, 1] ++
  [6, 8, 42, 134, 72, 206, 61, 3, 1, 7, 4, 39, 48, 37, 2, 1] ++
  [1, 4, 32, 0, 0, 0, 0, 0, 0, 0, 0, 0, 0, 0, 0, 0] ++
  [0, 0, 0, 0, 0, 0, 0, 0, 0, 0, 0, 0, 0, 0, 0, 0] ++
  [0, 0, 1])
def blkP : Bytes :=
  bytesOf ([68, 48, 50, 48, 56, 83, 48, 69, 83, 48, 48, 69, 48, 48, 48, 48] ++
  [48, 51, 70, 51, 65, 56, 56, 67, 66, 55, 68, 54, 48, 70, 49, 50] ++
  [53, 56, 69, 50, 56, 67, 54, 52, 67, 65, 50, 69, 67, 56, 55, 52] ++
  [67, 56, 69, 50, 67, 66, 69, 65, 56, 54, 67, 68, 50, 65, 52, 55] ++
  [70, 56, 66, 51, 55, 55, 50, 67, 56, 65, 52, 50, 52, 66, 51, 48] ++
  [53, 49, 67, 54, 70, 48, 70, 48, 49, 66, 66, 50, 52, 49, 51, 70] ++
  [56, 49, 48, 65, 67, 55, 67, 56, 67, 52, 57, 49, 66, 52, 49, 48] ++
  [67, 50, 57, 69, 69, 53, 68, 48, 48, 52, 52, 67, 53, 68, 51, 55] ++
  [53, 69, 56, 69, 57, 52, 70, 54, 55, 49, 70, 65, 68, 54, 65, 53] ++
  [56, 70, 69, 50, 55, 53, 55, 68, 56, 48, 49, 70, 66, 55, 68, 54] ++
  [68, 69, 70, 51, 67, 52, 49, 48, 55, 49, 51, 67, 55, 49, 57, 68] ++
  [50, 50, 54, 53, 54, 55, 54, 49, 68, 66, 67, 49, 67, 50, 57, 70] ++
  [50, 55, 67, 48, 66, 49, 66, 65, 48, 53, 48, 65, 49, 48, 67, 57])
def blkQ : Bytes :=
  bytesOf ([68, 48, 50, 48, 56, 68, 48, 69, 83, 48, 48, 69, 48, 48, 48, 48] ++
  [55, 49, 51, 52, 54, 56, 48, 51, 53, 70, 49, 68, 50, 66, 67, 66] ++
  [49, 51, 55, 70, 53, 56, 65, 56, 49, 56, 52, 52, 53, 53, 69, 56] ++
  [49, 52, 53, 51, 70, 50, 69, 54, 49, 52, 50, 51, 49, 67, 56, 54] ++
  [51, 55, 68, 57, 69, 49, 68, 49, 68, 68, 70, 57, 52, 56, 69, 56] ++
  [70, 66, 70, 54, 68, 50, 68, 55, 66, 55, 51, 68, 48, 52, 50, 51] ++
  [51, 51, 65, 67, 49, 67, 69, 66, 67, 52, 49, 55, 56, 54, 56, 70] ++
  [50, 52, 69, 53, 67, 53, 57, 70, 69, 67, 49, 53, 67, 67, 67, 49] ++
  [70, 56, 70, 53, 55, 48, 50, 67, 53, 55, 54, 54, 56, 56, 51, 66] ++
  [67, 66, 51, 51, 65, 56, 70, 54, 56, 52, 68, 57, 49, 57, 53, 52] ++
  [67, 52, 67, 69, 56, 52, 67, 66, 56, 70, 50, 68, 68, 67, 70, 65] ++
  [56, 69, 67, 48, 55, 52, 65, 66, 53, 53, 70, 51, 48, 57, 50, 50] ++
  [65, 65, 49, 67, 67, 65, 65, 54, 51, 52, 70, 50, 66, 54, 57, 66])
/-- The store with the records, whose lines have been read, time trusted, the generator ready. -/
def kmStore : Store :=
  let d (r : Bytes) : Bytes := fitTo 256 r
  { openStore with
      tree := ⟨[(1, ⟨1, d rec2⟩), (2, ⟨1, d rec4⟩), (4, ⟨1, d rec8⟩)], []⟩
      reads := [⟨11, 1, [], false, (1, 0), .good (d rec2)⟩, ⟨12, 2, [], false, (1, 0), .good (d rec4)⟩, ⟨14, 4, [], false, (1, 0), .good (d rec8)⟩]
      checks := [(11, 1, true), (12, 2, true), (14, 4, true)] }
def kmW (f : State → State) : State :=
  kmSt (fun s0 =>
    let s := regW (Reg.TBL_KH_CFG_LIMIT 3) 16 (regW (Reg.TBL_KH_CFG_GENOCC 3) 14 (rngW s0))
    f { s with
        time := { s.time with state := .trusted, now := 10 }
        store := kmStore
        keys := { s.keys with
                    tenants := [(3, { s.tenant 3 with masters := [(1, some mkD), (2, some mkD), (3, some ⟨0, zeros 24⟩)] })]
                    transport := (zeros 64, zeros 64) } })
/-- A request of tenant 3 on that state, changed by `f`, and the same once the lines that it needs are there. -/
def kmReq (f : State → State) (op : Nat) (b : Bytes) : State := served 3 op b (kmW f)
def kmGot (f : State → State) (op : Nat) (b : Bytes) : State := ((kmReq f op b).wantLines (kmLines (kmReq f op b) 3 op b)).2
/-- Whether such a request is served and finds its lines. -/
def kmB (f : State → State) (op : Nat) (b : Bytes) : Bool :=
  servedB (kmReq f op b) 3 op b && ((kmReq f op b).wantLines (kmLines (kmReq f op b) 3 op b)).1
theorem km_runs (f : State → State) (op : Nat) (b : Bytes) (h : kmB f op b = true) (ha : ∀ i, kmAuth op = some i → (kmReq f op b).authorised 3 i = true)
    (hf : KmFormat (kmReq f op b) 3 op b) : KmRuns (kmReq f op b) 3 op b (kmGot f op b) := by
  simp only [kmB, Bool.and_eq_true] at h
  exact ⟨served_of _ _ _ _ h.1, ha, hf, Prod.ext h.2 rfl⟩
theorem km_auth (op : Nat) (b : Bytes) (i : Nat) (_ : kmAuth op = some i) : (kmReq id op b).authorised 3 i = true := by
  by_cases h : i = 0
  · subst h; rfl
  · simp only [State.authorised, if_neg h]
    rfl
theorem record4_opens : recordOpen mkD rec4 = some (zeros 32) := by
  simp only [recordOpen, derive_encD, derive_macD]
  decide +kernel
theorem record4_fault : recordFault 3 4 mkD rec4 = .inr (zeros 32) := by
  unfold recordFault
  rw [record4_opens]
  decide +kernel
theorem kmOpen_of (s : State) (t h : Nat) (b c : Bytes) (m : MasterKey) (h1 : s.kmRecord t h = .inr b) (h2 : s.master t (recordGen b) = some m)
    (h3 : recordFault t h m b = .inr c) : s.kmOpen t h = .inr (b, c) := by
  unfold State.kmOpen
  rw [h1]
  simp only [h2, h3]
theorem kbpk_of (s : State) (t h : Nat) (l : List Char) (b c : Bytes) (h1 : s.kmOpen t h = .inr (b, c)) (h2 : (recordKey b c).usage = chars 'K' '1')
    (h3 : (modeList l).contains (recordKey b c).mode = true) (h4 : (recordKey b c).alg ≠ 6) : s.kbpk t h l = .inr (recordKey b c) := by
  unfold State.kbpk
  rw [h1]
  exact if_pos ⟨Or.inr h2, h3, h4⟩
theorem record4_key : (recordKey rec4 (zeros 32)).usage = chars 'K' '1' ∧ (recordKey rec4 (zeros 32)).mode = 'B'.toNat ∧
    (recordKey rec4 (zeros 32)).alg = 3 ∧ (recordKey rec4 (zeros 32)).val = zeros 16 := by decide +kernel
/-- The record of handle 2 opened in a state, and the key block protection key of handle 4, given that the state reads them. -/
theorem open2 (w : State) (h1 : w.kmRecord 3 2 = .inr rec2) (h2 : w.master 3 1 = some mkD) : w.kmOpen 3 2 = .inr (rec2, zeros 32) :=
  kmOpen_of _ _ _ _ _ mkD h1 h2 record2_fault
theorem kbpk4 (w : State) (l : List Char) (hl : (modeList l).contains ('B'.toNat) = true) (h1 : w.kmRecord 3 4 = .inr rec4) (h2 : w.master 3 1 = some mkD) :
    w.kbpk 3 4 l = .inr (recordKey rec4 (zeros 32)) :=
  kbpk_of _ _ _ _ _ _ (kmOpen_of _ _ _ _ _ mkD h1 h2 record4_fault) record4_key.1 (record4_key.2.1 ▸ hl) (by rw [record4_key.2.2.1]; decide)
theorem record8_opens : recordOpen mkD rec8 = some (zeros 32) := by
  simp only [recordOpen, derive_encD, derive_macD]
  decide +kernel
theorem record8_fault : recordFault 3 8 mkD rec8 = .inr (zeros 32) := by
  unfold recordFault
  rw [record8_opens]
  decide +kernel
def b20 (h : Nat) : Bytes :=
  natToLe 4 h ++ [0#8, 2#8, 0#8, 0#8] ++ natToLe 7 (3 + 0x3044 * 2 ^ 8 + 0x42 * 2 ^ 24 + 0x45 * 2 ^ 32) ++ [0#8] ++ natToLe 8 16 ++ zeros 24
/-- KM_GENERATE: a handle in use, no random bytes, and a free handle. -/
theorem km20 (f : State → State) (h : Nat) (hb : kmB f 0x20 (b20 h) = true) (hk : (kmReq f 0x20 (b20 h)).authorised 3 0 = true)
    (hh : KmFormat (kmReq f 0x20 (b20 h)) 3 0x20 (b20 h)) : KmRuns (kmReq f 0x20 (b20 h)) 3 0x20 (b20 h) (kmGot f 0x20 (b20 h)) :=
  km_runs _ _ _ hb (by intro i hi; rw [show i = 0 by simpa [kmAuth] using hi.symm]; exact hk) hh
def noRandom (s : State) : State := { s with ent := Entropy.reset }
theorem witness_KeyRecords_generate :
    (KmRuns (kmReq id 0x20 (b20 2)) 3 0x20 (b20 2) (kmGot id 0x20 (b20 2)) ∧
      (kmGot id 0x20 (b20 2)).kmTarget 3 2 2 (leAt (b20 2) 8 8) 0 0 false = .inl .handleInUse ∧ leAt (b20 2) 0 4 = 2 ∧ byteAt (b20 2) 4 = 0) ∧
    (KmRuns (kmReq noRandom 0x20 (b20 6)) 3 0x20 (b20 6) (kmGot noRandom 0x20 (b20 6)) ∧
      (kmGot noRandom 0x20 (b20 6)).kmTarget 3 6 2 (leAt (b20 6) 8 8) 0 0 false = .inr (1, mkD) ∧ (kmGot noRandom 0x20 (b20 6)).drbgBytes 192 16 = none) ∧
    (KmRuns (kmReq id 0x20 (b20 6)) 3 0x20 (b20 6) (kmGot id 0x20 (b20 6)) ∧
      (kmGot id 0x20 (b20 6)).kmTarget 3 (leAt (b20 6) 0 4) (byteAt (b20 6) 5) (leAt (b20 6) 8 8) (leAt (b20 6) 24 8) (leAt (b20 6) 32 8) (byteAt (b20 6) 4 == 1)
        = .inr (1, mkD) ∧ byteAt (b20 6) 16 = 16 ∧
      (((kmGot id 0x20 (b20 6)).drbgBytes 192 16).bind (fun r => r.2.keyField 2 r.1)).isSome = true) :=
  ⟨⟨km20 _ _ (by decide +kernel) (by decide +kernel) (by simp only [KmFormat]; decide +kernel), by decide +kernel⟩,
    ⟨km20 _ _ (by decide +kernel) (by decide +kernel) (by simp only [KmFormat]; decide +kernel), by decide +kernel⟩,
    ⟨km20 _ _ (by decide +kernel) (by decide +kernel) (by simp only [KmFormat]; decide +kernel), by decide +kernel⟩⟩
/-- KM_IMPORT_BLOCK of a block under the key of handle `k` to handle `h`. -/
def b21 (h k : Nat) (blk : Bytes) : Bytes := natToLe 4 h ++ [0#8, 2#8, 0#8, 0#8] ++ natToLe 4 k ++ natToLe 4 blk.length ++ zeros 24 ++ blk
theorem derive_enc : kbDerive 3 (zeros 16) 0 = bytesOf [79, 118, 173, 19, 41, 98, 96, 13, 82, 218, 133, 201, 225, 225, 248, 15] := by decide +kernel
theorem derive_mac : kbDerive 3 (zeros 16) 1 = bytesOf [216, 166, 75, 68, 42, 135, 24, 238, 158, 21, 156, 161, 163, 45, 118, 252] := by decide +kernel
theorem block_unwraps : kbUnwrap 3 (zeros 16) blk1 = .inr ⟨'A'.toNat, 0x3044, 'B'.toNat, chars '0' '0', 'E'.toNat, zeros 16⟩ := by
  unfold kbUnwrap
  rw [derive_enc, derive_mac]
  decide +kernel
theorem blockE_unwraps : kbUnwrap 3 (zeros 16) blkE = .inr ⟨'E'.toNat, 0x3053, 'S'.toNat, chars '0' '0', 'E'.toNat, zeros 14⟩ := by
  unfold kbUnwrap
  rw [derive_enc, derive_mac]
  decide +kernel
theorem blockP_unwraps : kbUnwrap 3 (zeros 16) blkP = .inr ⟨'E'.toNat, 0x3053, 'S'.toNat, chars '0' '0', 'E'.toNat, p8⟩ := by
  unfold kbUnwrap
  rw [derive_enc, derive_mac]
  decide +kernel
theorem blockQ_unwraps : kbUnwrap 3 (zeros 16) blkQ = .inr ⟨'E'.toNat, 0x3044, 'S'.toNat, chars '0' '0', 'E'.toNat, p8⟩ := by
  unfold kbUnwrap
  rw [derive_enc, derive_mac]
  decide +kernel
/-- A block of sixteen bytes that is none. -/
def blk0 : Bytes := zeros 16
theorem block0_none : kbUnwrap 3 (zeros 16) blk0 = .inl 2 := by decide +kernel
/-- What every clause about an import shares: the request runs, and its protection key is that of handle 4. -/
def Imports (h : Nat) (blk : Bytes) : Prop :=
  let b := b21 h 4 blk
  KmRuns (kmReq id 0x21 b) 3 0x21 b (kmGot id 0x21 b) ∧ leAt b 8 4 = 4 ∧ (kmGot id 0x21 b).kbpk 3 4 ['D', 'B', 'N'] = .inr (recordKey rec4 (zeros 32)) ∧
    (recordKey rec4 (zeros 32)).alg = 3 ∧ (recordKey rec4 (zeros 32)).val = zeros 16 ∧ b.drop 40 = blk
def importsB (h : Nat) (blk : Bytes) : Bool :=
  let b := b21 h 4 blk
  kmB id 0x21 b && decide (leAt b 8 4 = 4) && decide ((kmGot id 0x21 b).kmRecord 3 4 = .inr rec4) && decide ((kmGot id 0x21 b).master 3 1 = some mkD)
    && decide (b.drop 40 = blk)
theorem imports_of (h : Nat) (blk : Bytes) (hb : importsB h blk = true) (hf : KmFormat (kmReq id 0x21 (b21 h 4 blk)) 3 0x21 (b21 h 4 blk)) : Imports h blk := by
  simp only [importsB, Bool.and_eq_true, decide_eq_true_eq, and_assoc] at hb
  exact ⟨km_runs _ _ _ hb.1 (km_auth _ _) hf, hb.2.1, kbpk4 _ _ (by decide) hb.2.2.1 hb.2.2.2.1, record4_key.2.2.1, record4_key.2.2.2, hb.2.2.2.2⟩
theorem witness_KeyRecords_import :
    (let b := b21 6 2 blk1
     KmRuns (kmReq id 0x21 b) 3 0x21 b (kmGot id 0x21 b) ∧ (kmGot id 0x21 b).kbpk 3 (leAt b 8 4) ['D', 'B', 'N'] = .inl .kindMismatch) ∧
    (Imports 6 blk0 ∧ kbUnwrap 3 (zeros 16) blk0 = .inl 2) ∧
    (Imports 6 blkE ∧ kbUnwrap 3 (zeros 16) blkE = .inr ⟨'E'.toNat, 0x3053, 'S'.toNat, chars '0' '0', 'E'.toNat, zeros 14⟩ ∧ letterAlg 'E'.toNat 14 = none) ∧
    (Imports 2 blk1 ∧ kbUnwrap 3 (zeros 16) blk1 = .inr ⟨'A'.toNat, 0x3044, 'B'.toNat, chars '0' '0', 'E'.toNat, zeros 16⟩ ∧ letterAlg 'A'.toNat 16 = some 3 ∧
      (kmGot id 0x21 (b21 2 4 blk1)).kmTarget 3 2 2 (3 + 0x3044 * 2 ^ 8 + 0x42 * 2 ^ 24 + 0x45 * 2 ^ 32 + 0x3030 * 2 ^ 40) 0 0 false = .inl .handleInUse) ∧
    (Imports 6 blk1 ∧ kbUnwrap 3 (zeros 16) blk1 = .inr ⟨'A'.toNat, 0x3044, 'B'.toNat, chars '0' '0', 'E'.toNat, zeros 16⟩ ∧ letterAlg 'A'.toNat 16 = some 3 ∧
      (kmGot id 0x21 (b21 6 4 blk1)).kmTarget 3 6 2 (3 + 0x3044 * 2 ^ 8 + 0x42 * 2 ^ 24 + 0x45 * 2 ^ 32 + 0x3030 * 2 ^ 40) 0 0 false = .inr (1, mkD) ∧
      ((kmGot id 0x21 (b21 6 4 blk1)).keyField 2 (zeros 16)).isSome = true) := by
  refine ⟨⟨km_runs _ _ _ (by decide +kernel) (km_auth _ _) (by simp only [KmFormat]; decide +kernel), ?_⟩,
    ⟨imports_of _ _ (by decide +kernel) (by simp only [KmFormat]; decide +kernel), block0_none⟩,
    ⟨imports_of _ _ (by decide +kernel) (by simp only [KmFormat]; decide +kernel), blockE_unwraps, by decide⟩,
    ⟨imports_of _ _ (by decide +kernel) (by simp only [KmFormat]; decide +kernel), block_unwraps, by decide, by decide +kernel⟩,
    ⟨imports_of _ _ (by decide +kernel) (by simp only [KmFormat]; decide +kernel), block_unwraps, by decide, by decide +kernel⟩⟩
  have h : (kmGot id 0x21 (b21 6 2 blk1)).kmOpen 3 2 = .inr (rec2, zeros 32) := open2 _ (by decide +kernel) (by decide +kernel)
  show (kmGot id 0x21 (b21 6 2 blk1)).kbpk 3 2 ['D', 'B', 'N'] = _
  unfold State.kbpk
  rw [h]
  exact if_neg (by decide +kernel)
def b23 (h : Nat) : Bytes := natToLe 8 h
def b24 (h nb na : Nat) : Bytes := natToLe 8 h ++ natToLe 8 nb ++ natToLe 8 na
def b25 (h g : Nat) : Bytes := natToLe 4 h ++ natToLe 4 g
theorem witness_KeyRecords_delete :
    (∀ op ∈ [0x23, 0x27, 0x28], kmB id op (b23 2) = true ∧ (kmGot id op (b23 2)).kmRecord 3 2 = .inr rec2 ∧ kmB id op (b23 6) = true ∧
      (kmGot id op (b23 6)).kmRecord 3 6 = .inl .notFound) ∧
    (∀ h ∈ [2, 6], (b23 h).length = 8 ∧ (kmReq id 0x23 (b23 h)).kmHandle 3 (b23 h) 0 = true ∧ allZero (slice (b23 h) 4 4) = true ∧ leAt (b23 h) 0 4 = h) ∧
    (kmB id 0x25 (b25 6 2) = true ∧ (kmGot id 0x25 (b25 6 2)).kmRecord 3 6 = .inl .notFound) := by decide +kernel
theorem witness_KeyRecords_delete_runs (op h : Nat) (ho : op = 0x23 ∨ op = 0x27 ∨ op = 0x28) (hh : h = 2 ∨ h = 6) :
    KmRuns (kmReq id op (b23 h)) 3 op (b23 h) (kmGot id op (b23 h)) := by
  rcases ho with rfl | rfl | rfl <;> rcases hh with rfl | rfl <;>
    exact km_runs _ _ _ (by decide +kernel) (km_auth _ _) (by simp only [KmFormat]; decide +kernel)
theorem witness_KeyRecords_rewrap_absent :
    KmRuns (kmReq id 0x25 (b25 6 2)) 3 0x25 (b25 6 2) (kmGot id 0x25 (b25 6 2)) ∧ (kmGot id 0x25 (b25 6 2)).kmOpen 3 6 = .inl .notFound := by
  refine ⟨km_runs _ _ _ (by decide +kernel) (km_auth _ _) (by simp only [KmFormat]; decide +kernel), ?_⟩
  unfold State.kmOpen
  rw [witness_KeyRecords_delete.2.2.2]
theorem witness_KeyRecords_window :
    (KmRuns (kmReq id 0x24 (b24 2 9 5)) 3 0x24 (b24 2 9 5) (kmGot id 0x24 (b24 2 9 5)) ∧ (kmGot id 0x24 (b24 2 9 5)).badTimes 9 5 = true) ∧
    (KmRuns (kmReq id 0x24 (b24 2 5 9)) 3 0x24 (b24 2 5 9) (kmGot id 0x24 (b24 2 5 9)) ∧ (kmGot id 0x24 (b24 2 5 9)).badTimes 5 9 = false ∧
      (kmGot id 0x24 (b24 2 5 9)).kmOpen 3 2 = .inr (rec2, zeros 32) ∧ (kmGot id 0x24 (b24 2 5 9)).master 3 (recordGen rec2) = some mkD ∧
      leAt (b24 2 5 9) 8 8 = 5 ∧ leAt (b24 2 5 9) 16 8 = 9 ∧ leAt (b24 2 5 9) 0 4 = 2) :=
  ⟨⟨km_runs _ _ _ (by decide +kernel) (km_auth _ _) (by simp only [KmFormat]; decide +kernel), by decide +kernel⟩,
    ⟨km_runs _ _ _ (by decide +kernel) (km_auth _ _) (by simp only [KmFormat]; decide +kernel), by decide +kernel,
      open2 _ (by decide +kernel) (by decide +kernel), by decide +kernel⟩⟩
/-- A record moved to generation 2 of its kind, and one that the kind of generation 3 does not take. -/
theorem witness_KeyRecords_rewrap :
    (KmRuns (kmReq id 0x25 (b25 2 3)) 3 0x25 (b25 2 3) (kmGot id 0x25 (b25 2 3)) ∧ (kmGot id 0x25 (b25 2 3)).kmOpen 3 2 = .inr (rec2, zeros 32) ∧
      (kmGot id 0x25 (b25 2 3)).master 3 3 = some ⟨0, zeros 24⟩ ∧ kindFits 0 (byteAt rec2 8) (leAt rec2 9 2) = false) ∧
    (KmRuns (kmReq id 0x25 (b25 2 2)) 3 0x25 (b25 2 2) (kmGot id 0x25 (b25 2 2)) ∧ (kmGot id 0x25 (b25 2 2)).kmOpen 3 2 = .inr (rec2, zeros 32) ∧
      (kmGot id 0x25 (b25 2 2)).master 3 2 = some mkD ∧ kindFits mkD.kind (byteAt rec2 8) (leAt rec2 9 2) = true ∧
      ((kmGot id 0x25 (b25 2 2)).keyField mkD.kind ((zeros 32).take (byteAt rec2 16))).isSome = true) :=
  ⟨⟨km_runs _ _ _ (by decide +kernel) (km_auth _ _) (by simp only [KmFormat]; decide +kernel), open2 _ (by decide +kernel) (by decide +kernel), by decide +kernel⟩,
    ⟨km_runs _ _ _ (by decide +kernel) (km_auth _ _) (by simp only [KmFormat]; decide +kernel), open2 _ (by decide +kernel) (by decide +kernel),
      by decide +kernel⟩⟩
/-- KM_RESTORE of a record to handle 2: of another tenant, of another version, one that does not open, one to a handle in use, and one that replaces it. -/
def b29 (replace : Nat) (r : Bytes) : Bytes := natToLe 4 2 ++ natToLe 4 replace ++ r
theorem witness_KeyRecords_restore :
    (KmRuns (kmReq id 0x29 (b29 1 (patch rec2 7 [4#8]))) 3 0x29 (b29 1 (patch rec2 7 [4#8])) (kmGot id 0x29 (b29 1 (patch rec2 7 [4#8]))) ∧
      recordTenant ((b29 1 (patch rec2 7 [4#8])).drop 8) ≠ 3) ∧
    (KmRuns (kmReq id 0x29 (b29 1 (patch rec2 0 [2#8]))) 3 0x29 (b29 1 (patch rec2 0 [2#8])) (kmGot id 0x29 (b29 1 (patch rec2 0 [2#8]))) ∧
      recordTenant ((b29 1 (patch rec2 0 [2#8])).drop 8) = 3 ∧ leAt (b29 1 (patch rec2 0 [2#8])) 8 2 ≠ 1) ∧
    (∀ n ∈ [0, 1], recordTenant ((b29 n rec2).drop 8) = 3 ∧ leAt (b29 n rec2) 8 2 = 1 ∧ (b29 n rec2).drop 8 = rec2 ∧
      (kmGot id 0x29 (b29 n rec2)).master 3 (recordGen rec2) = some mkD ∧ (kmGot id 0x29 (b29 n rec2)).recordGet 3 2 = .good rec2 ∧
      holdsRecord rec2 = true ∧ byteAt (b29 n rec2) 4 = n) :=
  ⟨⟨km_runs _ _ _ (by decide +kernel) (km_auth _ _) (by simp only [KmFormat]; decide +kernel), by decide +kernel⟩,
    ⟨km_runs _ _ _ (by decide +kernel) (km_auth _ _) (by simp only [KmFormat]; decide +kernel), by decide +kernel⟩, by decide +kernel⟩
theorem witness_KeyRecords_restore_runs (n : Nat) (h : n = 0 ∨ n = 1) :
    KmRuns (kmReq id 0x29 (b29 n rec2)) 3 0x29 (b29 n rec2) (kmGot id 0x29 (b29 n rec2)) ∧ recordFault 3 2 mkD rec2 = .inr (zeros 32) := by
  refine ⟨?_, record2_fault⟩
  rcases h with rfl | rfl <;> exact km_runs _ _ _ (by decide +kernel) (km_auth _ _) (by simp only [KmFormat]; decide +kernel)
/-- A record whose authenticator is not its own. -/
def rec2bad : Bytes := patch rec2 96 [0#8]
theorem record2bad_fault : recordFault 3 2 mkD rec2bad = .inl 1 := by
  have h : recordOpen mkD rec2bad = none := by
    simp only [recordOpen, derive_encD, derive_macD]
    decide +kernel
  unfold recordFault
  rw [h]
  decide +kernel
theorem witness_KeyRecords_restore_bad :
    let b := b29 1 rec2bad
    KmRuns (kmReq id 0x29 b) 3 0x29 b (kmGot id 0x29 b) ∧ recordTenant (b.drop 8) = 3 ∧ leAt b 8 2 = 1 ∧
      (kmGot id 0x29 b).master 3 (recordGen (b.drop 8)) = some mkD ∧ b.drop 8 = rec2bad ∧ recordFault 3 2 mkD rec2bad = .inl 1 :=
  ⟨km_runs _ _ _ (by decide +kernel) (km_auth _ _) (by simp only [KmFormat]; decide +kernel), by decide +kernel, by decide +kernel, by decide +kernel,
    by decide +kernel, record2bad_fault⟩
/-- Every operation of key management: turned down, not its turn, without its authorised state, of bad format, and waiting for its lines. -/
theorem witness_Km_down : ∀ op ∈ [0x20, 0x21, 0x22, 0x23, 0x24, 0x25, 0x26, 0x27, 0x28, 0x29, 0x2A, 0x2B, 0x2C, 0x2D], downOk 3 op = true ∧ idleOk 3 op = true := by
  decide +kernel
theorem witness_Km_unauthorised : ∀ op ∈ [0x20, 0x21, 0x22, 0x23, 0x24, 0x25, 0x26, 0x29, 0x2A, 0x2B, 0x2C],
    servedB (served 3 op [] (hSt id)) 3 op [] = true ∧ (kmAuth op).any (fun i => !(served 3 op [] (hSt id)).authorised 3 i) = true := by decide +kernel
theorem witness_Km_badFormat_served : (∀ op ∈ [0x20, 0x21, 0x22, 0x23, 0x24, 0x25, 0x26, 0x27, 0x28, 0x29, 0x2A, 0x2B, 0x2C],
    servedB (kmReq id op []) 3 op [] = true) ∧ servedB (kmReq id 0x2D [0#8]) 3 0x2D [0#8] = true := by decide +kernel
theorem witness_Km_badFormat :
    ¬KmFormat (kmReq id 0x20 []) 3 0x20 [] ∧ ¬KmFormat (kmReq id 0x21 []) 3 0x21 [] ∧ ¬KmFormat (kmReq id 0x22 []) 3 0x22 [] ∧
    ¬KmFormat (kmReq id 0x23 []) 3 0x23 [] ∧ ¬KmFormat (kmReq id 0x24 []) 3 0x24 [] ∧ ¬KmFormat (kmReq id 0x25 []) 3 0x25 [] ∧
    ¬KmFormat (kmReq id 0x26 []) 3 0x26 [] ∧ ¬KmFormat (kmReq id 0x27 []) 3 0x27 [] ∧ ¬KmFormat (kmReq id 0x28 []) 3 0x28 [] ∧
    ¬KmFormat (kmReq id 0x29 []) 3 0x29 [] ∧ ¬KmFormat (kmReq id 0x2A []) 3 0x2A [] ∧ ¬KmFormat (kmReq id 0x2B []) 3 0x2B [] ∧
    ¬KmFormat (kmReq id 0x2C []) 3 0x2C [] ∧ ¬KmFormat (kmReq id 0x2D [0#8]) 3 0x2D [0#8] := by
  refine ⟨?_, ?_, ?_, ?_, ?_, ?_, ?_, ?_, ?_, ?_, ?_, ?_, ?_, ?_⟩ <;> simp only [KmFormat] <;> decide +kernel
/-- The store whose lines have not been read yet. -/
def coldW (s : State) : State := { s with store := { kmStore with reads := [], checks := [] } }
def coldB (op : Nat) (b : Bytes) : Bool :=
  servedB (kmReq coldW op b) 3 op b && !((kmReq coldW op b).wantLines (kmLines (kmReq coldW op b) 3 op b)).1
def b22 (h k : Nat) : Bytes := natToLe 4 h ++ natToLe 4 k
def b26 : Bytes := natToLe 8 (1 + 256 * 2)
def b2A (blk : Bytes) : Bytes := natToLe 4 4 ++ natToLe 4 blk.length ++ blk
def b2B (img : Bytes) : Bytes := natToLe 4 4 ++ natToLe 4 img.length ++ img
def b2C (img : Bytes) : Bytes := natToLe 8 img.length ++ img
theorem witness_Km_waits :
    coldB 0x20 (b20 2) = true ∧ coldB 0x21 (b21 6 4 blk1) = true ∧ coldB 0x22 (b22 2 4) = true ∧ coldB 0x23 (b23 2) = true ∧ coldB 0x24 (b24 2 5 9) = true ∧
    coldB 0x25 (b25 2 2) = true ∧ coldB 0x27 (b23 2) = true ∧ coldB 0x28 (b23 2) = true ∧ coldB 0x29 (b29 1 rec2) = true ∧ coldB 0x2A (b2A blkP) = true ∧
    coldB 0x2B (b2B img1) = true := by decide +kernel
theorem witness_Km_waits_format :
    KmFormat (kmReq coldW 0x20 (b20 2)) 3 0x20 (b20 2) ∧ KmFormat (kmReq coldW 0x21 (b21 6 4 blk1)) 3 0x21 (b21 6 4 blk1) ∧
    KmFormat (kmReq coldW 0x22 (b22 2 4)) 3 0x22 (b22 2 4) ∧ KmFormat (kmReq coldW 0x23 (b23 2)) 3 0x23 (b23 2) ∧
    KmFormat (kmReq coldW 0x24 (b24 2 5 9)) 3 0x24 (b24 2 5 9) ∧ KmFormat (kmReq coldW 0x25 (b25 2 2)) 3 0x25 (b25 2 2) ∧
    KmFormat (kmReq coldW 0x27 (b23 2)) 3 0x27 (b23 2) ∧ KmFormat (kmReq coldW 0x28 (b23 2)) 3 0x28 (b23 2) ∧
    KmFormat (kmReq coldW 0x29 (b29 1 rec2)) 3 0x29 (b29 1 rec2) ∧ KmFormat (kmReq coldW 0x2A (b2A blkP)) 3 0x2A (b2A blkP) ∧
    KmFormat (kmReq coldW 0x2B (b2B img1)) 3 0x2B (b2B img1) := by
  refine ⟨?_, ?_, ?_, ?_, ?_, ?_, ?_, ?_, ?_, ?_, ?_⟩ <;> simp only [KmFormat] <;> decide +kernel
theorem witness_Km_waits_auth (op : Nat) (b : Bytes) (i : Nat) : (kmReq coldW op b).authorised 3 i = true := by
  by_cases h : i = 0
  · subst h; rfl
  · simp only [State.authorised, if_neg h]
    rfl
/-! What leaves and enters the unit. -/
theorem open8 (w : State) (h1 : w.kmRecord 3 8 = .inr rec8) (h2 : w.master 3 1 = some mkD) : w.kmOpen 3 8 = .inr (rec8, zeros 32) :=
  kmOpen_of _ _ _ _ _ mkD h1 h2 record8_fault
/-- A record that may not be exported, and one that may. -/
theorem witness_KeyTransport_export :
    (KmRuns (kmReq id 0x22 (b22 8 4)) 3 0x22 (b22 8 4) (kmGot id 0x22 (b22 8 4)) ∧ (kmGot id 0x22 (b22 8 4)).kmOpen 3 8 = .inr (rec8, zeros 32) ∧
      (kmGot id 0x22 (b22 8 4)).kbpk 3 4 ['E', 'B', 'N'] = .inr (recordKey rec4 (zeros 32)) ∧
      exportRefused (recordKey rec8 (zeros 32)) (recordKey rec4 (zeros 32)) = true) ∧
    (KmRuns (kmReq id 0x22 (b22 2 4)) 3 0x22 (b22 2 4) (kmGot id 0x22 (b22 2 4)) ∧ (kmGot id 0x22 (b22 2 4)).kmOpen 3 2 = .inr (rec2, zeros 32) ∧
      (kmGot id 0x22 (b22 2 4)).kbpk 3 4 ['E', 'B', 'N'] = .inr (recordKey rec4 (zeros 32)) ∧
      exportRefused (recordKey rec2 (zeros 32)) (recordKey rec4 (zeros 32)) = false ∧
      ((kmGot id 0x22 (b22 2 4)).drbgBytes 192 (kbPadLen (recordKey rec4 (zeros 32)).alg (recordKey rec2 (zeros 32)).val.length)).isSome = true) :=
  ⟨⟨km_runs _ _ _ (by decide +kernel) (km_auth _ _) (by simp only [KmFormat]; decide +kernel), open8 _ (by decide +kernel) (by decide +kernel),
      kbpk4 _ _ (by decide) (by decide +kernel) (by decide +kernel), by decide +kernel⟩,
    ⟨km_runs _ _ _ (by decide +kernel) (km_auth _ _) (by simp only [KmFormat]; decide +kernel), open2 _ (by decide +kernel) (by decide +kernel),
      kbpk4 _ _ (by decide) (by decide +kernel) (by decide +kernel), by decide +kernel⟩⟩
/-- KM_MIGRATE from generation 1 to 2, with one in progress, and from one that is not there. -/
def migW (s : State) : State := s.modTenant 3 (fun x => { x with migrate := some ⟨1, 2, 0, 0⟩ })
theorem witness_KeyTransport_migrate :
    (KmRuns (kmReq id 0x26 (natToLe 8 256)) 3 0x26 (natToLe 8 256) (kmGot id 0x26 (natToLe 8 256)) ∧ (kmGot id 0x26 (natToLe 8 256)).master 3 0 = none) ∧
    (KmRuns (kmReq migW 0x26 b26) 3 0x26 b26 (kmGot migW 0x26 b26) ∧ ((kmGot migW 0x26 b26).master 3 (byteAt b26 0)).isSome = true ∧
      ((kmGot migW 0x26 b26).master 3 (byteAt b26 1)).isSome = true ∧ ((kmGot migW 0x26 b26).tenant 3).migrate.isSome = true) ∧
    (KmRuns (kmReq id 0x26 b26) 3 0x26 b26 (kmGot id 0x26 b26) ∧ ((kmGot id 0x26 b26).master 3 (byteAt b26 0)).isSome = true ∧
      ((kmGot id 0x26 b26).master 3 (byteAt b26 1)).isSome = true ∧ ((kmGot id 0x26 b26).tenant 3).migrate = none) :=
  ⟨⟨km_runs _ _ _ (by decide +kernel) (km_auth _ _) (by simp only [KmFormat]; decide +kernel), by decide +kernel⟩,
    ⟨km_runs _ _ _ (by decide +kernel) (by intro i hi; rw [show i = 0 by simpa [kmAuth] using hi.symm]; decide +kernel) (by simp only [KmFormat]; decide +kernel),
      by decide +kernel⟩,
    ⟨km_runs _ _ _ (by decide +kernel) (km_auth _ _) (by simp only [KmFormat]; decide +kernel), by decide +kernel⟩⟩
/-- The lines of the tenant's records, and what their migration finds. -/
def migLines (s : State) : List Nat :=
  (s.store.tree.lines.map (·.1)).filter (fun i =>
    decide (s.rd (Reg.TBL_KH_BASE_BASE 3) ≤ i) && decide (2 * (i - s.rd (Reg.TBL_KH_BASE_BASE 3)) < s.handleLimit 3))
theorem witness_KeyTransport_migrated :
    let got (s : State) : Bool := (s.wantLines ((migLines s).map (fun i => (⟨i, true, true, 0⟩ : Want)))).1
    let ready (s : State) : Prop := (s.tenant 3).migrate = some ⟨1, 2, 0, 0⟩ ∧ s.store.st = .opened ∧ s.journalFull = false ∧ (s.drbgBytes 192 32).isSome = true
    (hSt id).store.st ≠ .opened ∧ ((hSt id).tenant 3).migrate = none ∧ ((kmW noRandom).drbgBytes 192 32).isNone = true ∧
    (ready (kmW (fun s => coldW (migW s))) ∧ got (kmW (fun s => coldW (migW s))) = false) ∧ (ready (kmW migW) ∧ got (kmW migW) = true) ∧
    (ready (kmW (fun s => { migW s with store := openStore })) ∧ got (kmW (fun s => { migW s with store := openStore })) = true ∧ openStore.tree.lines = []) := by
  decide +kernel
/-- An image from a block: what every clause shares. -/
def ImageIn (blk : Bytes) : Prop :=
  let b := b2A blk
  KmRuns (kmReq id 0x2A b) 3 0x2A b (kmGot id 0x2A b) ∧ (kmGot id 0x2A b).currentD 3 = some (1, mkD) ∧ leAt b 0 4 = 4 ∧
    (kmGot id 0x2A b).kbpk 3 4 ['D', 'B', 'N'] = .inr (recordKey rec4 (zeros 32)) ∧ (recordKey rec4 (zeros 32)).alg = 3 ∧
    (recordKey rec4 (zeros 32)).val = zeros 16 ∧ b.drop 8 = blk
def imageInB (blk : Bytes) : Bool :=
  let b := b2A blk
  kmB id 0x2A b && decide ((kmGot id 0x2A b).currentD 3 = some (1, mkD)) && decide (leAt b 0 4 = 4) && decide ((kmGot id 0x2A b).kmRecord 3 4 = .inr rec4)
    && decide ((kmGot id 0x2A b).master 3 1 = some mkD) && decide (b.drop 8 = blk)
theorem imageIn_of (blk : Bytes) (hb : imageInB blk = true) (hf : KmFormat (kmReq id 0x2A (b2A blk)) 3 0x2A (b2A blk)) : ImageIn blk := by
  simp only [imageInB, Bool.and_eq_true, decide_eq_true_eq, and_assoc] at hb
  obtain ⟨h1, h2, h3, h4, h5, h6⟩ := hb
  exact ⟨km_runs _ _ _ h1 (km_auth _ _) hf, h2, h3, kbpk4 _ _ (by decide) h4 h5, record4_key.2.2.1, record4_key.2.2.2, h6⟩
theorem pkcs8_of : pkcs8Read p8 = some (2, 0, natToBe 32 1) ∧ pkcs8Read (zeros 14) = none := by decide +kernel
theorem witness_KeyTransport_importImage :
    (ImageIn blkE ∧ kbUnwrap 3 (zeros 16) blkE = .inr ⟨'E'.toNat, 0x3053, 'S'.toNat, chars '0' '0', 'E'.toNat, zeros 14⟩ ∧ pkcs8Read (zeros 14) = none) ∧
    (ImageIn blkQ ∧ kbUnwrap 3 (zeros 16) blkQ = .inr ⟨'E'.toNat, 0x3044, 'S'.toNat, chars '0' '0', 'E'.toNat, p8⟩ ∧
      pkcs8Read p8 = some (2, 0, natToBe 32 1) ∧ keygenUse 0x3044 'S'.toNat = false) ∧
    (ImageIn blkP ∧ kbUnwrap 3 (zeros 16) blkP = .inr ⟨'E'.toNat, 0x3053, 'S'.toNat, chars '0' '0', 'E'.toNat, p8⟩ ∧
      pkcs8Read p8 = some (2, 0, natToBe 32 1) ∧ keygenUse 0x3053 'S'.toNat = true ∧ ((kmGot id 0x2A (b2A blkP)).drbgBytes 192 12).isSome = true) :=
  ⟨⟨imageIn_of _ (by decide +kernel) (by simp only [KmFormat]; decide +kernel), blockE_unwraps, pkcs8_of.2⟩,
    ⟨imageIn_of _ (by decide +kernel) (by simp only [KmFormat]; decide +kernel), blockQ_unwraps, pkcs8_of.1, by decide⟩,
    ⟨imageIn_of _ (by decide +kernel) (by simp only [KmFormat]; decide +kernel), blockP_unwraps, pkcs8_of.1, by decide, by decide +kernel⟩⟩
/-- An image that leaves the unit: one that may not, and one that may. -/
def ImageOut (img : Bytes) (exp : Nat) : Prop :=
  let b := b2B img
  KmRuns (kmReq id 0x2B b) 3 0x2B b (kmGot id 0x2B b) ∧ leAt b 0 4 = 4 ∧ (kmGot id 0x2B b).kbpk 3 4 ['E', 'B', 'N'] = .inr (recordKey rec4 (zeros 32)) ∧
    (recordKey rec4 (zeros 32)).alg = 3 ∧ (kmGot id 0x2B b).imageOpen 3 (b.drop 8) = some ⟨2, 3, exp, 0x3053, 'S'.toNat, 0, zeros 32⟩
theorem imageOut_of (img : Bytes) (exp : Nat) (h1 : kmB id 0x2B (b2B img) = true) (hf : KmFormat (kmReq id 0x2B (b2B img)) 3 0x2B (b2B img))
    (h2 : leAt (b2B img) 0 4 = 4) (h3 : (kmGot id 0x2B (b2B img)).kmRecord 3 4 = .inr rec4) (h4 : (kmGot id 0x2B (b2B img)).master 3 1 = some mkD)
    (h5 : (kmGot id 0x2B (b2B img)).imageOpen 3 ((b2B img).drop 8) = some ⟨2, 3, exp, 0x3053, 'S'.toNat, 0, zeros 32⟩) : ImageOut img exp :=
  ⟨km_runs _ _ _ h1 (km_auth _ _) hf, h2, kbpk4 _ _ (by decide) h3 h4, record4_key.2.2.1, h5⟩
theorem witness_KeyTransport_exportImage :
    ImageOut imgN 'N'.toNat ∧ (ImageOut img1 'E'.toNat ∧
      ((kmGot id 0x2B (b2B img1)).drbgBytes 192 (kbPadLen 3 (pkcs8Write 2 0 (zeros 32)).length)).isSome = true) :=
  ⟨imageOut_of _ _ (by decide +kernel) (by simp only [KmFormat]; decide +kernel) (by decide +kernel) (by decide +kernel) (by decide +kernel) (by decide +kernel),
    imageOut_of _ _ (by decide +kernel) (by simp only [KmFormat]; decide +kernel) (by decide +kernel) (by decide +kernel) (by decide +kernel) (by decide +kernel),
    by decide +kernel⟩
/-- KM_REWRAP_IMAGE without a current D generation, of what is no image, and of an image. -/
def noCurrent (s : State) : State := s.modTenant 3 (fun x => { x with current := [] })
theorem witness_KeyTransport_rewrapImage :
    (KmRuns (kmReq noCurrent 0x2C (b2C img1)) 3 0x2C (b2C img1) (kmGot noCurrent 0x2C (b2C img1)) ∧ (kmGot noCurrent 0x2C (b2C img1)).currentD 3 = none) ∧
    (KmRuns (kmReq id 0x2C (b2C blk0)) 3 0x2C (b2C blk0) (kmGot id 0x2C (b2C blk0)) ∧ (kmGot id 0x2C (b2C blk0)).currentD 3 = some (1, mkD) ∧
      (kmGot id 0x2C (b2C blk0)).imageOpen 3 ((b2C blk0).drop 8) = none) ∧
    (KmRuns (kmReq id 0x2C (b2C img1)) 3 0x2C (b2C img1) (kmGot id 0x2C (b2C img1)) ∧ (kmGot id 0x2C (b2C img1)).currentD 3 = some (1, mkD) ∧
      (kmGot id 0x2C (b2C img1)).imageOpen 3 ((b2C img1).drop 8) = some ⟨2, 3, 'E'.toNat, 0x3053, 'S'.toNat, 0, zeros 32⟩ ∧
      ((kmGot id 0x2C (b2C img1)).drbgBytes 192 12).isSome = true) :=
  ⟨⟨km_runs _ _ _ (by decide +kernel) (by intro i hi; rw [show i = 0 by simpa [kmAuth] using hi.symm]; decide +kernel) (by simp only [KmFormat]; decide +kernel),
      by decide +kernel⟩,
    ⟨km_runs _ _ _ (by decide +kernel) (km_auth _ _) (by simp only [KmFormat]; decide +kernel), by decide +kernel⟩,
    ⟨km_runs _ _ _ (by decide +kernel) (km_auth _ _) (by simp only [KmFormat]; decide +kernel), by decide +kernel⟩⟩
/-- KM_DEVICE_PUBKEYS while the signer rebuilds, without a signer's key, and with one. -/
def signs (g : Signer) (s : State) : State := { s with signer := g }
theorem witness_KeyTransport_pubkeys (m : Bytes) :
    (KmRuns (kmReq (signs { sealing.signer with rebuilding := true }) 0x2D []) 3 0x2D [] (kmGot (signs { sealing.signer with rebuilding := true }) 0x2D []) ∧
      (kmGot (signs { sealing.signer with rebuilding := true }) 0x2D []).signer.rebuilding = true) ∧
    (KmRuns (kmReq (signs { sealing.signer with present := false }) 0x2D []) 3 0x2D [] (kmGot (signs { sealing.signer with present := false }) 0x2D []) ∧
      (kmGot (signs { sealing.signer with present := false }) 0x2D []).signer.rebuilding = false ∧
      (kmGot (signs { sealing.signer with present := false }) 0x2D []).signer.present = false) ∧
    (KmRuns (kmReq (signs sealing.signer) 0x2D []) 3 0x2D [] (kmGot (signs sealing.signer) 0x2D []) ∧
      (kmGot (signs sealing.signer) 0x2D []).signer.rebuilding = false ∧ (kmGot (signs sealing.signer) 0x2D []).keys.root.isSome = true ∧
      (kmGot (signs sealing.signer) 0x2D []).signer.present = true ∧ ((kmGot (signs sealing.signer) 0x2D []).attest m).1.isSome = true) := by
  refine ⟨⟨km_runs _ _ _ (by decide +kernel) (by intro i hi; simp [kmAuth] at hi) (by simp only [KmFormat]), by decide +kernel⟩,
    ⟨km_runs _ _ _ (by decide +kernel) (by intro i hi; simp [kmAuth] at hi) (by simp only [KmFormat]), by decide +kernel⟩,
    ⟨km_runs _ _ _ (by decide +kernel) (by intro i hi; simp [kmAuth] at hi) (by simp only [KmFormat]), by decide +kernel, by decide +kernel,
      by decide +kernel, rfl⟩⟩

/-! ### Witnesses: tenant resets, deletions and programs (chapters 4, 9) -/

/-- A reset of tenant 3 in progress, with core 0 asked at time 0 to go idle of command 1 within 10 µs. -/
def reset3 : TenReset := ⟨3, false, false, 0, 0, false, 10, [(0, 1, 0)], 0, 0, []⟩
def resetW (r : TenReset) (s : State) : State := { s with keys := { s.keys with resets := [r] } }
/-- The device slot's request to reset tenant 3. -/
def devReq : Bytes := natToLe 8 3
theorem witness_TenantResets_down : downOk 3 0x12 = true ∧ downOk 64 0x14 = true ∧ idleOk 3 0x12 = true ∧ idleOk 64 0x14 = true := by decide +kernel
/-- The mailbox: a reset that starts, one that joins, bodies of wrong format, a tenant that is not there, a register that is busy, and none that is. -/
theorem witness_TenantResets_mailbox :
    (servedB (served 3 0x12 [] (hSt id)) 3 0x12 [] = true ∧ (served 3 0x12 [] (hSt id)).tenantResetting 3 = false) ∧
    (servedB (served 3 0x12 [] (hSt (resetW reset3))) 3 0x12 [] = true ∧ (served 3 0x12 [] (hSt (resetW reset3))).tenantResetting 3 = true) ∧
    servedB (served 3 0x12 [1#8] (hSt id)) 3 0x12 [1#8] = true ∧
    servedB (served 64 0x14 [] (hSt id)) 64 0x14 [] = true ∧
    (servedB (served 64 0x14 (natToLe 8 0x103) (hSt id)) 64 0x14 (natToLe 8 0x103) = true ∧ allZero ((natToLe 8 0x103).drop 1) = false) ∧
    (∀ n ∈ [64, 4], servedB (served 64 0x14 (natToLe 8 n) (hSt id)) 64 0x14 (natToLe 8 n) = true ∧ allZero ((natToLe 8 n).drop 1) = true ∧
      (64 ≤ byteAt (natToLe 8 n) 0 ∨ ((served 64 0x14 (natToLe 8 n) (hSt id)).tenant (byteAt (natToLe 8 n) 0)).exist = false)) ∧
    (devReq.length = 8 ∧ allZero (devReq.drop 1) = true ∧ byteAt devReq 0 = 3) ∧
    (let s : State := served 64 0x14 devReq (hSt (resetW { reset3 with reg := true }))
     servedB s 64 0x14 devReq = true ∧ (s.tenant 3).exist = true ∧ (∃ r ∈ s.keys.resets, r.reg = true)) ∧
    (let s : State := served 64 0x14 devReq (hSt id)
     servedB s 64 0x14 devReq = true ∧ (s.tenant 3).exist = true ∧ (∀ r ∈ s.keys.resets, ¬ r.reg = true) ∧ s.tenantResetting 3 = false) := by decide +kernel
theorem witness_TenantResets_register : (¬∃ r ∈ (hSt id).keys.resets, r.reg = true) ∧ (hSt id).tenantResetting 3 = false ∧
    (∃ r ∈ (hSt (resetW { reset3 with reg := true })).keys.resets, r.reg = true) := by decide
/-- Command 1 runs on core 0 while tenant 3 is reset. -/
def askedSt : State := resetW reset3 (coreW (fun c => { c with run := some 1 }) (hSt (entW [{ en1 with phase := .running 0 }])))
theorem witness_TenantResets_idle :
    let due (s : State) (r : TenReset) (id : Nat) : Prop := (s.core 0).run = some id ∧ ∃ t0, (0, id, t0) ∈ r.asked ∧ t0 + s.usRaw r.idle ≤ s.now
    (∃ r ∈ (atTime 1000000000000 askedSt).keys.resets, ∃ id, due (atTime 1000000000000 askedSt) r id) ∧
    (∀ r ∈ askedSt.keys.resets, ∀ id, ¬due askedSt r id) := by
  refine ⟨⟨reset3, List.mem_singleton.2 rfl, 1, rfl, 0, by decide, by decide +kernel⟩, ?_⟩
  rintro r hr id ⟨-, t0, h0, h⟩
  have : r = reset3 := List.mem_singleton.1 hr
  subst this
  have h1 : (0, id, t0) = ((0, 1, 0) : Nat × Nat × Nat) := List.mem_singleton.1 h0
  have h2 : t0 = 0 := congrArg (fun x => x.2.2) h1
  rw [h2] at h
  exact absurd h (by decide +kernel)
/-- A terminal of tenant 3 that has changed, the spill table of one line. -/
def purgeSt (r : Store) : State :=
  resetW reset3 { hSt (fun s => regW Reg.TBL_TT_SPILL_LINES 1 (regW Reg.TBL_TT_SPILL_CHAIN 1 (tabW (fun t => { t with terms := [{ aged with dirty := true }] }) s))) with store := r }
def purgeLine : Nat := (purgeSt openStore).chainLine 3 4 0
/-- The flow 0 of tenant 3 with a sequence, whose context is to be written. -/
def flowsSt : State :=
  resetW reset3 { (hSt id).modPrf (fun p => { p with flows := [(3 * 2 ^ 20, { Flow.fresh with next := 2 })] }) with store := pathStore Config.flowBase }
theorem no_wants (s : State) (h : s.store.reads = []) : s.wantLines [] = (true, s) := by
  rw [State.wantLines, if_pos (by rfl)]
  rfl
theorem flows_wait : (flowsSt.storeFlows 3).1 = false := by
  have hn (s : State) (h : s.prf.flows.filterMap (fun e => e.2.stored) = []) : s.freeFlowLine = Config.flowBase := by
    simp [State.freeFlowLine, h]
  have hw (s : State) (hs : s.store = pathStore Config.flowBase) : (s.wantLines [⟨Config.flowBase, false, true, 0⟩]).1 = false :=
    path_waits Config.flowBase false s _ hs (List.mem_singleton.2 rfl)
  have hf (s : State) (hs : s.store = pathStore Config.flowBase) (h : s.prf.flows.filterMap (fun e => e.2.stored) = [])
      (hx : (tabGet Flow.fresh s.prf.flows (3 * 2 ^ 20)).next ≠ 1) : (s.flowOut (3 * 2 ^ 20)).1 = false := by
    unfold State.flowOut
    rw [if_neg hx, hn s h]
    simp only [hw s hs, if_pos]
  exact hf (flowsSt.modPrf (fun p => { p with flows := [(3 * 2 ^ 20, { Flow.fresh with next := 2 })] })) rfl (by decide) (by decide)
theorem witness_TenantResets_finish :
    ((hSt id).tenantResetting 3 = false ∧ (resetW reset3 (hSt (entW [en1]))).tenantDrained 3 = false) ∧
    ((purgeSt (pathStore purgeLine)).tenantResetting 3 = true ∧ (purgeSt (pathStore purgeLine)).tenantDrained 3 = true ∧
      ((purgeSt (pathStore purgeLine)).wantLines ((purgeSt (pathStore purgeLine)).purgeWants 3)).1 = false) ∧
    (flowsSt.tenantResetting 3 = true ∧ flowsSt.tenantDrained 3 = true ∧ flowsSt.wantLines (flowsSt.purgeWants 3) = (true, flowsSt) ∧
      (flowsSt.storeFlows 3).1 = false) ∧
    (∀ d : Bool, (hSt (resetW { reset3 with deletion := d })).keys.resets.find? (fun r => r.tenant == 3) = some { reset3 with deletion := d } ∧
      (hSt (resetW { reset3 with deletion := d })).tenantDrained 3 = true ∧
      (hSt (resetW { reset3 with deletion := d })).wantLines ((hSt (resetW { reset3 with deletion := d })).purgeWants 3) =
        (true, hSt (resetW { reset3 with deletion := d })) ∧
      ((hSt (resetW { reset3 with deletion := d })).storeFlows 3).1 = true) := by
  refine ⟨⟨by decide, by decide⟩, ⟨by decide, by decide +kernel, ?_⟩, ⟨by decide, by decide +kernel, rfl, flows_wait⟩, ?_⟩
  · refine path_waits purgeLine true _ _ rfl ?_
    refine List.mem_append_left _ (List.mem_flatMap.2 ⟨{ aged with dirty := true }, by decide, ?_⟩)
    exact List.mem_map.2 ⟨0, by decide, rfl⟩
  · intro d
    cases d <;> exact ⟨by decide, by decide +kernel, rfl, by decide +kernel⟩
/-- A tenant that is being deleted, its reset over. -/
def deletingSt (r : Store) : State := { hSt id with store := r, keys := { (hSt id).keys with tenants := [(3, { Tenant.absent with deleting := true })] } }
theorem witness_TenantResets_deleted :
    (hSt id).tenant 3 = ten3 ∧ ten3.deleting = false ∧
    (∀ r ∈ [openStore, warmStore], ((deletingSt r).tenant 3).deleting = true ∧ ((deletingSt r).tenant 3).exist = false ∧
      (deletingSt r).tenantResetting 3 = false ∧ (deletingSt r).store.st ≠ .closed) ∧
    (let s : State := deletingSt warmStore
     (s.wantLines ((s.recordLines 3 ++ s.spillLines.map (·.1)).map (fun i => ⟨i, true, true, 0⟩))).1 = false) ∧
    (let s : State := deletingSt openStore
     (s.wantLines ((s.recordLines 3 ++ s.spillLines.map (·.1)).map (fun i => ⟨i, true, true, 0⟩))).1 = true) := by decide +kernel

/-- A package of program 0x8001 of tenant 3 with 4 bytes of code, under a key of the first scheme. -/
def packHead : Bytes :=
  natToLe 4 0x31505A56 ++ natToLe 2 1 ++ natToLe 2 0x8001 ++ natToLe 4 1 ++ natToLe 2 3 ++ [0#8, 0#8] ++ natToLe 4 1000 ++ natToLe 4 4 ++ natToLe 4 0
    ++ [0#8, 0#8, 1#8, 0#8] ++ zeros 32 ++ zeros 64 ++ zeros 4 ++ zeros 60
def packBytes : Bytes := packHead ++ zeros 2820
def packSt (f : State → State) : State :=
  hSt (fun s => f { s with keys := { s.keys with tenants := [(3, { ten3 with progKeys := [(1, zeros 68)] })] } })
/-- The request to load it. -/
def packReq (f : State → State) : State := served 3 0x10 packBytes (packSt f)
/-- The package's signature, by the open check of log entry 2. -/
def PackSigned : Prop := Config.xmssVerify (zeros 68) (packBytes.take 192) (packBytes.drop 192) = true
/-- A store in place of the state's. -/
def storeIs (r : Store) (s : State) : State := { s with store := r }
theorem pack_fault (s : State) (h : PackSigned) (hk : s.packageKey 3 packBytes = zeros 68) (h7 : tabGet [] (s.tenant 3).progKeys 1 ≠ [])
    (h5 : s.progs.floors = []) (h6 : (s.programsOf 3).length < 1024) : s.packageFault 3 packBytes = none := by
  have e : (packageEnds packBytes).2.1 = 192 := by decide +kernel
  have b30 : byteAt packBytes 30 = 1 := by decide +kernel
  have h : Config.xmssVerify (zeros 68) (packBytes.take 192) (packBytes.drop 192) = true := h
  unfold State.packageFault
  simp only [e, hk, b30]
  rw [if_neg (by decide +kernel), if_neg (by decide +kernel), if_neg (by decide +kernel), if_neg h7, if_pos trivial, h, if_neg (by decide),
    if_neg (by rw [h5]; decide +kernel), if_neg (by omega)]
theorem packReq_fault (r : Store) (h : PackSigned) : (packReq (storeIs r)).packageFault 3 packBytes = none :=
  pack_fault _ h rfl (by show (zeros 68 : Bytes) ≠ []; decide) rfl (Nat.lt_of_lt_of_eq (by decide : 0 < 1024) rfl)
theorem packReq_served : ∀ r ∈ [Store.reset, openStore, { openStore with n := 0 }], Served (packReq (storeIs r)) 3 0x10 packBytes := by
  intro r hr
  apply served_of
  revert r
  decide +kernel
theorem witness_Programs_down : downOk 3 0x10 = true ∧ downOk 3 0x11 = true ∧ idleOk 3 0x10 = true ∧ idleOk 3 0x11 = true := by decide +kernel
theorem pack_ready (n : Nat) (f : State → State) (h : (packReq f).store = { openStore with n := n }) :
    (packReq f).wantLines ((packReq f).imageWants packBytes) = (true, packReq f) := by
  have : (packReq f).imageWants packBytes = ((List.range (imageLines packBytes.length)).map ((packReq f).imageLine + ·)).map (fun i => ⟨i, false, true, 0⟩) := by
    simp [State.imageWants, List.map_map, Function.comp_def]
  rw [this]
  exact blank_ready_n n _ _ h
/-- No image is held: the package's lines are the first ones. -/
theorem pack_line (r : Store) : (packReq (storeIs r)).imageLine = Config.imageBase := rfl
theorem witness_Programs_load (h : PackSigned) (hb : Config.imageBase = 0) :
    (∀ r ∈ [Store.reset, openStore, { openStore with n := 0 }], Served (packReq (storeIs r)) 3 0x10 packBytes ∧
      (packReq (storeIs r)).packageFault 3 packBytes = none) ∧
    (packReq (storeIs Store.reset)).store.st ≠ .opened ∧ (packReq (storeIs openStore)).store.st = .opened ∧
    (packReq (storeIs openStore)).wantLines ((packReq (storeIs openStore)).imageWants packBytes) = (true, packReq (storeIs openStore)) ∧
    ((packReq (storeIs openStore)).loadProgram 3 packBytes).1 = true ∧
    (∀ i ∈ (packReq (storeIs openStore)).progs.images, i.id < (packReq (storeIs openStore)).progs.next) := by
  refine ⟨fun r hr => ⟨packReq_served r hr, packReq_fault r h⟩, by decide, rfl, pack_ready 64 _ rfl, ?_, by decide⟩
  unfold State.loadProgram
  rw [pack_line, hb]
  decide +kernel
theorem witness_Programs_full (h : PackSigned) :
    Served (packReq (storeIs { openStore with n := 0 })) 3 0x10 packBytes ∧ (packReq (storeIs { openStore with n := 0 })).packageFault 3 packBytes = none ∧
    (packReq (storeIs { openStore with n := 0 })).store.st = .opened ∧
    (packReq (storeIs { openStore with n := 0 })).wantLines ((packReq (storeIs { openStore with n := 0 })).imageWants packBytes) =
      (true, packReq (storeIs { openStore with n := 0 })) ∧
    ((packReq (storeIs { openStore with n := 0 })).loadProgram 3 packBytes).1 = false := by
  refine ⟨packReq_served _ (by decide), packReq_fault _ h, rfl, pack_ready 0 _ rfl, ?_⟩
  have hl (s : State) (i : Nat) (d : Bytes) (hn : s.store.n = 0) : s.lineWrite i d = (false, s) := by
    rw [State.lineWrite, if_pos (.inr (.inl (by omega)))]
  have hs (l : List Nat) (s : State) (k : Nat) (hn : s.store.n = 0) : l ≠ [] →
      (l.foldl (fun (r : Bool × State) i => if r.1 then r.2.lineWrite (k + i) (slice packBytes (256 * i) 256) else r) (true, s)).1 = false := by
    have hf (l : List Nat) : (l.foldl (fun (r : Bool × State) i => if r.1 then r.2.lineWrite (k + i) (slice packBytes (256 * i) 256) else r) (false, s)) = (false, s) := by
      induction l with
      | nil => rfl
      | cons a l ih => rw [List.foldl_cons, if_neg Bool.false_ne_true, ih]
    cases l with
    | nil => intro h; exact absurd rfl h
    | cons a l => intro _; rw [List.foldl_cons, if_pos rfl, hl _ _ _ hn, hf]
  unfold State.loadProgram
  rw [if_pos (hs _ _ _ rfl (by decide +kernel))]
  exact hs _ _ _ rfl (by decide +kernel)
theorem witness_Programs_waits (h : PackSigned) :
    Served (packReq (storeIs (pathStore Config.imageBase))) 3 0x10 packBytes ∧
    (packReq (storeIs (pathStore Config.imageBase))).packageFault 3 packBytes = none ∧
    (packReq (storeIs (pathStore Config.imageBase))).store.st = .opened ∧
    ((packReq (storeIs (pathStore Config.imageBase))).wantLines ((packReq (storeIs (pathStore Config.imageBase))).imageWants packBytes)).1 = false := by
  refine ⟨served_of _ _ _ _ (by decide +kernel), packReq_fault _ h, rfl, path_waits Config.imageBase false _ _ rfl ?_⟩
  exact List.mem_map.2 ⟨0, List.mem_range.2 (by decide +kernel), rfl⟩
/-- A package that fails its first check; an unload of wrong length, of a program that is not loaded, and of one that is. -/
def loaded7 (s : State) : State := { s with progs := { progs1 with loaded := [(3 * 65536 + 7, some 1)] } }
theorem witness_Programs_refused :
    (servedB (served 3 0x10 [] (packSt id)) 3 0x10 [] = true ∧ (served 3 0x10 [] (packSt id)).packageFault 3 [] = some 1) ∧
    servedB (served 3 0x11 [] (packSt id)) 3 0x11 [] = true ∧
    (servedB (served 3 0x11 (natToLe 2 7) (packSt id)) 3 0x11 (natToLe 2 7) = true ∧ (served 3 0x11 (natToLe 2 7) (packSt id)).loadedImage 3 7 = none) ∧
    (servedB (served 3 0x11 (natToLe 2 7) (packSt loaded7)) 3 0x11 (natToLe 2 7) = true ∧
      (served 3 0x11 (natToLe 2 7) (packSt loaded7)).loadedImage 3 7 = some im1) := by decide +kernel

/-! ### Witnesses: the operations of the sealed store (chapter 11) -/

/-- A format and an open of a store of 8,192 lines in one extent at address 0. -/
def fmtBody (num : Nat) : Bytes := natToLe 8 8192 ++ natToLe 8 64 ++ natToLe 4 num ++ natToLe 4 1 ++ zeros 16 ++ natToLe 8 (storeSpace 8192)
/-- The same for one line, a number that R258 does not allow. -/
def badBody (num : Nat) : Bytes := natToLe 8 1 ++ natToLe 8 64 ++ natToLe 4 num ++ natToLe 4 1 ++ zeros 16 ++ natToLe 8 (storeSpace 8192)
/-- What a body says. -/
def bodyIs (b : Bytes) (n num : Nat) : Bool := match storeBody b with | some x => x == (n, 64, num, [(0, 0, storeSpace 8192)]) | none => false
def ext1 : List (Nat × Nat × Nat) := [(0, 0, storeSpace 8192)]
def root5 : Root := ⟨5, 0, 8192, 1, 1, 0, ⟨[], []⟩, [], [], [], [], ([], [])⟩
/-- A checkpoint whose level-5 node has been written. -/
def root6 : Root := { root5 with num := 6, tree := ⟨[], [(nodePos 8192 5 0, ⟨1, 1⟩)]⟩ }
def storeW (f : Store → Store) (s : State) : State := { s with store := f s.store }
def mpuW (s : State) : State := { s with mpu := [(256, openRegion)] }
def rootW (s : State) : State := { s with keys := { s.keys with root := some (zeros 32) } }
theorem mpu_open (s : State) (k : AccKind) (a n : Nat) (ha : a + n ≤ 2 ^ 36) (h1 : s.region 8 0 = openRegion) (h2 : s.bit (mpuUpd 8) = false)
    (hk : k ≠ .fetch) : s.mpuFirst 8 .host ⟨.u, none, k⟩ a n = none := by
  have hb (b : Nat) (h : b ≤ 2 ^ 36) : s.mpuByte 8 .host ⟨.u, none, k⟩ b = none := by
    have hc : (s.region 8 0).covers b = true := by
      rw [h1]
      show ((true && decide (0 ≤ b)) && decide (b ≤ 0xFFFFFFFFC0 + 63)) = true
      rw [decide_eq_true (Nat.zero_le b), decide_eq_true (show b ≤ 0xFFFFFFFFC0 + 63 by omega)]
      rfl
    have hr : s.regionAt 8 b = some 0 := by
      show List.find? (fun r => (s.region 8 r).covers b) (0 :: [1, 2, 3, 4, 5, 6, 7]) = some 0
      exact List.find?_cons_of_pos (p := fun r => (s.region 8 r).covers b) hc
    unfold State.mpuByte
    simp only [h2, hr, h1]
    cases k <;> first | rfl | exact absurd rfl hk
  unfold State.mpuFirst
  split
  · rfl
  · rw [List.findSome?_eq_none_iff]
    intro i hi
    rw [List.mem_range] at hi
    exact hb _ (by omega)
theorem extents_good (s : State) (h1 : s.region 8 0 = openRegion) (h2 : s.bit (mpuUpd 8) = false) : s.extentsGood 8192 ext1 = true := by
  have hs : storeSpace 8192 = 2297856 := by decide +kernel
  unfold State.extentsGood ext1
  rw [List.mergeSort_singleton]
  simp only [hs, List.all_cons, List.all_nil, mpu_open s .read 0 2297856 (by omega) h1 h2 (by decide), mpu_open s .write 0 2297856 (by omega) h1 h2 (by decide)]
  decide
theorem extents_bad (s : State) (l : List (Nat × Nat × Nat)) : s.extentsGood 1 l = false := by
  unfold State.extentsGood
  rw [decide_eq_false (by decide)]
  rfl
theorem body_of (b : Bytes) (n num : Nat) (h : bodyIs b n num = true) : storeBody b = some (n, 64, num, ext1) := by
  unfold bodyIs at h
  split at h
  · rename_i x hx
    rw [hx, eq_of_beq h]
    rfl
  · exact absurd h Bool.false_ne_true
theorem no_body : storeBody [] = none := by unfold storeBody; rw [if_pos (by decide)]
theorem body_fmt0 : storeBody (fmtBody 0) = some (8192, 64, 0, ext1) := body_of _ _ _ (by decide +kernel)
theorem body_fmt1 : storeBody (fmtBody 1) = some (8192, 64, 1, ext1) := body_of _ _ _ (by decide +kernel)
theorem body_fmt5 : storeBody (fmtBody 5) = some (8192, 64, 5, ext1) := body_of _ _ _ (by decide +kernel)
theorem body_fmt6 : storeBody (fmtBody 6) = some (8192, 64, 6, ext1) := body_of _ _ _ (by decide +kernel)
theorem body_fmt7 : storeBody (fmtBody 7) = some (8192, 64, 7, ext1) := body_of _ _ _ (by decide +kernel)
theorem body_bad0 : storeBody (badBody 0) = some (1, 64, 0, ext1) := body_of _ _ _ (by decide +kernel)
theorem body_bad5 : storeBody (badBody 5) = some (1, 64, 5, ext1) := body_of _ _ _ (by decide +kernel)
theorem witness_StoreOperations_down : (∀ op ∈ [0x40, 0x41, 0x42, 0x43, 0x44], downOk 64 op = true ∧ idleOk 64 op = true) := by decide +kernel
/-- STORE_FORMAT: no body; a number; a store that is formatted; no root key; a number of lines that is not allowed; and all well. -/
theorem witness_StoreOperations_format :
    let st (b : Bytes) (f : State → State) : State := served 64 0x40 b (hSt f)
    (servedB (st [] id) 64 0x40 [] = true ∧ storeBody [] = none) ∧
    (servedB (st (fmtBody 1) id) 64 0x40 (fmtBody 1) = true ∧ storeBody (fmtBody 1) = some (8192, 64, 1, ext1)) ∧
    storeBody (fmtBody 0) = some (8192, 64, 0, ext1) ∧
    (servedB (st (fmtBody 0) (storeIs openStore)) 64 0x40 (fmtBody 0) = true ∧ (st (fmtBody 0) (storeIs openStore)).store.st ≠ .unformatted) ∧
    (servedB (st (fmtBody 0) id) 64 0x40 (fmtBody 0) = true ∧ (st (fmtBody 0) id).store.st = .unformatted ∧ (st (fmtBody 0) id).keys.root = none) ∧
    (servedB (st (badBody 0) rootW) 64 0x40 (badBody 0) = true ∧ storeBody (badBody 0) = some (1, 64, 0, ext1) ∧
      (st (badBody 0) rootW).store.st = .unformatted ∧ (st (badBody 0) rootW).keys.root.isSome = true ∧ (st (badBody 0) rootW).extentsGood 1 ext1 = false) := by
  refine ⟨⟨?_, no_body⟩, ⟨?_, body_fmt1⟩, body_fmt0, ?_, ?_, ?_, body_bad0, ?_, ?_, extents_bad _ _⟩ <;> decide +kernel
theorem witness_StoreOperations_formats :
    let s := served 64 0x40 (fmtBody 0) (hSt (fun s => mpuW (rootW s)))
    Served s 64 0x40 (fmtBody 0) ∧ s.store.st = .unformatted ∧ s.keys.root.isSome = true ∧ s.extentsGood 8192 ext1 = true ∧
      (∃ h : 0 < ext1.length, ext1[0].1 < 2 ^ 64 ∧ ext1[0].2.1 < 2 ^ 44 ∧ ext1[0].2.2 < 2 ^ 44) :=
  ⟨served_of _ _ _ _ (by decide +kernel), rfl, rfl, extents_good _ rfl (by decide +kernel), ⟨by decide, by decide, by decide, by decide +kernel⟩⟩
/-- STORE_OPEN: no body; a store that is not CLOSED; a number that is not durable; an N that the checkpoint has not; level-5 nodes that are not there. -/
def openSt (b : Bytes) (f : Store → Store) : State := served 64 0x41 b (hSt (fun s => mpuW (storeW (fun r => f { r with st := .closed, durA := some root5, durB := some root6 }) s)))
theorem witness_StoreOperations_open :
    (servedB (openSt [] id) 64 0x41 [] = true ∧ storeBody [] = none) ∧
    (storeBody (fmtBody 5) = some (8192, 64, 5, ext1) ∧ storeBody (fmtBody 6) = some (8192, 64, 6, ext1) ∧ storeBody (fmtBody 7) = some (8192, 64, 7, ext1)) ∧
    (servedB (openSt (fmtBody 5) (fun _ => openStore)) 64 0x41 (fmtBody 5) = true ∧ (openSt (fmtBody 5) (fun _ => openStore)).store.st ≠ .closed) ∧
    (servedB (openSt (fmtBody 7) id) 64 0x41 (fmtBody 7) = true ∧ (openSt (fmtBody 7) id).store.st = .closed ∧ (openSt (fmtBody 7) id).store.named 7 = none) ∧
    (servedB (openSt (badBody 5) id) 64 0x41 (badBody 5) = true ∧ storeBody (badBody 5) = some (1, 64, 5, ext1) ∧ (openSt (badBody 5) id).store.st = .closed ∧
      (openSt (badBody 5) id).store.named 5 = some (root5, false) ∧ 1 ≠ root5.n) ∧
    (servedB (openSt (fmtBody 6) id) 64 0x41 (fmtBody 6) = true ∧ (openSt (fmtBody 6) id).store.st = .closed ∧
      (openSt (fmtBody 6) id).store.named 6 = some (root6, false) ∧ root6.n = 8192 ∧ (openSt (fmtBody 6) id).imageGood root6 [] = false) := by
  refine ⟨⟨?_, no_body⟩, ⟨body_fmt5, body_fmt6, body_fmt7⟩, ?_, ?_, ⟨?_, body_bad5, ?_, ?_, ?_⟩, ?_⟩ <;> decide +kernel
theorem witness_StoreOperations_open_extents : (openSt (fmtBody 6) id).extentsGood root6.n ext1 = true := extents_good _ rfl (by decide +kernel)
/-- The opening of a durable checkpoint and of a flushed LIVE, with a tenant and with none. -/
def noTenants (s : State) : State := { s with keys := { s.keys with tenants := [] } }
def liveBody : Bytes := fmtBody 0xFFFFFFFF
theorem witness_StoreOperations_opens :
    (let s := openSt (fmtBody 5) id
     Served s 64 0x41 (fmtBody 5) ∧ storeBody (fmtBody 5) = some (8192, 64, 5, ext1) ∧ s.store.st = .closed ∧ s.store.named 5 = some (root5, false) ∧
      s.extentsGood root5.n ext1 = true ∧ 8192 = root5.n ∧ s.imageGood root5 [] = true ∧
      (∀ k, k < 64 → 0x800000 < s.rd (Reg.TBL_KH_BASE_BASE k) ∨ s.rd (Reg.TBL_KH_BASE_BASE k) + 0x800000 ≤ 0x800000)) ∧
    (let s := noTenants (openSt liveBody (fun r => { r with live := some root5, flushed := true }))
     Served s 64 0x41 liveBody ∧ storeBody liveBody = some (8192, 64, 0xFFFFFFFF, ext1) ∧ s.store.st = .closed ∧ s.store.named 0xFFFFFFFF = some (root5, true) ∧
      s.extentsGood root5.n ext1 = true ∧ s.imageGood root5 [] = true ∧ (∀ k, k < 64 → (s.tenant k).exist = false)) := by
  refine ⟨⟨served_of _ _ _ _ (by decide +kernel), body_fmt5, rfl, ?_, extents_good _ rfl (by decide +kernel), rfl, ?_, ?_⟩,
    served_of _ _ _ _ (by decide +kernel), body_of _ _ _ (by decide +kernel), rfl, ?_, extents_good _ rfl (by decide +kernel), ?_, ?_⟩ <;> decide +kernel
/-- STORE_CHECKPOINT, STORE_DURABLE_ACK and STORE_STATUS in the store's states, with nothing pending, with another number pending, and with the number that is
acknowledged, which takes either slot. -/
theorem witness_StoreOperations_requests :
    let pend : Store := { openStore with pend := some root5 }
    let ack (r : Store) (n : Nat) : State := served 64 0x43 (natToLe 4 n) (hSt (storeIs r))
    (servedB (served 64 0x42 [] (hSt id)) 64 0x42 [] = true ∧ (hSt id).store.st ≠ .opened) ∧
    (∀ r ∈ [pend, openStore], servedB (served 64 0x42 [] (hSt (storeIs r))) 64 0x42 [] = true ∧ r.st = .opened) ∧ pend.pend.isSome = true ∧ openStore.pend = none ∧
    (servedB (served 64 0x43 [] (hSt id)) 64 0x43 [] = true ∧ ([] : Bytes).length ≠ 4 ∧ (natToLe 4 5).length = 4) ∧
    (servedB (ack Store.reset 5) 64 0x43 (natToLe 4 5) = true ∧ (ack Store.reset 5).store.st = .unformatted) ∧
    (servedB (ack pend 6) 64 0x43 (natToLe 4 6) = true ∧ (ack pend 6).store.st ≠ .unformatted ∧ (ack pend 6).store.pend = some root5 ∧
      root5.num ≠ leAt (natToLe 4 6) 0 4) ∧
    (servedB (ack openStore 6) 64 0x43 (natToLe 4 6) = true ∧ (ack openStore 6).store.pend = none) ∧
    (∀ r ∈ [pend, { pend with durA := some root5 }], servedB (ack r 5) 64 0x43 (natToLe 4 5) = true ∧ (ack r 5).store.st ≠ .unformatted ∧
      (ack r 5).store.pend = some root5) ∧ root5.num = leAt (natToLe 4 5) 0 4 ∧ rootNum pend.durA ≤ rootNum pend.durB ∧
    rootNum ({ pend with durA := some root5 } : Store).durB < rootNum ({ pend with durA := some root5 } : Store).durA ∧
    servedB (served 64 0x44 [] (hSt id)) 64 0x44 [] = true := by
  decide +kernel

/-! ### Witnesses: the engine of the sealed store (chapter 11) -/

/-- A store that writes generation 2 and leaves generation 1, with the pointer at `p`. -/
def rekeySt (p : Nat) (f : Store → Store) : State := hSt (storeW (fun _ => f { openStore with gen := (2, 1), ptr := p }))
/-- A write that waits at a lock. -/
def lock1 : LockOp := ⟨0, 3, [9], .write 0 []⟩
/-- A cut is asked for. -/
def cutSt (f : Store → Store) : State := hSt (storeW (fun _ => f { openStore with wantCut := true }))
theorem witness_StoreEngine_cut :
    (hSt id).store.wantCut = false ∧ (hSt id).store.st ≠ .opened ∧ ({ openStore with pend := some root5 } : Store).pend.isSome = true ∧
    ((cutSt id).store.wantCut = true ∧ (cutSt id).store.st = .opened ∧ (cutSt id).store.pend = none ∧ ((cutSt id).wantLines (cutSt id).flushWants).1 = true ∧
      (cutSt id).store.lock = []) ∧
    (let s := cutSt (fun r => { r with lock := [lock1] })
     s.store.wantCut = true ∧ s.store.st = .opened ∧ s.store.pend = none ∧ s.store.lock ≠ []) := by decide +kernel
theorem witness_StoreEngine_cut_waits :
    let s : State := purgeSt { pathStore purgeLine with wantCut := true }
    s.store.wantCut = true ∧ s.store.st = .opened ∧ s.store.pend = none ∧ (purgeSt (pathStore purgeLine)).flushWants = s.flushWants ∧
      ((purgeSt (pathStore purgeLine)).wantLines (purgeSt (pathStore purgeLine)).flushWants).1 = false := by
  refine ⟨rfl, rfl, rfl, rfl, path_waits purgeLine true _ _ rfl ?_⟩
  exact List.mem_flatMap.2 ⟨{ aged with dirty := true }, by decide, List.mem_map.2 ⟨0, by decide, rfl⟩⟩
/-- The start of a rekey, none on a store that is not OPEN or while one runs, and a position where none runs. -/
theorem witness_StoreEngine_rekey :
    ((cutSt id).store.st = .opened ∧ (cutSt id).store.gen.1 = (cutSt id).store.gen.2) ∧ (hSt id).store.st ≠ .opened ∧
    ((rekeySt 0 id).store.st = .opened ∧ (rekeySt 0 id).store.gen.1 ≠ (rekeySt 0 id).store.gen.2) := by decide
/-- The walk at its end and at the 4,096th position, with writes pending and with none; at the last position; at a position already done, at one that is poisoned,
at one whose lines must be read, and at one that needs nothing. -/
theorem witness_StoreEngine_positions :
    let busy (r : Store) : Store := { r with lock := [lock1] }
    let done6 (r : Store) : Store := { r with tree := ⟨[], [(6, ⟨0, 2⟩)]⟩ }
    let path (s : State) (p : Nat) : Bool := ((if p % 4096 = 0 then { s with store := { s.store with mramRekey := some (s.store.gen.2, 2, p) } } else s : State).wantLines
      ((if p % 4096 = 0 then { s with store := { s.store with mramRekey := some (s.store.gen.2, 2, p) } } else s : State).rekeyWants p)).1
    let passed (s : State) (p : Nat) : Bool := (s.store.tree.node p).gen == 2 || s.pathPoisoned ((nodeAt s.store.n p).2 * 32 ^ ((nodeAt s.store.n p).1 + 1))
    nodeTotal 64 = 7 ∧
    (nodeTotal (rekeySt 7 busy).store.n ≤ 7 ∧ (rekeySt 7 busy).storePending = true) ∧
    (4096 < nodeTotal (rekeySt 4096 (fun r => busy { r with n := 131072 })).store.n ∧
      (rekeySt 4096 (fun r => busy { r with n := 131072 })).storePending = true) ∧
    (nodeTotal (rekeySt 7 id).store.n ≤ 7 ∧ (rekeySt 7 id).storePending = false) ∧
    (passed (rekeySt 0 id) 0 = false ∧ path (rekeySt 0 id) 0 = true) ∧
    (passed (rekeySt 6 id) 6 = false ∧ path (rekeySt 6 id) 6 = true ∧ (out (exec .rekeyPosition (rekeySt 6 id))).storePending = false) ∧
    (passed (rekeySt 6 done6) 6 = true ∧ (out (exec .rekeyPosition (rekeySt 6 (fun r => busy (done6 r))))).storePending = true) ∧
    (let s := rekeySt 0 (fun r => { r with poison := [(1, 0, 0)] })
     passed s 0 = true) ∧
    (let s := rekeySt 0 (fun r => { r with tree := ⟨[(5, ⟨1, zeros 256⟩)], []⟩ })
     passed s 0 = false ∧ path s 0 = false) := by decide +kernel
/-- A read of line 3 whose parts have arrived, with the tag that its bytes have, and with none. -/
def read3 (tag : Bytes) : StoreRead := ⟨0, 3, [⟨.line, some (zeros 256), false, 0⟩, ⟨.tag, some tag, false, 0⟩], false, (1, 1), .waiting⟩
def readSt (r : StoreRead) : State := hSt (fun s => rootW (storeW (fun _ => { openStore with gen := (1, 1), reads := [r] }) s))
def tag3 : Bytes := Machine.gcmTag ((readSt (read3 [])).dataKey 1) (lineNonce 3 1) [] (zeros 256)
theorem gcmOpen_tag (key iv ad ct : Bytes) : ∃ d, gcmOpen key iv ad ct (Machine.gcmTag key iv ad ct) = some d := ⟨_, if_pos rfl⟩
theorem lineGood_tag (s : State) (r : StoreRead) (c k n : Bytes) (hk : s.dataKey r.at_.2 = k) (hn : lineNonce r.line r.at_.1 = n) :
    ∃ d, s.lineGood r c (Machine.gcmTag k n [] c) = some d := by
  unfold State.lineGood
  rw [hk, hn]
  exact gcmOpen_tag _ _ _ _
theorem readSt_key (r q : StoreRead) (g : Nat) : (readSt r).dataKey g = (readSt q).dataKey g := rfl
theorem witness_StoreEngine_reads :
    (readSt (read3 tag3)).storeRead? 0 = some (read3 tag3) ∧ (readSt (read3 tag3)).store.st = .opened ∧ (read3 tag3).failed = false ∧ (read3 tag3).res = .waiting ∧
    (¬∃ q ∈ (read3 tag3).parts, q.data = none) ∧ (∃ d, (readSt (read3 tag3)).lineGood (read3 tag3) (zeros 256) tag3 = some d) ∧
    (readSt (read3 tag3)).store.cache.length ≤ 4096 ∧ (readSt (read3 [])).lineGood (read3 []) (zeros 256) [] = none := by
  refine ⟨rfl, rfl, rfl, rfl, ?_, lineGood_tag (readSt (read3 tag3)) (read3 tag3) (zeros 256) _ _ (readSt_key _ _ _) rfl, by decide, ?_⟩
  · rintro ⟨q, hq, hn⟩
    rcases List.mem_cons.1 hq with rfl | hq
    · exact absurd hn (by simp)
    · rw [List.mem_singleton.1 hq] at hn
      exact absurd hn (by simp)
  · unfold State.lineGood gcmOpen
    refine if_neg ?_
    intro h
    have := congrArg List.length h
    unfold Machine.gcmTag at this
    rw [xorB, List.length_zipWith] at this
    exact absurd this (by decide +kernel)
/-- No such read; one that has ended; one with a part missing; one whose store was closed meanwhile; one that failed at the link; and one with a bad node. -/
theorem witness_StoreEngine_reads_bad :
    let bad : StoreRead := ⟨0, 3, [⟨.node 0, some [], false, 1⟩], false, (1, 1), .waiting⟩
    (readSt (read3 [])).storeRead? 1 = none ∧
    ((readSt { read3 [] with res := .lost }).storeRead? 0 = some { read3 [] with res := .lost } ∧ ({ read3 [] with res := .lost } : StoreRead).res ≠ .waiting) ∧
    ((readSt { read3 [] with parts := [⟨.tag, none, false, 0⟩] }).storeRead? 0 = some { read3 [] with parts := [⟨.tag, none, false, 0⟩] } ∧
      (read3 []).failed = false) ∧
    (storeW (fun r => { r with st := .closed }) (readSt (read3 []))).store.st ≠ .opened ∧
    ((readSt { read3 [] with failed := true }).storeRead? 0 = some { read3 [] with failed := true } ∧
      (readSt { read3 [] with failed := true }).store.poison.length < 256) ∧
    ((readSt bad).storeRead? 0 = some bad ∧ (readSt bad).store.st = .opened ∧
      bad.parts.find? (fun x => decide (x.part = .node 0)) = some ⟨.node 0, some [], false, 1⟩ ∧
      (readSt bad).nodeGood 0 (bad.line / 32 ^ (0 + 1)) 1 [] = false) := by decide +kernel

/-! ### Witnesses: the pair (chapters 15 and 16) -/

/-- A unit that may claim, its lines free, at a late device time. -/
def claimSt (f : Pair → Pair) : State :=
  atTime 100000000000000 (regW Reg.STR_CTL_CLAIM_EN 1 { hSt id with pair := f Pair.reset })
def sysW (f : Sys → Sys) (s : State) : State := { s with sys := f s.sys }
def peerClaims (s : State) : State := { s with pins := { s.pins with peerClaim := true } }
/-- The arbitration delay: none that runs, one that has not ended, one of a unit that claims already, and one that ends on an unpaired unit and on a standby. -/
theorem witness_ClaimInterlock_delay :
    let claims (s : State) : Prop := s.pairEligible = true ∧ s.pair.claim = false ∧ s.linesFree = true
    let due (s : State) : Prop := s.pair.arb = some 0 ∧ 0 + s.usRaw (if s.primary then 10 else 20) ≤ s.now
    (claimSt id).pair.arb = none ∧
    (let s := atTime 1 (claimSt (fun p => { p with arb := some 0 }))
     s.pair.arb = some 0 ∧ s.now < 0 + s.usRaw (if s.primary then 10 else 20)) ∧
    (let s := claimSt (fun p => { p with arb := some 0, claim := true })
     s.pair.arb = some 0 ∧ ¬claims s) ∧
    (let s := claimSt (fun p => { p with arb := some 0 })
     due s ∧ claims s ∧ s.pair.st = .unpaired) ∧
    (let s := claimSt (fun p => { p with arb := some 0, st := .standby })
     due s ∧ claims s ∧ s.pair.st = .standby) := by decide +kernel
/-- The partner's claim with and without service; its fall on a unit that does not claim, on one that does, and on a standby; contention of a claim that had service and of
one that had not, and none. -/
theorem witness_ClaimInterlock_lines :
    ((claimSt (fun p => { p with service := true })).pair.service = true ∧ (claimSt id).pair.service = false) ∧
    ((claimSt id).pair.st ≠ .standby ∧ (claimSt id).pair.claim = false) ∧
    ((claimSt (fun p => { p with claim := true })).pair.st ≠ .standby ∧ (claimSt (fun p => { p with claim := true })).pair.st ≠ .gaveUp ∧
      (claimSt (fun p => { p with claim := true })).pair.claim = true) ∧
    ((claimSt (fun p => { p with st := .standby })).pair.st = .standby ∧ (claimSt (fun p => { p with st := .standby })).pair.claim = false) ∧
    (∀ h ∈ [true, false], (peerClaims (claimSt (fun p => { p with claim := true, had := h }))).pair.claim = true ∧
      (peerClaims (claimSt (fun p => { p with claim := true, had := h }))).pins.peerClaim = true ∧
      (peerClaims (claimSt (fun p => { p with claim := true, had := h }))).pair.had = h) ∧
    (claimSt (fun p => { p with claim := true })).pins.peerClaim = false := by decide
/-- Every fatal condition that is enabled, and none. -/
theorem witness_ClaimInterlock_fatal :
    (∀ k ∈ [0, 1, 2, 5], bitAt ((regW Reg.STR_DIAG_COND (2 ^ k) (claimSt id)).rd Reg.STR_DIAG_COND) k = true ∧
      (regW Reg.STR_DIAG_COND (2 ^ k) (claimSt id)).pair.st ≠ .gaveUp) ∧
    (let s := regW Reg.STR_DIAG_COND 8 (regW Reg.TIM_CTL_UNTRUST_FATAL 1 (claimSt id))
     s.rd Reg.TIM_CTL_UNTRUST_FATAL = 1 ∧ bitAt (s.rd Reg.STR_DIAG_COND) 3 = true ∧ s.pair.st ≠ .gaveUp) ∧
    (let s := regW Reg.STR_DIAG_COND 16 (regW Reg.STR_DIAG_CFG_AUDIT_FATAL 1 (claimSt id))
     s.rd Reg.STR_DIAG_CFG_AUDIT_FATAL = 1 ∧ bitAt (s.rd Reg.STR_DIAG_COND) 4 = true ∧ s.pair.st ≠ .gaveUp) ∧
    (let s := timeSt (fun t => { t with state := .trusted })
     s.rd Reg.STR_DIAG_COND = 0 ∧ s.time.state ≠ .untrusted ∧ s.rd Reg.GRD_STICKY_AUDIT_LOST = 0) := by decide
/-- The waits that end and those that do not. -/
theorem witness_ClaimInterlock_waits :
    (let s := claimSt (fun p => { p with waiting := true })
     s.pair.waiting = true ∧ s.linesFree = true ∧ s.pair.since + s.msRaw (s.rd Reg.STR_CFG_BOOT_WAIT) ≤ s.now) ∧
    ¬(claimSt id).pair.waiting = true ∧
    (let s := peerClaims (claimSt (fun p => { p with st := .standby }))
     s.pair.st = .standby ∧ s.pins.peerClaim = true ∧ s.pair.heard + s.linkTmo ≤ s.now) ∧
    ¬(claimSt id).pair.st = .standby ∧
    ((claimSt (fun p => { p with st := .protected_ })).pair.st.mirrors = true ∧
      (claimSt (fun p => { p with st := .protected_ })).pair.heard + 2 * (claimSt (fun p => { p with st := .protected_ })).linkTmo ≤
        (claimSt (fun p => { p with st := .protected_ })).now) ∧
    (claimSt id).pair.st.mirrors = false ∧
    (let s := atTime 0 (regW Reg.STR_CFG_LINK_TMO 20 (claimSt (fun p => { p with st := .protected_ })))
     s.now < s.pair.heard + 2 * s.linkTmo) := by decide +kernel
/-- The session key of 32 zero bytes of a secondary, and what seals a message of counter 0: its nonce, its header and 64 bytes of its keystream. -/
def strK : Bytes := zeros 32
def strIv : Bytes := natToLe 1 1 ++ zeros 3 ++ natToLe 8 0
def strHead (type n : Nat) : Bytes := natToLe 2 0 ++ natToLe 1 type ++ zeros 1 ++ natToLe 4 n ++ natToLe 8 0
def strKs : Bytes :=
  bytesOf ([166, 136, 163, 58, 111, 99, 195, 39, 1, 236, 141, 99, 86, 54, 109, 239] ++ [128, 194, 243, 81, 1, 91, 97, 97, 230, 124, 215, 108, 68, 214, 175, 202] ++
    [182, 249, 78, 7, 151, 27, 238, 175, 153, 178, 25, 196, 215, 71, 26, 148] ++ [238, 63, 4, 44, 157, 66, 57, 169, 119, 216, 212, 113, 57, 185, 108, 9])
def strCt (b : Bytes) : Bytes := xorB b strKs
def strData (type : Nat) (b : Bytes) : Bytes := strCt b ++ Machine.gcmTag strK strIv (strHead type (strCt b).length) (strCt b)
theorem strTag_length (h c : Bytes) : (Machine.gcmTag strK strIv h c).length = 16 := by
  unfold Machine.gcmTag
  simp only [xorB, List.length_zipWith]
  rw [show (aesEnc strK (strIv ++ natToBe 4 1)).length = 16 from by decide +kernel]
  simp only [natToBe, List.length_reverse]
  rfl
theorem heard_of (s : State) (type : Nat) (b : Bytes) (h1 : s.rd Reg.STR_CTL_STARTER_EN = 1) (h2 : s.pair.key = some strK) (h3 : s.primary = false)
    (hs : (stream (.ctr 4) (aesEnc strK) 16 (gcmFirst strIv) [] (strCt b)).1 = b) : Heard s type 0#16 0#64 (strData type b) b := by
  refine ⟨h1, by rw [h2]; rfl, ?_⟩
  have hl : (strData type b).length - 16 = (strCt b).length := by
    rw [strData, List.length_append, strTag_length]; omega
  unfold State.strOpen
  rw [h2, hl]
  simp only [h3]
  rw [show (strData type b).take (strCt b).length = strCt b from List.take_left' rfl,
    show (strData type b).drop (strCt b).length = Machine.gcmTag strK strIv (strHead type (strCt b).length) (strCt b) from List.drop_left' rfl]
  exact (if_pos rfl).trans (congrArg some hs)
/-- A message with a tag of no bytes fails. -/
theorem untagged_fails (s : State) (type : Nat) (h : s.pair.key = some strK) (hp : s.primary = false) : s.strOpen type 0 0 [] = none := by
  unfold State.strOpen
  rw [h]
  simp only [hp]
  refine if_neg (fun e => ?_)
  have := congrArg List.length e
  exact absurd ((strTag_length (strHead type 0) []).symm.trans this) (by decide)
/-- A unit with the Starter on and that session key. -/
def strSt (f : State → State) : State :=
  regW Reg.STR_CTL_STARTER_EN 1 (f (atTime 100000000000000 { hSt id with pair := { Pair.reset with key := some strK } }))
def beat : Bytes := natToLe 1 1 ++ natToLe 1 1 ++ zeros 6 ++ natToLe 8 7
def tickB : Bytes := natToLe 8 5 ++ zeros 8
theorem strCt_beat : (stream (.ctr 4) (aesEnc strK) 16 (gcmFirst strIv) [] (strCt beat)).1 = beat := by decide +kernel
theorem strCt_tick : (stream (.ctr 4) (aesEnc strK) 16 (gcmFirst strIv) [] (strCt tickB)).1 = tickB := by decide +kernel
/-- The own count of `strSt`'s time, as a tick. -/
def tickE : Bytes := natToLe 8 5960464 ++ zeros 8
theorem strCt_tickE : (stream (.ctr 4) (aesEnc strK) 16 (gcmFirst strIv) [] (strCt tickE)).1 = tickE := by decide +kernel
/-- A unit that compares ticks. -/
def tickSt : State := strSt (fun s => regW Reg.TIM_CTL_PAIR_CMP_EN 1 (regW Reg.TIM_PAIR_N 1 { s with time := { s.time with state := .trusted } }))
theorem witness_PairSession_messages :
    Heard (strSt id) 0x30 0 0 (strData 0x30 beat) beat ∧
    (Heard tickSt 0x31 0 0 (strData 0x31 tickB) tickB ∧ Heard tickSt 0x31 0 0 (strData 0x31 tickE) tickE ∧ tickSt.rd Reg.STR_CTL_STARTER_EN = 1 ∧
      tickSt.rd Reg.TIM_CTL_PAIR_CMP_EN = 1 ∧ tickSt.time.state = .trusted ∧ byteAt tickB 8 = 0 ∧ byteAt tickE 8 = 0 ∧
      leAt tickB 0 8 ≠ (tickSt.now + 2 ^ 23) / 2 ^ 24 ∧ leAt tickE 0 8 = (tickSt.now + 2 ^ 23) / 2 ^ 24 ∧ tickSt.rd Reg.TIM_PAIR_N ≤ tickSt.time.diffRun + 1 ∧
      tickSt.rd Reg.TIM_PAIR_N ≤ tickSt.time.eqRun + 1) :=
  ⟨heard_of _ _ _ (by decide +kernel) rfl (by decide +kernel) strCt_beat, heard_of _ _ _ (by decide +kernel) rfl (by decide +kernel) strCt_tick,
    heard_of _ _ _ (by decide +kernel) rfl (by decide +kernel) strCt_tickE, by decide +kernel⟩
/-- A Starter that is off, one without a session key, a tag that fails for each type, and heartbeats due and not. -/
theorem witness_PairSession_others :
    (regW Reg.STR_CTL_STARTER_EN 0 (hSt id)).rd Reg.STR_CTL_STARTER_EN = 0 ∧ (hSt id).pair.key = none ∧
    ((strSt id).rd Reg.STR_CTL_STARTER_EN = 1 ∧ (strSt id).pair.key.isSome = true ∧
      ∀ t ∈ [0x10, 0x11, 0x12, 0x20, 0x21, 0x22, 0x30, 0x31], (strSt id).strOpen t (0#16).toNat (0#64).toNat [] = none) ∧
    ((strSt id).pair.key = some strK ∧ (strSt id).pair.beat + (strSt id).usRaw 10 ≤ (strSt id).now) ∧
    (atTime 0 (strSt id)).now < (atTime 0 (strSt id)).pair.beat + (atTime 0 (strSt id)).usRaw 10 :=
  ⟨by decide, rfl, ⟨by decide, rfl, fun t _ => untagged_fails _ t rfl (by decide +kernel)⟩, by decide +kernel, by decide +kernel⟩
/-- The partner's IDENT and KEYX, and the ceremony that named it. -/
def identB : Bytes := (natToLe 8 9 ++ natToLe 1 1 ++ zeros 39 ++ zeros 68) ++ zeros 7173
def keyxB : Bytes := (natToLe 8 9 ++ zeros 32) ++ zeros 7173
def pairing9 : Pairing := ⟨9, shake256 32 (zeros 68), 100, 64⟩
theorem zeros_length (n : Nat) : (zeros n).length = n := List.length_replicate
theorem identB_length : identB.length = 7289 := by
  rw [identB, List.length_append, zeros_length]
  rfl
theorem keyxB_length : keyxB.length = 7213 := by
  rw [keyxB, List.length_append, zeros_length]
  rfl
theorem identB_good (s : State) (hp : s.primary = false) (h : Config.xmssVerify (zeros 68) (identB.take 1684) (identB.drop 1684) = true) :
    s.identGood pairing9 identB = true := by
  have k : slice identB 48 68 = zeros 68 := by rw [identB, slice_left _ _ _ _ (by decide)]; decide
  unfold State.identGood
  rw [identB_length, k, hp, h]
  simp only [pairing9]
  have a1 : leAt identB 0 8 = 9 := by rw [identB, leAt_left _ _ _ _ (by decide)]; decide
  have a2 : byteAt identB 8 = 1 := by rw [identB, byteAt_left _ _ _ (by decide)]; decide
  have a3 : allZero (slice identB 9 7) = true := by rw [identB, slice_left _ _ _ _ (by decide)]; decide
  rw [a1, a2, a3]
  simp
  rfl
theorem witness_PairSession_keys (h1 : Config.xmssVerify (zeros 68) (identB.take 1684) (identB.drop 1684) = true)
    (h2 : Config.xmssVerify (slice identB 48 68) (keyxB.take 1608) (keyxB.drop 1608) = true) :
    let s := strSt (fun s => { s with pair := { s.pair with pairing := some pairing9, ident := some (zeros 32, zeros 64, zeros 32), peerIdent := some identB } })
    s.pair.pairing = some pairing9 ∧ s.pair.ident = some (zeros 32, zeros 64, zeros 32) ∧ s.pair.peerIdent = some identB ∧ s.primary = false ∧
      keyxB.length = 7213 ∧ leAt keyxB 0 8 = pairing9.uid ∧ slice keyxB 8 32 = zeros 32 ∧ s.identGood pairing9 identB = true ∧
      Config.xmssVerify (slice identB 48 68) (keyxB.take 1608) (keyxB.drop 1608) = true := by
  intro s
  refine ⟨rfl, rfl, rfl, by decide, keyxB_length, ?_, ?_, identB_good s (by decide) h1, h2⟩
  · rw [keyxB, leAt_left _ _ _ _ (by decide)]; decide
  · rw [keyxB, slice_left _ _ _ _ (by decide)]; decide
/-- A KEYX of the wrong length, and one for a primary or with no ceremony. -/
theorem witness_PairSession_keys_bad :
    (let s := strSt (fun s => { s with pair := { s.pair with pairing := some pairing9, ident := some (zeros 32, zeros 64, zeros 32), peerIdent := some [] } })
     s.rd Reg.STR_CTL_STARTER_EN = 1 ∧ s.pair.pairing = some pairing9 ∧ s.pair.ident = some (zeros 32, zeros 64, zeros 32) ∧ s.pair.peerIdent = some [] ∧
      s.primary = false ∧ ¬([] : Bytes).length = 7213) ∧
    (strSt id).pair.pairing = none ∧ (strSt (fun s => sysW (fun y => { y with straps := (y.straps.1, y.straps.2.1, true) }) s)).primary = true := by decide +kernel
/-- HELLO of wrong length, in a session of this unit's, and as the start of one without and with random bytes; IDENT with and without a pair key. -/
theorem witness_PairSession_hello :
    let with_ (s : State) : State := { s with keys := { s.keys with pair := some (zeros 32) } }
    let own := strSt (fun s => { with_ s with pair := { s.pair with session := some (zeros 32, none) } })
    let cold := strSt with_
    let warm := atTime 100 (strSt (fun s => rngW (with_ s)))
    ((zeros 47).length ≠ 48 ∧ (zeros 48).length = 48 ∧ own.rd Reg.STR_CTL_STARTER_EN = 1 ∧ cold.rd Reg.STR_CTL_STARTER_EN = 1 ∧
      warm.rd Reg.STR_CTL_STARTER_EN = 1) ∧
    (own.pair.session = some (zeros 32, none) ∧ own.pair.pairing = none ∧ own.keys.pair = some (zeros 32)) ∧
    (cold.pair.session = none ∧ cold.drbgBytes 192 32 = none) ∧
    (warm.pair.session = none ∧ (warm.drbgBytes 192 32).isSome = true ∧ warm.pair.pairing = none ∧ warm.keys.pair = some (zeros 32)) ∧
    (cold.keys.pair.isSome = true ∧ (strSt id).keys.pair = none ∧ (strSt id).pair.pairing = none) := by decide +kernel
/-- The payloads of the epoch and seeding messages. -/
def ackB : Bytes := natToLe 8 3
def partB : Bytes := natToLe 8 4 ++ natToLe 8 0
def endBad : Bytes := natToLe 8 9 ++ zeros 40
def endGood : Bytes := natToLe 8 4 ++ zeros 8 ++
  bytesOf [70, 185, 221, 43, 11, 168, 141, 19, 35, 59, 63, 235, 116, 62, 235, 36, 63, 205, 82, 234, 98, 184, 27, 130, 181, 12, 39, 100, 110, 213, 118, 47]
def endWrong : Bytes := natToLe 8 4 ++ zeros 40
def seedB : Bytes := zeros 8
/-- A change record of a tenant that there cannot be, its epoch's end, and a part of seeding with it. -/
def badChange : Bytes := [1#8, 1#8, 64#8, 0#8] ++ zeros 12
def endNone : Bytes := natToLe 8 4 ++ natToLe 8 1 ++
  bytesOf [30, 99, 24, 136, 137, 172, 85, 65, 118, 123, 16, 180, 5, 152, 155, 27, 221, 227, 28, 226, 125, 91, 36, 244, 73, 63, 48, 239, 181, 41, 247, 145]
def seedBad : Bytes := natToLe 8 16 ++ badChange
def endMore : Bytes := natToLe 8 7
theorem strCt_epochs : ∀ b ∈ [ackB, partB, seedB, seedBad, endMore], (stream (.ctr 4) (aesEnc strK) 16 (gcmFirst strIv) [] (strCt b)).1 = b := by decide +kernel
theorem strCt_ends : ∀ b ∈ [endBad, endGood, endWrong, endNone], (stream (.ctr 4) (aesEnc strK) 16 (gcmFirst strIv) [] (strCt b)).1 = b := by decide +kernel
def pairSt (f : Pair → Pair) : State := strSt (pairW f)
theorem heard_pair (f : Pair → Pair) (type : Nat) (b : Bytes) (hk : (f { Pair.reset with key := some strK }).key = some strK)
    (hs : (stream (.ctr 4) (aesEnc strK) 16 (gcmFirst strIv) [] (strCt b)).1 = b) : Heard (pairSt f) type 0 0 (strData type b) b :=
  heard_of _ _ _ rfl hk rfl hs
theorem heard_epochs (f : Pair → Pair) (type : Nat) (b : Bytes) (hb : b ∈ [ackB, partB, seedB, seedBad, endMore])
    (hk : (f { Pair.reset with key := some strK }).key = some strK) : Heard (pairSt f) type 0 0 (strData type b) b :=
  heard_pair f type b hk (strCt_epochs b hb)
theorem heard_ends (f : Pair → Pair) (type : Nat) (b : Bytes) (hb : b ∈ [endBad, endGood, endWrong, endNone])
    (hk : (f { Pair.reset with key := some strK }).key = some strK) : Heard (pairSt f) type 0 0 (strData type b) b :=
  heard_pair f type b hk (strCt_ends b hb)
/-- A pair state in which nothing of these messages is taken, and those in which each is. -/
def inSt (st : PairSt) : Pair → Pair := fun p => { p with st := st }
/-- EPOCH_ACK: of an epoch that has closed, of one that has not, and to a unit that does not mirror. -/
theorem witness_EpochsAndSeeding_ack :
    (let s := pairSt (fun p => { p with st := .protected_, epoch := 5 })
     Heard s 0x12 0 0 (strData 0x12 ackB) ackB ∧ s.pair.st.mirrors = true ∧ leAt ackB 0 8 < s.pair.epoch) ∧
    (let s := pairSt (inSt .protected_)
     Heard s 0x12 0 0 (strData 0x12 ackB) ackB ∧ s.pair.epoch ≤ leAt ackB 0 8) ∧
    (let s := pairSt id
     Heard s 0x12 0 0 (strData 0x12 ackB) ackB ∧ s.pair.st.mirrors = false) :=
  ⟨⟨heard_epochs _ _ _ (by decide) rfl, by decide⟩, ⟨heard_epochs _ _ _ (by decide) rfl, by decide⟩, ⟨heard_epochs _ _ _ (by decide) rfl, by decide⟩⟩
/-- EPOCH_PART: the first of an epoch, another of it, and one to a unit that takes none. -/
theorem witness_EpochsAndSeeding_part :
    (let s := pairSt (inSt .standby)
     Heard s 0x10 0 0 (strData 0x10 partB) partB ∧ s.pair.st = .standby ∧ (∀ e ∈ s.pair.incoming, e.num ≠ leAt partB 0 8)) ∧
    (let s := pairSt (fun p => { p with st := .seedingIn, incoming := [⟨4, [], none⟩] })
     Heard s 0x10 0 0 (strData 0x10 partB) partB ∧ s.pair.st = .seedingIn ∧ (∃ e ∈ s.pair.incoming, e.num = leAt partB 0 8)) ∧
    (let s := pairSt id
     Heard s 0x10 0 0 (strData 0x10 partB) partB ∧ ¬(s.pair.st = .standby ∨ s.pair.st = .seedingIn)) :=
  ⟨⟨heard_epochs _ _ _ (by decide) rfl, by decide⟩, ⟨heard_epochs _ _ _ (by decide) rfl, by decide⟩, ⟨heard_epochs _ _ _ (by decide) rfl, by decide⟩⟩
/-- EPOCH_END: to a unit that takes none, out of order, with a wrong digest, with a record that cannot be applied, and all well. -/
def endSt (recs : Bytes) : State := pairSt (fun p => { p with st := .standby, acked := 3, incoming := [⟨4, recs, none⟩] })
theorem bad_digest : shake256 32 badChange = slice endNone 16 32 := by decide +kernel
theorem witness_EpochsAndSeeding_end :
    let recs (s : State) (b : Bytes) : Bytes := ((s.pair.incoming.find? (fun e => e.num == leAt b 0 8)).map (·.recs)).getD []
    (Heard (pairSt id) 0x11 0 0 (strData 0x11 endGood) endGood ∧ ¬((pairSt id).pair.st = .standby ∨ (pairSt id).pair.st = .seedingIn)) ∧
    ((endSt []).pair.st = .standby ∧ (endSt badChange).pair.st = .standby ∧ (endSt []).pair.acked = 3 ∧ (endSt badChange).pair.acked = 3) ∧
    (Heard (endSt []) 0x11 0 0 (strData 0x11 endBad) endBad ∧ leAt endBad 0 8 ≠ 3 + 1) ∧
    (Heard (endSt []) 0x11 0 0 (strData 0x11 endWrong) endWrong ∧ leAt endWrong 0 8 = 3 + 1 ∧ recs (endSt []) endWrong = [] ∧
      shake256 32 [] ≠ slice endWrong 16 32) ∧
    (Heard (endSt badChange) 0x11 0 0 (strData 0x11 endNone) endNone ∧ leAt endNone 0 8 = 3 + 1 ∧ recs (endSt badChange) endNone = badChange ∧
      shake256 32 badChange = slice endNone 16 32 ∧ (changesOf badChange).2 = [] ∧ (changesOf badChange).1.length = leAt endNone 8 4 ∧
      ((heardAt (endSt badChange) 0).applyChanges (changesOf badChange).1).isNone = true) ∧
    (Heard (endSt []) 0x11 0 0 (strData 0x11 endGood) endGood ∧ leAt endGood 0 8 = 3 + 1 ∧ recs (endSt []) endGood = [] ∧
      shake256 32 [] = slice endGood 16 32 ∧ (changesOf []).2 = [] ∧ (changesOf []).1.length = leAt endGood 8 4 ∧
      State.applyChanges (heardAt (endSt []) 0) (changesOf []).1 = some (heardAt (endSt []) 0)) := by
  refine ⟨⟨heard_ends _ _ _ (by decide) rfl, by decide⟩, by decide, ⟨heard_ends _ _ _ (by decide) rfl, by decide⟩,
    ⟨heard_ends _ _ _ (by decide) rfl, by decide, by decide, by rw [scrap_digest.2]; decide⟩,
    ⟨heard_ends _ _ _ (by decide) rfl, by decide, by decide, bad_digest, by decide, by decide, by decide +kernel⟩,
    ⟨heard_ends _ _ _ (by decide) rfl, by decide, by decide, scrap_digest.2, by decide, by decide, rfl⟩⟩
/-- EPOCH_CLOSE without a change, before its time, by age and by size; seeding started and not, its walk ended and not. -/
theorem witness_EpochsAndSeeding_own :
    let cyc (n : Nat) (s : State) : State := { s with time := { s.time with cyc := n } }
    let late (s : State) (c0 : Nat) : Bool := decide (s.rd Reg.STR_EPOCH_CFG_MAXAGE ≤ 4 * (s.time.cyc - c0))
    let big (s : State) : Bool := s.pair.st.mirrors && decide (s.rd Reg.STR_EPOCH_CFG_MAXBYTES * 256 ≤ s.pair.openBytes)
    (pairSt id).pair.oldest = none ∧
    (let s := cyc 5 (regW Reg.STR_EPOCH_CFG_MAXAGE 100 (pairSt (fun p => { p with oldest := some 5 })))
     s.pair.oldest = some 5 ∧ late s 5 = false ∧ big s = false) ∧
    (let s := cyc 1000000 (pairSt (fun p => { p with oldest := some 0 }))
     s.pair.oldest = some 0 ∧ late s 0 = true ∧ s.pair.st.mirrors = false) ∧
    (let s := cyc 5 (regW Reg.STR_EPOCH_CFG_MAXBYTES 1 (pairSt (fun p => { p with st := .protected_, oldest := some 5, recs := [⟨1, 1, 3, 0, zeros 256⟩] })))
     s.pair.oldest = some 5 ∧ big s = true) ∧
    (let s := pairSt (fun p => { p with st := .alone, peer := some (4, 0, false) })
     s.pair.st = .alone ∧ s.peerSeedable = true) ∧
    (pairSt id).pair.st ≠ .alone ∧
    ((pairSt (inSt .seedingOut)).pair.st = .seedingOut ∧ (pairSt (inSt .seedingOut)).pair.seedEnd = none ∧ (pairSt id).pair.st ≠ .seedingOut) := by decide +kernel
/-- SEED_ACK to a unit that has sent its end, and to one that has not. -/
theorem witness_EpochsAndSeeding_seedAck :
    (let s := pairSt (fun p => { p with st := .seedingOut, seedEnd := some 0 })
     Heard s 0x22 0 0 (strData 0x22 seedB) seedB ∧ s.pair.st = .seedingOut ∧ s.pair.seedEnd = some 0) ∧
    (Heard (pairSt id) 0x22 0 0 (strData 0x22 seedB) seedB ∧ (pairSt id).pair.st ≠ .seedingOut) :=
  ⟨⟨heard_epochs _ _ _ (by decide) rfl, by decide⟩, ⟨heard_epochs _ _ _ (by decide) rfl, by decide⟩⟩
/-- SEED_PART and SEED_END to a unit that takes none, to one that does, and to one that they take into seeding; a record that cannot be applied; an end with items still
to come. -/
def entering (s : State) : State := { s with keys := { s.keys with pair := some (zeros 32) } }
theorem witness_EpochsAndSeeding_seed :
    let u (s : State) : State := (heardAt s 0).enterSeeding
    (∀ t ∈ [0x20, 0x21], Heard (pairSt id) t 0 0 (strData t seedB) seedB ∧ Heard (pairSt (inSt .seedingIn)) t 0 0 (strData t seedB) seedB ∧
      Heard (entering (pairSt id)) t 0 0 (strData t seedB) seedB) ∧
    (Heard (pairSt (inSt .seedingIn)) 0x20 0 0 (strData 0x20 seedBad) seedBad ∧ Heard (pairSt (inSt .seedingIn)) 0x21 0 0 (strData 0x21 endMore) endMore) ∧
    ((u (pairSt id)).pair.st ≠ .seedingIn ∧ (u (pairSt (inSt .seedingIn))).pair.st = .seedingIn ∧ (u (entering (pairSt id))).pair.st = .seedingIn) ∧
    (let l := changesOf ((u (pairSt (inSt .seedingIn))).pair.seedPart ++ slice seedBad 8 (leAt seedBad 0 4))
     ((u (pairSt (inSt .seedingIn))).applyChanges l.1).isNone = true) ∧
    (∀ s ∈ [u (pairSt (inSt .seedingIn)), u (entering (pairSt id))], s.pair.seedEnd = none ∧
      (changesOf (s.pair.seedPart ++ slice seedB 8 (leAt seedB 0 4))).1 = [] ∧ leAt seedB 0 8 ≤ s.pair.items ∧ s.pair.items < leAt endMore 0 8) ∧
    (∀ s : State, s.applyChanges [] = some s) := by
  refine ⟨?_, ⟨heard_epochs _ _ _ (by decide) rfl, heard_epochs _ _ _ (by decide) rfl⟩, by decide +kernel, by decide +kernel, by decide +kernel, fun _ => rfl⟩
  intro t _
  exact ⟨heard_epochs _ _ _ (by decide) rfl, heard_epochs _ _ _ (by decide) rfl, heard_of _ _ _ rfl rfl rfl (strCt_epochs seedB (by decide))⟩

/-! ### Witnesses: guard domain, resets and boot (chapters 15 and 16) -/

/-- Every source set to TRIP or to WARN, where it may be, and every input of TAMP_IN enabled with its active level high. -/
def respSt (v : Nat) (f : State → State) : State := hSt (fun s => f (regW Reg.GRD_RESP_RESP v (regW Reg.GRD_TAMP_CFG_IN 0xCCCC s)))
def tripSt : State := respSt 0xAAAAAAAAA id
def warnSt : State := respSt 0 id
/-- The logic side without power, and without firmware. -/
def noLogic (s : State) : State := { s with sys := { s.sys with asserted := 2 } }
def noFirmware (s : State) : State := { s with sys := { s.sys with window := false } }
theorem witness_GuardSources :
    (∀ i ∈ [8, 9, 10, 11, 12, 13, 14, 15, 16, 17], tripSt.response i = 2) ∧ tripSt.rd Reg.GRD_STAT_TRIP_ACTIVE = 0 ∧ tripSt.logicOn = true ∧
    (∀ i ∈ [8, 10, 11, 14, 15, 16, 17], ∀ s ∈ [warnSt, noFirmware warnSt, noLogic warnSt], s.response i ≠ 2 ∧ s.response i = 0 ∧
      bitAt (s.rd Reg.GRD_SRC_LATCHED) i = false) ∧
    (∀ i ∈ [9, 12, 13], ∀ s ∈ [warnSt, noFirmware warnSt, noLogic warnSt], (regW Reg.GRD_CTL_DISARM 1 s).response i ≠ 2 ∧
      (regW Reg.GRD_CTL_DISARM 1 s).response i = 0 ∧ bitAt ((regW Reg.GRD_CTL_DISARM 1 s).rd Reg.GRD_SRC_LATCHED) i = false) ∧
    (warnSt.logicOn = true ∧ warnSt.winOpen = true ∧ (noFirmware warnSt).winOpen = false ∧ (noFirmware warnSt).logicOn = true ∧ (noLogic warnSt).logicOn = false) ∧
    (∀ s ∈ [tripSt, warnSt, noFirmware warnSt, noLogic warnSt], ∀ i < 4,
      (bitAt (s.rd Reg.GRD_TAMP_CFG_IN / 16 ^ i) 3 && bitAt (s.rd Reg.GRD_TAMP_CFG_IN / 16 ^ i) 2 == true) = true ∧
      (bitAt (s.rd Reg.GRD_TAMP_CFG_IN / 16 ^ i) 3 && bitAt (s.rd Reg.GRD_TAMP_CFG_IN / 16 ^ i) 2 == false) = false) := by decide +kernel
/-- Channel 1 enabled, with delays of 4 to 8 and FILT of 3. -/
def meshSt (f : State → State) : State :=
  hSt (fun s => f (regW (Reg.GRD_MESH_CFG_EN 1) 1 (regW (Reg.GRD_MESH_CFG_DLY_MIN 1) 4 (regW (Reg.GRD_MESH_CFG_DLY_MAX 1) 8 (regW (Reg.GRD_MESH_CFG_FILT 1) 3 s)))))
def meshRun (n : Nat) (s : State) : State := { s with guard := { s.guard with mesh := [(1, ⟨n, 0⟩)] } }
theorem witness_GuardSources_mesh :
    ((meshSt id).rd (Reg.GRD_MESH_CFG_EN 1) = 1 ∧ (meshSt id).rd (Reg.GRD_MESH_CFG_DLY_MIN 1) = 4 ∧ (meshSt id).rd (Reg.GRD_MESH_CFG_DLY_MAX 1) = 8 ∧
      (tabGet ⟨0, 0⟩ (meshSt id).guard.mesh 1).run + 1 < (meshSt id).meshFilt 1 ∧ (tabGet ⟨0, 0⟩ (meshSt id).guard.mesh 1).run < 15) ∧
    ((meshSt (meshRun 2)).rd (Reg.GRD_MESH_CFG_EN 1) = 1 ∧ (meshSt (meshRun 2)).meshFilt 1 ≤ (tabGet ⟨0, 0⟩ (meshSt (meshRun 2)).guard.mesh 1).run + 1 ∧
      (meshSt (meshRun 2)).rd Reg.GRD_CTL_DISARM = 0 ∧ (meshSt (meshRun 2)).rd Reg.GRD_STAT_TRIP_ACTIVE = 0) ∧
    (regW (Reg.GRD_MESH_CFG_EN 1) 0 (hSt id)).rd (Reg.GRD_MESH_CFG_EN 1) = 0 := by decide +kernel
/-- The reset controller changed, four seconds after its start. -/
def lateSys (f : Sys → Sys) : State := hSt (fun s => { sysW f s with time := { s.time with cyc := 1000000000 } })
/-- PRESET_N low. -/
def presetLow (s : State) : State := { s with pins := { s.pins with presetN := false } }
theorem witness_PowerAndPreset :
    bitAt (hSt id).sys.asserted 1 = false ∧
    (let s := lateSys (fun y => { y with asserted := 2, stage := 15 })
     bitAt s.sys.asserted 1 = true ∧ s.sys.asserted = 0 + 2 ∧ s.sys.stage = 15) ∧
    ((hSt id).pins.presetN = true ∧ (hSt id).holdsResets = false ∧ (hSt id).sys.prep = none ∧ (hSt id).sys.releasing = 0) ∧
    ((presetLow (lateSys (fun y => { y with stage := 15 }))).pins.presetN = false ∧ (presetLow (lateSys (fun y => { y with stage := 15 }))).sys.stage = 15) ∧
    ((hSt id).pins.pfailN = true ∧ (hSt id).evr.volatileOnly = false) ∧ ({ Pins.reset with pfailN := false } : Pins).pfailN = false ∧
    (hSt id).pins.pgood = true ∧ ({ Pins.reset with pgood := false } : Pins).pgood = false := by decide +kernel
/-- Every source that fires, with the conditions of the last three, its level at this stage and before the fuses are loaded, while nothing holds resets and while a write
pulse runs with and without a reset that waits; and those three where they do not fire. -/
def fireSt (f : Sys → Sys) : State :=
  { regW (Reg.LNK_CTL_HOT_RST_EN 0) 1 (regW (Reg.SYS_WDOG_EN 1) 1 (regW (Reg.SYS_WDOG_PERIOD 1) 1000 (lateSys f))) with evr := Recorder.reset }
def codeOtp (w : Nat) (s : State) : State := { s with otp := { s.otp with words := [(0, w), (1, w), (2, w)] } }
theorem witness_ResetSources_fire :
    (∀ s ∈ [fireSt id, fireSt (fun y => { y with stage := 1 }), fireSt (fun y => { y with pulse := true }),
        fireSt (fun y => { y with pulse := true, deferred := some ⟨2, 2 ^ 8, 0, 0, false⟩ })],
      s.lc = .maker ∧ (s.portActive 0 && s.bit (Reg.LNK_CTL_HOT_RST_EN 0)) = true ∧
      (s.bit (Reg.SYS_WDOG_EN 1) && decide (tabGet 0 s.sys.wdog 1 + 250 * s.rd (Reg.SYS_WDOG_PERIOD 1) ≤ s.time.cyc)) = true) ∧
    (∀ s ∈ [fireSt id, fireSt (fun y => { y with stage := 1 })], s.holdsResets = false ∧ s.sys.prep = none ∧ s.sys.releasing = 0) ∧
    (∀ i ∈ [3, 5, 7, 12], (fireSt id).sourceLevel i = 1) ∧ (∀ i ∈ [8, 9], (fireSt id).sourceLevel i = 2) ∧
    (∀ i ∈ [3, 5, 7, 8, 9, 12], (fireSt (fun y => { y with stage := 1 })).sourceLevel i = 1) ∧
    ((fireSt (fun y => { y with pulse := true })).holdsResets = true ∧ (fireSt (fun y => { y with pulse := true })).sys.deferred = none) ∧
    ((fireSt (fun y => { y with pulse := true, deferred := some ⟨2, 2 ^ 8, 0, 0, false⟩ })).holdsResets = true ∧
      (fireSt (fun y => { y with pulse := true, deferred := some ⟨2, 2 ^ 8, 0, 0, false⟩ })).sys.deferred = some ⟨2, 2 ^ 8, 0, 0, false⟩) ∧
    ((codeOtp 0xFFFF (hSt id)).lc = .fielded ∧ (regW (Reg.LNK_CTL_HOT_RST_EN 0) 0 (hSt id)).bit (Reg.LNK_CTL_HOT_RST_EN 0) = false ∧ (hSt id).bit (Reg.SYS_WDOG_EN 1) = false) ∧
    (0x5B#8 ≠ 0x5A#8) ∧ (hSt id).rd (Reg.SYS_WDOG_EN 1) = 0 ∧ (fireSt id).rd (Reg.SYS_WDOG_EN 1) = 1 := by decide +kernel
theorem witness_ResetSources_clocks :
    (∀ d : Fin 5, bitAt (hSt id).sys.good d = true) ∧ (1 ≤ (hSt id).sys.stage ∧ (hSt id).sys.stage ≤ 8) ∧ (hSt id).holdsResets = false ∧ (hSt id).sys.prep = none ∧
    (hSt id).sys.releasing = 0 ∧ (hSt id).sourceLevel 13 = 1 ∧ (∀ d : Fin 5, bitAt (lateSys (fun y => { y with good := 0 })).sys.good d = false) ∧
    (∀ n ∈ [0, 15], (∀ d : Fin 5, bitAt (lateSys (fun y => { y with stage := n })).sys.good d = true) ∧ (lateSys (fun y => { y with stage := n })).sys.stage = n) := by
  decide +kernel
/-- A preparation that begins at cycle `c`, with the tables flushed or not. -/
def prepOf (c : Nat) (f : Bool) : Prep := ⟨2, 2 ^ 8, 0, c, f⟩
def prepSt (c : Nat) (f : Bool) : State := lateSys (fun y => { y with prep := some (prepOf c f) })
theorem witness_ResetSources_prepared :
    (hSt id).sys.prep = none ∧ (∀ c f, (prepOf c f).level = 2) ∧
    (∀ f ∈ [true, false], (prepSt 0 f).sys.prep = some (prepOf 0 f) ∧ (prepSt 0 f).evr.flush = none ∧ (prepSt 0 f).storePending = false ∧
      ((prepSt 0 f).wantLines (prepSt 0 f).flushWants).1 = true) ∧
    (let s := prepSt 0 false
     let u : State := (s.wantLines s.flushWants).2.flushStore.modSys (fun y => { y with prep := some (prepOf 0 true) })
     u.evr.flush = none ∧ u.storePending = false) ∧
    (let s := storeW (fun _ => { openStore with lock := [lock1] }) (prepSt 0 true)
     s.sys.prep = some (prepOf 0 true) ∧ s.storePending = true) ∧
    (prepOf 0 false).cyc + 1250000 ≤ (prepSt 0 false).time.cyc ∧ (prepSt 1000000000 false).time.cyc < (prepOf 1000000000 false).cyc + 1250000 := by
  refine ⟨rfl, fun _ _ => rfl, ?_, ?_, ?_, ?_, ?_⟩ <;> decide +kernel
theorem witness_ResetSources_prepared_waits :
    let s : State := sysW (fun y => { y with prep := some (prepOf 0 false) }) (purgeSt (pathStore purgeLine))
    s.sys.prep = some (prepOf 0 false) ∧ (prepOf 0 false).flushed = false ∧ (s.wantLines s.flushWants).1 = false := by
  refine ⟨rfl, rfl, path_waits purgeLine true _ _ rfl ?_⟩
  exact List.mem_flatMap.2 ⟨{ aged with dirty := true }, by decide, List.mem_map.2 ⟨0, by decide, rfl⟩⟩
/-- The end of a write pulse with a reset that waits, with none after the last bit and before it, and without a pulse. -/
theorem witness_ResetSources_pulse :
    let st (b : Nat) (f : Sys → Sys) : State := { lateSys f with life := { (hSt id).life with prog := some (5, b) } }
    (let t := st 3 (fun y => { y with deferred := some ⟨1, 2 ^ 7, 0, 0, false⟩, pulse := true })
     t.life.prog = some (5, 3) ∧ t.sys.deferred = some ⟨1, 2 ^ 7, 0, 0, false⟩ ∧ t.sys.prep = none ∧ t.sys.releasing = 0) ∧
    (hSt id).life.prog = none ∧ ((st 2 id).life.prog = some (5, 2) ∧ (st 2 id).sys.deferred = none ∧ 2 = lowBit 2) ∧
    ((st 3 id).life.prog = some (5, 3) ∧ (st 3 id).sys.deferred = none ∧ 3 ≠ lowBit 3) := by decide +kernel
/-- The checking unit changed. -/
def rasW (f : Ras → Ras) (s : State) : State := { s with ras := f s.ras }
/-- Stages 0 to 7 of a release under way: the last stage released is `n`. -/
def atStage (n : Nat) (f : State → State) : State := lateSys (fun y => { y with stage := n, releasing := 1 }) |> f
theorem witness_ReleaseAndBlocks_stages :
    (∀ n ∈ [15, 0, 1, 2, 3, 4, 5, 6, 7], (atStage n id).sys.asserted = 0 ∧ (atStage n id).sys.stageAt + (atStage n id).refCycles (atStage n id).nextGap ≤ (atStage n id).time.cyc ∧
      (atStage n id).sys.releasing ≠ 0 ∧ (atStage n id).stageClocked = true ∧ (atStage n id).lc = .maker) ∧
    (∀ n ∈ [15, 0, 1, 3, 4, 5], (atStage n id).sys.next < 7 ∧ (atStage n id).sys.next ≠ 3) ∧
    ((atStage 2 id).sys.next = 3 ∧ (atStage 2 id).dead = false) ∧ (atStage 4 id).sys.next = 5 ∧
    (let s := atStage 2 (codeOtp 0xFFFFFFFF)
     s.sys.asserted = 0 ∧ s.sys.stageAt + s.refCycles s.nextGap ≤ s.time.cyc ∧ s.sys.releasing ≠ 0 ∧ s.stageClocked = true ∧ s.sys.next = 3 ∧ s.dead = true) ∧
    (let s := atStage 6 (rasW (fun r => { r with inService := 1 }))
     s.sys.asserted = 0 ∧ s.sys.stageAt + s.refCycles s.nextGap ≤ s.time.cyc ∧ s.sys.releasing ≠ 0 ∧ s.stageClocked = true ∧ s.sys.next = 7 ∧
      s.nextCluster.isSome = true) ∧
    ((atStage 7 id).sys.next = 8 ∧ (atStage 7 id).sys.phase ≠ .launched) ∧
    ((atStage 1 (sysW (fun y => { y with asserted := 4 }))).sys.asserted ≠ 0 ∧ (hSt id).sys.releasing = 0 ∧
      (atStage 1 (sysW (fun y => { y with good := 0 }))).stageClocked = false) ∧
    (let s := atStage 1 (sysW (fun y => { y with stageAt := 1000000000 }))
     s.time.cyc < s.sys.stageAt + s.refCycles s.nextGap) ∧
    (atStage 2 (codeOtp 0xFFFF)).lc ≠ .maker := by decide +kernel
/-- Stage 8 of an L2 reset: the running image has the digest that was measured. -/
def relaunchSt : State :=
  [0, 1, 2, 3].foldl (fun s k => regW (Reg.SYS_MEAS_VALUE k) (leAt (shake256 32 []) (8 * k) 8) s) (atStage 7 (sysW (fun y => { y with phase := .launched })))
theorem witness_ReleaseAndBlocks_relaunch :
    relaunchSt.sys.asserted = 0 ∧ relaunchSt.sys.stageAt + relaunchSt.refCycles relaunchSt.nextGap ≤ relaunchSt.time.cyc ∧ relaunchSt.sys.releasing ≠ 0 ∧
    relaunchSt.stageClocked = true ∧ relaunchSt.sys.next = 8 ∧ relaunchSt.sys.phase = .launched ∧
    (∀ k, k < 4 → relaunchSt.rd (Reg.SYS_MEAS_VALUE k) = leAt (shake256 32 relaunchSt.sys.running) (8 * k) 8) := by decide +kernel
/-- A block that does not exist, one that does, a request during another, and a block that idles, that does not, and whose time has passed or not. -/
def blkSt (b c : Nat) : State := lateSys (fun y => { y with block := some (b, c) })
theorem witness_ReleaseAndBlocks_blocks :
    ((hSt id).sys.block = none ∧ 30 < (31 : BitVec 5).toNat ∧ (0 : BitVec 5).toNat ≤ 30 ∧ (30 : BitVec 5).toNat ≤ 30) ∧
    (∀ b ∈ [0, 23, 24, 30], (blkSt b 0).sys.block = some (b, 0) ∧ (blkSt b 0).blockIdle b = true ∧ ((blkSt b 0).wantLines (blkSt b 0).flushWants).1 = true ∧
      0 + 250 * (blkSt b 0).rd Reg.SYS_BLK_RST_TMO ≤ (blkSt b 0).time.cyc) ∧
    ((coreW (fun c => { c with run := some 1 }) (blkSt 0 0)).sys.block = some (0, 0) ∧ (coreW (fun c => { c with run := some 1 }) (blkSt 0 0)).blockIdle 0 = false) ∧
    (let s := regW Reg.SYS_BLK_RST_TMO 1 (blkSt 0 1000000000)
     s.sys.block = some (0, 1000000000) ∧ s.time.cyc < 1000000000 + 250 * s.rd Reg.SYS_BLK_RST_TMO) := by decide +kernel
theorem witness_ReleaseAndBlocks_waits :
    let s : State := sysW (fun y => { y with block := some (24, 0) }) (purgeSt (pathStore purgeLine))
    s.sys.block = some (24, 0) ∧ s.blockIdle 24 = true ∧ (s.wantLines s.flushWants).1 = false := by
  refine ⟨rfl, rfl, path_waits purgeLine true _ _ rfl ?_⟩
  exact List.mem_flatMap.2 ⟨{ aged with dirty := true }, by decide, List.mem_map.2 ⟨0, by decide, rfl⟩⟩
/-- A boot image of one word, under a root key of 68 zero bytes. -/
def bootHead : Bytes := natToLe 4 0x31474D49 ++ natToLe 2 1 ++ natToLe 2 1 ++ natToLe 4 4 ++ zeros 12 ++ zeros 68 ++ zeros 36 ++ zeros 4
def bootImg : Bytes := bootHead ++ zeros 2820
def bootSt (f : Sys → Sys) : State :=
  let s := lateSys (fun y => f { y with phase := .loading })
  { s with otp := { s.otp with rootHash := shake256 32 (zeros 68) }, ras := { s.ras with inService := 1 } }
theorem bootSt_root (f : Sys → Sys) : (bootSt f).otp.rootHash = shake256 32 (zeros 68) := by simp only [bootSt]
theorem bootHead_length : bootHead.length = 132 := by decide +kernel
theorem imageFault_none (s : State) (ho : s.otp.rootHash = shake256 32 (zeros 68)) (hs : s.ras.inService = 1) (ht : s.otp.thermometer = 0)
    (h : Config.xmssVerify (zeros 68) (bootImg.take 132) (bootImg.drop 132) = true) : s.imageFault bootImg = 0 := by
  have hl : bootImg.length = 2952 := by rw [bootImg, List.length_append, bootHead_length, zeros_length]
  have f (o n : Nat) (h : o + n ≤ 132) : slice bootImg o n = slice bootHead o n := slice_left _ _ _ _ (by rw [bootHead_length]; exact h)
  have k : slice bootImg 24 68 = zeros 68 := by rw [f _ _ (by omega)]; decide +kernel
  have a : leAt bootImg 8 4 = 4 := by rw [leAt, f _ _ (by omega)]; decide +kernel
  have v : leAt bootImg 6 2 = 1 := by rw [leAt, f _ _ (by omega)]; decide +kernel
  unfold State.imageFault
  simp only [k, a, v, hl, ho, hs, ht]
  rw [if_neg (by rw [leAt, leAt, leAt, leAt, f _ _ (by omega), f _ _ (by omega), f _ _ (by omega), f _ _ (by omega), f _ _ (by omega), f _ _ (by omega)]; decide +kernel),
    if_neg (by simp), if_neg (by rw [h]; simp), if_neg (by decide)]
/-- GO at a port that serves, at one that accepts nothing, and where it is ignored. -/
theorem witness_BootAttempts_go :
    (∀ ph ∈ [BootPhase.waiting, .failed], ((lateSys (fun y => { y with served := 1, phase := ph })).port 0).accepts = true ∧
      bitAt (lateSys (fun y => { y with served := 1, phase := ph })).sys.served 0 = true ∧ (lateSys (fun y => { y with served := 1, phase := ph })).dead = false ∧
      (lateSys (fun y => { y with served := 1, phase := ph })).sys.phase = ph ∧ (lateSys (fun y => { y with served := 1, phase := ph })).sys.releasing = 0) ∧
    (regW Reg.SYS_RST_CNT_NOSERVICE 16 (lateSys (fun y => { y with served := 1 }))).backingOff = true ∧
    ((hSt id).port 1).accepts = false ∧ ((hSt id).port 0).accepts = true ∧ bitAt (hSt id).sys.served 0 = false ∧ (codeOtp 0xFFFFFFFF (hSt id)).dead = true ∧
    ((lateSys (fun y => { y with phase := .launched })).sys.phase ≠ .waiting ∧ (lateSys (fun y => { y with phase := .launched })).sys.phase ≠ .failed) ∧
    (atStage 1 id).sys.releasing ≠ 0 := by decide +kernel
/-- The delay of an attempt: none, one that runs, one that ends. Reads that do not count, that failed and that are outstanding. A flash copy in time, and late. -/
theorem witness_BootAttempts_waits :
    (hSt id).sys.backoff = none ∧
    (∀ c ∈ [5, 2000000000], (lateSys (fun y => { y with backoff := some c })).sys.backoff = some c ∧ (lateSys (fun y => { y with backoff := some c })).sys.source = 0) ∧
    5 ≤ (lateSys id).time.cyc ∧ (lateSys id).time.cyc < 2000000000 ∧
    (hSt id).sys.phase ≠ .loading ∧ (bootSt (fun y => { y with backoff := some 5 })).sys.backoff.isSome = true ∧
    ((bootSt (fun y => { y with copy := 2, failed := true })).sys.phase = .loading ∧ (bootSt (fun y => { y with copy := 2, failed := true })).sys.backoff = none ∧
      2 ≤ (bootSt (fun y => { y with copy := 2, failed := true })).sys.copy ∧ (bootSt (fun y => { y with copy := 2, failed := true })).sys.failed = true) ∧
    ((bootSt (fun y => { y with copy := 2, reads := 3 })).sys.failed = false ∧ (bootSt (fun y => { y with copy := 2, reads := 3 })).sys.reads ≠ 0) ∧
    ((bootSt id).sys.phase = .loading ∧ (bootSt id).sys.copy < 2 ∧ (bootSt id).sys.backoff = none ∧ (bootSt id).sys.flashAt + 25000000 ≤ (bootSt id).time.cyc ∧
      (bootSt id).sys.source = 0 ∧ (bootSt id).sys.copy = 0) ∧
    (bootSt (fun y => { y with flashAt := 1000000000 })).time.cyc < (bootSt (fun y => { y with flashAt := 1000000000 })).sys.flashAt + 25000000 := by decide +kernel
/-- A good image from the flash and from the host, and a bad one in copy A and in copy B. -/
theorem witness_BootAttempts_images (h : Config.xmssVerify (zeros 68) (bootImg.take 132) (bootImg.drop 132) = true) :
    ((bootSt id).sys.phase = .loading ∧ (bootSt id).sys.backoff = none ∧ (bootSt id).sys.copy < 2 ∧ (bootSt id).imageFault bootImg = 0 ∧
      (bootSt id).rd (Reg.SYS_MEAS_VALUE 4) < 2 ^ 63) ∧
    (let s := bootSt (fun y => { y with copy := 2, image := bootImg })
     s.sys.phase = .loading ∧ s.sys.backoff = none ∧ s.sys.failed = false ∧ s.sys.reads = 0 ∧ s.imageFault s.sys.image = 0) ∧
    (∀ c ∈ [0, 1], (bootSt (fun y => { y with copy := c })).sys.phase = .loading ∧ (bootSt (fun y => { y with copy := c })).sys.backoff = none ∧
      (bootSt (fun y => { y with copy := c })).sys.copy = c ∧ (bootSt (fun y => { y with copy := c })).imageFault [] = 1 ∧
      (bootSt (fun y => { y with copy := c })).sys.source = 0) := by
  refine ⟨⟨by decide, by decide, by decide, imageFault_none _ (bootSt_root _) rfl rfl h, by decide +kernel⟩,
    ⟨by decide, by decide, by decide, by decide, imageFault_none _ (bootSt_root _) rfl rfl h⟩, by decide +kernel⟩

/-! ### Witnesses: checking, links under check, power (chapters 21 to 23) -/

/-- Clusters 0 to 3 in service. -/
def rasSt (f : Ras → Ras) : State := atTime 10000000000000000 (hSt (rasW (fun r => f { r with inService := 15 })))
def test5 : ClusterTest := ⟨2, .rotation, 0⟩
/-- What lets a reset begin at once. -/
def noReset (s : State) : Bool := decide (s.holdsResets = false) && decide (s.sys.prep = none) && decide (s.sys.releasing = 0)
theorem witness_MemoryErrors :
    noReset (hSt id) = true ∧ (5 ∈ (hSt (fun s => { s with tab := { s.tab with mismatched := [5] } })).tab.mismatched) ∧ (hSt id).sourceLevel 3 = 1 ∧
    (let s := hSt (fun s => { s with otp := { s.otp with resetMap := some (2 * 8 ^ 3) } })
     noReset s = true ∧ s.sourceLevel 3 = 2) ∧
    (hSt id).hasScale = true ∧ ({ hSt id with otp := { (hSt id).otp with part := .cn } } : State).hasScale = false := by decide +kernel
/-- A start of a test after a drain, of boot tests together, no start (a test runs; nothing is due; a drain is asked for by others). -/
theorem witness_ClusterTests_start :
    (let s := rasSt (fun r => { r with queue := [(2, .rotation)] })
     s.ras.tests = [] ∧ s.ras.due = [(2, .rotation)] ∧ s.rd Reg.PRF_DRAIN_REQ = 0 ∧ s.sys.block = none) ∧
    (let s := rasSt (fun r => { r with queue := [(2, .boot), (3, .boot)] })
     s.ras.tests = [] ∧ s.ras.due = [(2, .boot), (3, .boot)]) ∧
    (rasSt (fun r => { r with tests := [test5] })).ras.tests ≠ [] ∧ (rasSt id).ras.due = [] ∧
    (let s := regW Reg.PRF_DRAIN_REQ 1 (rasSt (fun r => { r with queue := [(2, .rotation)] }))
     s.ras.due = [(2, .rotation)] ∧ s.rd Reg.PRF_DRAIN_REQ = 1) := by decide +kernel
/-- A test of cluster 2 (in service, retired, or neither), with cluster 2 empty or not, at its time-out or before. -/
def busyCluster (s : State) : State := s.modCore 16 (fun c => { c with run := some 1 })
def testSt (f : Ras → Ras) : State := rasSt (fun r => f { r with tests := [test5] })
theorem witness_ClusterTests_end :
    (rasSt id).ras.tests.find? (fun t => t.cluster == 2) = none ∧
    (∀ s ∈ [testSt id, testSt (fun r => { r with inService := 11 }), testSt (fun r => { r with inService := 11, retired := 4 })],
      s.ras.tests.find? (fun t => t.cluster == 2) = some test5 ∧ s.clusterEmpty 2 = true) ∧
    bitAt (testSt id).ras.inService 2 = true ∧ bitAt (testSt id).ras.retired 2 = false ∧ bitAt (testSt (fun r => { r with inService := 11 })).ras.inService 2 = false ∧
    bitAt (testSt (fun r => { r with inService := 11 })).ras.retired 2 = false ∧ bitAt (testSt (fun r => { r with inService := 11, retired := 4 })).ras.retired 2 = true ∧
    (let s := busyCluster (testSt id)
     s.ras.tests.find? (fun t => t.cluster == 2) = some test5 ∧ s.clusterEmpty 2 = false ∧ test5.start + s.msRaw (s.rd Reg.RAS_ROT_CFG_DRAIN_TMO) ≤ s.now) ∧
    (let s := atTime 1 (busyCluster (testSt id))
     s.ras.tests.find? (fun t => t.cluster == 2) = some test5 ∧ s.now < test5.start + s.msRaw (s.rd Reg.RAS_ROT_CFG_DRAIN_TMO)) := by decide +kernel
/-- Rotation off, during one pass, after a pass, too early and due; a pass with clusters in service; a return that is ignored and one that is not. -/
theorem witness_ClusterTests_rotation :
    (regW Reg.RAS_CTL_ROT_EN 0 (rasSt id)).rd Reg.RAS_CTL_ROT_EN = 0 ∧ (rasSt (fun r => { r with once := true })).ras.once = true ∧
    (rasSt (fun r => { r with pass := some [] })).ras.pass = some [] ∧
    (atTime 1 (rasSt id)).now < (atTime 1 (rasSt id)).ras.lastRot + (rasSt id).secRaw ((rasSt id).rd Reg.RAS_ROT_CFG_INTERVAL) ∧
    (let s := regW Reg.RAS_CTL_ROT_EN 1 (rasSt id)
     s.rd Reg.RAS_CTL_ROT_EN = 1 ∧ s.ras.once = false ∧ s.ras.pass ≠ some [] ∧ s.ras.lastRot + s.secRaw (s.rd Reg.RAS_ROT_CFG_INTERVAL) ≤ s.now ∧
      (s.ras.pass.getD s.serving).filter (fun c => bitAt s.ras.inService c) = [0, 1, 2, 3]) ∧
    ((rasSt id).ras.once = false ∧ (rasSt id).serving ≠ []) ∧
    24 ≤ (24#5).toNat ∧ bitAt (rasSt id).ras.retired (4#5).toNat = false ∧ (∃ q ∈ (rasSt (fun r => { r with queue := [(4, .returned)] })).ras.queue, q.1 = (4#5).toNat) ∧
    (∃ y ∈ (testSt id).ras.tests, y.cluster = (2#5).toNat) ∧
    (let s := rasSt (fun r => { r with retired := 16 })
     (4#5).toNat < 24 ∧ bitAt s.ras.retired (4#5).toNat = true ∧ (∀ q ∈ s.ras.queue, q.1 ≠ (4#5).toNat) ∧ (∀ y ∈ s.ras.tests, y.cluster ≠ (4#5).toNat)) := by
  decide +kernel
def noRings (s : State) : State := { s with keys := { s.keys with tenants := [] } }
/-- A port or the Starter under a MAINT session, a session of the Starter, a recalibration under way. -/
def maintSt (p : Nat) (f : State → State) : State := hSt (fun s => f { s with life := { s.life with session := some ⟨3, 0, p, 5⟩ } })
def recalSt : State := hSt (rasW (fun r => { r with recal := some (0, 0, 0) }))
def starterSt : State := hSt (pairW (fun p => { p with session := some ([], none) }))
theorem witness_LinkChecks :
    ((2#3).toNat < 4 ∧ (hSt noRings).ras.recal = none ∧ (hSt noRings).maintHolds 2 = false) ∧
    (∀ s ∈ [hSt noRings, hSt id], s.ras.recal = none ∧ s.maintHolds 0 = false ∧ s.portActive 0 = true) ∧
    recalSt.ras.recal.isSome = true ∧ 4 < (5#3).toNat ∧ ((maintSt 1 id).maintHolds 0 = true ∧ (maintSt 1 id).ras.recal = none) ∧
    ((hSt (portW (fun p => { p with st := .disabled }))).portActive 0 = false ∧ (hSt (portW (fun p => { p with st := .disabled }))).ras.recal = none) ∧
    ((4#3).toNat = 4 ∧ (hSt id).pair.session = none ∧ (hSt id).ras.recal = none) ∧
    (starterSt.ras.recal = none ∧ starterSt.maintHolds 4 = false ∧ starterSt.pair.session.isSome = true) := by decide +kernel
/-- Lane registers: a write of zeros; one of a pattern on an idle lane in MAKER; one that is not allowed; one by the debug master in FIELDED, and by a supervisor there. -/
def idleLane (f : State → State) : State := hSt (fun s => f (portW (fun p => { p with st := .disabled }) s))
def fieldLane : State := maintSt 1 (fun s => codeOtp 0xFFFF (portW (fun p => { p with st := .disabled }) s))
theorem witness_LinkChecks_lanes :
    (let v : BitVec 64 := 0
     (bitsAt v.toNat 0 3 = 0 ∧ bitsAt v.toNat 8 2 = 0) ∧ (false = true → (hSt id).debugLane 0 = true)) ∧
    (let v : BitVec 64 := 0x105
     bitsAt v.toNat 0 3 = 5 ∧ bitsAt v.toNat 8 2 = 1 ∧ (idleLane id).laneAllowed 0 = true ∧ (idleLane id).lc ≠ .fielded ∧ (idleLane id).debugLane 0 = true ∧
      (idleLane id).rd (Reg.RAS_LANE_CTL_PATTERN 0) ≠ 5 ∧ (idleLane id).rd (Reg.RAS_LANE_CTL_LOOP 0) ≠ 1 ∧ (hSt id).laneAllowed 0 = false ∧
      ¬(bitsAt v.toNat 0 3 = 0 ∧ bitsAt v.toNat 8 2 = 0)) ∧
    (fieldLane.lc = .fielded ∧ fieldLane.laneAllowed 0 = true ∧ fieldLane.debugLane 0 = true) ∧
    ((codeOtp 0xFFFF (hSt id)).lc = .fielded ∧ (codeOtp 0xFFFF (hSt id)).debugLane 0 = false) := by decide +kernel
theorem witness_LinkChecks_checker :
    (hSt id).laneChecks 0 = false ∧ (hSt id).rd (Reg.RAS_LANE_CTL_LOCK 0) = 0 ∧
    (∀ p ∈ [1, 2, 3, 4, 5], (regW (Reg.RAS_LANE_CTL_PATTERN 0) p (hSt id)).rd (Reg.RAS_LANE_CTL_PATTERN 0) = p ∧
      (regW (Reg.RAS_LANE_CTL_PATTERN 0) p (hSt id)).rd (Reg.RAS_LANE_CTL_LOOP 0) ≠ 2) ∧
    (let s := regW (Reg.RAS_LANE_CTL_LOCK 0) 1 (regW (Reg.RAS_LANE_CTL_LOOP 0) 1 (hSt id))
     s.rd (Reg.RAS_LANE_CTL_LOCK 0) = 1 ∧ s.rd (Reg.RAS_LANE_CTL_LOOP 0) = 1) := by decide +kernel
/-- The cap at 2 with clusters held, at 24 with four in service, and changes under way: done, with a command left on cluster 3 that leaves, and with a kept cluster out of service. -/
def heldSt : State := regW Reg.SYS_PWR_CAP_CAP 2 (rasSt (fun r => { r with held := [2, 3] }))
def capSt (cap serving : Nat) : State := regW Reg.SYS_PWR_CAP_CAP cap (rasSt (fun r => { r with cap := some 24, inService := serving }))
theorem witness_PowerAndThermal :
    (hSt id).rd Reg.SYS_THERM_WARN = 0 ∧ 1680 ≤ (1680#16).toInt ∧ (regW Reg.SYS_THERM_WARN 1 (hSt id)).rd Reg.SYS_THERM_WARN = 1 ∧ (1600#16).toInt ≤ 1600 ∧
    (1600 < (1601#16).toInt ∧ (1679#16).toInt < 1680) ∧
    ((rasSt id).ras.cap = none ∧ ((rasSt id).wr Reg.SYS_PWR_CAP_CAP (2#5).toNat).powerCap < (rasSt id).powerCap ∧
      ((rasSt id).wr Reg.SYS_PWR_CAP_CAP (2#5).toNat).leaving = [2, 3]) ∧
    (heldSt.ras.cap = none ∧ heldSt.powerCap < (heldSt.wr Reg.SYS_PWR_CAP_CAP (4#5).toNat).powerCap ∧ 3 ∈ heldSt.ras.held ∧
      3 ∈ (heldSt.wr Reg.SYS_PWR_CAP_CAP (4#5).toNat).keptClusters) ∧
    (capSt 2 15).ras.cap.isSome = true ∧ heldSt.powerCap ≤ (heldSt.wr Reg.SYS_PWR_CAP_CAP (2#5).toNat).powerCap ∧
    (heldSt.wr Reg.SYS_PWR_CAP_CAP (2#5).toNat).powerCap ≤ heldSt.powerCap ∧
    (let s := (capSt 2 15).modCore 24 (fun c => { c with run := some 1 })
     ∃ c ∈ s.leaving, s.clusterEmpty c = false) ∧
    (∃ c ∈ (capSt 5 15).keptClusters, bitAt (capSt 5 15).ras.inService c = false) ∧
    ((capSt 2 15).ras.cap = some 24 ∧ (∀ c ∈ (capSt 2 15).leaving, (capSt 2 15).clusterEmpty c = true) ∧ (capSt 2 15).leaving = [2, 3] ∧
      (∀ c ∈ (capSt 2 15).keptClusters, bitAt (capSt 2 15).ras.inService c = true)) ∧
    ((hSt id).sys.stage = 8 ∧ (hSt id).pins.pmAlertN = true) ∧
    (let s := hSt (fun s => { s with pins := { s.pins with pmAlertN := false } })
     s.sys.stage = 8 ∧ s.pins.pmAlertN = false) ∧ (atStage 3 id).sys.stage ≠ 8 := by decide +kernel

/-! ### Witnesses: life cycle, OTP and debug (chapters 17 to 19) -/

/-- A signature entry of slot 0, and a life-cycle request and a debug token with it, under a key of 68 zero bytes. -/
def sigEntry : Bytes := (zeros 4 ++ zeros 68) ++ zeros 2820
theorem sigEntry_length : sigEntry.length = 2892 := by rw [sigEntry, List.length_append, zeros_length]; rfl
theorem sigEntry_signer : signerEntry sigEntry = (0, zeros 68, zeros 2820) := by
  have a : byteAt sigEntry 0 = 0 := by rw [sigEntry, byteAt_left _ _ _ (by decide)]; decide
  have b : slice sigEntry 4 68 = zeros 68 := by rw [sigEntry, slice_left _ _ _ _ (by decide)]; decide
  have c : slice sigEntry 72 2820 = zeros 2820 := by
    rw [sigEntry]
    show slice _ (72 + 0) 2820 = _
    rw [slice_right _ _ 0 2820 72 (by decide), slice, List.drop_zero, List.take_of_length_le (by rw [zeros_length] <;> omega)]
  unfold signerEntry
  rw [a, b, c]
/-- A unit in MAKER with slot 0's key and a challenge, changed. -/
def lcSt (f : State → State) : State :=
  f { hSt id with
      time := { (hSt id).time with state := .trusted, now := 10 }
      otp := { (hSt id).otp with keys := [(0, shake256 32 (zeros 68))] }
      keys := { (hSt id).keys with chals := [⟨zeros 32, 1000⟩] } }
def noKeys (s : State) : State := { s with otp := { s.otp with keys := [] } }
def noChals (s : State) : State := { s with keys := { s.keys with chals := [] } }
def holdLow (s : State) : State := { s with pins := { s.pins with pwrHold := false } }
def moveW (m : Option Move) (s : State) : State := { s with life := { s.life with move := m } }
def lcHead (target : Nat) : Bytes := natToLe 4 0x54434C44 ++ natToLe 1 1 ++ natToLe 1 target ++ natToLe 1 1 ++ zeros 1 ++ zeros 8 ++ zeros 32 ++ zeros 16
theorem lcHead_length (t : Nat) : (lcHead t).length = 64 := rfl
theorem slotKey_zero (s : State) (h : tabGet [] s.otp.keys 0 = shake256 32 (zeros 68)) : s.slotKey (0, zeros 68, zeros 2820) = true := by
  have hl := shake256_length 32 (zeros 68) (by omega)
  have hne : shake256 32 (zeros 68) ≠ [] := fun e => by rw [e] at hl; exact absurd hl (by decide)
  unfold State.slotKey
  simp only [h]
  simp [hne]
theorem served_otp (k op : Nat) (b : Bytes) (s : State) : (served k op b s).otp = s.otp := rfl
theorem tabGet_head (v : Bytes) : tabGet [] [(0, v)] 0 = v := by simp [tabGet]
/-- The signers of a request. -/
def lcSigners (b : Bytes) : List (Nat × Bytes × Bytes) := (List.range (byteAt b 6)).map (fun i => signerEntry (slice b (64 + 2892 * i) 2892))
/-- The form of a request, as LifeCycle asks for it. -/
def LcGood (s : State) (b : Bytes) : Prop :=
  b.length = 64 + 2892 * byteAt b 6 ∧ leAt b 0 4 = 0x54434C44 ∧ byteAt b 4 = 1 ∧ (byteAt b 6 = 1 ∨ byteAt b 6 = 2) ∧ byteAt b 7 = 0 ∧ leAt b 8 8 = s.otp.uid ∧
    allZero (slice b 48 16) = true ∧ (∀ i, i < byteAt b 6 → allZero (slice b (65 + 2892 * i) 3) = true)
/-- The request for a move to state `t`, its form and its one signer. -/
def lcReq (t : Nat) : Bytes := lcHead t ++ sigEntry
theorem lcReq_length (t : Nat) : (lcReq t).length = 2956 := by rw [lcReq, List.length_append, lcHead_length, sigEntry_length]
theorem lcReq_slice (t o n : Nat) (h : o + n ≤ 64) : slice (lcReq t) o n = slice (lcHead t) o n := by
  rw [lcReq, slice_left _ _ _ _ (by rw [lcHead_length]; omega)]
theorem lcReq_byte (t o : Nat) (h : o < 64) : byteAt (lcReq t) o = byteAt (lcHead t) o := by
  rw [lcReq, byteAt_left _ _ _ (by rw [lcHead_length]; omega)]
theorem lcReq_six (t : Nat) : byteAt (lcReq t) 6 = 1 := by
  rw [lcReq_byte t 6 (by omega)]
  rfl
theorem lcReq_entry (t : Nat) : slice (lcReq t) 64 2892 = sigEntry := by
  have h := slice_right (lcHead t) sigEntry 0 2892 64 (lcHead_length t)
  rw [Nat.add_zero] at h
  rw [lcReq, h, slice, List.drop_zero, List.take_of_length_le (by rw [sigEntry_length] <;> omega)]
theorem lcReq_gap (t : Nat) : allZero (slice (lcReq t) 65 3) = true := by
  have h := slice_right (lcHead t) sigEntry 1 3 64 (lcHead_length t)
  rw [show (64 + 1 : Nat) = 65 by omega] at h
  rw [lcReq, h, sigEntry, slice_left _ _ _ _ (by decide)]
  decide
theorem lcReq_signers (t : Nat) : lcSigners (lcReq t) = [(0, zeros 68, zeros 2820)] := by
  unfold lcSigners
  rw [lcReq_six]
  exact congrArg (fun (b : Bytes) => [signerEntry b]) (lcReq_entry t) |>.trans (congrArg (fun (e : Nat × Bytes × Bytes) => [e]) sigEntry_signer)
theorem lcReq_good (t : Nat) (s : State) (hu : s.otp.uid = 0) : LcGood s (lcReq t) := by
  unfold LcGood
  rw [lcReq_six, lcReq_length, leAt, leAt, lcReq_slice t 0 4 (by omega), lcReq_slice t 8 8 (by omega), lcReq_slice t 48 16 (by omega), lcReq_byte t 4 (by omega),
    lcReq_byte t 7 (by omega), hu]
  rw [show slice (lcHead t) 0 4 = natToLe 4 0x54434C44 from rfl, show slice (lcHead t) 8 8 = zeros 8 from rfl, show slice (lcHead t) 48 16 = zeros 16 from rfl,
    show byteAt (lcHead t) 4 = 1 from rfl, show byteAt (lcHead t) 7 = 0 from rfl]
  refine ⟨by omega, by decide, rfl, .inl rfl, rfl, by decide, by decide, ?_⟩
  intro i hi
  have : i = 0 := by omega
  rw [this, Nat.mul_zero, Nat.add_zero]
  exact lcReq_gap t
theorem lcReq_form (t : Nat) (ht : t = 0 ∨ t = 1 ∨ t = 4) (s : State) (hu : s.otp.uid = 0) :
    LcGood s (lcReq t) ∧ lcSigners (lcReq t) = [(0, zeros 68, zeros 2820)] ∧ byteAt (lcReq t) 5 = t ∧ slice (lcReq t) 16 32 = zeros 32 ∧ (lcReq t).take 64 = lcHead t := by
  refine ⟨lcReq_good t s hu, lcReq_signers t, ?_, ?_, ?_⟩
  · rw [lcReq_byte t 5 (by omega)]
    rcases ht with rfl | rfl | rfl <;> rfl
  · rw [lcReq_slice t 16 32 (by omega)]
    rfl
  · rw [lcReq]
    exact take_head _ _ _ (lcHead_length t)
theorem lc_served (s : State) (t : Nat) (hg : s.gate 64 0x60 (lcHead t) = none) (hj : s.journalFull = false) (hm : s.keys.mb = []) :
    Served (served 64 0x60 (lcReq t) s) 64 0x60 (lcReq t) :=
  served_big s 64 0x60 (lcHead t) sigEntry (by rw [lcHead_length]; omega) (by show (lcReq t).length < _; rw [lcReq_length]; omega) (by omega) hg hj hm
theorem lc_known (s : State) (t : Nat) (h : s.otp.keys = [(0, shake256 32 (zeros 68))]) : s.slotKey (0, zeros 68, zeros 2820) = true :=
  slotKey_zero s (by rw [h, tabGet_head])
theorem witness_LifeCycle_down : ∀ op ∈ [0x60, 0x61, 0x62], downOk 64 op = true ∧ idleOk 64 op = true := by decide +kernel
/-- A request without a body, one that meets a unit without challenges, and one whose slot holds no key. -/
theorem witness_LifeCycle_refused :
    (servedB (served 64 0x60 [] (hSt id)) 64 0x60 [] = true ∧ ([] : Bytes).length ≠ 64 + 2892 * byteAt [] 6) ∧
    (let s := served 64 0x60 (lcReq 1) (lcSt noChals)
     Served s 64 0x60 (lcReq 1) ∧ LcGood s (lcReq 1) ∧ s.useChallenge (slice (lcReq 1) 16 32) = none) ∧
    (let s := served 64 0x60 (lcReq 1) (lcSt noKeys)
     Served s 64 0x60 (lcReq 1) ∧ LcGood s (lcReq 1) ∧ (s.useChallenge (slice (lcReq 1) 16 32)).isSome = true ∧
      ¬(∀ e ∈ lcSigners (lcReq 1), s.slotKey e = true)) := by
  refine ⟨by decide +kernel, ⟨lc_served _ 1 rfl rfl rfl, (lcReq_form 1 (by decide) _ rfl).1, ?_⟩, lc_served _ 1 rfl rfl rfl, (lcReq_form 1 (by decide) _ rfl).1, ?_, ?_⟩
  · rw [(lcReq_form 1 (by decide) (lcSt id) rfl).2.2.2.1]; rfl
  · rw [(lcReq_form 1 (by decide) (lcSt id) rfl).2.2.2.1]; rfl
  · rw [(lcReq_form 1 (by decide) (lcSt id) rfl).2.1]
    intro h
    have := h _ (List.mem_singleton.2 rfl)
    exact absurd this (by decide)
/-- A request that passes up to its signers: what its further checks read is in the state `f`. -/
theorem lc_passes (t : Nat) (f : State → State) (ht : t = 0 ∨ t = 1 ∨ t = 4) (hk : (lcSt f).otp.keys = [(0, shake256 32 (zeros 68))]) (hu : (lcSt f).otp.uid = 0)
    (hc : (lcSt f).useChallenge (zeros 32) ≠ none) (hg : (lcSt f).gate 64 0x60 (lcHead t) = none) (hj : (lcSt f).journalFull = false)
    (hm : (lcSt f).keys.mb = []) (hl : (lcSt f).lc.code = 0) :
    let s := served 64 0x60 (lcReq t) (lcSt f)
    Served s 64 0x60 (lcReq t) ∧ LcGood s (lcReq t) ∧ s.useChallenge (slice (lcReq t) 16 32) ≠ none ∧ (∀ e ∈ lcSigners (lcReq t), s.slotKey e = true) ∧
      ((lcSigners (lcReq t)).map (fun e => e.1)).Nodup ∧
      (lcMove s.lc.code (byteAt (lcReq t) 5) = true → lcSlots s.lc.code (byteAt (lcReq t) 5) ((lcSigners (lcReq t)).map (fun e => e.1)) = true) ∧
      lcMove s.lc.code (byteAt (lcReq t) 5) = decide (t ≠ 0) := by
  intro s
  have fm := lcReq_form t ht s hu
  rw [fm.2.1, fm.2.2.1, fm.2.2.2.1, show s.lc.code = 0 from hl]
  refine ⟨lc_served _ t hg hj hm, fm.1, ?_, ?_, by decide, ?_, ?_⟩
  · intro h
    apply hc
    unfold State.useChallenge at h ⊢
    split at h
    · next h2 =>
      have h3 : (lcSt f).keys.chals.find? (fun x => x.value == zeros 32 && decide ((lcSt f).now < x.until_)) = none := h2
      rw [h3]
    · cases h
  · intro e he
    rw [List.mem_singleton.mp he]
    exact lc_known _ t hk
  · rcases ht with rfl | rfl | rfl <;> decide
  · rcases ht with rfl | rfl | rfl <;> decide
/-- The states that `lc_passes` is for: as it is, with PWR_HOLD low, and with a move under way. -/
def lcMoving : Move := ⟨2, 0, 0, 0, true, 64⟩
theorem witness_LifeCycle_passes (t : Nat) (ht : t = 0 ∨ t = 1 ∨ t = 4) (ver : Bool) (h : Config.xmssVerify (zeros 68) (lcHead t) (zeros 2820) = ver) :
    ∀ f ∈ [id, holdLow, moveW (some lcMoving)],
      let s := served 64 0x60 (lcReq t) (lcSt f)
      Served s 64 0x60 (lcReq t) ∧ LcGood s (lcReq t) ∧ s.useChallenge (slice (lcReq t) 16 32) ≠ none ∧ (∀ e ∈ lcSigners (lcReq t), s.slotKey e = true) ∧
        ((lcSigners (lcReq t)).map (fun e => e.1)).Nodup ∧
        (lcMove s.lc.code (byteAt (lcReq t) 5) = true → lcSlots s.lc.code (byteAt (lcReq t) 5) ((lcSigners (lcReq t)).map (fun e => e.1)) = true) ∧
        lcMove s.lc.code (byteAt (lcReq t) 5) = decide (t ≠ 0) ∧
        (∀ e ∈ lcSigners (lcReq t), Config.xmssVerify e.2.1 ((lcReq t).take 64) e.2.2 = ver) := by
  intro f hf s
  have hv : ∀ e ∈ lcSigners (lcReq t), Config.xmssVerify e.2.1 ((lcReq t).take 64) e.2.2 = ver := by
    have fm := lcReq_form t ht (lcSt id) rfl
    rw [fm.2.1, fm.2.2.2.2]
    intro e he
    rw [List.mem_singleton.mp he]
    exact h
  have p := lc_passes t f ht
  simp only [List.mem_cons, List.mem_nil_iff, or_false] at hf
  have q : Served s 64 0x60 (lcReq t) ∧ LcGood s (lcReq t) ∧ s.useChallenge (slice (lcReq t) 16 32) ≠ none ∧ (∀ e ∈ lcSigners (lcReq t), s.slotKey e = true) ∧
        ((lcSigners (lcReq t)).map (fun e => e.1)).Nodup ∧
        (lcMove s.lc.code (byteAt (lcReq t) 5) = true → lcSlots s.lc.code (byteAt (lcReq t) 5) ((lcSigners (lcReq t)).map (fun e => e.1)) = true) ∧
        lcMove s.lc.code (byteAt (lcReq t) 5) = decide (t ≠ 0) := by
    rcases hf with rfl | rfl | rfl
    · exact p rfl rfl (by decide) (by rcases ht with rfl | rfl | rfl <;> rfl) rfl rfl rfl
    · exact p rfl rfl (by decide) (by rcases ht with rfl | rfl | rfl <;> rfl) rfl rfl rfl
    · exact p rfl rfl (by decide) (by rcases ht with rfl | rfl | rfl <;> rfl) rfl rfl rfl
  exact ⟨q.1, q.2.1, q.2.2.1, q.2.2.2.1, q.2.2.2.2.1, q.2.2.2.2.2.1, q.2.2.2.2.2.2, hv⟩
/-- The supply of those states, and whether a move is under way. -/
theorem witness_LifeCycle_supply :
    ((lcSt id).pins.pwrHold = true ∧ (lcSt id).pins.pfailN = true ∧ (lcSt id).life.move = none) ∧ (lcSt holdLow).pins.pwrHold = false ∧
    ((lcSt (moveW (some lcMoving))).pins.pwrHold = true ∧ (lcSt (moveW (some lcMoving))).pins.pfailN = true ∧
      (lcSt (moveW (some lcMoving))).life.move.isSome = true) := by decide +kernel
def keyBody : Bytes := natToLe 8 2 ++ zeros 31 ++ [1#8]
/-- The end of a group: none under way, one that waits, one before the last with the supply there and not, and the last. -/
theorem witness_LifeCycle_group :
    (hSt id).life.move = none ∧ (hSt (moveW (some { lcMoving with busy := false }))).life.move = some { lcMoving with busy := false } ∧
    (let s := hSt (moveW (some lcMoving))
     s.life.move = some lcMoving ∧ lcMoving.busy = true ∧ s.sys.deferred = none ∧ lcMoving.group + 1 < lcMoving.target ∧ s.pins.pwrHold = true ∧ s.pins.pfailN = true) ∧
    (let s := holdLow (hSt (moveW (some lcMoving)))
     s.life.move = some lcMoving ∧ s.sys.deferred = none ∧ s.pins.pwrHold = false) ∧
    (let m : Move := ⟨1, 0, 0, 0, true, 64⟩
     let s := hSt (moveW (some m))
     s.life.move = some m ∧ m.busy = true ∧ s.sys.deferred = none ∧ m.target ≤ m.group + 1) := by decide +kernel
theorem witness_LifeCycle_keys :
    (let s := served 64 0x61 [] (hSt id)
     servedB s 64 0x61 [] = true ∧ ([] : Bytes).length ≠ 40) ∧
    keyBody.length = 40 ∧ byteAt keyBody 0 = 2 ∧ allZero (slice keyBody 1 7) = true ∧
    (let s := served 64 0x61 keyBody (hSt id)
     servedB s 64 0x61 keyBody = true ∧ s.lc ≠ .integrator) ∧
    (let s := served 64 0x61 keyBody (hSt (fun s => codeOtp 0xFF { s with otp := { s.otp with keys := [(2, [1#8])] } }))
     servedB s 64 0x61 keyBody = true ∧ s.lc = .integrator ∧ tabGet [] s.otp.keys 2 ≠ []) ∧
    (let s := served 64 0x61 keyBody (hSt (codeOtp 0xFF))
     servedB s 64 0x61 keyBody = true ∧ s.lc = .integrator ∧ tabGet [] s.otp.keys 2 = []) ∧
    servedB (served 64 0x62 [0] (hSt id)) 64 0x62 [0] = true ∧ servedB (served 64 0x62 [] (hSt id)) 64 0x62 [] = true := by decide +kernel
/-- A debug token of scope 1 until device time 100. -/
def tokHead : Bytes := natToLe 4 0x4B544244 ++ natToLe 1 1 ++ natToLe 1 1 ++ natToLe 1 0xFF ++ natToLe 1 2 ++ zeros 8 ++ natToLe 8 100 ++ zeros 24
def tokBytes : Bytes := tokHead ++ sigEntry
def tokSt : State := codeW (lcSt id)
  where codeW (s : State) : State := { s with otp := { s.otp with words := [(0, 0xFFFF), (1, 0xFFFF), (2, 0xFFFF)] } }
theorem witness_OtpAndDebug_token (h : Config.xmssVerify (zeros 68) tokHead (zeros 2820) = true) :
    tokSt.dead = false ∧ tokenFields tokSt.otp.uid tokBytes = some ⟨1, 0, 0, 100⟩ ∧ tokSt.winOpen = true ∧
    signerEntry (tokBytes.drop 48) = (0, zeros 68, zeros 2820) ∧ tokSt.slotKey (0, zeros 68, zeros 2820) = true ∧
    Config.xmssVerify (zeros 68) (tokBytes.take 48) (zeros 2820) = true ∧ tokSt.lc = .fielded ∧ tokSt.timeGood = true ∧ tokSt.now < 100 ∧
    tokSt.portsFree 0 = true := by
  have l : tokHead.length = 48 := rfl
  have f (o n : Nat) (h : o + n ≤ 48) : slice tokBytes o n = slice tokHead o n := slice_left _ _ _ _ (by omega)
  have fb (o : Nat) (h : o < 48) : byteAt tokBytes o = byteAt tokHead o := byteAt_left _ _ _ (by omega)
  have d : tokBytes.drop 48 = sigEntry := by
    show (tokHead ++ sigEntry).drop 48 = _
    rw [List.drop_append_of_le_length (by omega), List.drop_eq_nil_of_le (by omega), List.nil_append]
  have tk : tokBytes.take 48 = tokHead := take_head _ _ _ l
  have s49 : slice tokBytes 49 3 = zeros 3 := by
    show slice (tokHead ++ sigEntry) (48 + 1) 3 = _
    rw [slice_right _ _ 1 3 48 l, sigEntry, slice_left _ _ _ _ (by decide)]
    rfl
  have hl : tokBytes.length = 2940 := by
    show (tokHead ++ sigEntry).length = _
    rw [List.length_append, l, sigEntry_length]
  refine ⟨by decide +kernel, ?_, by decide, by rw [d]; exact sigEntry_signer, slotKey_zero _ ?_, by rw [tk]; exact h, by decide +kernel, by decide +kernel, by decide, by decide +kernel⟩
  · unfold tokenFields
    simp only [leAt, s49, hl, f _ _ (show 0 + 4 ≤ 48 by omega), f _ _ (show 8 + 8 ≤ 48 by omega), f _ _ (show 16 + 8 ≤ 48 by omega), f _ _ (show 25 + 23 ≤ 48 by omega),
      fb 4 (by omega), fb 5 (by omega), fb 6 (by omega), fb 7 (by omega), fb 24 (by omega)]
    decide +kernel
  · have : tokSt.otp.keys = [(0, shake256 32 (zeros 68))] := by simp only [tokSt, tokSt.codeW, lcSt, id]
    rw [this, tabGet_head]
theorem witness_OtpAndDebug_refused :
    (codeOtp 0xFFFFFFFF (hSt id)).dead = true ∧ tokSt.dead = false ∧ tokenFields tokSt.otp.uid [] = none ∧ ((lcSt id).dead = false ∧ (lcSt id).lc ≠ .fielded) ∧
    (let s : State := { tokSt with sys := { tokSt.sys with window := false } }
     s.dead = false ∧ s.winOpen = false) ∧
    (let s : State := { tokSt with time := { tokSt.time with state := .untrusted } }
     s.dead = false ∧ s.timeGood = false) := by decide +kernel
/-- A session until time 5, before and after it, and none. -/
def sesSt : State := { hSt id with life := { (hSt id).life with session := some ⟨1, 0, 0, 5⟩ } }
theorem witness_OtpAndDebug_session :
    (hSt id).life.session = none ∧ (sesSt.life.session = some ⟨1, 0, 0, 5⟩ ∧ sesSt.now < 5 ∧ 5 ≤ (atTime 100 sesSt).now) := by decide +kernel
/-- Words of the areas that are read or programmed in their own way, by the integrator's assignment of words to areas. -/
theorem witness_OtpAndDebug_otp (h5 : Config.otpArea 5 = 0) (h6 : Config.otpArea 6 = 2) (h7 : Config.otpArea 7 = 3) (h8 : Config.otpArea 8 = 4) :
    ((hSt id).life.prog = none ∧ (hSt id).sys.deferred = none ∧ (hSt id).sys.prep = none) ∧
    (Config.otpArea 5 ≠ 2 ∧ Config.otpArea 5 ≠ 3 ∧ Config.otpArea 5 ≠ 4) ∧ (Config.otpArea 6 = 2 ∧ Config.otpArea 7 = 3 ∧ Config.otpArea 8 = 4) ∧
    (hSt id).otpWritable 2 = false ∧ (hSt id).otpWritable 5 = true ∧ (hSt id).rd Reg.LCD_OTP_DATA_DATA = 0 ∧
    (let s := regW Reg.LCD_OTP_DATA_DATA 3 (hSt id)
     s.life.prog = none ∧ s.sys.deferred = none ∧ s.sys.prep = none ∧ s.otpWritable 5 = true ∧ s.rd Reg.LCD_OTP_DATA_DATA ≠ 0) ∧
    (let s : State := { hSt id with life := { (hSt id).life with prog := some (5, 3) } }
     s.life.prog = some (5, 3) ∧ s.sys.deferred = none) ∧
    (sysW (fun y => { y with deferred := some ⟨1, 0, 0, 0, false⟩ }) (hSt id)).sys.deferred.isSome = true ∧
    (sysW (fun y => { y with prep := some ⟨1, 0, 0, 0, false⟩ }) (hSt id)).sys.prep.isSome = true := by
  have w (s : State) (h : s.lc = .maker) : s.otpWritable 5 = true := by
    unfold State.otpWritable
    rw [h5, h]
    decide
  refine ⟨⟨rfl, rfl, rfl⟩, ?_, ⟨h6, h7, h8⟩, by decide, w _ rfl, by decide +kernel, ⟨rfl, rfl, rfl, w _ rfl, by decide +kernel⟩, ⟨rfl, rfl⟩, rfl, rfl⟩
  rw [h5]
  decide
/-- Accesses of the debug master: out of reach, unmapped, not aligned, quarantined, made (a read and a write), and of an unused offset of a register window. -/
theorem witness_OtpAndDebug_access :
    tokSt.debugReach false 0x50100018 = false ∧ internalMapped 0x60000000 = false ∧ 0x20100001 % 2 ^ 3 ≠ 0 ∧
    (coreW (fun c => { c with ctx := [(0, { Ctx.empty with extents := [(0x10000, 16)] })] }) (hSt id)).debugQuarantined 0x20010000 8 = true ∧
    (internalMapped 0x20100000 = true ∧ (hSt id).debugReach false 0x20100000 = true ∧ 0x20100000 % 2 ^ 3 = 0 ∧
      (hSt id).debugQuarantined 0x20100000 8 = false ∧ ((hSt id).busRead 0x20100000 8).isSome = true) ∧
    ((hSt id).debugReach true 0x20100000 = true ∧ ((hSt id).busWrite true 0x20100000 (natToLe 8 5)).isSome = true) ∧
    (internalMapped 0x5011FFF8 = true ∧ (hSt id).debugReach false 0x5011FFF8 = true ∧ (hSt id).debugReach true 0x5011FFF8 = true ∧ 0x5011FFF8 % 2 ^ 3 = 0 ∧
      (hSt id).debugQuarantined 0x5011FFF8 8 = false ∧ (hSt id).busRead 0x5011FFF8 8 = none ∧ (hSt id).busWrite true 0x5011FFF8 (natToLe 8 5) = none) := by decide +kernel

/-! ### Witnesses: register access and the step -/

def wrS : MpuAccess := ⟨.s, none, .write⟩
/-- A host read: on a port that takes nothing, of no or too many bytes, and good and bad ones on port 0. -/
theorem witness_RegisterAccess_read :
    ((hSt (portW (fun p => { p with st := .disabled }))).port 0).accepts = false ∧ (0#10).toNat = 0 ∧ 512 < (513#10).toNat ∧
    ((hSt id).port 0).accepts = true ∧ winAccess 0 8 = true ∧ winAccess 0x1004 4 = true ∧ winAccess 3 4 = false := by decide +kernel
/-- A supervisor's write: of three bytes, not aligned, refused by an MPU region or the map, of an unused offset, and allowed ones of registers: of a shadow register by
S0 and by S1, of one whose write is a command of its own, of the time unit, and of others. -/
theorem witness_RegisterAccess_registers :
    (zeros 3).length ∉ [1, 2, 4, 8] ∧ 0x50100004 % (zeros 8).length ≠ 0 ∧ ((zeros 8).length ∈ [1, 2, 4, 8] ∧ 0x50100018 % (zeros 8).length = 0) ∧
    (hSt id).mpuFirst 0 .supervisor wrS 0x60000000 8 = some ⟨0x60000000, .unmapped, 0xFF⟩ ∧
    (hSt id).mpuFirst 0 .supervisor wrS 0x5011FFF8 8 = none ∧ regHit 0x5011FFF8 = none ∧
    (∀ a ∈ [0x50081000, 0x50100018, 0x500A0000, 0x20300000, 0x50120000 - 0x20000], (∀ who < 4, (hSt id).mpuFirst who .supervisor wrS a 8 = none) ∧
      internalMapped a = true ∧ (regHit a).isSome = true) ∧
    (regHit 0x50081000).map (fun r => decide (r.1.base ∈ actingRegs)) = some false ∧ (regHit 0x500A0000).map (fun r => decide (r.1.base ∈ actingRegs)) = some false ∧
    (regHit 0x50100018).map (fun r => decide (r.1.base ∈ actingRegs)) = some false ∧ (regHit 0x20300000).map (fun r => decide (r.1.base ∈ actingRegs)) = some true := by
  decide +kernel
/-- Its writes of a core's memory, of a cluster's shared memory, of the words of MRAM of which the spec gives no contents, and of the shared SRAM. -/
theorem witness_RegisterAccess_memory :
    (∀ a ∈ [0x20020008, 0x20520000, 0x10000480, 0x30000000, 0x40000000, 0x40800000], (hSt id).mpuFirst 0 .supervisor wrS a 8 = none ∧ internalMapped a = true) ∧
    (0x20020008 % 0x400000 < 0x100000 ∧ 0x100000 ≤ 0x20520000 % 0x400000 ∧ 0x20520000 % 0x400000 < 0x300000) ∧ (0x10000480 ≤ 0x10000480 ∧ 0x10000480 < 0x10200000) := by
  decide +kernel
/-- Host writes: turned away, bad, not answered, and each register that the statement names. -/
def pageAt : Nat := 0x1000000 + 3 * 0x10000
def goneSt : State := hSt (fun s => s.modTenant 3 (fun t => { t with deleting := true }))
theorem witness_RegisterAccess_write :
    ((hSt id).port 0).accepts = true ∧ (zeros 0).length = 0 ∧ 256 < (zeros 257).length ∧ winAccess 1 8 = false ∧ winAccess pageAt 8 = true ∧
    (noFirmware (hSt id)).winAnswers 0 (winReg 0x1000) = false ∧ ((noFirmware (hSt id)).port 0).accepts = true ∧ (hSt id).winAnswers 0 (winReg pageAt) = true ∧
    winReg pageAt = .sqDb 3 0 ∧ winReg (pageAt + 0x440) = .cqDb 3 1 ∧ winReg 0x18 = .bootGo ∧ (natToLe 8 1).length = 8 ∧ (leToNat (natToLe 8 1)).testBit 0 = true ∧
    winReg 0x2000 = .reserved ∧ 0x2000 % 8 = 0 ∧ winReg (pageAt + 0x800) = .sqCfg 3 0 ∧ winReg (pageAt + 0x808) = .sqCtl 3 0 ∧ winReg (pageAt + 0xA00) = .cqCfg 3 0 ∧
    winReg (pageAt + 0x1000) = .ivAddr 3 0 ∧ winReg (pageAt + 0x1008) = .ivCtrl 3 0 ∧ goneSt.pageOpen 3 = false ∧ (goneSt.port 0).accepts = true ∧
    (hSt id).pageOpen 3 = true ∧ (let s := hSt (sqW (fun r => { r with enable := true })); (s.sq 3 2).enable = true ∧ s.pageOpen 3 = true) ∧
    winReg (pageAt + 0x840) = .sqCfg 3 2 ∧ (let s := hSt (sqW (fun r => { r with enable := false })); (s.sq 3 2).enable = false ∧ s.pageOpen 3 = true) := by decide +kernel
/-- The mailbox's registers, of a slot that is free and of one that is busy, with and without GO. -/
def mbBusy : State := hSt (fun s => { s with keys := { s.keys with mb := [(3, { MbSlot.reset with busy := true })] } })
def mbFree : State := hSt (fun s => { s with keys := { s.keys with mb := [(3, { MbSlot.reset with reqLen := 16, rspMax := 16 })] } })
theorem witness_RegisterAccess_mailbox :
    winReg 0x1060 = .mbReq 3 ∧ winReg 0x1068 = .mbRsp 3 ∧ winReg 0x1070 = .mbLen 3 ∧ winReg 0x1078 = .mbCtl 3 ∧ (mbBusy.slot 3).busy = true ∧ (mbBusy.port 0).accepts = true ∧
    (mbFree.slot 3).busy = false ∧ (mbFree.port 0).accepts = true ∧ (mbFree.slot 3).reqLen = 16 ∧ (mbFree.slot 3).rspMax = 16 ∧ mbFree.winAnswers 0 (winReg 0x1078) = true ∧
    mbBusy.winAnswers 0 (winReg 0x1078) = true ∧ (leToNat (natToLe 8 0)).testBit 0 = false ∧ (leToNat (natToLe 8 5)).testBit 0 = true ∧ (leToNat (natToLe 8 5)).testBit 2 = true := by
  decide +kernel
/-- A queue with a command, an empty queue, and a state in canonical form that a step takes somewhere. -/
theorem witness_Steps :
    ({ State.reset with pending := [.fence 0 0] } : State).pending = .fence 0 0 :: [] ∧ State.reset.pending = [] := ⟨rfl, rfl⟩
theorem witness_StepKeepsCanonicalForm : Canonical (hSt id) ∧ ∃ t, step (hSt id) = .next t :=
  ⟨by unfold Canonical; exact ⟨by decide, by decide, by decide, by decide, by decide⟩, _, rfl⟩

/-! ### Ill-formed operands, one for each check -/

theorem test_malformed_beq : (Instr.beq 0 3 2 0).malformed = some .beqOrder ∧ (Instr.beq 0 2 2 0).malformed = none := by decide
theorem test_malformed_bne : (Instr.bne 0 2 2 0).malformed = some .bneOrder ∧ (Instr.bne 0 3 2 0).malformed = none := by decide
theorem test_malformed_window : (Instr.entropyWindow 0 []).malformed = some .windowLength := by decide
theorem test_malformed_read : (Instr.mrdReceived 0 0 513 0).malformed = some .readLength ∧ (Instr.mrdReceived 0 0 0 0).malformed = some .readLength ∧
    (Instr.mrdReceived 0 0 512 0).malformed = none := by decide
theorem test_malformed_completion : (Instr.cplReceived 0 0 0 true (zeros 257)).malformed = some .completionLength := by
  show (if (zeros 257).length ≤ 256 then none else some Malformed.completionLength) = _
  exact if_neg (by rw [zeros_length] <;> omega)
theorem test_malformed_message : (Instr.msgReceived 0 0 8).malformed = some .messageLength := by decide
theorem test_malformed_write : (Instr.registerWrite 0 0 []).malformed = some .writeLength ∧ (Instr.registerWrite 0 0 (zeros 8)).malformed = none := by decide
theorem test_malformed_sealed : (Instr.heartbeat 0 0 (zeros 15)).malformed = some .messageTooLong ∧ (Instr.heartbeat 0 0 (zeros 16)).malformed = none := by decide
theorem test_malformed_clear : (Instr.hello (zeros 8193)).malformed = some .messageTooLong := by
  show (if (zeros 8193).length ≤ 8192 then none else some Malformed.messageTooLong) = _
  exact if_neg (by rw [zeros_length] <;> omega)
theorem test_no_bits : decodeTableWord 32 0 = none ∧ (State.reset.withFetchWord 32 0) = State.reset := ⟨rfl, rfl⟩

/-! ### Known answers of the published algorithms (log entry 6): FIPS 197 appendix C.1, the usual DES example, FIPS 180 "abc" -/

theorem test_aes128_fips197 : aesEnc ((List.range 16).map (BitVec.ofNat 8)) ((List.range 16).map (fun i => BitVec.ofNat 8 (17 * i))) =
    bytesOf [0x69, 0xC4, 0xE0, 0xD8, 0x6A, 0x7B, 0x04, 0x30, 0xD8, 0xCD, 0xB7, 0x80, 0x70, 0xB4, 0xC5, 0x5A] := by decide +kernel

theorem test_des_block : desEnc (bytesOf [0x13, 0x34, 0x57, 0x79, 0x9B, 0xBC, 0xDF, 0xF1])
    (bytesOf [0x01, 0x23, 0x45, 0x67, 0x89, 0xAB, 0xCD, 0xEF]) = bytesOf [0x85, 0xE8, 0x13, 0x54, 0x0F, 0x0A, 0xB4, 0x05] := by decide +kernel

theorem test_sha256_abc : (sha256 (bytesOf [0x61, 0x62, 0x63])).take 8 =
    bytesOf [0xBA, 0x78, 0x16, 0xBF, 0x8F, 0x01, 0xCF, 0xEA] := by decide +kernel

end Sys2Proof.Tests
end

section
/-! Register accesses from outside (O60). The statement speaks of every state, also of one whose register file holds a number too wide for its
field, where `State.wr` would have cut it (`regGet_set_same`). A write of such a W1C field cuts it; the statement asks for the uncut number. -/

namespace Sys2Proof.Proofs

open Sys2Proof Sys2Proof.Machine

/-- A store of a register by S0 that its MPU and the map allow is a write of that register (R4, R14, R415). -/
theorem exec_registerWrite_of_s0 {s : State} {who : Fin 8} {addr : BitVec 64} {data : Bytes} {row : RegRow} {b off : Nat}
    (hwho : who.val < 2) (hsize : [1, 2, 4, 8].contains data.length = true) (halign : addr.toNat % data.length = 0)
    (hmpu : s.mpuFirst who .supervisor ⟨.s, none, .write⟩ addr.toNat data.length = none) (hmap : internalMapped addr.toNat = true)
    (hwin : 0x50000000 ≤ addr.toNat) (hreg : regHit addr.toNat = some (row, b, off)) :
    exec (.registerWrite who addr data) s = .next (s.writeReg false row b off data) := by
  have hbus : s.busWrite false addr.toNat data = some (s.writeReg false row b off data) := by
    simp [State.busWrite, State.writeBytesReg, hmap, hwin, hreg]
  have hsuper : s.superWrite who addr.toNat data = s.writeReg false row b off data := by
    have hs0 : ¬(2 ≤ who.val ∧ 0x50081000 ≤ addr.toNat ∧ addr.toNat < 0x50081A00) := by omega
    have hgood : ¬([1, 2, 4, 8].contains data.length = false ∨ addr.toNat % data.length ≠ 0) := by
      rw [hsize]
      simp [halign]
    simp only [State.superWrite, if_neg hgood, hmpu, hbus, if_neg hs0]
  show execRegisterWrite who addr data s = _
  rw [execRegisterWrite, if_pos (by omega), hsuper]

/-- The row of LNK_ERR, whose bits are W1C fields, of one bit each. -/
def lnkErrRow : RegRow := (regRowAt 0x50020020).get (by decide +kernel)

/-- BAD_HOST of port 0 as the row of LNK_ERR lists it. -/
def badHostRow : FieldRow := ⟨"BAD_HOST", 5, 1, .w1c, 0⟩

/-- The unit after reset, but for LNK_ERR.BAD_HOST of port 0: its one bit holds 2. -/
def wideBadHost : State := { State.reset with regs := [((Reg.LNK_ERR_BAD_HOST 0).key, 2)] }

theorem regHit_lnkErr : regHit 0x50020020 = some (lnkErrRow, 0x50020020, 0) := by decide +kernel

theorem wideBadHost_allows : wideBadHost.mpuFirst 0 .supervisor ⟨.s, none, .write⟩ 0x50020020 8 = none := by decide +kernel

/-- The store of eight zero bytes clears no bit, and still the field reads 0 after it: 2 is cut to one bit. -/
theorem wideBadHost_cut :
    (wideBadHost.writeReg false lnkErrRow 0x50020020 0 (zeros 8)).rd (badHostRow.field 0x50020020) = 0 := by decide +kernel

/-- What the statement asks of the field: 2 with no bit cleared. -/
theorem wideBadHost_uncut :
    accessWrite .w1c (wideBadHost.rd (badHostRow.field 0x50020020)) (bitsAt (leToNat ((zeros 8).take 8) * 2 ^ (8 * 0)) 5 1) = 2 := by
  decide +kernel

/-- Refutes O60: a state may hold 2 in the one-bit W1C field LNK_ERR.BAD_HOST, and S0's store of zeros to LNK_ERR then leaves 0 there, since a
write cuts a field to its width; the clause of `FieldsWritten` for W1C fields gives 2. -/
theorem not_registerAccess : ¬ Obligations.RegisterAccess := by
  unfold Obligations.RegisterAccess
  intro h
  obtain ⟨-, hsuper, -⟩ := h wideBadHost 0 0x50020020#64
  obtain ⟨-, -, -, hregister, -⟩ := hsuper 0 (zeros 8) (by decide)
  obtain ⟨-, -, hwritten⟩ :=
    hregister ⟨⟨by decide, by decide, by decide⟩, wideBadHost_allows⟩ (by decide) (.inl (by decide)) lnkErrRow 0x50020020 0 regHit_lnkErr
  obtain ⟨t, hexec, hfields, -⟩ := hwritten (by decide)
  have hrun := exec_registerWrite_of_s0 (s := wideBadHost) (who := 0) (addr := 0x50020020#64) (data := zeros 8) (by decide) (by decide)
    (by decide) wideBadHost_allows (by decide) (by decide) regHit_lnkErr
  obtain rfl : wideBadHost.writeReg false lnkErrRow 0x50020020 0 (zeros 8) = t := by
    rw [hrun] at hexec
    exact Host.Outcome.next.inj hexec
  obtain ⟨-, -, hw1c⟩ := hfields badHostRow (by decide +kernel)
  have hclaim := hw1c (by decide +kernel) rfl
  exact absurd (wideBadHost_cut.symm.trans (hclaim.trans wideBadHost_uncut)) (by decide)

end Sys2Proof.Proofs
end

section
/-! The idle step (O2): what one cycle of the time base leaves alone (log entry 1). -/

namespace Sys2Proof.Proofs

open Sys2Proof Sys2Proof.Machine

theorem frame_modTime (s : State) (f : TimeBase → TimeBase) : Frame [.time] s (s.modTime f) :=
  ⟨rfl, fun p hp => by
    cases p with
    | time => exact absurd (List.mem_singleton_self _) hp
    | _ => rfl⟩

theorem frame_addTo (s : State) (f : Field) (n : Nat) : Frame [.regs] s (s.addTo f n) := frame_wr s f _

/-- As time passes the serial port sends bytes, and no part but the keys' changes (R213). -/
theorem frame_cspDrain (s : State) (n : Nat) : Frame [.keys] s (s.cspDrain n) := by
  unfold State.cspDrain
  split
  · exact frame_modKeys s (fun k => { k with csp := k.csp.drain (cspRate (s.rd Reg.CSP_CTL_BAUD)) n })
  · exact .refl _ s

/-- The count of cycles moves on by the cycles that pass, whether the fraction of device time stops or not (R287, R289). -/
theorem run'_cyc (t : TimeBase) (c24 n : Nat) : (t.run' c24 n).cyc = t.cyc + n := by
  unfold TimeBase.run'
  dsimp only
  split <;> rfl

theorem advance_cyc (s : State) (n : Nat) : (s.advance n).time.cyc = s.time.cyc + n := by
  have hdrain (u : State) : (u.cspDrain n).time = u.time := (frame_cspDrain u n).2 .time (by decide)
  unfold State.advance
  rw [State.addTo_time, hdrain]
  exact run'_cyc s.time _ n

/-- Time passes in the time base, the serial port and the guard timer's register alone. -/
theorem frame_advance (s : State) (n : Nat) : Frame [.time, .keys, .regs] s (s.advance n) := by
  have htime (u : State) (f : TimeBase → TimeBase) : Frame [.time, .keys, .regs] u (u.modTime f) := (frame_modTime u f).mono (by decide)
  have hkeys (u : State) : Frame [.time, .keys, .regs] u (u.cspDrain n) := (frame_cspDrain u n).mono (by decide)
  have hregs (u : State) (f : Field) (k : Nat) : Frame [.time, .keys, .regs] u (u.addTo f k) := (frame_addTo u f k).mono (by decide)
  exact ((htime s _).trans (hkeys _)).trans (hregs _ _ _)

/-- Settles O2: the step of an empty queue is the passing of one cycle. -/
theorem idleStepPassesOneCycle : Obligations.IdleStepPassesOneCycle :=
  fun s hempty => ⟨s.advance 1, step_idle s hempty, advance_cyc s 1, frame_advance s 1⟩

end Sys2Proof.Proofs
end

section
/-! Loads and stores of a core (O11): the outcomes of `State.loadFrom` and `State.storeTo`, each once, for every width (R77, R90). -/

namespace Sys2Proof.Proofs

open Sys2Proof Sys2Proof.Machine

@[simp] theorem natToLe_length (n : Nat) : ∀ v : Nat, (natToLe n v).length = n := by
  induction n with
  | zero => intro v; rfl
  | succ n ih => intro v; rw [natToLe, List.length_cons, ih]

/-- Byte `i` of a number stored least significant byte first. -/
theorem natToLe_getD (n : Nat) : ∀ v i : Nat, i < n → (natToLe n v).getD i 0#8 = BitVec.ofNat 8 (v / 2 ^ (8 * i)) := by
  induction n with
  | zero => intro v i hi; omega
  | succ n ih =>
    intro v i hi
    cases i with
    | zero => simp [natToLe]
    | succ i =>
      rw [natToLe, List.getD_cons_succ, ih _ _ (by omega), Nat.div_div_eq_div_mul, Nat.mul_succ, Nat.add_comm, Nat.pow_add]

/-- A byte of memory after a store of the low `w` bytes of a number at `a`. -/
theorem memByte_write_natToLe (m : Memory) (w v a x : Nat) :
    memByte (memWrite m a (natToLe w v)) x = if a ≤ x ∧ x < a + w then BitVec.ofNat 8 (v / 2 ^ (8 * (x - a))) else memByte m x := by
  rw [memByte_write, natToLe_length]
  split
  · exact natToLe_getD w v (x - a) (by omega)
  · rfl

/-- A load that runs is `State.loadFrom` at its width. -/
theorem exec_load {core : Fin 192} {gd ga : Fin 32} {imm : BitVec 16} {w : Nat} {i : Instr} (hmem : (w, i) ∈ loadOf core gd ga imm)
    {s : State} (hruns : s.runs core = true) : exec i s = .next (s.loadFrom core gd ga imm w) := by
  have hissue := issue_runs hruns (fun u => u.loadFrom core gd ga imm w)
  simp only [loadOf, List.mem_cons, Prod.mk.injEq, List.not_mem_nil, or_false] at hmem
  obtain ⟨rfl, rfl⟩ | ⟨rfl, rfl⟩ | ⟨rfl, rfl⟩ | ⟨rfl, rfl⟩ := hmem <;> exact congrArg Host.Outcome.next hissue

/-- A store that runs is `State.storeTo` at its width. -/
theorem exec_store {core : Fin 192} {gd ga : Fin 32} {imm : BitVec 16} {w : Nat} {i : Instr} (hmem : (w, i) ∈ storeOf core gd ga imm)
    {s : State} (hruns : s.runs core = true) : exec i s = .next (s.storeTo core gd ga imm w) := by
  have hissue := issue_runs hruns (fun u => u.storeTo core gd ga imm w)
  simp only [storeOf, List.mem_cons, Prod.mk.injEq, List.not_mem_nil, or_false] at hmem
  obtain ⟨rfl, rfl⟩ | ⟨rfl, rfl⟩ | ⟨rfl, rfl⟩ | ⟨rfl, rfl⟩ := hmem <;> exact congrArg Host.Outcome.next hissue

/-- A load that no operation in flight may change reads the memory as it stands, and changes nothing (R82). -/
theorem loadBytes_of_not_racy {s : State} {n a w : Nat} (hracy : s.racy n a w = false) :
    s.loadBytes n a w = (if coreShared a then memRead (s.cluster (n / 8)).shared (a - 0x100000) w else memRead (s.core n).mem a w, s) := by
  rw [State.loadBytes, hracy, if_neg Bool.false_ne_true]
  split <;> rfl

theorem storeBytes_of_coreLocal {s : State} {n a : Nat} {b : Bytes} (hlocal : coreLocal a = true) :
    s.storeBytes n a b = s.storeLocal n a b := if_pos hlocal

theorem not_coreLocal_of_coreShared {a : Nat} (hshared : coreShared a = true) : ¬coreLocal a = true := by
  simp only [coreShared, coreLocal, Bool.and_eq_true, decide_eq_true_eq] at hshared ⊢
  omega

theorem storeBytes_of_coreShared {s : State} {n a : Nat} {b : Bytes} (hshared : coreShared a = true) :
    s.storeBytes n a b = s.modCluster (n / 8) (fun c => { c with shared := memWrite c.shared (a - 0x100000) b }) := by
  rw [State.storeBytes, if_neg (not_coreLocal_of_coreShared hshared), if_pos hshared]

theorem coreMap_of_coreLocal {a : Nat} (hlocal : coreLocal a = true) : a < 0x20000000 := by
  simp only [coreLocal, decide_eq_true_eq] at hlocal
  omega

theorem coreMap_of_coreShared {a : Nat} (hshared : coreShared a = true) : a < 0x20000000 := by
  simp only [coreShared, Bool.and_eq_true, decide_eq_true_eq] at hshared
  omega

theorem onlyCore_nextPc (s : State) (n : Nat) : OnlyCore s (s.nextPc n) n { s.core n with pc := (s.core n).pc + 4 } :=
  onlyCore_modCore s n _

section
variable {s : State} {n gd ga a : Nat} {imm : BitVec 16} {w : Nat} (ha : s.addrOf n ga imm = a)
include ha

theorem loadFrom_misaligned (halign : a % w ≠ 0) : s.loadFrom n gd ga imm w = s.excAt n .align a := by
  simp [State.loadFrom, ha, halign]

theorem loadFrom_user_refused (halign : a % w = 0) (huser : (s.core n).user = true) (hok : s.userLoadOk n a w = false) :
    s.loadFrom n gd ga imm w = s.excAt n .access a := by
  simp [State.loadFrom, ha, halign, huser, hok]

theorem loadFrom_k_refused (halign : a % w = 0) (huser : (s.core n).user = false) {f : MpuFault}
    (href : s.kRefusal n .read a w = some f) : s.loadFrom n gd ga imm w = s.kRefused n a .read f := by
  simp [State.loadFrom, ha, halign, huser, href]

/-- A load of local or shared memory that is allowed, at U or at K. -/
theorem loadFrom_memory (halign : a % w = 0)
    (hok : ((s.core n).user = true ∧ s.userLoadOk n a w = true) ∨
      ((s.core n).user = false ∧ a < 0x20000000 ∧ s.kRefusal n .read a w = none)) :
    s.loadFrom n gd ga imm w = (s.loadBytes n a w).2.ret n gd (BitVec.ofNat 64 (leToNat (s.loadBytes n a w).1)) := by
  obtain ⟨huser, hload⟩ | ⟨huser, hmap, href⟩ := hok
  · simp [State.loadFrom, ha, halign, huser, hload]
  · simp [State.loadFrom, ha, halign, huser, href, hmap]

/-- A load at K from 2000_0000 upwards takes what the internal map gives (R14). -/
theorem loadFrom_bus (halign : a % w = 0) (huser : (s.core n).user = false) (hmap : 0x20000000 ≤ a)
    (href : s.kRefusal n .read a w = none) {b : Bytes} {t : State} (hbus : s.busRead a w = some (b, t)) :
    s.loadFrom n gd ga imm w = t.ret n gd (BitVec.ofNat 64 (leToNat b)) := by
  simp [State.loadFrom, ha, halign, huser, href, Nat.not_lt.mpr hmap, hbus]

/-- A load at K from an address that the internal map does not have is refused (R17). -/
theorem loadFrom_unmapped (halign : a % w = 0) (huser : (s.core n).user = false) (hmap : 0x20000000 ≤ a)
    (href : s.kRefusal n .read a w = none) (hbus : s.busRead a w = none) :
    s.loadFrom n gd ga imm w = s.kRefused n a .read ⟨a, .unmapped, 0xFF⟩ := by
  simp [State.loadFrom, ha, halign, huser, href, Nat.not_lt.mpr hmap, hbus]

theorem storeTo_misaligned (halign : a % w ≠ 0) : s.storeTo n gd ga imm w = s.excAt n .align a := by
  simp [State.storeTo, ha, halign]

theorem storeTo_user_refused (halign : a % w = 0) (huser : (s.core n).user = true) (hok : s.userStoreOk n a w = false) :
    s.storeTo n gd ga imm w = s.excAt n .access a := by
  simp [State.storeTo, ha, halign, huser, hok]

theorem storeTo_k_refused (halign : a % w = 0) (huser : (s.core n).user = false) {f : MpuFault}
    (href : s.kRefusal n .write a w = some f) : s.storeTo n gd ga imm w = s.kRefused n a .write f := by
  simp [State.storeTo, ha, halign, huser, href]

/-- A store to the core-local map that is allowed, at U or at K. -/
theorem storeTo_memory (halign : a % w = 0) (hmap : a < 0x20000000)
    (hu : (s.core n).user = true → s.userStoreOk n a w = true) (hk : (s.core n).user = false → s.kRefusal n .write a w = none) :
    s.storeTo n gd ga imm w = (s.storeBytes n a (natToLe w (s.getG n gd).toNat)).nextPc n := by
  cases huser : (s.core n).user with
  | true => simp [State.storeTo, ha, halign, huser, hu huser]
  | false => simp [State.storeTo, ha, halign, huser, hk huser, hmap]

/-- A store at K from 2000_0000 upwards goes to the internal map (R14). -/
theorem storeTo_bus (halign : a % w = 0) (huser : (s.core n).user = false) (hmap : 0x20000000 ≤ a)
    (href : s.kRefusal n .write a w = none) {t : State}
    (hbus : s.busWrite false a (natToLe w (s.getG n gd).toNat) = some t) : s.storeTo n gd ga imm w = t.nextPc n := by
  simp [State.storeTo, ha, halign, huser, href, Nat.not_lt.mpr hmap, hbus]

/-- A store at K to an address that the internal map does not have is refused (R17). -/
theorem storeTo_unmapped (halign : a % w = 0) (huser : (s.core n).user = false) (hmap : 0x20000000 ≤ a)
    (href : s.kRefusal n .write a w = none) (hbus : s.busWrite false a (natToLe w (s.getG n gd).toNat) = none) :
    s.storeTo n gd ga imm w = s.kRefused n a .write ⟨a, .unmapped, 0xFF⟩ := by
  simp [State.storeTo, ha, halign, huser, href, Nat.not_lt.mpr hmap, hbus]

end

/-- A store to local memory changes its own core alone: there its bytes, the marks of the HPUTs that read them, and the program counter. -/
theorem storeLocal_nextPc (s : State) (n a : Nat) (b : Bytes) :
    ∃ xfers, OnlyCore s ((s.storeLocal n a b).nextPc n) n
      { s.core n with mem := memWrite (s.core n).mem a b, xfers := xfers, pc := (s.core n).pc + 4 } := by
  have hstore : OnlyCore s (s.storeLocal n a b) n _ := onlyCore_modCore s n _
  have hnext := hstore.trans (onlyCore_nextPc (s.storeLocal n a b) n)
  rw [hstore.1] at hnext
  exact ⟨_, hnext⟩

/-- An instruction that changes a cluster and moves on leaves the rest of the unit as it was. -/
theorem modCluster_nextPc (s : State) (n c : Nat) (f : Cluster → Cluster) :
    let t := (s.modCluster c f).nextPc n
    t.cluster c = f (s.cluster c) ∧ t.core n = { s.core n with pc := (s.core n).pc + 4 } ∧ (∀ m, m ≠ n → t.core m = s.core m) ∧
      (∀ d, d ≠ c → t.cluster d = s.cluster d) ∧ Frame [.cores, .clus] s t := by
  intro t
  obtain ⟨hcore, hothers, hframe⟩ := onlyCore_nextPc (s.modCluster c f) n
  have hcluster (d : Nat) : t.cluster d = if d = c then f (s.cluster c) else s.cluster d := State.cluster_modCluster s c d f
  refine ⟨by rw [hcluster, if_pos rfl], hcore, hothers, fun d hd => by rw [hcluster, if_neg hd], ?_⟩
  exact ((frame_modCluster s c f).mono (by decide)).trans (hframe.mono (by decide))

/-- Settles O11: the outcomes of `State.loadFrom` and of `State.storeTo`, clause by clause. -/
theorem loadsAndStores : Obligations.LoadsAndStores := by
  unfold Obligations.LoadsAndStores
  constructor <;> intro s core gd ga imm w i hmem hruns a
  all_goals
    have ha : s.addrOf core ga imm = a := rfl
    clear_value a
  case left =>
    rw [exec_load hmem hruns]
    refine ⟨fun halign => ?misaligned, fun halign huser hok => ?userRefused, fun halign hok hracy => ?memory,
      fun halign huser hmap href => ⟨fun hbus => ?unmapped, fun b s1 hbus => ?bus⟩, fun halign huser f href => ?kRefused⟩
    case misaligned => rw [loadFrom_misaligned ha halign]
    case userRefused => rw [loadFrom_user_refused ha halign huser hok]
    case memory =>
      rw [loadFrom_memory ha halign hok, loadBytes_of_not_racy hracy]
      exact ⟨_, rfl, ret_result s core gd _⟩
    case unmapped => rw [loadFrom_unmapped ha halign huser hmap href hbus]
    case bus =>
      rw [loadFrom_bus ha halign huser hmap href hbus]
      exact ⟨_, rfl, ret_result s1 core gd _⟩
    case kRefused => rw [loadFrom_k_refused ha halign huser href]
  case right =>
    rw [exec_store hmem hruns]
    refine ⟨fun halign => ?misaligned, fun halign huser hok => ?userRefused, fun halign hlocal hu hk => ?localMemory,
      fun halign huser hshared href => ?sharedMemory, fun halign huser hmap href => ⟨fun hbus => ?unmapped, fun s1 hbus => ?bus⟩,
      fun halign huser f href => ?kRefused⟩
    case misaligned => rw [storeTo_misaligned ha halign]
    case userRefused => rw [storeTo_user_refused ha halign huser hok]
    case localMemory =>
      rw [storeTo_memory ha halign (coreMap_of_coreLocal hlocal) hu hk, storeBytes_of_coreLocal hlocal]
      obtain ⟨xfers, hcore, hothers, hframe⟩ := storeLocal_nextPc s core a (natToLe w (s.getG core gd).toNat)
      refine ⟨_, rfl, fun x => ?_, ?_, hothers, hframe⟩ <;> rw [hcore]
      exact memByte_write_natToLe _ w _ a x
    case sharedMemory =>
      rw [storeTo_memory ha halign (coreMap_of_coreShared hshared) (by simp [huser]) (fun _ => href), storeBytes_of_coreShared hshared]
      obtain ⟨hcluster, hrest⟩ := modCluster_nextPc s core (core / 8)
        (fun c => { c with shared := memWrite c.shared (a - 0x100000) (natToLe w (s.getG core gd).toNat) })
      refine ⟨_, rfl, fun x => ?_, hrest⟩
      rw [hcluster]
      exact memByte_write_natToLe _ w _ _ x
    case unmapped => rw [storeTo_unmapped ha halign huser hmap href hbus]
    case bus =>
      rw [storeTo_bus ha halign huser hmap href hbus]
      exact ⟨_, rfl, onlyCore_nextPc s1 core⟩
    case kRefused => rw [storeTo_k_refused ha halign huser href]

end Sys2Proof.Proofs
end

section
/-! The lookup tables (O39). The shadow of the key-handle registers (R235, R255) is a table by number, and the statement speaks of every number in
it. For number 256, which is no tenant's, TBL_KH_BASE and TBL_T_POL would have one address, so a reload writes one place twice. -/

namespace Sys2Proof.Proofs

open Sys2Proof Sys2Proof.Machine

/-- Without a command in the store nothing is resolved again. -/
theorem retryKeys_of_no_entries {s : State} (hempty : s.prf.entries = []) : s.retryKeys = s := by
  simp [State.retryKeys, hempty]

/-- The shadowed registers of number 256: BASE holds 2, every other field 0. -/
def overlapShadow : Table (List Nat) := [(256, [2, 0, 0, 0, 0, 0, 0])]

/-- The unit after reset, but for a shadow with the registers of number 256, whose block is held and reloads. -/
def overlapHeld : State :=
  { State.reset with tab := { Tables.reset with shadowKh := overlapShadow, reload := some (handleBlock 256) } }

theorem overlapShadow_here : overlapShadow.filter (fun e => handleBlock e.1 == handleBlock 256) = overlapShadow := by
  simp [overlapShadow]

/-- BASE reads 0 once the registers are written back: the write of LEARN comes later and has the same place. -/
theorem overlapHeld_reloadKh_base : (overlapHeld.reloadKh (handleBlock 256)).rd (Reg.TBL_KH_BASE_BASE 256) = 0 := by
  have hwritten : overlapHeld.reloadKh (handleBlock 256) =
      ((khFields 256).zip [2, 0, 0, 0, 0, 0, 0]).foldl (fun s f => s.wr f.1 f.2) overlapHeld := by
    show (overlapShadow.filter (fun e => handleBlock e.1 == handleBlock 256)).foldl _ overlapHeld = _
    rw [overlapShadow_here]
    rfl
  rw [hwritten]
  decide +kernel

theorem reloadKh_prf (s : State) (n : Nat) : (s.reloadKh n).prf = s.prf := by
  unfold State.reloadKh
  refine List.foldlRecOn _ _ (motive := fun t : State => t.prf = s.prf) rfl fun t ht e _ => ?_
  exact List.foldlRecOn _ _ (motive := fun u : State => u.prf = s.prf) ht fun u hu f _ => hu

/-- The reload of a block, where no command waits for a key. -/
theorem exec_blockReloadDone_rd {s t : State} {n : Nat} (hheld : s.tab.reload = some n) (hempty : s.prf.entries = [])
    (hexec : exec .blockReloadDone s = .next t) (f : Field) : t.rd f = (s.reloadKh n).rd f := by
  change execBlockReloadDone s = .next t at hexec
  simp only [execBlockReloadDone, hheld] at hexec
  rw [retryKeys_of_no_entries (by rw [State.modTab, reloadKh_prf, hempty])] at hexec
  rw [← Host.Outcome.next.inj hexec]
  rfl

/-- Refutes O39: the statement speaks of every number of the shadow, also of one that is no tenant's. The registers of number 256 overlap, so a
reload leaves in TBL_KH_BASE what it wrote later to TBL_T_POL, where the clause of the reload asks for the shadow's BASE. -/
theorem not_lookupTables : ¬ Obligations.LookupTables := by
  unfold Obligations.LookupTables
  intro h
  obtain ⟨-, htables⟩ := h
  obtain ⟨-, -, -, -, -, -, -, -, -, -, -, -, -, -, hreload, -⟩ := htables overlapHeld 0 0 0
  obtain ⟨t, hexec, -, hkh, -⟩ := hreload (handleBlock 256) rfl
  have hbase := hkh 256 _ overlapShadow_here (Reg.TBL_KH_BASE_BASE 256, 2) (by decide)
  rw [exec_blockReloadDone_rd rfl rfl hexec, overlapHeld_reloadKh_base] at hbase
  exact absurd hbase (by decide)

end Sys2Proof.Proofs
end

section
/-! The Proofer's shared operations (O26, O27): what an entry's end, a token and a settled deficit do to the store (R43, R54, R59, R63). -/

namespace Sys2Proof.Proofs

open Sys2Proof Sys2Proof.Machine

theorem mem_of_entry? {s : State} {id : Nat} {e : Entry} (h : s.entry? id = some e) : e ∈ s.prf.entries :=
  List.mem_of_find?_eq_some h

theorem id_of_entry? {s : State} {id : Nat} {e : Entry} (h : s.entry? id = some e) : e.id = id := by
  simpa using List.find?_some h

theorem modEntry_entries (s : State) (id : Nat) (f : Entry → Entry) :
    (s.modEntry id f).prf.entries = s.prf.entries.map (fun e => if e.id = id then f e else e) := rfl

/-- An entry of the changed name is one of before, changed. -/
theorem exists_of_mem_modEntry {s : State} {id : Nat} {f : Entry → Entry} {x : Entry} (hx : x ∈ (s.modEntry id f).prf.entries)
    (hid : x.id = id) : ∃ y ∈ s.prf.entries, x = f y := by
  obtain ⟨y, hy, rfl⟩ := List.mem_map.mp hx
  by_cases h : y.id = id
  · exact ⟨y, hy, if_pos h⟩
  · rw [if_neg h] at hid
    exact absurd hid h

/-- A choice that goes through a list and keeps its first or a later member: what it keeps is a member, and only an empty list leaves nothing. -/
theorem foldl_choice {α : Type} {f : Option α → α → Option α} (hnone : ∀ a, f none a = some a) (hsome : ∀ b a, f (some b) a = some a ∨ f (some b) a = some b)
    (l : List α) : (l.foldl f none = none → l = []) ∧ ∀ c, l.foldl f none = some c → c ∈ l := by
  have hfrom : ∀ (l : List α) (b : α), ∃ c ∈ b :: l, l.foldl f (some b) = some c := by
    intro l
    induction l with
    | nil => exact fun b => ⟨b, List.mem_cons_self, rfl⟩
    | cons a l ih =>
      intro b
      obtain h | h := hsome b a
      · obtain ⟨c, hc, hfold⟩ := ih a
        exact ⟨c, List.mem_cons_of_mem b hc, by rw [List.foldl_cons, h, hfold]⟩
      · obtain ⟨c, hc, hfold⟩ := ih b
        refine ⟨c, ?_, by rw [List.foldl_cons, h, hfold]⟩
        obtain rfl | hc := List.mem_cons.mp hc
        · exact List.mem_cons_self
        · exact List.mem_cons_of_mem _ (List.mem_cons_of_mem _ hc)
  cases l with
  | nil => exact ⟨fun _ => rfl, fun c h => absurd h (by simp)⟩
  | cons a l =>
    obtain ⟨c, hc, hfold⟩ := hfrom l a
    rw [List.foldl_cons, hnone, hfold]
    exact ⟨fun h => absurd h (by simp), fun d h => Option.some.inj h ▸ hc⟩

/-- The settling of a deficit touches nothing but the deficits (R63). -/
theorem settleDeficit_eq (s : State) (t : Nat) : ∃ d, s.settleDeficit t = s.modPrf (fun p => { p with deficit := d }) := by
  unfold State.settleDeficit
  split
  · exact ⟨_, rfl⟩
  · exact ⟨s.prf.deficit, rfl⟩

@[simp] theorem settleDeficit_entries (s : State) (t : Nat) : (s.settleDeficit t).prf.entries = s.prf.entries := by
  obtain ⟨d, h⟩ := settleDeficit_eq s t
  rw [h]; rfl

@[simp] theorem settleDeficit_evr (s : State) (t : Nat) : (s.settleDeficit t).evr = s.evr := by
  obtain ⟨d, h⟩ := settleDeficit_eq s t
  rw [h]; rfl

@[simp] theorem settleDeficit_regs (s : State) (t : Nat) : (s.settleDeficit t).regs = s.regs := by
  obtain ⟨d, h⟩ := settleDeficit_eq s t
  rw [h]; rfl

theorem frame_settleDeficit (s : State) (t : Nat) : Frame [.prf] s (s.settleDeficit t) := by
  obtain ⟨d, h⟩ := settleDeficit_eq s t
  exact h ▸ frame_modPrf s _

/-- An entry as its end with a status and a program status leaves it (R54). -/
def endedAs (st : Status) (ps : Nat) (e : Entry) : Entry :=
  { e with phase := .ended, status := st, pstatus := ps, spilled := false, places := [], msgOpen := false
           cancelLate := e.cancelLate || (e.cancelled && decide (st ≠ .cancelled)) }

theorem endEntry_of_none {s : State} {id : Nat} (h : s.entry? id = none) (st : Status) (ps : Nat) : s.endEntry id st ps = s := by
  simp [State.endEntry, h]

theorem endEntry_entries {s : State} {id : Nat} {e : Entry} (h : s.entry? id = some e) (st : Status) (ps : Nat) :
    (s.endEntry id st ps).prf.entries = s.prf.entries.map (fun x => if x.id = id then endedAs st ps x else x) := by
  simp only [State.endEntry, h, settleDeficit_entries, modEntry_entries, endedAs]
  split <;> split <;> rfl

theorem endEntry_evr (s : State) (id : Nat) (st : Status) (ps : Nat) : (s.endEntry id st ps).evr = s.evr := by
  unfold State.endEntry
  split
  · rfl
  · simp only [settleDeficit_evr]
    split <;> split <;> rfl

/-- The end of an entry leaves the entries with other names alone. -/
theorem mem_endEntry {s : State} {id : Nat} {x : Entry} (hx : x ∈ s.prf.entries) (hne : x.id ≠ id) (st : Status) (ps : Nat) :
    x ∈ (s.endEntry id st ps).prf.entries := by
  cases h : s.entry? id with
  | none => rwa [endEntry_of_none h]
  | some e =>
    rw [endEntry_entries h]
    exact List.mem_map.mpr ⟨x, hx, if_neg hne⟩

@[simp] theorem markStop_entries (s : State) (e : Entry) (dispatched : Bool) : (s.markStop e dispatched).prf.entries = s.prf.entries := by
  simp only [State.markStop]
  split <;> rfl

/-- The later members that a stop aborts are entries of other names (R59). -/
theorem mem_abortLater {s : State} {e x : Entry} (hx : x ∈ s.prf.entries) (hle : x.id ≤ e.id) : x ∈ (s.abortLater e).prf.entries := by
  unfold State.abortLater
  refine List.foldlRecOn _ _ (motive := fun t : State => x ∈ t.prf.entries) hx fun t ht b hb => ?_
  have hlater : e.id < b.id := by
    have := (List.mem_filter.mp hb).2
    simp only [Bool.and_eq_true, decide_eq_true_eq] at this
    exact this.1.2
  split <;> exact mem_endEntry ht (by omega) _ _

/-- A command that ends stands in the store with its status, whatever its flow does (R54, R59). -/
theorem mem_finish {s : State} {id : Nat} {e : Entry} (h : s.entry? id = some e) (st : Status) (ps : Nat) :
    endedAs st ps e ∈ (s.finish id st ps).prf.entries := by
  have hend : endedAs st ps e ∈ (s.endEntry id st ps).prf.entries := by
    rw [endEntry_entries h]
    exact List.mem_map.mpr ⟨e, mem_of_entry? h, if_pos (id_of_entry? h)⟩
  simp only [State.finish, h]
  split
  · exact mem_abortLater (by rwa [markStop_entries]) (Nat.le_refl _)
  · exact hend

theorem finish_ended {s : State} {id : Nat} {e : Entry} (h : s.entry? id = some e) (st : Status) (ps : Nat) : Ended (s.finish id st ps) id st :=
  ⟨endedAs st ps e, mem_finish h st ps, id_of_entry? (e := e) h, rfl, rfl⟩

/-- A command outside every flow's sequence that ends stops no flow (R59). -/
theorem finish_of_not_member {s : State} {id : Nat} {e : Entry} (h : s.entry? id = some e) (hmember : e.member = false) (st : Status) (ps : Nat) :
    s.finish id st ps = s.endEntry id st ps := by
  simp [State.finish, h, stopsFlow, hmember]

/-- The outcome of the dispatch stage ends its entry, with one or another program status (R53, R66). -/
theorem applyDecided_ended {s : State} {id : Nat} {e : Entry} (h : s.entry? id = some e) (st : Status) : Ended (s.applyDecided e st) id st := by
  have hid := id_of_entry? h
  unfold State.applyDecided
  rw [hid]
  split <;> exact finish_ended h _ _

end Sys2Proof.Proofs
end

section
/-! Rate tokens and dispatch (O27): the refill of the buckets, the grants of a quantum and the placing of a command (R63, R65, R66, R219). -/

namespace Sys2Proof.Proofs

open Sys2Proof Sys2Proof.Machine

/-! ### The refill -/

/-- A state after changes of the registers and the Proofer that leave its entries alone. -/
def OnlyLevels (s u : State) : Prop := u.prf.entries = s.prf.entries ∧ Frame [.prf, .regs] s u

theorem OnlyLevels.refl (s : State) : OnlyLevels s s := ⟨rfl, .refl _ s⟩

theorem OnlyLevels.wr {s u : State} (h : OnlyLevels s u) (f : Field) (v : Nat) : OnlyLevels s (u.wr f v) :=
  ⟨h.1, h.2.trans ((frame_wr u f v).mono (by decide))⟩

theorem OnlyLevels.modPrf {s u : State} (h : OnlyLevels s u) {f : Proofer → Proofer} (hf : (f u.prf).entries = u.prf.entries) :
    OnlyLevels s (u.modPrf f) :=
  ⟨hf.trans h.1, h.2.trans ((frame_modPrf u f).mono (by decide))⟩

/-- The service levels of a tenant go to six fields, and its bucket is cut to BURST (R219). -/
theorem OnlyLevels.writeLevels {s u : State} (h : OnlyLevels s u) (t : Nat) (p : Bytes) : OnlyLevels s (u.writeLevels t p) :=
  OnlyLevels.modPrf ((((((h.wr _ _).wr _ _).wr _ _).wr _ _).wr _ _).wr _ _) rfl

/-- The state in which a quantum finds the levels: those set since the last one written (R219; log entry 70). -/
def levelsWritten (s : State) : State := s.prf.levels.foldl (fun (s : State) (e : Nat × Bytes) => s.writeLevels e.1 e.2) s

theorem onlyLevels_levelsWritten (s : State) : OnlyLevels s (levelsWritten s) :=
  List.foldlRecOn _ _ (motive := OnlyLevels s) (.refl s) fun _ h e _ => h.writeLevels e.1 e.2

/-- What a bucket holds after a quantum, by what it held (R63). -/
def refilled (s : State) (t level : Nat) : Nat :=
  min (s.rd (Reg.PRF_T_SHARE_BURST t) * 65536) (level + s.rd (Reg.PRF_T_RATE_RATE t))

/-- The buckets of the first `n` tenants refilled. -/
def refillBuckets (s : State) (n : Nat) : Table Nat :=
  (List.range n).foldl (fun b t => tabSet 0 b t (refilled s t (tabGet 0 b t))) s.prf.bucket

/-- Each bucket is refilled from what it held, and the others wait for theirs. -/
theorem tabGet_refillBuckets (s : State) (n t : Nat) :
    tabGet 0 (refillBuckets s n) t = if t < n then refilled s t (tabGet 0 s.prf.bucket t) else tabGet 0 s.prf.bucket t := by
  induction n with
  | zero => rfl
  | succ n ih =>
    have hstep : refillBuckets s (n + 1) = tabSet 0 (refillBuckets s n) n (refilled s n (tabGet 0 (refillBuckets s n) n)) := by
      simp only [refillBuckets, List.range_succ, List.foldl_append, List.foldl_cons, List.foldl_nil]
    rw [hstep, tabGet_set]
    by_cases htn : t = n
    · subst htn
      rw [if_pos rfl, ih, if_neg (Nat.lt_irrefl t), if_pos (Nat.lt_succ_self t)]
    · rw [if_neg htn, ih]
      simp only [show t < n + 1 ↔ t < n by omega]

/-- The state after a quantum, by the one in which the levels are written. -/
def quantum (w : State) : State := w.modPrf (fun p => { p with bucket := refillBuckets w 64, levels := [] })

/-- One bucket refilled, in the state at hand. -/
def refillOne (s : State) (t : Nat) : State :=
  s.modPrf (fun p => { p with bucket := tabSet 0 p.bucket t (refilled s t (tabGet 0 s.prf.bucket t)) })

/-- The state with other buckets. -/
def withBuckets (w : State) (b : Table Nat) : State := w.modPrf (fun p => { p with bucket := b })

theorem withBuckets_self (w : State) : withBuckets w w.prf.bucket = w := rfl

/-- The buckets refilled one after another: a refill reads no other tenant's bucket. -/
theorem foldl_refillOne (w : State) (n : Nat) : (List.range n).foldl refillOne w = withBuckets w (refillBuckets w n) := by
  have hhom := List.foldl_hom (withBuckets w) (g₁ := fun b t => tabSet 0 b t (refilled w t (tabGet 0 b t))) (g₂ := refillOne)
    (l := List.range n) (init := w.prf.bucket) (fun _ _ => rfl)
  rw [withBuckets_self] at hhom
  exact hhom

theorem exec_tokenRefill (s : State) : exec .tokenRefill s = .next (quantum (levelsWritten s)) :=
  congrArg Host.Outcome.next (foldl_refillOne ((levelsWritten s).modPrf (fun p => { p with levels := [] })) 64)

/-! ### Grants -/

/-- Every entry of a name has its TOKEN. -/
def HasToken (id : Nat) (s : State) : Prop := ∀ x ∈ s.prf.entries, x.id = id → x.token = true

theorem giveToken_entries (s : State) (id : Nat) :
    (s.giveToken id).prf.entries = s.prf.entries.map (fun e => if e.id = id then { e with token := true, tokenAt := s.prf.nextToken } else e) := rfl

theorem hasToken_giveToken (s : State) (id : Nat) : HasToken id (s.giveToken id) := by
  intro x hx hid
  obtain ⟨y, -, rfl⟩ := exists_of_mem_modEntry (s := s) hx hid
  rfl

/-- A token once given stays while others are given. -/
theorem HasToken.giveToken {id : Nat} {s : State} (h : HasToken id s) (other : Nat) : HasToken id (s.giveToken other) := by
  intro x hx hid
  obtain ⟨y, hy, rfl⟩ := List.mem_map.mp (giveToken_entries s other ▸ hx)
  split
  · rfl
  · rename_i hne
    rw [if_neg hne] at hid
    exact h y hy hid

theorem HasToken.of_entries {id : Nat} {s u : State} (h : HasToken id s) (hentries : u.prf.entries = s.prf.entries) : HasToken id u := by
  unfold HasToken
  rwa [hentries]

theorem frame_giveToken (s : State) (id : Nat) : Frame [.prf] s (s.giveToken id) := (frame_modPrf s _).trans (frame_modPrf _ _)

/-- A grant that charges a tenant, by its bucket or by its deficit, and settles what is left (R63). -/
def grant (s : State) (t id : Nat) (charge : Proofer → Proofer) : State := ((s.giveToken id).modPrf charge).settleDeficit t

section
variable {charge : Proofer → Proofer} (hcharge : ∀ p, (charge p).entries = p.entries)
include hcharge

theorem hasToken_grant (s : State) (t id : Nat) : HasToken id (grant s t id charge) :=
  (hasToken_giveToken s id).of_entries (by simp [grant, State.modPrf, hcharge])

theorem HasToken.grant {id : Nat} {s : State} (h : HasToken id s) (t other : Nat) : HasToken id (grant s t other charge) :=
  (h.giveToken other).of_entries (by simp [Proofs.grant, State.modPrf, hcharge])

end

theorem frame_grant (s : State) (t id : Nat) (charge : Proofer → Proofer) : Frame [.prf] s (grant s t id charge) :=
  ((frame_giveToken s id).trans (frame_modPrf _ _)).trans (frame_settleDeficit _ _)

theorem grant_bucket (s : State) (t id : Nat) (charge : Proofer → Proofer) :
    (grant s t id charge).prf.bucket = (charge (s.giveToken id).prf).bucket := by
  obtain ⟨d, h⟩ := settleDeficit_eq ((s.giveToken id).modPrf charge) t
  rw [grant, h]; rfl

theorem grant_lastVisit (s : State) (t id : Nat) (charge : Proofer → Proofer) :
    (grant s t id charge).prf.lastVisit = (charge (s.giveToken id).prf).lastVisit := by
  obtain ⟨d, h⟩ := settleDeficit_eq ((s.giveToken id).modPrf charge) t
  rw [grant, h]; rfl

/-- The charge of a surplus grant: one of the deficit (R63). -/
def surplusCharge (t : Nat) (p : Proofer) : Proofer := { p with deficit := tabMod 0 p.deficit t (· - 1) }
/-- The charge of a guaranteed grant: a part `n` of the bucket (R63). -/
def bucketCharge (t n : Nat) (p : Proofer) : Proofer := { p with bucket := tabMod 0 p.bucket t (· - n) }

theorem surplusCharge_entries (t : Nat) (p : Proofer) : (surplusCharge t p).entries = p.entries := rfl
theorem bucketCharge_entries (t n : Nat) (p : Proofer) : (bucketCharge t n p).entries = p.entries := rfl

/-- A visit makes a grant while the deficit and the surplus row allow one. -/
theorem surplusVisit_succ {s : State} {t : Nat} {e : Entry} (hdeficit : 1 ≤ tabGet 0 s.prf.deficit t) (hrow : s.surplusRow t = true)
    (hhead : s.headEntry t = some e) (fuel : Nat) :
    State.surplusVisit t (fuel + 1) s = State.surplusVisit t fuel (grant s t e.id (surplusCharge t)) := by
  rw [State.surplusVisit, if_pos ⟨hdeficit, hrow⟩, hhead]
  rfl

/-- What every surplus grant keeps, a visit keeps. -/
theorem surplusVisit_keeps {P : State → Prop} {t : Nat} (hgrant : ∀ s id, P s → P (grant s t id (surplusCharge t))) :
    ∀ (fuel : Nat) {s : State}, P s → P (State.surplusVisit t fuel s)
  | 0, _, h => h
  | fuel + 1, s, h => by
    rw [State.surplusVisit]
    split
    · split
      · exact h
      · exact surplusVisit_keeps hgrant fuel (hgrant _ _ h)
    · exact h

/-- The state in which a surplus visit begins: WEIGHT added to the deficit (R63). -/
def visitStart (s : State) (t : Nat) : State :=
  s.modPrf (fun p => { p with deficit := tabMod 0 p.deficit t (· + s.rd (Reg.PRF_T_SHARE_WEIGHT t)), lastVisit := t })

theorem visitStart_headEntry (s : State) (t : Nat) : (visitStart s t).headEntry t = s.headEntry t := rfl
theorem visitStart_surplusRow (s : State) (t : Nat) : (visitStart s t).surplusRow t = s.surplusRow t := rfl

theorem weight_pos_of_surplusRow {s : State} {t : Nat} (h : s.surplusRow t = true) : 1 ≤ s.rd (Reg.PRF_T_SHARE_WEIGHT t) := by
  simp only [State.surplusRow, Bool.and_eq_true, decide_eq_true_eq] at h
  exact Nat.one_le_iff_ne_zero.mpr h.1.1.2

theorem surplusRow_of_nextSurplus {s : State} {t : Nat} (h : s.nextSurplus = some t) : s.surplusRow t = true := List.find?_some h

/-- A tenant's head entry is an entry of the store (R63). -/
theorem mem_of_headEntry {s : State} {t : Nat} {e : Entry} (h : s.headEntry t = some e) : e ∈ s.prf.entries := by
  refine (List.mem_filter.mp ((foldl_choice (fun _ => rfl) (fun b a => ?_) _).2 e h)).1
  dsimp only
  split
  · exact .inl rfl
  · exact .inr rfl

theorem exec_tokenGrant_bucket {s : State} {t : Fin 64} {e : Entry} (hhead : s.headEntry t = some e) (hbucket : 65536 ≤ tabGet 0 s.prf.bucket t) :
    exec (.tokenGrant t) s = .next (grant s t e.id (bucketCharge t 65536)) := by
  show execTokenGrant t s = _
  rw [execTokenGrant, hhead]
  exact if_pos hbucket

theorem exec_tokenGrant_surplus {s : State} {t : Fin 64} {e : Entry} (hhead : s.headEntry t = some e) (hbucket : tabGet 0 s.prf.bucket t < 65536)
    (hnext : s.nextSurplus = some t.val) :
    exec (.tokenGrant t) s = .next (State.surplusVisit t s.prf.entries.length (visitStart s t)) := by
  show execTokenGrant t s = _
  rw [execTokenGrant, hhead]
  exact (if_neg (Nat.not_le.mpr hbucket)).trans (if_pos hnext)

theorem exec_tokenGrant_none {s : State} {t : Fin 64} (hhead : s.headEntry t = none) :
    exec (.tokenGrant t) s = .next (s.modPrf (fun p => { p with deficit := tabSet 0 p.deficit t 0 })) := by
  show execTokenGrant t s = _
  rw [execTokenGrant, hhead]

/-- A surplus visit grants the head entry, remembers its tenant and touches nothing but the Proofer (R63). -/
theorem surplusVisit_of_nextSurplus {s : State} {t : Nat} {e : Entry} (hhead : s.headEntry t = some e) (hnext : s.nextSurplus = some t) :
    let u := State.surplusVisit t s.prf.entries.length (visitStart s t)
    u.prf.lastVisit = t ∧ HasToken e.id u ∧ Frame [.prf] s u := by
  have hrow := surplusRow_of_nextSurplus hnext
  have hdeficit : 1 ≤ tabGet 0 (visitStart s t).prf.deficit t := by
    have hweight := weight_pos_of_surplusRow hrow
    simp only [visitStart, State.modPrf_prf, tabGet_mod_same]
    omega
  obtain ⟨fuel, hfuel⟩ := Nat.exists_eq_add_one_of_ne_zero (Nat.ne_of_gt (List.length_pos_of_mem (mem_of_headEntry hhead)))
  rw [hfuel, surplusVisit_succ hdeficit ((visitStart_surplusRow s t).trans hrow) ((visitStart_headEntry s t).trans hhead)]
  refine surplusVisit_keeps (P := fun u => u.prf.lastVisit = t ∧ HasToken e.id u ∧ Frame [.prf] s u) (fun v id hv => ?_) fuel ?_
  · obtain ⟨hvisit, htoken, hframe⟩ := hv
    exact ⟨(grant_lastVisit _ _ _ _).trans hvisit, htoken.grant (surplusCharge_entries t) t id, hframe.trans (frame_grant _ _ _ _)⟩
  · exact ⟨grant_lastVisit _ _ _ _, hasToken_grant (surplusCharge_entries t) _ t e.id, (frame_modPrf s _).trans (frame_grant _ _ _ _)⟩

/-! ### Dispatch -/

/-- The histogram of the waits has 16 bins (PRF_T_WAITH). -/
theorem waitBin_le (quanta : Nat) : waitBin quanta ≤ 15 := by
  unfold waitBin
  split <;> omega

/-- The count of a wait and the count of the commands of a core have different places. -/
theorem coreRun_key_ne_wait {c t : Nat} (ht : t < 64) (quanta : Nat) :
    (Reg.PRF_CORE_RUN_COUNT c).key ≠ (Reg.PRF_T_WAITH_COUNT t (waitBin quanta)).key := by
  have hbin := waitBin_le quanta
  simp only [Field.key, Reg.PRF_CORE_RUN_COUNT, Reg.PRF_T_WAITH_COUNT]
  omega

/-- A command placed on a core: staged there with the copy of its terminal context, the core noted for its flow (R65, R250). -/
def placed (s : State) (e : Entry) (c : Nat) : State :=
  (s.modEntry e.id (fun x => { x with phase := .staged c, term := s.termLoad x })).modFlow e.tenant e.flow (fun f => { f with lastCore := some c })

/-- A command placed and counted: on its core, and in the histogram of its tenant's waits. -/
def placedCounted (s : State) (e : Entry) (c : Nat) : State :=
  ((placed s e c).inc (Reg.PRF_CORE_RUN_COUNT c)).satInc (Reg.PRF_T_WAITH_COUNT e.tenant (waitBin ((s.now - e.created) / 256)))

theorem exec_dispatch_decided {s : State} {id : Nat} {e : Entry} (h : s.entry? id = some e) (hstore : e.inStore = true) {st : Status}
    (hdecided : s.decided e = some st) : exec (.dispatch id) s = .next (s.applyDecided e st) := by
  show execDispatch id s = _
  simp [execDispatch, h, hstore, hdecided]

theorem exec_dispatch_stays {s : State} {id : Nat} {e : Entry} (h : s.entry? id = some e) (hstore : e.inStore = true)
    (hdecided : s.decided e = none) (hmay : s.mayDispatch e = false) : exec (.dispatch id) s = .next s := by
  show execDispatch id s = _
  simp [execDispatch, h, hstore, hdecided, hmay]

theorem exec_dispatch_placed {s : State} {id : Nat} {e : Entry} (h : s.entry? id = some e) (hstore : e.inStore = true)
    (hdecided : s.decided e = none) (hmay : s.mayDispatch e = true) {c : Nat} (hcore : s.coreChoice e = some c) :
    exec (.dispatch id) s = .next (placedCounted s e c) := by
  show execDispatch id s = _
  simp [execDispatch, h, hstore, hdecided, hmay, hcore, placedCounted, placed, id_of_entry? h]

theorem frame_placedCounted (s : State) (e : Entry) (c : Nat) : Frame [.prf, .regs] s (placedCounted s e c) := by
  have hprf (u : State) (f : Proofer → Proofer) : Frame [.prf, .regs] u (u.modPrf f) := (frame_modPrf u f).mono (by decide)
  have hregs (u : State) (f : Field) (v : Nat) : Frame [.prf, .regs] u (u.wr f v) := (frame_wr u f v).mono (by decide)
  exact (((hprf s _).trans (hprf _ _)).trans (hregs _ _ _)).trans (hregs _ _ _)

theorem placedCounted_entries (s : State) (e : Entry) (c : Nat) :
    (placedCounted s e c).prf.entries =
      s.prf.entries.map (fun x => if x.id = e.id then { x with phase := .staged c, term := s.termLoad x } else x) := rfl

theorem placedCounted_lastCore (s : State) (e : Entry) (c : Nat) : ((placedCounted s e c).flow e.tenant e.flow).lastCore = some c := by
  have hflow : (placedCounted s e c).flow e.tenant e.flow = (placed s e c).flow e.tenant e.flow := rfl
  rw [hflow]
  simp only [State.flow, placed, State.modFlow, State.modPrf_prf, tabGet_mod_same]

theorem placedCounted_coreRun (s : State) {e : Entry} (c : Nat) (ht : e.tenant < 64) :
    (placedCounted s e c).rd (Reg.PRF_CORE_RUN_COUNT c) = (s.rd (Reg.PRF_CORE_RUN_COUNT c) + 1) % 2 ^ (Reg.PRF_CORE_RUN_COUNT c).width := by
  refine (State.rd_wr_other _ _ (coreRun_key_ne_wait ht _)).trans ?_
  exact State.rd_wr_same _ _ _

/-- Settles O27: the refill bucket by bucket, the grants by the tenant's head entry, and the dispatch by what the stage decides. -/
theorem tokensAndDispatch : Obligations.TokensAndDispatch := by
  unfold Obligations.TokensAndDispatch
  refine ⟨⟨fun s => ?refill, fun s t => ⟨fun e hhead hbucket => ?guaranteed, fun e hhead hbucket hnext => ?surplus, fun hhead => ?noHead⟩⟩,
    fun s id e h hstore => ⟨fun st hdecided => ?decided, fun hdecided hmay => ?stays, fun c hdecided hmay hcore _ htenant => ?placed⟩⟩
  case refill =>
    have honly := onlyLevels_levelsWritten s
    rw [exec_tokenRefill]
    refine ⟨quantum (levelsWritten s), rfl, fun t ht => ?_, rfl, rfl, honly.1, honly.2.trans ((frame_modPrf _ _).mono (by decide))⟩
    exact (tabGet_refillBuckets _ 64 t).trans (if_pos ht)
  case guaranteed =>
    refine ⟨_, exec_tokenGrant_bucket hhead hbucket, ?_, hasToken_grant (bucketCharge_entries t _) s t e.id, frame_grant _ _ _ _⟩
    rw [grant_bucket, bucketCharge, tabGet_mod_same]
    rfl
  case surplus => exact ⟨_, exec_tokenGrant_surplus hhead hbucket hnext, surplusVisit_of_nextSurplus hhead hnext⟩
  case noHead => exact ⟨_, exec_tokenGrant_none hhead, by rw [State.modPrf_prf, tabGet_set_same], frame_modPrf s _⟩
  case decided => exact ⟨_, exec_dispatch_decided h hstore hdecided, applyDecided_ended h st⟩
  case stays => exact exec_dispatch_stays h hstore hdecided hmay
  case placed =>
    refine ⟨_, exec_dispatch_placed h hstore hdecided hmay hcore, ⟨{ e with phase := .staged c, term := s.termLoad e }, ?_, id_of_entry? (e := e) h, rfl, rfl⟩,
      placedCounted_lastCore s e c, frame_placedCounted s e c, placedCounted_coreRun s c htenant⟩
    rw [placedCounted_entries]
    exact List.mem_map.mpr ⟨e, mem_of_entry? h, if_pos rfl⟩

end Sys2Proof.Proofs
end

section
/-! Spilling (O26): the on-chip entries through the writes of the sealed store, and the end of spilling (R70, R265, R278). -/

namespace Sys2Proof.Proofs

open Sys2Proof Sys2Proof.Machine

/-! ### Operations of the store and of the ports leave the Proofer alone -/

@[simp] theorem storeFatal_prf (s : State) (cause : Nat) : (s.storeFatal cause).prf = s.prf := rfl

@[simp] theorem mpuReport_prf (s : State) (m : Nat) (x : MpuAccess) (f : MpuFault) : (s.mpuReport m x f).prf = s.prf := by
  unfold State.mpuReport
  extract_lets ten s1
  have h1 : s1.prf = s.prf := by simp only [s1, apply_ite State.prf, State.wr_prf, ite_self]
  exact h1

@[simp] theorem enqueue_prf (s : State) (n : Nat) (g : Group) (k : Pkt) : (s.enqueue n g k).prf = s.prf := by
  unfold State.enqueue
  split <;> rfl

/-- A fold of steps that keep the Proofer keeps it. -/
theorem foldl_prf {α : Type} {f : State → α → State} (hf : ∀ s a, (f s a).prf = s.prf) (l : List α) (s : State) :
    (l.foldl f s).prf = s.prf :=
  List.foldlRecOn l f (motive := fun t : State => t.prf = s.prf) rfl fun t ht a _ => (hf t a).trans ht

@[simp] theorem hostWrite_prf (s : State) (n : Nat) (g : Group) (ro : Bool) (addr : Nat) (data : Bytes) (o : Owner) :
    (s.hostWrite n g ro addr data o).prf = s.prf := by
  simp only [State.hostWrite, State.mkPkt]
  exact foldl_prf (fun u _ => enqueue_prf (u.modHost _) n g _) _ _

@[simp] theorem hostRead_prf (s : State) (n : Nat) (g : Group) (addr len : Nat) (o : Owner) (u : ReadFor) :
    (s.hostRead n g addr len o u).prf = s.prf := enqueue_prf _ n g _

@[simp] theorem storeDo_prf (s : State) (op : StoreOp) : (s.storeDo op).prf = s.prf := by
  cases op with
  | write off b => exact hostWrite_prf _ _ _ _ _ _ _
  | ask num p =>
    simp only [State.storeDo]
    split
    · rfl
    · exact hostRead_prf _ _ _ _ _ _ _

@[simp] theorem storeWrite_prf (s : State) (l i off : Nat) (b : Bytes) : (s.storeWrite l i off b).prf = s.prf := by
  unfold State.storeWrite
  dsimp only
  split
  · exact storeDo_prf _ _
  · rfl

@[simp] theorem askPart_prf (s : State) (num line : Nat) (p : StorePart) : (s.askPart num line p).prf = s.prf := by
  unfold State.askPart
  dsimp only
  split
  · simp
  · split
    · exact storeDo_prf _ _
    · rfl

@[simp] theorem beginRead_prf (s : State) (i : Nat) (parts : List StorePart) : (s.beginRead i parts).2.prf = s.prf :=
  foldl_prf (fun _ _ => askPart_prf _ _ _ _) _ _

@[simp] theorem askWant_prf (s : State) (q : Want) : (s.askWant q).prf = s.prf := by
  unfold State.askWant
  split
  · rfl
  · dsimp only
    rw [State.modStore_prf, beginRead_prf]
    split <;> rfl

/-- The wait for lines, whether it is over or not, leaves the Proofer alone (R265). -/
@[simp] theorem wantLines_prf (s : State) (l : List Want) : (s.wantLines l).2.prf = s.prf := by
  unfold State.wantLines
  split
  · rfl
  · exact foldl_prf askWant_prf _ _

/-! ### Writes of the store keep the entries on chip -/

/-- The entries on chip, in their order. -/
def onChipEntries (s : State) : List Entry := s.prf.entries.filter (fun e => !e.spilled)

/-- A state whose entries on chip are those of another. -/
def KeepsOnChip (s t : State) : Prop := onChipEntries t = onChipEntries s

theorem KeepsOnChip.of_prf {s t : State} (h : t.prf = s.prf) : KeepsOnChip s t := by
  unfold KeepsOnChip onChipEntries
  rw [h]

theorem KeepsOnChip.refl (s : State) : KeepsOnChip s s := rfl

theorem KeepsOnChip.trans {s t u : State} (h : KeepsOnChip s t) (k : KeepsOnChip t u) : KeepsOnChip s u := Eq.trans k h

theorem foldl_keepsOnChip {α : Type} {f : State → α → State} (hf : ∀ s a, KeepsOnChip s (f s a)) (l : List α) (s : State) :
    KeepsOnChip s (l.foldl f s) :=
  List.foldlRecOn l f (motive := KeepsOnChip s) (.refl s) fun t ht a _ => ht.trans (hf t a)

/-- What a poisoned item takes from the Proofer is spilled (R278). -/
theorem keepsOnChip_loseProofer (s : State) (l i : Nat) : KeepsOnChip s (s.loseProofer l i) := by
  show (s.prf.entries.filter (fun e => !s.spilledIn l i e)).filter (fun e => !e.spilled) = s.prf.entries.filter (fun e => !e.spilled)
  rw [List.filter_filter]
  refine List.filter_congr fun e _ => ?_
  cases hspilled : e.spilled <;> simp [State.spilledIn, hspilled]

theorem keepsOnChip_poisonItem (s : State) (l i : Nat) : KeepsOnChip s (s.poisonItem l i) := by
  unfold State.poisonItem
  split
  · exact .refl s
  · extract_lets full recent s1 s2 s3 s4
    have h3 : s3.prf = s.prf := by
      simp only [s3]
      split <;> rfl
    have h4 : s4.prf = s.prf := by
      simp only [s4]
      split <;> simp [h3]
    split
    · exact (KeepsOnChip.of_prf h4).trans ((keepsOnChip_loseProofer s4 l i).trans (.of_prf (storeFatal_prf _ _)))
    · exact .of_prf h4

theorem keepsOnChip_report_poison (s : State) (m l i : Nat) (x : MpuAccess) (f : MpuFault) :
    KeepsOnChip s ((s.mpuReport m x f).poisonItem l i) :=
  (KeepsOnChip.of_prf (mpuReport_prf s m x f)).trans (keepsOnChip_poisonItem _ l i)

theorem keepsOnChip_writeNode (s : State) (p : Nat) : KeepsOnChip s (s.writeNode p) := by
  rcases hnode : nodeAt s.store.n p with ⟨k, j⟩
  simp -zeta only [State.writeNode, hnode]
  extract_lets parent top s0 s1 s2
  have h0 : s0.prf = s.prf := by
    simp only [s0]
    split <;> rfl
  have h2 : s2.prf = s.prf := by
    rw [← h0]
    simp only [s2]
    split <;> rfl
  split
  · exact .of_prf h0
  · split
    · exact .of_prf ((storeWrite_prf _ _ _ _ _).trans h2)
    · exact (KeepsOnChip.of_prf h2).trans (keepsOnChip_report_poison _ _ _ _ _ _)

theorem keepsOnChip_trimCache : ∀ (fuel : Nat) (s : State), KeepsOnChip s (State.trimCache fuel s)
  | 0, s => .refl s
  | fuel + 1, s => by
    rw [State.trimCache]
    split
    · exact .refl s
    · split
      · exact .refl s
      · refine KeepsOnChip.trans ?_ (keepsOnChip_trimCache fuel _)
        refine KeepsOnChip.trans ?_ (.of_prf (State.modStore_prf _ _))
        split
        · exact keepsOnChip_writeNode s _
        · exact .refl s

theorem keepsOnChip_putLine (s : State) (i g v : Nat) (data : Bytes) : KeepsOnChip s (s.putLine i g v data) := by
  unfold State.putLine
  dsimp only
  split
  · exact .of_prf (by simp)
  · exact keepsOnChip_report_poison _ _ _ _ _ _
  · exact keepsOnChip_report_poison _ _ _ _ _ _

theorem keepsOnChip_moveBlock (s : State) (j g : Nat) : KeepsOnChip s (s.moveBlock j g) := by
  unfold State.moveBlock
  refine KeepsOnChip.trans (foldl_keepsOnChip (fun u c => ?_) _ s) (.of_prf (State.modStore_prf _ _))
  dsimp only
  split
  · exact .refl u
  · split
    · exact .of_prf (State.modStore_prf _ _)
    · exact (KeepsOnChip.of_prf (State.modStore_prf _ _)).trans (keepsOnChip_putLine _ _ _ _ _)

/-- A line written: what fails on its way costs the Proofer nothing that is on chip (R278). -/
theorem keepsOnChip_lineWrite (s : State) (i : Nat) (data : Bytes) : KeepsOnChip s (s.lineWrite i data).2 := by
  unfold State.lineWrite
  split
  · exact .refl s
  · extract_lets j top s0 s1 v s2
    have h0 : KeepsOnChip s s0 := .of_prf (by simp only [s0]; split <;> rfl)
    have h1 : KeepsOnChip s0 s1 := by
      simp only [s1]
      split
      · exact keepsOnChip_moveBlock _ _ _
      · exact .refl _
    have h2 : KeepsOnChip s1 s2 := .of_prf (State.modStore_prf _ _)
    exact ((h0.trans h1).trans h2).trans ((keepsOnChip_putLine _ _ _ _ _).trans (keepsOnChip_trimCache _ _))

theorem keepsOnChip_writeSpilled (s : State) (ids : List Nat) : KeepsOnChip s (s.writeSpilled ids) :=
  foldl_keepsOnChip (fun _ _ => keepsOnChip_lineWrite _ _ _) _ _

/-! ### The end of spilling -/

/-- What spilling takes first is a member, and it takes something while there is one (R70). -/
theorem spillFirst_spec (l : List Entry) : (spillFirst l = none → l = []) ∧ ∀ e, spillFirst l = some e → e ∈ l := by
  refine foldl_choice (fun _ => rfl) (fun b a => ?_) l
  dsimp only
  split
  · exact .inl rfl
  · exact .inr rfl

/-- The waiting entries on chip: what spilling can take. -/
def spillable (s : State) : List Entry := s.prf.entries.filter (fun e => e.inStore && !e.spilled)

/-- An entry as its spilling leaves it, at its places (R70). -/
def spilledAt (places : List Nat) (e : Entry) : Entry :=
  { e with spilled := true, places := places, keys := e.handles.all (·.isNone), tctxOk := !e.tctx }

theorem spillEntry_entries (s : State) (e : Entry) :
    (s.spillEntry e).prf.entries = s.prf.entries.map (fun x => if x.id = e.id then spilledAt (s.freePlaces e.cells) x else x) :=
  settleDeficit_entries _ _

theorem spillEntry_rd (s : State) (e : Entry) {f : Field} (hf : f.key ≠ (Reg.PRF_CNT_COUNT 7).key) : (s.spillEntry e).rd f = s.rd f := by
  show regGet (s.spillEntry e).regs f = _
  rw [State.spillEntry, settleDeficit_regs]
  exact State.rd_wr_other _ _ hf

/-- An entry spilled cannot be spilled again. -/
theorem spillable_spillEntry_lt {s : State} {e : Entry} (he : e ∈ spillable s) : (spillable (s.spillEntry e)).length < (spillable s).length := by
  have hkept : spillable (s.spillEntry e) = (spillable s).filter (fun x => decide (x.id ≠ e.id)) := by
    unfold spillable
    rw [spillEntry_entries]
    have hcan (x : Entry) : ((if x.id = e.id then spilledAt (s.freePlaces e.cells) x else x).inStore &&
        !(if x.id = e.id then spilledAt (s.freePlaces e.cells) x else x).spilled) = (decide (x.id ≠ e.id) && (x.inStore && !x.spilled)) := by
      by_cases hx : x.id = e.id <;> simp [hx, spilledAt]
    simp only [List.filter_map, List.filter_filter, Function.comp_def, hcan]
    refine (List.map_congr_left fun x hx => ?_).trans (List.map_id _)
    simp only [List.mem_filter, Bool.and_eq_true, decide_eq_true_eq] at hx
    exact if_neg hx.2.1
  rw [hkept]
  exact List.length_filter_lt_length_iff_exists.mpr ⟨e, he, by simp⟩

/-- Why spilling ends: occupancy is at LOW, nothing waits on chip, or the area has no room for an entry that waits (R70). -/
def SpillingOver (low : Nat) (s : State) : Prop :=
  s.onChip ≤ low ∨ (∀ e ∈ s.prf.entries, e.inStore = true → e.spilled = true) ∨
    ∃ e ∈ s.prf.entries, e.inStore = true ∧ e.spilled = false ∧ s.spillRoom < e.cells

theorem SpillingOver.of_spillable_nil {s : State} (h : spillable s = []) (low : Nat) : SpillingOver low s := by
  refine .inr (.inl fun e he hstore => ?_)
  have := List.filter_eq_nil_iff.mp h e he
  simpa [hstore] using this

/-- The area found full: noted once in SPILL_FULL and recorded, with no other effect on the room (R70, R73). -/
theorem spillRoom_full (s : State) : ((s.wr Reg.PRF_STAT_SPILL_FULL 1).emit .spillAreaFull none (Config.blockSource 0) s.spilledCells
    (s.rd Reg.PRF_SPILL_AREA_LINES) 0).spillRoom = s.spillRoom := by
  have hlines : (s.wr Reg.PRF_STAT_SPILL_FULL 1).rd Reg.PRF_SPILL_AREA_LINES = s.rd Reg.PRF_SPILL_AREA_LINES :=
    State.rd_wr_other s _ (by decide)
  unfold State.spillRoom
  rw [State.emit_rd, hlines]
  rfl

/-- With a step for each entry that can be spilled, spilling ends for one of its three reasons. -/
theorem spillSome_over {low : Nat} : ∀ (fuel : Nat) (s : State), s.rd Reg.PRF_SPILL_CFG_LOW = low → (spillable s).length ≤ fuel →
    SpillingOver low (State.spillSome fuel s)
  | 0, s, _, hfuel => .of_spillable_nil (List.eq_nil_of_length_eq_zero (Nat.le_zero.mp hfuel)) low
  | fuel + 1, s, hlow, hfuel => by
    rw [State.spillSome]
    split
    case isTrue hle => exact .inl (hlow ▸ hle)
    case isFalse =>
      obtain ⟨hnone, hsome⟩ := spillFirst_spec (spillable s)
      split
      case h_1 hfirst => exact .of_spillable_nil (hnone hfirst) low
      case h_2 e hfirst =>
        have he := hsome e hfirst
        obtain ⟨hmem, hwaits⟩ := List.mem_filter.mp he
        simp only [Bool.and_eq_true, Bool.not_eq_true'] at hwaits
        split
        case isTrue hroom =>
          split
          · exact .inr (.inr ⟨e, hmem, hwaits.1, hwaits.2, hroom⟩)
          · exact .inr (.inr ⟨e, hmem, hwaits.1, hwaits.2, by rw [spillRoom_full]; exact hroom⟩)
        case isFalse =>
          have hlt := spillable_spillEntry_lt he
          exact spillSome_over fuel _ ((spillEntry_rd s e (by decide)).trans hlow) (by omega)

end Sys2Proof.Proofs
end

section
/-! Timed outcomes, clears and drains (O26): the Proofer's clock rows, SPILL, HCLR and the drain requests (R53, R60, R61, R66, R70, R463). -/

namespace Sys2Proof.Proofs

open Sys2Proof Sys2Proof.Machine

/-! ### Times -/

theorem exec_notBeforeReached {s : State} {id : Nat} {e : Entry} (h : s.entry? id = some e) (hstore : e.inStore = true) (hnow : e.notBefore ≤ s.now) :
    exec (.notBeforeReached id) s = .next (s.modEntry id (fun x => { x with time := true })) := by
  show execNotBeforeReached id s = _
  simp [execNotBeforeReached, h, hstore, hnow]

theorem decided_deadlineMissed {s : State} {e : Entry} (hset : e.deadline ≠ 0) (hnow : e.deadline ≤ s.now)
    (hreset : s.tenantResetting e.tenant = false) (hcancel : e.cancelled = false) : s.decided e = some .deadlineMissed := by
  simp [State.decided, hreset, hcancel, hset, hnow]

theorem exec_deadlineReached {s : State} {id : Nat} {e : Entry} (h : s.entry? id = some e) (hstore : e.inStore = true)
    (hset : e.deadline ≠ 0) (hnow : e.deadline ≤ s.now) {st : Status} (hdecided : s.decided e = some st) :
    exec (.deadlineReached id) s = .next (s.applyDecided e st) := by
  show execDeadlineReached id s = _
  simp [execDeadlineReached, h, hstore, hset, hnow, hdecided]

/-- The operand time-out as the statement has it: KEYS and TCTX from the start of their resolution, SEGS and RAND from the entry (R53). -/
theorem operandsLate_iff (s : State) (e : Entry) :
    s.operandsLate e = true ↔ ((e.keys = false ∨ e.tctxOk = false) ∧ e.spilled = false ∧ e.opStart + s.opTimeout ≤ s.now) ∨
      ((e.segsOk = false ∨ s.randOk e = false) ∧ e.created + s.opTimeout ≤ s.now) := by
  simp [State.operandsLate, and_assoc]

/-- The state once the time-out of a command is noted. -/
def noteTimeOut (s : State) (id : Nat) : State := s.modEntry id (fun x => { x with timedOut := true })
/-- An entry whose time-out is noted. -/
def timedOutEntry (e : Entry) : Entry := { e with timedOut := true }

theorem entry?_noteTimeOut {s : State} {id : Nat} {e : Entry} (h : s.entry? id = some e) :
    (noteTimeOut s id).entry? id = some (timedOutEntry e) := by
  show (s.prf.entries.map _).find? _ = _
  have hid : ((fun x : Entry => x.id == id) ∘ fun x => if x.id = id then timedOutEntry x else x) = fun x => x.id == id := by
    funext x
    by_cases hx : x.id = id <;> simp [hx, timedOutEntry]
  rw [List.find?_map]
  refine (congrArg (fun p => (s.prf.entries.find? p).map _) hid).trans ?_
  show (s.entry? id).map _ = _
  rw [h]
  exact congrArg some (if_pos (id_of_entry? h))

/-- The time-out noted changes no condition of a command outside every sequence (R52). -/
theorem readyMask_noteTimeOut {s : State} {e : Entry} (id : Nat) (hmember : e.member = false) :
    (noteTimeOut s id).readyMask (timedOutEntry e) = s.readyMask e := by
  have hfence : (noteTimeOut s id).fenceOk (timedOutEntry e) = s.fenceOk e := by
    show (s.prf.entries.map _).all _ = _
    rw [List.all_map]
    refine congrArg s.prf.entries.all (funext fun x => ?_)
    by_cases hx : x.id = id <;> simp [hx, timedOutEntry]
  have hmember' : (timedOutEntry e).member = false := hmember
  simp only [State.readyMask, hfence, hmember, hmember', Bool.not_false, Bool.true_or]
  rfl

/-- The outcome of a time-out (R53). -/
def lateStatus (s : State) (e : Entry) : Status := if s.randOk e then .operandTimeout else .entropyUnavailable

theorem decided_noteTimeOut {s : State} {e : Entry} (id : Nat) (hreset : s.tenantResetting e.tenant = false) (hcancel : e.cancelled = false)
    (hdeadline : e.deadline = 0) (hmember : e.member = false) :
    (noteTimeOut s id).decided (timedOutEntry e) = some (lateStatus s e) := by
  have hstop : (noteTimeOut s id).stoppedFor (timedOutEntry e) = false := by
    have hmember' : (timedOutEntry e).member = false := hmember
    simp [State.stoppedFor, hmember']
  have hreset' : (noteTimeOut s id).tenantResetting (timedOutEntry e).tenant = false := hreset
  have hcancel' : (timedOutEntry e).cancelled = false := hcancel
  have hdeadline' : (timedOutEntry e).deadline = 0 := hdeadline
  simp only [State.decided, hstop, hreset', hcancel', hdeadline']
  rfl

/-- The state after a time-out: the command ended with the bits that it misses, and OPERAND_TIMEOUT recorded (R53, R66). -/
def afterTimeOut (s : State) (id : Nat) (e : Entry) : State :=
  ((noteTimeOut s id).endEntry id (lateStatus s e) (255 - s.readyMask e)).emit .operandTimeout (some e.tenant) (Config.blockSource 0)
    e.tenant e.prog (255 - s.readyMask e)

theorem afterTimeOut_inbox (s : State) (id : Nat) (e : Entry) :
    ∃ y : Event, (afterTimeOut s id e).evr.inbox = s.evr.inbox ++ [y] ∧ y.ev = .operandTimeout ∧ y.tenant = some e.tenant := by
  rw [afterTimeOut, State.emit_evr, endEntry_evr]
  exact ⟨_, rfl, rfl, rfl⟩

/-- Either outcome of a time-out has the missing bits as program status. -/
theorem applyDecided_lateStatus {s : State} {id : Nat} {e : Entry} (h : s.entry? id = some e) (hmember : e.member = false) :
    (noteTimeOut s id).applyDecided (timedOutEntry e) (lateStatus s e) = (noteTimeOut s id).endEntry id (lateStatus s e) (255 - s.readyMask e) := by
  have hfinish := finish_of_not_member (entry?_noteTimeOut h) hmember (lateStatus s e) (255 - s.readyMask e)
  rw [← hfinish, ← readyMask_noteTimeOut id hmember, ← id_of_entry? h]
  unfold lateStatus
  split <;> rfl

theorem exec_operandTimeoutExpiry {s : State} {id : Nat} {e : Entry} (h : s.entry? id = some e) (hstore : e.inStore = true)
    (hlate : s.operandsLate e = true) (hreset : s.tenantResetting e.tenant = false) (hcancel : e.cancelled = false)
    (hdeadline : e.deadline = 0) (hmember : e.member = false) :
    exec (.operandTimeoutExpiry id) s = .next (afterTimeOut s id e) := by
  have hdecided := decided_noteTimeOut id hreset hcancel hdeadline hmember
  have hstatus : lateStatus s e = .operandTimeout ∨ lateStatus s e = .entropyUnavailable := by
    unfold lateStatus
    split
    · exact .inl rfl
    · exact .inr rfl
  show execOperandTimeoutExpiry id s = _
  rw [execOperandTimeoutExpiry, h]
  simp only [if_pos (And.intro hstore hlate)]
  unfold noteTimeOut timedOutEntry at hdecided
  rw [hdecided]
  simp only [if_pos hstatus]
  exact congrArg (fun u : State => Host.Outcome.next (u.emit .operandTimeout (some e.tenant) (Config.blockSource 0) e.tenant e.prog
    (255 - s.readyMask e))) (applyDecided_lateStatus h hmember)

theorem exec_operandTimeoutExpiry_early {s : State} {id : Nat} {e : Entry} (h : s.entry? id = some e) (hlate : ¬ s.operandsLate e = true) :
    exec (.operandTimeoutExpiry id) s = .next s := by
  show execOperandTimeoutExpiry id s = _
  rw [execOperandTimeoutExpiry, h]
  exact if_neg fun hboth => hlate hboth.2

/-! ### SPILL, HCLR and the drain requests -/

/-- Spilling chosen but not yet written: the state in which SPILL stops taking entries. -/
def spillChosen (s : State) : State :=
  State.spillSome s.prf.entries.length (s.emit .spillStarted none (Config.blockSource 0) s.onChip s.spilledCells 0)

/-- The lines that the chosen entries go to. -/
def spillWants (s v : State) : List Want :=
  ((spillChosen s).linesOf ((onChipEntries s).map (·.id))).map (fun n => ⟨v.rd Reg.PRF_SPILL_AREA_BASE + n, false, true, 0⟩)

/-- The chosen entries written to their lines. -/
def spillWritten (s : State) : State :=
  ((spillChosen s).wantLines (spillWants s (spillChosen s))).2.writeSpilled ((onChipEntries s).map (·.id))

/-- The unit after SPILL: the lines written and the end recorded. -/
def spillDone (s : State) : State :=
  (spillWritten s).emit .spillEnded none (Config.blockSource 0) (spillWritten s).onChip (spillWritten s).spilledCells 0

theorem exec_spill {s : State} (hhigh : s.spillHigh < s.onChip) (harea : s.rd Reg.PRF_SPILL_AREA_LINES ≠ 0) :
    exec .spill s =
      if (s.wantLines (spillWants s s)).1 = false then .next (s.wantLines (spillWants s s)).2
      else .next (spillDone s) := by
  show execSpill s = _
  rw [execSpill, if_pos ⟨hhigh, harea⟩]
  rfl

theorem exec_spill_not_needed {s : State} (h : s.onChip ≤ s.spillHigh ∨ s.rd Reg.PRF_SPILL_AREA_LINES = 0) : exec .spill s = .next s := by
  show execSpill s = _
  rw [execSpill, if_neg (by omega)]

/-- What SPILL does to the store once its choice stands costs no entry that stays on chip (R70, R278). -/
theorem keepsOnChip_spillDone (s : State) : KeepsOnChip (spillChosen s) (spillDone s) := by
  have hlines : KeepsOnChip (spillChosen s) ((spillChosen s).wantLines (spillWants s (spillChosen s))).2 := .of_prf (wantLines_prf _ _)
  have hemit : KeepsOnChip (spillWritten s) (spillDone s) := .of_prf (State.emit_prf _ _ _ _ _ _ _)
  exact (hlines.trans (keepsOnChip_writeSpilled _ _)).trans hemit

theorem spillChosen_over (s : State) : SpillingOver (s.rd Reg.PRF_SPILL_CFG_LOW) (spillChosen s) :=
  spillSome_over _ _ rfl (List.length_filter_le _ _)

/-- A field after the clear of a range of registers (R6). -/
theorem regGet_resetRange (r : RegFile) (lo hi : Nat) {f : Field} (hf : f.lo < 64) :
    regGet (regResetRange r lo hi) f = if lo ≤ f.addr ∧ f.addr < hi then f.reset else regGet r f := by
  have hkey : f.key / 64 = f.addr := by
    unfold Field.key
    omega
  rw [regGet, regResetRange, tabGet_drop, hkey]
  simp [regGet]

theorem frame_regs (s : State) (r : RegFile) : Frame [.regs] s { s with regs := r } := by
  refine ⟨rfl, fun p hp => ?_⟩
  cases p with
  | regs => exact absurd (by decide) hp
  | _ => rfl

/-- The unit after HCLR: every field of the PRF_T_WAITH registers at its reset value. -/
def hclrDone (s : State) : State := { s with regs := regResetRange s.regs 0x50012000 0x50013000 }

theorem exec_prfHclr (s : State) : exec .prfHclr s = .next (hclrDone s) := rfl

theorem hclrDone_rd (s : State) {f : Field} (hf : f.lo < 64) :
    (hclrDone s).rd f = if 0x50012000 ≤ f.addr ∧ f.addr < 0x50013000 then f.reset else s.rd f :=
  regGet_resetRange s.regs 0x50012000 0x50013000 hf

/-- The drained clusters once one is removed from dispatch or returned (R463). -/
def drainedAfter (cluster : Nat) (req : Bool) (d : List Nat) : List Nat :=
  if req then (if d.contains cluster then d else cluster :: d) else d.filter (· ≠ cluster)

theorem drainedAfter_contains (cluster : Nat) (req : Bool) (d : List Nat) : (drainedAfter cluster req d).contains cluster = req := by
  cases req with
  | true =>
    rw [drainedAfter, if_pos rfl]
    split
    · assumption
    · simp
  | false => simp [drainedAfter]

/-- The unit after a drain request for a cluster. -/
def drainSet (s : State) (cluster : Nat) (req : Bool) : State :=
  ((s.wr Reg.PRF_DRAIN_CLUSTER cluster).wr Reg.PRF_DRAIN_REQ (b2n req)).modPrf (fun p => { p with drained := drainedAfter cluster req p.drained })

/-- A drain request with REQ clear names its own cluster (PRF_DRAIN). -/
theorem exec_clusterDrainRequest {s : State} (cluster : Fin 24) (req : Bool) (hidle : s.bit Reg.PRF_DRAIN_REQ = false) :
    exec (.clusterDrainRequest cluster req) s = .next (drainSet s cluster req) := by
  show execClusterDrainRequest cluster req s = _
  simp only [execClusterDrainRequest, hidle]
  rfl

theorem drainSet_contains (s : State) (cluster : Nat) (req : Bool) : (drainSet s cluster req).prf.drained.contains cluster = req :=
  drainedAfter_contains cluster req s.prf.drained

theorem drainSet_req (s : State) (cluster : Nat) (req : Bool) : (drainSet s cluster req).bit Reg.PRF_DRAIN_REQ = req := by
  have hrd : (drainSet s cluster req).rd Reg.PRF_DRAIN_REQ = b2n req % 2 ^ 1 := State.rd_wr_same _ _ _
  rw [State.bit, ← State.rd, hrd]
  cases req <;> rfl

theorem drainSet_cluster (s : State) (cluster : Fin 24) (req : Bool) : (drainSet s cluster req).rd Reg.PRF_DRAIN_CLUSTER = cluster := by
  have hrd : (drainSet s cluster req).rd Reg.PRF_DRAIN_CLUSTER = cluster % 2 ^ 5 :=
    (State.rd_wr_other _ _ (by decide)).trans (State.rd_wr_same s _ _)
  omega

theorem frame_drainSet (s : State) (cluster : Nat) (req : Bool) : Frame [.regs, .prf] s (drainSet s cluster req) :=
  (((frame_wr _ _ _).trans (frame_wr _ _ _)).mono (by decide)).trans ((frame_modPrf _ _).mono (by decide))

/-- Settles O26: the timed outcomes by the entry's end, SPILL by `spillSome_over` and `KeepsOnChip`, the clear and the drains by their registers. -/
theorem timesAndSpills : Obligations.TimesAndSpills := by
  unfold Obligations.TimesAndSpills
  refine ⟨fun s id e h hstore => ⟨fun hnow => ?notBefore, fun hset hnow hreset hcancel => ?deadline, ?operands⟩,
    fun s hhigh harea => ?spill, fun s h => exec_spill_not_needed h, fun s => ?clear, fun s cluster hidle => ⟨?drain, ?undrain⟩⟩
  case notBefore =>
    refine ⟨_, exec_notBeforeReached h hstore hnow, fun x hx hid => ?_, frame_modPrf s _⟩
    obtain ⟨y, -, rfl⟩ := exists_of_mem_modEntry hx hid
    rfl
  case deadline =>
    exact ⟨_, exec_deadlineReached h hstore hset hnow (decided_deadlineMissed hset hnow hreset hcancel), applyDecided_ended h _⟩
  case operands =>
    intro late
    have hlate : s.operandsLate e = true ↔ late := operandsLate_iff s e
    refine ⟨fun hl hreset hcancel hdeadline hmember => ?_, fun hl => exec_operandTimeoutExpiry_early h (fun hlater => hl (hlate.mp hlater))⟩
    refine ⟨_, exec_operandTimeoutExpiry h hstore (hlate.mpr hl) hreset hcancel hdeadline hmember,
      ⟨endedAs (lateStatus s e) (255 - s.readyMask e) (timedOutEntry e), ?_, id_of_entry? (e := e) h, rfl, rfl, rfl⟩, ?_⟩
    · have hmem := mem_finish (entry?_noteTimeOut h) (lateStatus s e) (255 - s.readyMask e)
      rwa [finish_of_not_member (entry?_noteTimeOut h) hmember] at hmem
    · obtain ⟨y, hinbox, hev, htenant⟩ := afterTimeOut_inbox s id e
      exact ⟨[y], hinbox, y, List.mem_singleton_self y, hev, htenant⟩
  case spill =>
    intro s2 on w
    rw [exec_spill hhigh harea]
    refine ⟨fun hw => if_pos hw, fun hw => ⟨spillDone s, if_neg (fun hwait => absurd (hw.symm.trans hwait) (by decide)), keepsOnChip_spillDone s, spillChosen_over s⟩⟩
  case clear =>
    refine ⟨hclrDone s, exec_prfHclr s, fun f hlo hhi hf => ?_, fun f hf hout => ?_, frame_regs s _⟩
    · rw [hclrDone_rd s hf, if_pos ⟨hlo, hhi⟩]
    · rw [hclrDone_rd s hf, if_neg (by omega)]
  case drain =>
    have hdrained : (drainSet s cluster true).prf.drained.contains cluster.val = true := drainSet_contains _ _ _
    exact ⟨_, exec_clusterDrainRequest cluster true hidle, by simp only [State.clusterServes, hdrained, Bool.not_true, Bool.and_false],
      drainSet_req _ _ _, drainSet_cluster _ _ _, frame_drainSet _ _ _⟩
  case undrain =>
    exact ⟨_, exec_clusterDrainRequest cluster false hidle, drainSet_req _ _ _, drainSet_contains _ _ _, frame_drainSet _ _ _⟩

end Sys2Proof.Proofs
end

section
/-! Unit requests (O36): a request joins the end of its queue while that has room, and moves its core on (R168, R173 to R176, R181). -/

namespace Sys2Proof.Proofs

open Sys2Proof Sys2Proof.Machine

/-! ### The queues of the MAU -/

/-- Queue `i` of the MAU of cluster `c` becomes `q`: a core's queue below 8, the supervisor port's at 8. -/
def setMauQueue (s : State) (c i : Nat) (q : List UnitReq) : State :=
  s.modCluster c (fun k => { k with mau := tabSet [] k.mau i q })

@[simp] theorem mau_setMauQueue (s : State) (c i : Nat) (q : List UnitReq) :
    tabGet [] ((setMauQueue s c i q).cluster c).mau i = q := by
  rw [setMauQueue, State.cluster_modCluster, if_pos rfl]
  exact tabGet_set_same _ _ _ _

theorem frame_setMauQueue (s : State) (c i : Nat) (q : List UnitReq) : Frame [.clus] s (setMauQueue s c i q) :=
  frame_modCluster s c _

/-- The queues of the MAU aside, a core that goes on after filling one is all that changes. -/
theorem onlyCore_setMauQueue_nextPc (s : State) (c i n : Nat) (q : List UnitReq) :
    let t := (setMauQueue s c i q).nextPc n
    OnlyCore { s with clus := t.clus } t n { s.core n with pc := (s.core n).pc + 4 } :=
  onlyCore_nextPc (setMauQueue s c i q) n

/-! ### Requests of a core -/

/-- A core changed and moved on. -/
theorem onlyCore_modCore_nextPc (s : State) (n : Nat) (f : Core → Core) :
    OnlyCore s ((s.modCore n f).nextPc n) n { f (s.core n) with pc := (f (s.core n)).pc + 4 } := by
  have hmod := onlyCore_modCore s n f
  have hnext := hmod.trans (onlyCore_nextPc (s.modCore n f) n)
  rwa [hmod.1] at hnext

/-- The requests of a core to the MAU that produce no key, by their functions (R168). -/
def plainRequests (core : Fin 192) (gr : Fin 32) : List (Nat × Instr) :=
  [(0x001, .rsaSign core gr), (0x002, .rsaVerify core gr), (0x008, .ecdsaSign core gr), (0x009, .ecdsaVerify core gr),
    (0x00C, .ed25519Sign core gr), (0x00D, .ed25519Verify core gr), (0x014, .mldsaSign core gr), (0x015, .mldsaVerify core gr),
    (0x018, .keygen core gr), (0x019, .pubkey core gr)]

/-- The requests of a core to the MAU that produce a key in a k register, by their functions (R168, R180). -/
def keyRequests (core : Fin 192) (kd : Fin 16) (gr : Fin 32) : List (Nat × Instr) :=
  [(0x003, .rsaOaepDec core kd gr), (0x00A, .ecdh core kd gr), (0x010, .mlkemEncaps core kd gr), (0x011, .mlkemDecaps core kd gr)]

theorem exec_plainRequest (s : State) {core : Fin 192} {gr : Fin 32} {p : Nat × Instr} (hp : p ∈ plainRequests core gr) :
    exec p.2 s = .next (s.mreq core p.1 0 gr) := by
  simp only [plainRequests, List.mem_cons, List.not_mem_nil, or_false] at hp
  obtain rfl | rfl | rfl | rfl | rfl | rfl | rfl | rfl | rfl | rfl := hp <;> rfl

theorem exec_keyRequest (s : State) {core : Fin 192} {kd : Fin 16} {gr : Fin 32} {p : Nat × Instr} (hp : p ∈ keyRequests core kd gr) :
    exec p.2 s = s.kWait core [kd.val] (.next (s.mreq core p.1 kd gr)) := by
  simp only [keyRequests, List.mem_cons, List.not_mem_nil, or_false] at hp
  obtain rfl | rfl | rfl | rfl := hp <;> rfl

/-- An instruction whose one k register no outstanding request will write does not wait (R176). -/
theorem kWait_of_not_busy {s : State} {n k : Nat} (h : s.kdBusy n k = false) (o : Host.Outcome State Fault Refusal) :
    s.kWait n [k] o = o := by
  simp [State.kWait, h]

/-- The request to the MAU that core `n` issues: its function, its k register, and a copy of its block (R173, R174). -/
def mauRequest (s : State) (n func kd gr : Nat) : UnitReq :=
  ⟨func, false, kd, (s.getG n gr).toNat, memRead (s.core n).mem (s.getG n gr).toNat 64, 0⟩

/-- The hash request that core `n` issues: its algorithm, MORE, a copy of its block, and its number in the order of issue (R173, R174). -/
def hashRequest (s : State) (n alg : Nat) (more : Bool) (gr : Nat) : UnitReq :=
  ⟨alg, more, 0, (s.getG n gr).toNat, memRead (s.core n).mem (s.getG n gr).toNat 64, (s.core n).slotNo⟩

/-- A core with one hash request more. -/
def hashQueued (r : UnitReq) (c : Core) : Core := { c with hreqs := c.hreqs ++ [r], slotNo := c.slotNo + 1 }

section
variable {s : State} {n gr : Nat} (hruns : s.runs n = true) (halign : (s.getG n gr).toNat % 8 = 0)
  (hstore : s.userStoreOk n (s.getG n gr).toNat 64 = true)
include hruns halign hstore

theorem mreq_of_room (func kd : Nat) (hroom : (tabGet [] (s.cluster (n / 8)).mau (n % 8)).length < 2) :
    s.mreq n func kd gr = (setMauQueue s (n / 8) (n % 8)
      (tabGet [] (s.cluster (n / 8)).mau (n % 8) ++ [mauRequest s n func kd gr])).nextPc n := by
  rw [State.mreq, issue_runs hruns]
  simp [halign, hstore, Nat.not_le.mpr hroom, setMauQueue, mauRequest]

theorem hreq_of_room (alg : Nat) (more : Bool) (hlo : 1 ≤ alg) (hhi : alg ≤ 7) (hroom : (s.core n).hreqs.length < 2) :
    s.hreq n alg more gr = (s.modCore n (hashQueued (hashRequest s n alg more gr))).nextPc n := by
  have halg : ¬(alg = 0 ∨ 7 < alg) := by omega
  rw [State.hreq, issue_runs hruns]
  simp only [halg, halign, hstore, Nat.not_le.mpr hroom, ne_eq, not_true_eq_false, Bool.true_eq_false, or_self, if_false]
  rfl

/-- A request to a MAU queue with room joins its end, and the core goes on (R173, R176). -/
theorem mreq_queues (func kd : Nat) (hroom : (tabGet [] (s.cluster (n / 8)).mau (n % 8)).length < 2) :
    let t := s.mreq n func kd gr
    tabGet [] (t.cluster (n / 8)).mau (n % 8) = tabGet [] (s.cluster (n / 8)).mau (n % 8) ++ [mauRequest s n func kd gr] ∧
      OnlyCore { s with clus := t.clus } t n { s.core n with pc := (s.core n).pc + 4 } := by
  rw [mreq_of_room hruns halign hstore func kd hroom]
  exact ⟨mau_setMauQueue s _ _ _, onlyCore_setMauQueue_nextPc s _ _ n _⟩

/-- A hash request of an assigned algorithm to a queue with room joins its end, and the core goes on (R173, R176). -/
theorem hreq_queues (alg : Nat) (more : Bool) (hlo : 1 ≤ alg) (hhi : alg ≤ 7) (hroom : (s.core n).hreqs.length < 2) :
    OnlyCore s (s.hreq n alg more gr) n
      { hashQueued (hashRequest s n alg more gr) (s.core n) with pc := (s.core n).pc + 4 } := by
  rw [hreq_of_room hruns halign hstore alg more hlo hhi hroom]
  exact onlyCore_modCore_nextPc s n _

end

/-! ### The supervisor port -/

theorem mauQueue_of_room {s : State} {c : Nat} (line func : Nat) (hroom : (tabGet [] (s.cluster c).mau 8).length < 16) :
    s.mauQueue c line func = setMauQueue s c 8 (tabGet [] (s.cluster c).mau 8 ++
      [⟨func, false, 0, line * 64, memRead (s.cluster c).shared (line * 64) 64, 0⟩]) :=
  if_neg (Nat.not_le.mpr hroom)

theorem mauQueue_of_full {s : State} {c : Nat} (line func : Nat) (hfull : 16 ≤ (tabGet [] (s.cluster c).mau 8).length) :
    s.mauQueue c line func = s.satInc (Reg.CLU_MAU_STAT_DROPPED c) :=
  if_pos hfull

/-- The requests of the supervisor port, by their functions (R168, R181 to R183; MAU_SUBMIT carries its own, log entry 12). -/
def portRequests (cluster : Fin 24) (line : Fin 8192) (func : BitVec 9) : List (Nat × Instr) :=
  [(func.toNat, .mauSubmit cluster line func), (0x01C, .xmssVerify cluster line), (0x01D, .xmssmtSign cluster line)]

theorem exec_portRequest (s : State) {cluster : Fin 24} {line : Fin 8192} {func : BitVec 9} {p : Nat × Instr}
    (hp : p ∈ portRequests cluster line func) : exec p.2 s = .next (s.mauQueue cluster line p.1) := by
  simp only [portRequests, List.mem_cons, List.not_mem_nil, or_false] at hp
  obtain rfl | rfl | rfl := hp <;> rfl

/-- Settles O36: each instruction is `State.mreq`, `State.hreq` or `State.mauQueue`, and each of those fills its queue where that has room. -/
theorem unitRequests : Obligations.UnitRequests := by
  unfold Obligations.UnitRequests
  intro s core kd gr a blk
  refine ⟨fun hruns halign hstore => ⟨fun p hp hroom => ?plain, fun p hp hfree hroom => ?key, fun alg hlo hhi hroom => ?hash⟩,
    fun cluster line func hroom p hp => ?port, fun cluster line func hfull i hi => ?dropped⟩
  case plain => exact ⟨_, exec_plainRequest s hp, mreq_queues hruns halign hstore p.1 0 hroom⟩
  case key =>
    exact ⟨_, (exec_keyRequest s hp).trans (kWait_of_not_busy hfree _), mreq_queues hruns halign hstore p.1 kd hroom⟩
  case hash =>
    have hqueued (more : Bool) := hreq_queues hruns halign hstore alg.toNat more hlo hhi hroom
    simp only [List.forall_mem_cons]
    exact ⟨⟨_, rfl, hqueued false⟩, ⟨_, rfl, hqueued true⟩, List.forall_mem_nil _⟩
  case port =>
    exact ⟨_, (exec_portRequest s hp).trans (congrArg _ (mauQueue_of_room _ _ hroom)), mau_setMauQueue s _ _ _, frame_setMauQueue s _ _ _⟩
  case dropped =>
    obtain ⟨p, hp, rfl⟩ : ∃ p ∈ portRequests cluster line func, p.2 = i := List.mem_map.mp hi
    rw [exec_portRequest s hp, mauQueue_of_full _ _ hfull]

end Sys2Proof.Proofs
end
